-- ==== Sys2Proof/Word.lean ====
section
/-! DEFINITION. The native words of the module and their plainest arithmetic (R4 to R6). -/
namespace Sys2Proof

/-- The native word: 18 bits, numbered [17:0] (R4). -/
abbrev Word := BitVec 18

/-- One byte of host memory or of a stored block (R5). -/
abbrev Byte := BitVec 8

/-- One little-endian dword of host memory, of a packet or of BAR0 (R7, R466). -/
abbrev Dword := BitVec 32

/-- The largest value of one word, at which the 18-bit counters saturate. -/
def wordMax : Nat := 0x3FFFF

/-- 2^18, the modulus of one word. -/
def wordMod : Nat := 0x40000

/-- 2^36, the modulus of a two-word quantity (R4). -/
def pairMod : Nat := 0x1000000000

/-- The bit range [lo + w - 1 : lo] of a number. -/
def bits (v lo w : Nat) : Nat := v / 2 ^ lo % 2 ^ w

/-- One bit of a number. -/
def bitOf (v i : Nat) : Bool := v / 2 ^ i % 2 == 1

/-- A number with the bit range [lo + w - 1 : lo] replaced by the low `w` bits of `x`. -/
def setBits (v lo w x : Nat) : Nat :=
  v - bits v lo w * 2 ^ lo + x % 2 ^ w * 2 ^ lo

/-- A truth value as a bit. -/
def b2n (b : Bool) : Nat := if b then 1 else 0

/-- A `w`-bit two's complement number read as a signed value (R4). -/
def sext (w v : Nat) : Int :=
  if v % 2 ^ w < 2 ^ (w - 1) then (v % 2 ^ w : Nat) else ((v % 2 ^ w : Nat) : Int) - (2 ^ w : Nat)

/-- A signed value as a `w`-bit two's complement number (R4). -/
def wrap (w : Nat) (v : Int) : Nat := (v % ((2 ^ w : Nat) : Int)).toNat

/-- Two's complement 36 bits, the form of every AU coordinate. -/
def s36 (v : Nat) : Int := sext 36 v

/-- A signed value in its 36-bit two's complement form. -/
def w36 (v : Int) : Nat := wrap 36 v

/-- Two words, low word first (R4). -/
def pairVal (lo hi : Nat) : Nat := lo + hi * wordMod

/-- Add one and saturate at one word. -/
def satInc (v : Nat) : Nat := if v < wordMax then v + 1 else wordMax

/-- Division rounded up. -/
def ceilDiv (a b : Nat) : Nat := (a + b - 1) / b

/-- Nearest integer to `n / d`, ties towards plus infinity (`d` positive). -/
def rndDiv (n : Int) (d : Nat) : Int := (2 * n + d) / (2 * d : Nat)

/-- Least `r` with `r * r ≥ n`, by binary search on a fuel of bits. -/
def isqrtAux : Nat → Nat → Nat → Nat
  | 0, acc, _ => acc
  | k + 1, acc, n =>
    let t := acc + 2 ^ k
    isqrtAux k (if t * t ≤ n then t else acc) n

/-- Integer square root, rounded down (exact below 2^400). -/
def isqrt (n : Nat) : Nat := isqrtAux 200 0 n

/-- Integer square root, rounded up. -/
def isqrtUp (n : Nat) : Nat := if isqrt n * isqrt n == n then isqrt n else isqrt n + 1

end Sys2Proof
end

