-- ==== Sys2Proof/Syntax.lean ====
section
/-! DEFINITION. The commands and events of the module: one constructor per row of opcode_table.json, in the
table's order. An operand is what the row brings from outside: the written value, the block or message that
arrives, the unit concerned, or a choice the manual leaves to the module. A packet command's operand is the
tag of the packet that PACKET_FETCH took from a queue. -/
namespace Sys2Proof

/-- What the clock monitor of an island sees: PLL lock, and the island's clocks counted in the last windows of 256 reference
cycles, latest first. For REFCLK: its cycles in the last 250 of the always-on oscillator (R436). -/
structure ClockView where
  locked : Bool
  counts : List Nat
deriving DecidableEq, Repr, Inhabited

/-- What a run of option load finds: the outcome of each pair of fuse reads, whether the firmware signature verifies, the consistent
records of journal copy A and of copy B that read back (none where the snapshot does not), the slot whose programming was
interrupted, how long the run took in microseconds, and what the monitors of REFCLK and of the islands' clocks see when step 2 looks
(R436, R444). -/
structure OptionLoad where
  fusePairs : List Bool
  fwOk : Bool
  validA : Option Nat
  validB : Option Nat
  tornSlot : Option (Fin 21)
  micros : Nat
  ref : ClockView := { locked := true, counts := [2000] }
  clocks : List (Fin 22 × ClockView) := []
deriving DecidableEq, Repr, Inhabited

/-- What the supply monitor sees of VIN_POS: its lowest and highest voltage, in mV, over the last us microseconds, and whether every
internal rail was within tolerance over them (R552). -/
structure SupplyView where
  lowMv : Nat
  highMv : Nat
  us : Nat
  rails : Bool
deriving DecidableEq, Repr

/-- A unit that the start-up self-test retires, or a bank or table that fails it (R455). -/
inductive TestUnit where
  | cascade (e : Fin 16)
  | basin (b : Fin 32)
  | decompressor (d : Fin 8)
  | compressor (e : Fin 2)
  | rill (r : Fin 264)
  | cisternBank (b : Fin 1024)
  | remapTable (c : Fin 4)
deriving DecidableEq, Repr

/-- A codeword of a back channel as the RS decoder gives it: its 5,140-bit message, or none that it could correct (R208,
R209). -/
inductive Codeword where
  | message (bits : BitVec 5140)
  | uncorrectable
deriving DecidableEq, Repr

/-- A received block, with the number of IDLE blocks in good order before it (R209, R210). -/
structure RxBlock where
  idles : Nat
  codeword : Codeword
deriving DecidableEq, Repr

/-- The smallest-eye heights that the array measures for the 9 values of each tap, c-2, c-1, c+1 and c+2 (R236). -/
abbrev TapScan := Vector (Vector Word 9) 4

/-- What a lane's training found (R228 to R230, R236): lock, the inversions, the array's port, depth and marker arrival time in
symbols after its earliest port, the eyes of the tap search and those at its end. -/
structure LaneTraining where
  locked : Bool
  invertRx : Bool
  invertTx : Bool
  port : Nat
  depth : Nat
  arrival : Nat
  scan : TapScan
  eyeFar : Word
  eyeNear : Word
deriving DecidableEq, Repr

/-- What a channel's training found: the step that failed, if any, and the devices that failed it (R329). -/
structure ChannelTraining where
  commandFail : Bool
  cause : Fin 5
  failed : List (Fin 21)
deriving DecidableEq, Repr

/-- An error symbol on a DRAM read: codeword, device and the bits that differ (R323). -/
structure SymbolError where
  codeword : Fin 8
  device : Fin 21
  diff : Byte
deriving DecidableEq, Repr

/-- The requesters of module DRAM, under the codes of R348. -/
inductive Requester where
  | spool
  | compression
  | cellLibrary
  | tallyStore
  | poolRegion
  | basinWrite
  | deepBand
  | mirror
  | dma
  | checkUnit
  | patrolScrub
  | zeroFill
deriving DecidableEq, Repr

/-- One access to one line: a read, a write of the whole line, or a write of some of its words. -/
inductive DramAccess where
  | read
  | writeLine (words : Vector Word 64)
  | writeWords (words : List (Fin 64 × Word))
deriving DecidableEq, Repr

/-- A Cistern error met by a read or by the scrubber: the pair within the line, and whether both bits
of the code fail (R109). -/
structure CellError where
  line : Nat
  pair : Fin 32
  double : Bool
deriving DecidableEq, Repr

/-- A result of the calculation of a code: s, N or c of R172. -/
inductive CodeStep where
  | sample
  | product
  | code
deriving DecidableEq, Repr

/-- What goes wrong in a rill while it computes a flash (R177, R178): the read of a beam's table entry has a parity error, or
one result of a beam's code comes out wrong by `error`. -/
inductive RillFault where
  | parity (beam : Word)
  | result (beam : Word) (step : CodeStep) (error : Int)
deriving DecidableEq, Repr

/-- The data set of an Announce message that the best master clock algorithm compares (R392). -/
structure AnnounceInfo where
  gmIdentity : BitVec 64
  priority1 : Nat
  clockClass : Nat
  accuracy : Nat
  variance : Nat
  priority2 : Nat
  stepsRemoved : Nat
  sender : BitVec 64
  logInterval : Int
deriving DecidableEq, Repr

/-- The header of a PTP message as R389 judges it. -/
structure PtpHeader where
  version : Nat
  minor : Nat
  sdo : Nat
  domain : Nat
  transport : Nat
  port : Fin 2
  /-- The clockIdentity of the sender. -/
  sender : BitVec 64 := 0
deriving DecidableEq, Repr

/-- A mesh message that arrives on a port, as its slot holds it: SRC, DST, RING (false A, true B), MSEQ and words W2 to W15. TYPE
is the command's (R410, R411). -/
structure MeshMsg where
  port : Fin 4
  src : Fin 16
  dst : Fin 32
  ring : Bool
  mseq : Word
  body : Vector Word 14
deriving DecidableEq, Repr

/-- Where a mesh message comes from and goes: SRC, DST and RING. -/
structure MeshRoute where
  src : Fin 16
  dst : Fin 32
  ring : Bool
deriving DecidableEq, Repr

/-- MSEQ and the words W2 to W15 of a mesh message. -/
structure MeshWords where
  mseq : Word
  body : Vector Word 14
deriving DecidableEq, Repr

/-- The message of its parts, and its parts. -/
def MeshMsg.of (port : Fin 4) (route : MeshRoute) (mseq : Word) (body : Vector Word 14) : MeshMsg :=
  { port := port, src := route.src, dst := route.dst, ring := route.ring, mseq := mseq, body := body }
def MeshMsg.route (m : MeshMsg) : MeshRoute := { src := m.src, dst := m.dst, ring := m.ring }
def MeshMsg.origin (m : MeshMsg) : Fin 4 × MeshRoute := (m.port, m.route)
def MeshMsg.words (m : MeshMsg) : MeshWords := { mseq := m.mseq, body := m.body }

/-- A power-good: what option load finds, and the supply (R444, R552). -/
structure PowerUp where
  load : OptionLoad
  supply : SupplyView
deriving DecidableEq, Repr

/-- A rise of RESET_L: the samples for which it has been high, and what option load finds (R443, R444). -/
structure ResetRise where
  samples : Nat
  load : OptionLoad
deriving DecidableEq, Repr

/-- A loss of a clock: what its monitor has seen, and what option load finds if a module reset follows (R436, R456). -/
structure ClockLoss where
  clock : ClockView
  load : OptionLoad
deriving DecidableEq, Repr

/-- What an input has shown: its level, and the samples for which it has held that level (R252, R309). -/
structure InputLevel where
  level : Bool
  samples : Nat
deriving DecidableEq, Repr

/-- What the Z input of an encoder channel has shown (R252, R261). -/
structure ZLevel where
  ch : Fin 6
  level : Bool
  samples : Nat
deriving DecidableEq, Repr

/-- The eye heights at the far and the near end of a lane (R228, R236). -/
structure EyePair where
  far : Word
  near : Word
deriving DecidableEq, Repr

/-- The beats of a MOVE that the arbiter finds ready on each side, and the beat whose PCIe access fails (R359, R363). -/
structure MoveBeats where
  count : Nat
  hostErr : Option Nat
deriving DecidableEq, Repr

/-- What the supply and temperature sampler reads (R557, R558, R561). -/
structure HwReading where
  vin : Word
  iin : Word
  pin : Word
  rails : Byte
  temps : Vector Word 14
deriving DecidableEq, Repr

/-- The commands. The operand of INPUT_OUT_OF_RANGE and that of LAYER_READY have a default, a lost supply and a plain rise, for a
writer of commands who leaves them out. -/
inductive Instr where
  | powerGood (power : PowerUp)
  | inputOutOfRange (supply : SupplyView := { lowMv := 0, highMv := 0, us := 20, rails := false })
  | islandRelease (island : Fin 22) (clock : ClockView)
  | startUpComplete (failed : List TestUnit) (readyMs : Nat)
  | resetL (lowSamples : Nat)
  | resetLRelease (rise : ResetRise)
  | rstSoft (value : Word) (ol : OptionLoad)
  | watchdogExpiry (ol : OptionLoad)
  | clkGoodFall (island : Option (Fin 22)) (loss : ClockLoss)
  | perstL
  | perstLRelease (clock : ClockView)
  | rstRelease (hi : Bool) (value : Word)
  | rstBlock (value : Word)
  | blockResetRelease (clock : ClockView)
  | registerWrite (off : BitVec 26) (value : Dword)
  | wideReadCapture (off : BitVec 26)
  | readClear (off : BitVec 26)
  | bar0AccessError (write : Bool) (off : BitVec 26) (size : Nat)
  | unmappedAccess (write : Bool) (off : BitVec 26)
  | queueEnable (q : Fin 4)
  | queueDisable (q : Fin 4)
  | sqTail (q : Fin 4) (value : Word)
  | cqHead (q : Fin 4) (value : Word)
  | packetFetch (q : Fin 4) (hostErr : Bool)
  | completionWrite (q : Fin 4)
  | nop (tag : Byte)
  | identify (tag : Byte)
  | systemReset (tag : Byte) (ol : OptionLoad)
  | frost (tag : Byte)
  | setStrict (tag : Byte) (verified : Bool)
  | setAnchor (tag : Byte) (verified : Bool)
  | jobStart (tag : Byte) (hostErr : Bool)
  | pause (tag : Byte)
  | resume (tag : Byte)
  | abort (tag : Byte)
  | libraryLoad (tag : Byte) (slot : Fin 16) (hostErr : Bool)
  | compress (tag : Byte) (hostErr : Bool)
  | regWrite (tag : Byte)
  | regRead (tag : Byte)
  | tableLoad (tag : Byte) (hostErr : Bool)
  | tableCommit (tag : Byte)
  | tableRead (tag : Byte)
  | laneCal (tag : Byte)
  | laneRetrain (tag : Byte)
  | rillForce (tag : Byte)
  | stuckAck (tag : Byte)
  | headRestore (tag : Byte)
  | move (tag : Byte)
  | moveSettled
  | layerGoto (tag : Byte)
  | motionStop (tag : Byte)
  | memMarkClear (tag : Byte)
  | pageRetire (tag : Byte)
  | dmaRun (tag : Byte)
  | checkRun (tag : Byte)
  | todSet (tag : Byte)
  | ptpStep (tag : Byte)
  | serverSet (tag : Byte)
  | setColumn (tag : Byte) (verified : Bool)
  | meshRetrain (tag : Byte)
  | logRead (tag : Byte)
  | counterSnapshot (tag : Byte)
  | blockReset (tag : Byte)
  | passportPoll (acknowledged : Bool)
  | passportResponse (bytes : List Byte)
  | passportRetry
  | runInStart
  /-- A and B of a channel have shown levels `a` and `b` for `na` and `nb` consecutive samples, the last in this tick (R252). -/
  | encoderEdge (ch : Fin 6) (a b : InputLevel)
  | strobeRise
  | strobeFall
  | stitchStopHeld
  | abortComplete
  | passEnd
  /-- LAYER_READY has been stable at a level for `ticks` ticks (R309). -/
  | layerReady (input : InputLevel := { level := true, samples := 800 })
  | motLayerGo (value : Word)
  | layerMoveComplete (k : Fin 2)
  | servoBoundary
  | backupComplete
  /-- Z of a channel has shown a level for `samples` consecutive samples (R252). -/
  | indexLatch (z : ZLevel)
  /-- A probe has shown an edge, and its new level for `samples` consecutive samples (R252). -/
  | probeLatch (p : Fin 2) (input : InputLevel)
  | headLos (ch : Fin 6)
  | headDivergence (yAxis : Bool)
  | headFail (value : Word)
  | restore (value : Word)
  | timeCompareArm (k : Fin 4) (value : Word)
  | timeCompareFire (k : Fin 4)
  | positionCompareArm (k : Fin 4) (value : Word)
  | flsCommit (value : Word)
  | beamPermitFall (lowNs : Nat)
  | beamPermitRise
  | sineTableCommit (value : Word)
  | layerAxisGoto (k : Fin 2) (value : Word)
  | streamOpen (slot : Fin 16) (raster : Bool)
  | blockFetched (slot : Fin 16) (srcErr : Bool)
  | decodeStart (slot : Fin 16) (dec : Fin 8)
  | blockDecoded (dec : Fin 8) (parityError : Bool)
  | blockRelease (slot : Fin 16)
  | compressBlock (e : Fin 2) (srcErr : Bool)
  | engineContinue (e : Fin 2)
  | compressComplete (e : Fin 2)
  | spillUsedRelease (n : Fin 16) (value : Word)
  | cascadeRecord (engine : Fin 16) (raster : Bool) (engineError : Bool)
  | tallyResume
  | tallyPassComplete
  | rasterPassStart
  | poolCorrectionStart
  | poolCorrectionComplete (ringError : Bool) (stripError : Bool)
  | poolCommit (value : Word)
  | tileRasterStart (basin : Fin 32)
  | tileCheck (basin : Fin 32) (upset : Int) (tallyErr : Bool)
  | tileReTally (band tile : Nat) (upset : Int)
  | bandCommit
  | readerRowWrite (uncorrectable : Bool)
  | cisternRefillComplete (line : Nat) (uncorrectable : Bool)
  | cisternScrub (errors : List CellError)
  | rillFlashStart (slot : Fin 256) (cells : List CellError) (fault : Option RillFault)
  | spareLoadDone (g : Fin 8)
  | rillFlashDone (slot : Fin 256)
  | rillBoundary
  | rilCommit (value : Word)
  | commitCheckDone
  | rilGrpForce (g : Fin 8) (value : Word)
  | rilStuckAck (value : Word)
  | frameSend (lane : Fin 72)
  | ackBlock (lane : Fin 72) (block : RxBlock)
  | ackTimeout (group : Fin 64) (fseq : BitVec 36)
  | replaySend (lane : Fin 72)
  | flushTimeout (group : Fin 64)
  | statusBlock (lane : Fin 72) (block : RxBlock)
  | statusStale
  | marker (lane : Fin 72) (idles : Nat) (codeword : Codeword)
  | los (lane : Fin 72)
  | lol (lane : Fin 72)
  | laneRetrainAttempt (lane : Fin 72)
  | laneTrainingDone (lane : Fin 72) (result : LaneTraining)
  | retrain (lane : Fin 72)
  | calNow (lane : Fin 72)
  | calibrationStart (lane : Fin 72)
  | calibrationComplete (lane : Fin 72) (scan : TapScan) (eyes : EyePair)
  | loop (lane : Fin 72) (value : Word)
  | dramRequest (req : Requester) (la : BitVec 31) (access : DramAccess) (errors : List SymbolError)
  | lineRecoveryDone (la : BitVec 31) (stillBad : Bool)
  | refresh (ch : Fin 4)
  | mr4Read (ch : Fin 4) (hot : Bool)
  | selfRefreshEntry (ch : Fin 4)
  | channelTrainingDone (ch : Fin 4) (result : ChannelTraining)
  | retuneCheck (ch : Fin 4) (drift64 : Nat)
  | retuneDone (ch : Fin 4)
  | fillComplete
  | patrolScrub (errors : List SymbolError)
  | memLogClear (value : Word)
  | dmaGo (n : Fin 32) (value : Word)
  | dmaPoke (n : Fin 32) (value : Word)
  | dmaStop (n : Fin 32) (value : Word)
  | dmaContinue (n : Fin 32) (value : Word)
  | dmaAbort (n : Fin 32) (value : Word)
  | dmaEnd (n : Fin 32) (hostErr : Bool)
  /-- Channel `n` asks for `beats` beats; `hostErr`: the group whose PCIe read fails. -/
  | dmaMove (n : Fin 32) (beats : MoveBeats)
  | dmaHostTimeout (n : Fin 32)
  | dmaLoop (n : Fin 32)
  | dmaWait (n : Fin 32)
  | dmaWaitEnd (n : Fin 32)
  | dmaSignal (n : Fin 32)
  | dmaLink (n : Fin 32)
  | dmaFlagSet (value : Word)
  | checkStart (u : Fin 4) (value : Word)
  | checkAbort (u : Fin 4) (value : Word)
  | checkDone (u : Fin 4)
  | linkChange (p : Fin 2) (up : Bool) (los : Bool)
  /-- A frame that a port receives, from its destination address to its FCS. -/
  | ethFrame (p : Fin 2) (frame : List Byte)
  | arpRefresh (p : Fin 2)
  | portCtrl (p : Fin 2) (value : Word)
  | ndfReq (slot : Fin 16)
  | data (p : Fin 2) (payload : List Byte)
  | err (p : Fin 2) (payload : List Byte)
  | reqTmo (slot : Fin 16) (seq : Word)
  | gapTmo (slot : Fin 16) (seq : Word)
  | busyRetry (slot : Fin 16) (seq : Word)
  | announce (hdr : PtpHeader) (info : AnnounceInfo)
  | announceReceiptTimeout
  | ptpSync (hdr : PtpHeader) (twoStep : Bool) (t1 : Int) (macRx : Int) (correction : Int) (seqId : Nat)
  | followUp (hdr : PtpHeader) (t1 : Int) (correction : Int) (seqId : Nat)
  | delayReq (macTx : Int)
  | delayResp (hdr : PtpHeader) (t4 : Int) (correction : Int) (seqId : Nat) (logInterval : Int)
  | holdover
  | stepNow
  | set
  | ptpCfg (value : Word)
  | join (origin : Fin 4 × MeshRoute) (words : MeshWords)
  | joinTimeout
  | start (msg : MeshMsg)
  | report (origin : Fin 4 × MeshRoute) (words : MeshWords)
  | run (port : Fin 4) (route : MeshRoute) (mseq : Word) (body : Vector Word 14)
  | stopReq (port : Fin 4) (route : MeshRoute) (words : MeshWords)
  | stop (port : Fin 4) (route : MeshRoute) (words : MeshWords)
  | rest (msg : MeshMsg)
  | meshResume (msg : MeshMsg)
  | resumeAck (origin : Fin 4 × MeshRoute) (words : MeshWords)
  | meshAbort (msg : MeshMsg)
  | meshEnd (msg : MeshMsg)
  | meshPause (msg : MeshMsg)
  | time (port : Fin 4) (route : MeshRoute) (mseq : Word) (body : Vector Word 14)
  | timeSend
  | timeReq (msg : MeshMsg)
  | timeResp (port : Fin 4) (route : MeshRoute) (words : MeshWords)
  | evt (origin : Fin 4 × MeshRoute) (words : MeshWords)
  | beat (msg : MeshMsg)
  | meshPortDown (p : Fin 4) (cause : Fin 3)
  | meshPortRetrainTimer (p : Fin 4)
  | meshPortUp (p : Fin 4) (peer : Fin 16)
  | mshPortRetrain (p : Fin 4) (value : Word)
  | cutOff
  | workerLost (c : Fin 16)
  | lockstepMismatch (pair : Fin 2) (ol : OptionLoad)
  | takeoverComplete
  | retestComplete (pair : Fin 2) (passed : Bool)
  | standbyLoadDone (pair : Fin 2) (loaded : Bool)
  | errlogClear (value : Word)
  | evtDoorbell (value : Word)
  | coreDelivery
  | serviceEnd
  | moderationTimer (v : Fin 64)
  | evtHold (value : Word)
  | pmeTurnOff
  | frostCommit
  | wake (source : Fin 8) (widthNs : Nat)
  | thaw (value : Word)
  | thawComplete
  | monHelp
  | monId
  | monState
  | monRd (off : Nat) (n : Nat)
  | monLog
  | monEvt
  | monCtr (b : Nat)
  | monBaud (rate : Nat)
  | monLock
  | monUnlock (level : Nat)
  | monWr (off : Nat) (value : Nat)
  | monRing (sector : Nat)
  | monThaw
  | monDr (la : Nat) (n : Nat)
  | monDw (g : Nat) (w : Vector Nat 4)
  | monReset (ol : OptionLoad)
  | monBlkreset (island : Nat)
  | monitorBreak (lowMs : Nat)
  | monitorIdleTimeout
  | pmcSnap (value : Word)
  | pmcClear (value : Word)
  | pmcFreeze (value : Word)
  | psbClear (value : Word)
  | hwSample (reading : HwReading)
  | smbusIdentify (pecOk : Bool)
  | smbusRead (off : Dword) (pecOk : Bool)
  | headLosClear (ch : Fin 6)
  | blockCrcError (lane : Fin 72) (block : RxBlock)
  | meshBlockErr (p : Fin 4) (codeword : Codeword)
  | msixUnmask (what : Option (Fin 64))
  | pcieL0Entry
  | monBadLine (length : Nat)
deriving DecidableEq, Repr

end Sys2Proof
end

