-- ==== Sys2Proof/Decode.lean ====
section
/-! DEFINITION. The commands that table words spell: the table gives no row any bits, so no word spells one. -/
namespace Sys2Proof

/-- The command that a word of `nbits` bits spells by the table: none, since no row of opcode_table.json has
fields. -/
def decodeTableWord (_nbits _w : Nat) : Option Instr := none

end Sys2Proof
end

