-- ==== Sys2Proof/Config.lean ====
section
/-! DEFINITION. What the manual leaves open: free values without a body. Each is applied to a counter of the
state (`Device.freeCtr`), to an address or to the operands it depends on, so that a statement about the model
holds for every value of it. -/
namespace Sys2Proof.Config

/-- A free value for a counter: the value the manual leaves open at that point. -/
opaque freeNat : Nat → Nat

/-- The 64 random bits of a nonce of the passport (R240), part `i`. -/
opaque nonce : Nat → Nat → BitVec 64

/-- The bytes that a journal record of `n` words takes in the retained store (R448 gives no layout). -/
opaque recordBytes : Nat → Nat

/-- The serial number in the fuse map (R446). -/
opaque serialNumber : Nat

/-- The fused default MAC address of port `p` (R446). -/
opaque macAddress : Nat → BitVec 48

/-- The clockIdentity of the module under IEEE 1588 (R389), which the manual does not give. -/
opaque clockIdentity : BitVec 64

/-- Whether a pulse whose length lies between the two limits of a rule is taken (R280, R443, R532). -/
opaque pulseTaken : Nat → Bool

/-- Whether VIN_POS passes a threshold within the tolerance of which it lies, from a counter (R552 gives 39.0 V ± 0.5 V and 61.0 V ±
0.5 V). -/
opaque supplyPast : Nat → Bool

/-- The result of a servo calculation that the manual does not state (R393). -/
opaque servoRate : Nat → Int → Int

/-- The error of a flattened curve point, in units of 1/65,536 AU, that R84 bounds by 1/4 AU: the model reduces
it to that bound. It depends on the cubic's points, the point's index and the coordinate alone, so the tally and the raster
pass meet the same one. -/
opaque flattenError : List Int → Nat → Nat → Int

/-- The error of a basin's coverage of one part of a pixel, in units of 2^-16, that R92 bounds by 2^-9: for the part and the
boundary. -/
opaque coverError : List Int → Nat → Int

/-- The word that a DRAM or Cistern cell gives when the manual states no value for it. -/
opaque badWord : Nat → Word

/-- The token choices of a compression engine (R67 fixes the coding, not the encoder): for a block and a position, a
distance, a length and a literal count. -/
opaque lzChoice : Nat → Nat → Nat × Nat × Nat

/-- The STREAM_ID of a capture block, which R67 does not give. -/
opaque captureStream : Nat → Word

/-- The words that a cell of the given number of record words takes in the cell-library region (R81 gives no
layout). -/
opaque cellWords : Nat → Nat

/-- A word of a DRAM region whose layout the manual does not give, at an address, after the region has taken data as often as
the counter says (R81, R88, R139). -/
opaque regionWord : Nat → Nat → Word

/-- The base of the session numbers that the module chooses for the opens of NDF streams (R377). -/
opaque sessionBase : Nat

/-- What option load finds after a reset that a packet, a DMA program or the monitor asks for by a register write, where no
operand of the command brings it (R444). -/
opaque optionLoad : Nat → OptionLoad

end Sys2Proof.Config
end

