-- ==== Sys2Proof/Machine/RegMap.lean ====
section
/-! DEFINITION. The register map of BAR0: every register of R568 to R570 with the offset, the array
layout, the access codes of its fields (R11) and the reset value that its own chapter gives (R12).
The names are the manual's; an array register's name takes its indices as arguments. -/
namespace Sys2Proof.Machine

/-- One dword of a register: the bits under each access code of R11, and its reset value. -/
structure Dw where
  rw : Nat := 0
  rws : Nat := 0
  rwl : Nat := 0
  sh : Nat := 0
  w1c : Nat := 0
  rc : Nat := 0
  wo : Nat := 0
  ro : Nat := 0
  reset : Nat := 0
deriving DecidableEq, Repr

/-- When a direct BAR0 write of a register is taken: in every state, or in READY alone. -/
inductive WGuard where
  | always
  | ready
deriving DecidableEq, Repr

/-- The atomicity classes of R477, in rank order. -/
inductive AClass where
  | immediate
  | flash
  | stripe
  | job
deriving DecidableEq, Repr

/-- A row of the map: `count` × `count2` elements, each of the dwords `dws` at consecutive offsets.
`capture`: a read of the lowest dword captures the others (R10). `hold`: writes of the lower dwords
wait for the highest (R10). -/
structure RegRow where
  base : Nat
  dws : List Dw
  count : Nat := 1
  stride : Nat := 4
  count2 : Nat := 1
  stride2 : Nat := 4
  guard : WGuard := .always
  cls : AClass := .immediate
  capture : Bool := false
  hold : Bool := false
deriving DecidableEq, Repr

/-! ## Block SYS -/
/-- Offset of SYS_DEVICE_ID. -/
def SYS_DEVICE_ID : Nat := 0x0
/-- Offset of SYS_SILICON_REL. -/
def SYS_SILICON_REL : Nat := 0x4
/-- Offset of SYS_FIRMWARE_REL. -/
def SYS_FIRMWARE_REL : Nat := 0x8
/-- Offset of SYS_STATE. -/
def SYS_STATE : Nat := 0x100
/-- Offset of SYS_GEOM_PITCH. -/
def SYS_GEOM_PITCH : Nat := 0x104
/-- Offset of SYS_GEOM_ROWS. -/
def SYS_GEOM_ROWS : Nat := 0x108
/-- Offset of SYS_GEOM_WIDTH. -/
def SYS_GEOM_WIDTH : Nat := 0x10C
/-- Offset of SYS_GEOM_LEAD. -/
def SYS_GEOM_LEAD : Nat := 0x110
/-- Offset of SYS_JOB_STRIPE. -/
def SYS_JOB_STRIPE : Nat := 0x114
/-- Offset of SYS_JOB_LAYER. -/
def SYS_JOB_LAYER : Nat := 0x118
/-- Offset of SYS_FLT_CFG. -/
def SYS_FLT_CFG : Nat := 0x400
/-- Offset of SYS_CTL_STATUS. -/
def SYS_CTL_STATUS : Nat := 0x404
/-- Offset of SYS_ERRLOG_STATUS. -/
def SYS_ERRLOG_STATUS : Nat := 0x410
/-- Offset of SYS_ERRLOG_OVERFLOW. -/
def SYS_ERRLOG_OVERFLOW : Nat := 0x414
/-- Offset of SYS_ERRLOG_LSEQ. -/
def SYS_ERRLOG_LSEQ : Nat := 0x418
/-- Offset of SYS_MON_CFG. -/
def SYS_MON_CFG : Nat := 0x500
/-- Offset of SYS_MON_STATUS. -/
def SYS_MON_STATUS : Nat := 0x504
/-- Offset of SYS_VIN. -/
def SYS_VIN : Nat := 0x600
/-- Offset of SYS_IIN. -/
def SYS_IIN : Nat := 0x604
/-- Offset of SYS_PIN. -/
def SYS_PIN : Nat := 0x608
/-- Offset of SYS_RAIL_STATUS. -/
def SYS_RAIL_STATUS : Nat := 0x60C
/-- Offset of SYS_TEMP, element i. -/
def SYS_TEMP (i : Nat) : Nat := 0x610 + 0x4 * i
/-- Offset of SYS_DIE_WARN. -/
def SYS_DIE_WARN : Nat := 0x680
/-- Offset of SYS_PLATE_WARN. -/
def SYS_PLATE_WARN : Nat := 0x684
/-- Offset of SYS_HW_STATUS. -/
def SYS_HW_STATUS : Nat := 0x690
/-- Offset of SYS_EL, element i. -/
def SYS_EL (i : Nat) : Nat := 0x800 + 0x40 * i

/-- Rows of block SYS, part 0. -/
def rowsSYS0 : List RegRow :=
  [ { base := 0x0, dws := [{ ro := 0x3FFFF, reset := 0x4618 }] },
    { base := 0x4, dws := [{ ro := 0x3FFFF, reset := 0xA2 }] },
    { base := 0x8, dws := [{ ro := 0x3FFFF }] },
    { base := 0x100, dws := [{ ro := 0x1FFF, reset := 0x1 }] },
    { base := 0x104, dws := [{ ro := 0x3FFFF }] },
    { base := 0x108, dws := [{ ro := 0x1FFFF }] },
    { base := 0x10C, dws := [{ ro := 0xFFFF }] },
    { base := 0x110, dws := [{ ro := 0x3FFFF }] },
    { base := 0x114, dws := [{ ro := 0x3FFFF }] },
    { base := 0x118, dws := [{ ro := 0x3FFFF }] },
    { base := 0x400, dws := [{ rws := 0x3FF00, reset := 0x30A00 }] },
    { base := 0x404, dws := [{ ro := 0x3FFFE, reset := 0x2000 }] } ]

/-- Rows of block SYS, part 1. -/
def rowsSYS1 : List RegRow :=
  [ { base := 0x410, dws := [{ wo := 0x20000, ro := 0x1FC00 }] },
    { base := 0x414, dws := [{ rc := 0x3FFFF }] },
    { base := 0x418, dws := [{ ro := 0x3FFFF }, { ro := 0x3FFFF }], capture := true },
    { base := 0x500, dws := [{ rw := 0x10000, rws := 0x2FF00, reset := 0x20A00 }] },
    { base := 0x504, dws := [{ ro := 0x3F000 }] },
    { base := 0x600, dws := [{ ro := 0x3FFFF }] },
    { base := 0x604, dws := [{ ro := 0x3FFFF }] },
    { base := 0x608, dws := [{ ro := 0x3FFFF }] },
    { base := 0x60C, dws := [{ ro := 0xFF }] },
    { base := 0x610, dws := [{ ro := 0x3FFFF }], count := 14, stride := 0x4 },
    { base := 0x680, dws := [{ rw := 0x3FFFF, reset := 0x6400 }] },
    { base := 0x684, dws := [{ rw := 0x3FFFF, reset := 0x3700 }] } ]

/-- Rows of block SYS, part 2. -/
def rowsSYS2 : List RegRow :=
  [ { base := 0x690, dws := [{ ro := 0x3E00F }] },
    { base := 0x800, dws := [{ ro := 0x3FFFF }, { ro := 0x3FFFF }, { ro := 0x3FFFF }, { ro := 0x3FFFF }, { ro := 0x3FFFF }, { ro := 0x3FFFF }, { ro := 0x3FFFF }, { ro := 0x3FFFF }, { ro := 0x3FFFF }, { ro := 0x3FFFF }, { ro := 0x3FFFF }], count := 64, stride := 0x40, capture := true } ]

/-- Every row of block SYS (R568). -/
def rowsSYS : List RegRow :=
  rowsSYS0 ++ rowsSYS1 ++ rowsSYS2
/-! ## Block RST -/
/-- Offset of RST_CAUSE. -/
def RST_CAUSE : Nat := 0x100000
/-- Offset of RST_STATUS. -/
def RST_STATUS : Nat := 0x100004
/-- Offset of RST_CLK_GOOD. -/
def RST_CLK_GOOD : Nat := 0x100008
/-- Offset of RST_RELEASED. -/
def RST_RELEASED : Nat := 0x100010
/-- Offset of RST_HOLD. -/
def RST_HOLD : Nat := 0x100018
/-- Offset of RST_RELEASE. -/
def RST_RELEASE : Nat := 0x100020
/-- Offset of RST_BLOCK. -/
def RST_BLOCK : Nat := 0x100028
/-- Offset of RST_BLK_STATUS. -/
def RST_BLK_STATUS : Nat := 0x10002C
/-- Offset of RST_SOFT. -/
def RST_SOFT : Nat := 0x100030
/-- Offset of RST_OL_TIME. -/
def RST_OL_TIME : Nat := 0x100034
/-- Offset of RST_READY_TIME. -/
def RST_READY_TIME : Nat := 0x100038
/-- Offset of RST_JOURNAL. -/
def RST_JOURNAL : Nat := 0x100040
/-- Offset of RST_JOURNAL_SEQ. -/
def RST_JOURNAL_SEQ : Nat := 0x100044
/-- Offset of RST_JOURNAL_ERASES. -/
def RST_JOURNAL_ERASES : Nat := 0x10004C
/-- Offset of RST_LCS, element i. -/
def RST_LCS (i : Nat) : Nat := 0x100100 + 0x10 * i
/-- Offset of RST_PIN, element i. -/
def RST_PIN (i : Nat) : Nat := 0x100400 + 0x4 * i

/-- Rows of block RST, part 0. -/
def rowsRST0 : List RegRow :=
  [ { base := 0x100000, dws := [{ w1c := 0x3F800, ro := 0x7C0, reset := 0x20000 }] },
    { base := 0x100004, dws := [{ w1c := 0x40, ro := 0x3FF80, reset := 0x8000 }] },
    { base := 0x100008, dws := [{ ro := 0x3FFFF }, { ro := 0xF }] },
    { base := 0x100010, dws := [{ ro := 0x3FFFF }, { ro := 0xF }] },
    { base := 0x100018, dws := [{ rw := 0x1FFE }, { rw := 0x7 }] },
    { base := 0x100020, dws := [{ wo := 0x3FFFF }, { wo := 0xF }] },
    { base := 0x100028, dws := [{ wo := 0x2001F }] },
    { base := 0x10002C, dws := [{ ro := 0x3801F }] },
    { base := 0x100030, dws := [{ wo := 0x3FFFF }] },
    { base := 0x100034, dws := [{ ro := 0x3FFFF }] },
    { base := 0x100038, dws := [{ ro := 0x3FFFF }] },
    { base := 0x100040, dws := [{ ro := 0x3E000 }] } ]

/-- Rows of block RST, part 1. -/
def rowsRST1 : List RegRow :=
  [ { base := 0x100044, dws := [{ ro := 0x3FFFF }, { ro := 0x3FFFF }], capture := true },
    { base := 0x10004C, dws := [{ ro := 0x3FFFF }] },
    { base := 0x100100, dws := [{ ro := 0x3C00F }], count := 21, stride := 0x10 },
    { base := 0x100104, dws := [{ ro := 0x3FFFF }, { ro := 0x3FFFF }, { ro := 0xFFF }], count := 21, stride := 0x10, capture := true },
    { base := 0x100400, dws := [{ ro := 0x7 }], count := 256, stride := 0x4 } ]

/-- Every row of block RST (R568). -/
def rowsRST : List RegRow :=
  rowsRST0 ++ rowsRST1
/-! ## Block EVT -/
/-- Offset of EVT_CTRL. -/
def EVT_CTRL : Nat := 0x200000
/-- Offset of EVT_STATUS. -/
def EVT_STATUS : Nat := 0x200004
/-- Offset of EVT_DOORBELL. -/
def EVT_DOORBELL : Nat := 0x200008
/-- Offset of EVT_CORE_BASE. -/
def EVT_CORE_BASE : Nat := 0x20000C
/-- Offset of EVT_PENDING, element i. -/
def EVT_PENDING (i : Nat) : Nat := 0x200100 + 0x4 * i
/-- Offset of EVT_PENDING14. -/
def EVT_PENDING14 : Nat := 0x200138
/-- Offset of EVT_SRC, element i. -/
def EVT_SRC (i : Nat) : Nat := 0x201000 + 0x4 * i
/-- Offset of EVT_VEC_CFG, element i. -/
def EVT_VEC_CFG (i : Nat) : Nat := 0x202000 + 0x4 * i
/-- Offset of EVT_VEC_STATUS, element i. -/
def EVT_VEC_STATUS (i : Nat) : Nat := 0x202100 + 0x4 * i

/-- Rows of block EVT, part 0. -/
def rowsEVT0 : List RegRow :=
  [ { base := 0x200000, dws := [{ rw := 0x20000 }] },
    { base := 0x200004, dws := [{ ro := 0x3FE00 }] },
    { base := 0x200008, dws := [{ wo := 0x3FFFF }] },
    { base := 0x20000C, dws := [{ ro := 0x3FFFF }] },
    { base := 0x200100, dws := [{ w1c := 0x3FFFF }], count := 14, stride := 0x4 },
    { base := 0x200138, dws := [{ w1c := 0xF }] },
    { base := 0x201000, dws := [{ rw := 0x3FFC0, w1c := 0x10, ro := 0x20 }], count := 256, stride := 0x4 },
    { base := 0x202000, dws := [{ rw := 0x3FF }], count := 64, stride := 0x4 },
    { base := 0x202100, dws := [{ ro := 0x380FF }], count := 64, stride := 0x4 } ]

/-- Every row of block EVT (R568). -/
def rowsEVT : List RegRow :=
  rowsEVT0
/-! ## Block ULP -/
/-- Offset of ULP_STATUS. -/
def ULP_STATUS : Nat := 0x300000
/-- Offset of ULP_DEFER_PENDING. -/
def ULP_DEFER_PENDING : Nat := 0x300004
/-- Offset of ULP_SQ_BASE, element i. -/
def ULP_SQ_BASE (i : Nat) : Nat := 0x300100 + 0x40 * i
/-- Offset of ULP_SQ_SIZE, element i. -/
def ULP_SQ_SIZE (i : Nat) : Nat := 0x30010C + 0x40 * i
/-- Offset of ULP_SQ_TAIL, element i. -/
def ULP_SQ_TAIL (i : Nat) : Nat := 0x300110 + 0x40 * i
/-- Offset of ULP_SQ_HEAD, element i. -/
def ULP_SQ_HEAD (i : Nat) : Nat := 0x300114 + 0x40 * i
/-- Offset of ULP_CQ_BASE, element i. -/
def ULP_CQ_BASE (i : Nat) : Nat := 0x300118 + 0x40 * i
/-- Offset of ULP_CQ_SIZE, element i. -/
def ULP_CQ_SIZE (i : Nat) : Nat := 0x300124 + 0x40 * i
/-- Offset of ULP_CQ_HEAD, element i. -/
def ULP_CQ_HEAD (i : Nat) : Nat := 0x300128 + 0x40 * i
/-- Offset of ULP_CQ_TAIL, element i. -/
def ULP_CQ_TAIL (i : Nat) : Nat := 0x30012C + 0x40 * i
/-- Offset of ULP_Q_CTRL, element i. -/
def ULP_Q_CTRL (i : Nat) : Nat := 0x300130 + 0x40 * i
/-- Offset of ULP_CQ_STALL, element i. -/
def ULP_CQ_STALL (i : Nat) : Nat := 0x300134 + 0x40 * i

/-- Rows of block ULP, part 0. -/
def rowsULP0 : List RegRow :=
  [ { base := 0x300000, dws := [{ ro := 0x3FFFE }] },
    { base := 0x300004, dws := [{ ro := 0xFF }] },
    { base := 0x300100, dws := [{ rw := 0x3FFFF }, { rw := 0x3FFFF }, { rw := 0x3FFFF }], count := 4, stride := 0x40, capture := true, hold := true },
    { base := 0x30010C, dws := [{ rw := 0x1FFF }], count := 4, stride := 0x40 },
    { base := 0x300110, dws := [{ rw := 0xFFF }], count := 4, stride := 0x40 },
    { base := 0x300114, dws := [{ ro := 0xFFF }], count := 4, stride := 0x40 },
    { base := 0x300118, dws := [{ rw := 0x3FFFF }, { rw := 0x3FFFF }, { rw := 0x3FFFF }], count := 4, stride := 0x40, capture := true, hold := true },
    { base := 0x300124, dws := [{ rw := 0x1FFF }], count := 4, stride := 0x40 },
    { base := 0x300128, dws := [{ rw := 0xFFF }], count := 4, stride := 0x40 },
    { base := 0x30012C, dws := [{ ro := 0x1FFF }], count := 4, stride := 0x40 },
    { base := 0x300130, dws := [{ rw := 0x20000, ro := 0x10000 }], count := 4, stride := 0x40 },
    { base := 0x300134, dws := [{ rc := 0x3FFFF }], count := 4, stride := 0x40 } ]

/-- Every row of block ULP (R568). -/
def rowsULP : List RegRow :=
  rowsULP0
/-! ## Block SPR -/
/-- Offset of SPR_STATUS. -/
def SPR_STATUS : Nat := 0x400000
/-- Offset of SPR_ERR_CODE. -/
def SPR_ERR_CODE : Nat := 0x400004
/-- Offset of SPR_ERR_STREAM. -/
def SPR_ERR_STREAM : Nat := 0x400008
/-- Offset of SPR_ERR_SEQ. -/
def SPR_ERR_SEQ : Nat := 0x40000C
/-- Offset of SPR_ERR_WORD. -/
def SPR_ERR_WORD : Nat := 0x400010
/-- Offset of SPR_REFETCH_COUNT. -/
def SPR_REFETCH_COUNT : Nat := 0x400014
/-- Offset of SPR_SPOOL_BASE. -/
def SPR_SPOOL_BASE : Nat := 0x400020
/-- Offset of SPR_SPOOL_LINES. -/
def SPR_SPOOL_LINES : Nat := 0x400028
/-- Offset of SPR_SLOT, element i. -/
def SPR_SLOT (i : Nat) : Nat := 0x400100 + 0x10 * i
/-- Offset of SPR_CMP_STATUS, element i. -/
def SPR_CMP_STATUS (i : Nat) : Nat := 0x400200 + 0x20 * i
/-- Offset of SPR_CMP_IN, element i. -/
def SPR_CMP_IN (i : Nat) : Nat := 0x400204 + 0x20 * i
/-- Offset of SPR_CMP_OUT, element i. -/
def SPR_CMP_OUT (i : Nat) : Nat := 0x40020C + 0x20 * i
/-- Offset of SPR_SPILL_BASE, element i. -/
def SPR_SPILL_BASE (i : Nat) : Nat := 0x400300 + 0x20 * i
/-- Offset of SPR_SPILL_LINES, element i. -/
def SPR_SPILL_LINES (i : Nat) : Nat := 0x400308 + 0x20 * i
/-- Offset of SPR_SPILL_STATE, element i. -/
def SPR_SPILL_STATE (i : Nat) : Nat := 0x40030C + 0x20 * i
/-- Offset of SPR_SPILL_FILL, element i. -/
def SPR_SPILL_FILL (i : Nat) : Nat := 0x400310 + 0x20 * i

/-- Rows of block SPR, part 0. -/
def rowsSPR0 : List RegRow :=
  [ { base := 0x400000, dws := [{ ro := 0x3FFF0 }] },
    { base := 0x400004, dws := [{ w1c := 0x20000, ro := 0x1F03F }] },
    { base := 0x400008, dws := [{ ro := 0x3FFFF }] },
    { base := 0x40000C, dws := [{ ro := 0x3FFFF }] },
    { base := 0x400010, dws := [{ ro := 0x3FFFF }] },
    { base := 0x400014, dws := [{ rc := 0x3FFFF }] },
    { base := 0x400020, dws := [{ rw := 0x3FFFF }, { rw := 0x3FFFF }], guard := .ready, capture := true, hold := true },
    { base := 0x400028, dws := [{ rw := 0x3FFFF }, { rw := 0x3FFFF }], guard := .ready, capture := true, hold := true },
    { base := 0x400100, dws := [{ ro := 0x3FC00 }, { ro := 0x3FFFF }, { ro := 0x3FFFF }, { ro := 0x3FFFF }], count := 16, stride := 0x10 },
    { base := 0x400200, dws := [{ ro := 0x3C000 }], count := 2, stride := 0x20 },
    { base := 0x400204, dws := [{ ro := 0x3FFFF }, { ro := 0x3FFFF }], count := 2, stride := 0x20, capture := true },
    { base := 0x40020C, dws := [{ ro := 0x3FFFF }, { ro := 0x3FFFF }], count := 2, stride := 0x20, capture := true } ]

/-- Rows of block SPR, part 1. -/
def rowsSPR1 : List RegRow :=
  [ { base := 0x400300, dws := [{ rw := 0x3FFFF }, { rw := 0x3FFFF }], count := 16, stride := 0x20, capture := true, hold := true },
    { base := 0x400308, dws := [{ rw := 0x3FFFF }], count := 16, stride := 0x20 },
    { base := 0x40030C, dws := [{ w1c := 0x20000, ro := 0x1F000 }], count := 16, stride := 0x20 },
    { base := 0x400310, dws := [{ ro := 0x3FFFF }, { ro := 0x3FFFF }], count := 16, stride := 0x20, capture := true } ]

/-- Every row of block SPR (R568). -/
def rowsSPR : List RegRow :=
  rowsSPR0 ++ rowsSPR1
/-! ## Block CSC -/
/-- Offset of CSC_STATUS. -/
def CSC_STATUS : Nat := 0x500000
/-- Offset of CSC_LIB_BASE. -/
def CSC_LIB_BASE : Nat := 0x500020
/-- Offset of CSC_LIB_LINES. -/
def CSC_LIB_LINES : Nat := 0x500028
/-- Offset of CSC_LIB_CELLS. -/
def CSC_LIB_CELLS : Nat := 0x500030
/-- Offset of CSC_TALLY_BASE. -/
def CSC_TALLY_BASE : Nat := 0x500040
/-- Offset of CSC_TALLY_LINES. -/
def CSC_TALLY_LINES : Nat := 0x500048
/-- Offset of CSC_TALLY_USED. -/
def CSC_TALLY_USED : Nat := 0x500050
/-- Offset of CSC_WEIR_POOL. -/
def CSC_WEIR_POOL : Nat := 0x500060

/-- Rows of block CSC, part 0. -/
def rowsCSC0 : List RegRow :=
  [ { base := 0x500000, dws := [{ ro := 0x3FFFF }] },
    { base := 0x500020, dws := [{ rw := 0x3FFFF }, { rw := 0x3FFFF }], guard := .ready, capture := true, hold := true },
    { base := 0x500028, dws := [{ rw := 0x3FFFF }, { rw := 0x3FFFF }], guard := .ready, capture := true, hold := true },
    { base := 0x500030, dws := [{ ro := 0x3FFFF }] },
    { base := 0x500040, dws := [{ rw := 0x3FFFF }, { rw := 0x3FFFF }], guard := .ready, capture := true, hold := true },
    { base := 0x500048, dws := [{ rw := 0x3FFFF }, { rw := 0x3FFFF }], guard := .ready, capture := true, hold := true },
    { base := 0x500050, dws := [{ ro := 0x3FFFF }, { ro := 0x3FFFF }], capture := true },
    { base := 0x500060, dws := [{ ro := 0xFFFF }] } ]

/-- Every row of block CSC (R568). -/
def rowsCSC : List RegRow :=
  rowsCSC0
/-! ## Block BSN -/
/-- Offset of BSN_RETIRED. -/
def BSN_RETIRED : Nat := 0x600000
/-- Offset of BSN_INFLIGHT. -/
def BSN_INFLIGHT : Nat := 0x600008
/-- Offset of BSN_MISMATCH_COUNT. -/
def BSN_MISMATCH_COUNT : Nat := 0x60000C
/-- Offset of BSN_OVERLAP. -/
def BSN_OVERLAP : Nat := 0x600010
/-- Offset of BSN_MM_INFO. -/
def BSN_MM_INFO : Nat := 0x600020
/-- Offset of BSN_MM_BASIN. -/
def BSN_MM_BASIN : Nat := 0x600024
/-- Offset of BSN_MM_BAND. -/
def BSN_MM_BAND : Nat := 0x600028
/-- Offset of BSN_MM_RESID. -/
def BSN_MM_RESID : Nat := 0x600030
/-- Offset of BSN_MM_TOL. -/
def BSN_MM_TOL : Nat := 0x600034

/-- Rows of block BSN, part 0. -/
def rowsBSN0 : List RegRow :=
  [ { base := 0x600000, dws := [{ ro := 0x3FFFF }, { ro := 0x3FFF }] },
    { base := 0x600008, dws := [{ ro := 0x3FF }] },
    { base := 0x60000C, dws := [{ rc := 0x3FFFF }] },
    { base := 0x600010, dws := [{ rc := 0x3FFFF }, { rc := 0x3FFFF }], capture := true },
    { base := 0x600020, dws := [{ w1c := 0x20000, ro := 0x1FFFC }] },
    { base := 0x600024, dws := [{ ro := 0x1F }] },
    { base := 0x600028, dws := [{ ro := 0x3FFFF }, { ro := 0x3FFFF }], capture := true },
    { base := 0x600030, dws := [{ ro := 0x3FFFF }] },
    { base := 0x600034, dws := [{ ro := 0x3FFFF }] } ]

/-- Every row of block BSN (R568). -/
def rowsBSN : List RegRow :=
  rowsBSN0
/-! ## Block CST -/
/-- Offset of CST_STATUS. -/
def CST_STATUS : Nat := 0x700000
/-- Offset of CST_DB_BASE. -/
def CST_DB_BASE : Nat := 0x700010
/-- Offset of CST_DB_LINES. -/
def CST_DB_LINES : Nat := 0x700018
/-- Offset of CST_WEIR_DB. -/
def CST_WEIR_DB : Nat := 0x700020
/-- Offset of CST_WEIR_LEAD. -/
def CST_WEIR_LEAD : Nat := 0x700028
/-- Offset of CST_SLOTS. -/
def CST_SLOTS : Nat := 0x70002C
/-- Offset of CST_ECC_CORR. -/
def CST_ECC_CORR : Nat := 0x700030
/-- Offset of CST_ECC_UNCORR. -/
def CST_ECC_UNCORR : Nat := 0x700034
/-- Offset of CST_UNWR_INFO. -/
def CST_UNWR_INFO : Nat := 0x700040
/-- Offset of CST_UNWR_ROW. -/
def CST_UNWR_ROW : Nat := 0x700044
/-- Offset of CST_UNWR_LINE. -/
def CST_UNWR_LINE : Nat := 0x70004C

/-- Rows of block CST, part 0. -/
def rowsCST0 : List RegRow :=
  [ { base := 0x700000, dws := [{ ro := 0x38000 }] },
    { base := 0x700010, dws := [{ rw := 0x3FFFF }, { rw := 0x3FFFF }], guard := .ready, capture := true, hold := true },
    { base := 0x700018, dws := [{ rw := 0x3FFFF }, { rw := 0x3FFFF, reset := 0x200 }], guard := .ready, capture := true, hold := true },
    { base := 0x700020, dws := [{ ro := 0x3FFFF }, { ro := 0x3FFFF }], capture := true },
    { base := 0x700028, dws := [{ ro := 0x3FFFF }] },
    { base := 0x70002C, dws := [{ ro := 0x3FFFF }] },
    { base := 0x700030, dws := [{ rc := 0x3FFFF }] },
    { base := 0x700034, dws := [{ rc := 0x3FFFF }] },
    { base := 0x700040, dws := [{ w1c := 0x20000, ro := 0x101FF }] },
    { base := 0x700044, dws := [{ ro := 0x3FFFF }, { ro := 0x3FFFF }], capture := true },
    { base := 0x70004C, dws := [{ ro := 0x1FF }] } ]

/-- Every row of block CST (R568). -/
def rowsCST : List RegRow :=
  rowsCST0
/-! ## Block POOL -/
/-- Offset of POOL_STATUS. -/
def POOL_STATUS : Nat := 0x800000
/-- Offset of POOL_CFG. -/
def POOL_CFG : Nat := 0x800004
/-- Offset of POOL_REGION_BASE. -/
def POOL_REGION_BASE : Nat := 0x800010
/-- Offset of POOL_REGION_LINES. -/
def POOL_REGION_LINES : Nat := 0x800018
/-- Offset of POOL_NEED_LINES. -/
def POOL_NEED_LINES : Nat := 0x800020
/-- Offset of POOL_G_SIGMA, element i. -/
def POOL_G_SIGMA (i : Nat) : Nat := 0x800040 + 0x8 * i
/-- Offset of POOL_G_WEIGHT, element i. -/
def POOL_G_WEIGHT (i : Nat) : Nat := 0x800044 + 0x8 * i
/-- Offset of POOL_DOSE_MAX. -/
def POOL_DOSE_MAX : Nat := 0x800060
/-- Offset of POOL_COMMIT. -/
def POOL_COMMIT : Nat := 0x800070
/-- Offset of POOL_COMMIT_STATUS. -/
def POOL_COMMIT_STATUS : Nat := 0x800074
/-- Offset of POOL_BOUNDARY. -/
def POOL_BOUNDARY : Nat := 0x800078
/-- Offset of POOL_SWITCH_STRIPE, element i. -/
def POOL_SWITCH_STRIPE (i : Nat) : Nat := 0x800080 + 0x4 * i
/-- Offset of POOL_SWITCH_LAYER, element i. -/
def POOL_SWITCH_LAYER (i : Nat) : Nat := 0x800090 + 0x4 * i
/-- Offset of POOL_DENS_SAT. -/
def POOL_DENS_SAT : Nat := 0x8000A0
/-- Offset of POOL_F_CLAMP. -/
def POOL_F_CLAMP : Nat := 0x8000A4
/-- Offset of POOL_DOSE_CLAMP. -/
def POOL_DOSE_CLAMP : Nat := 0x8000A8
/-- Offset of POOL_CLASS, element i. -/
def POOL_CLASS (i : Nat) : Nat := 0x801000 + 0x8 * i
/-- Offset of POOL_CLASS_ACT, element i. -/
def POOL_CLASS_ACT (i : Nat) : Nat := 0x809000 + 0x8 * i
/-- Offset of POOL_DFT, element i. -/
def POOL_DFT (i : Nat) : Nat := 0x802000 + 0x4 * i
/-- Offset of POOL_DFT_ACT, element i. -/
def POOL_DFT_ACT (i : Nat) : Nat := 0x80A000 + 0x4 * i
/-- Offset of POOL_LAYER, element i. -/
def POOL_LAYER (i : Nat) : Nat := 0x803000 + 0x4 * i
/-- Offset of POOL_LAYER_ACT, element i. -/
def POOL_LAYER_ACT (i : Nat) : Nat := 0x80B000 + 0x4 * i
/-- Offset of POOL_TAP, element i. -/
def POOL_TAP (i : Nat) : Nat := 0x804000 + 0x4 * i

/-- Rows of block POOL, part 0. -/
def rowsPOOL0 : List RegRow :=
  [ { base := 0x800000, dws := [{ ro := 0x38000 }] },
    { base := 0x800004, dws := [{ rw := 0x3FFF8, reset := 0xC000 }], guard := .ready, cls := .job },
    { base := 0x800010, dws := [{ rw := 0x3FFFF }, { rw := 0x3FFFF }], guard := .ready, cls := .job, capture := true, hold := true },
    { base := 0x800018, dws := [{ rw := 0x3FFFF }, { rw := 0x3FFFF }], guard := .ready, cls := .job, capture := true, hold := true },
    { base := 0x800020, dws := [{ ro := 0x3FFFF }, { ro := 0x3FFFF }], capture := true },
    { base := 0x800040, dws := [{ rw := 0x3FFFF, reset := 0x400 }], count := 4, stride := 0x8, guard := .ready, cls := .job },
    { base := 0x800044, dws := [{ rw := 0x3FFFF }], count := 4, stride := 0x8, guard := .ready, cls := .job },
    { base := 0x800060, dws := [{ sh := 0x3FFFF, reset := 0x3FFFF }], cls := .stripe },
    { base := 0x800070, dws := [{ wo := 0xF }] },
    { base := 0x800074, dws := [{ w1c := 0xFF0, ro := 0xF }] },
    { base := 0x800078, dws := [{ ro := 0x3FFFF }, { ro := 0x3FFFF }], capture := true },
    { base := 0x800080, dws := [{ ro := 0x3FFFF }], count := 4, stride := 0x4 } ]

/-- Rows of block POOL, part 1. -/
def rowsPOOL1 : List RegRow :=
  [ { base := 0x800090, dws := [{ ro := 0x3FFFF }], count := 4, stride := 0x4 },
    { base := 0x8000A0, dws := [{ rc := 0x3FFFF }] },
    { base := 0x8000A4, dws := [{ rc := 0x3FFFF }] },
    { base := 0x8000A8, dws := [{ rc := 0x3FFFF }, { rc := 0x3FFFF }], capture := true },
    { base := 0x801000, dws := [{ sh := 0x3FFFF, reset := 0x10000 }, { rw := 0x3FE00, sh := 0x100, reset := 0x20100 }], count := 64, stride := 0x8, cls := .stripe },
    { base := 0x809000, dws := [{ ro := 0x3FFFF, reset := 0x10000 }, { ro := 0x3FF00, reset := 0x20100 }], count := 64, stride := 0x8 },
    { base := 0x802000, dws := [{ sh := 0x3FFFF, reset := 0x10000 }], count := 1024, stride := 0x4, cls := .stripe },
    { base := 0x80A000, dws := [{ ro := 0x3FFFF, reset := 0x10000 }], count := 1024, stride := 0x4 },
    { base := 0x803000, dws := [{ sh := 0x3FFFF, reset := 0x10000 }], count := 256, stride := 0x4, cls := .stripe },
    { base := 0x80B000, dws := [{ ro := 0x3FFFF, reset := 0x10000 }], count := 256, stride := 0x4 },
    { base := 0x804000, dws := [{ ro := 0x3FFFF }], count := 1024, stride := 0x4 } ]

/-- Every row of block POOL (R568). -/
def rowsPOOL : List RegRow :=
  rowsPOOL0 ++ rowsPOOL1
/-! ## Block RIL -/
/-- Offset of RIL_STATUS. -/
def RIL_STATUS : Nat := 0x900000
/-- Offset of RIL_CFG. -/
def RIL_CFG : Nat := 0x900004
/-- Offset of RIL_CODE_SCALE. -/
def RIL_CODE_SCALE : Nat := 0x900008
/-- Offset of RIL_CODE_SCALE_ACT. -/
def RIL_CODE_SCALE_ACT : Nat := 0x90000C
/-- Offset of RIL_OFFS, element i. -/
def RIL_OFFS (i : Nat) : Nat := 0x900010 + 0x4 * i
/-- Offset of RIL_OFFS_ACT, element i. -/
def RIL_OFFS_ACT (i : Nat) : Nat := 0x900018 + 0x4 * i
/-- Offset of RIL_COMMIT. -/
def RIL_COMMIT : Nat := 0x900020
/-- Offset of RIL_COMMIT_STATUS. -/
def RIL_COMMIT_STATUS : Nat := 0x900024
/-- Offset of RIL_BOUNDARY. -/
def RIL_BOUNDARY : Nat := 0x900028
/-- Offset of RIL_SWITCH_STRIPE, element i. -/
def RIL_SWITCH_STRIPE (i : Nat) : Nat := 0x900030 + 0x4 * i
/-- Offset of RIL_SWITCH_LAYER, element i. -/
def RIL_SWITCH_LAYER (i : Nat) : Nat := 0x900040 + 0x4 * i
/-- Offset of RIL_CHECK_INFO. -/
def RIL_CHECK_INFO : Nat := 0x900050
/-- Offset of RIL_CHECK_ITEM. -/
def RIL_CHECK_ITEM : Nat := 0x900054
/-- Offset of RIL_BT_PAGE. -/
def RIL_BT_PAGE : Nat := 0x900058
/-- Offset of RIL_WEIR. -/
def RIL_WEIR : Nat := 0x900060
/-- Offset of RIL_RESIDUE_COUNT. -/
def RIL_RESIDUE_COUNT : Nat := 0x900070
/-- Offset of RIL_CLAMP_COUNT. -/
def RIL_CLAMP_COUNT : Nat := 0x900074
/-- Offset of RIL_FAULT_INFO. -/
def RIL_FAULT_INFO : Nat := 0x900080
/-- Offset of RIL_FAULT_FLASH. -/
def RIL_FAULT_FLASH : Nat := 0x900084
/-- Offset of RIL_FAULT_BEAM. -/
def RIL_FAULT_BEAM : Nat := 0x90008C
/-- Offset of RIL_STUCK_ACK. -/
def RIL_STUCK_ACK : Nat := 0x900090
/-- Offset of RIL_GRP_MAP, element i. -/
def RIL_GRP_MAP (i : Nat) : Nat := 0x900100 + 0x10 * i
/-- Offset of RIL_GRP_RETIRED, element i. -/
def RIL_GRP_RETIRED (i : Nat) : Nat := 0x900104 + 0x10 * i
/-- Offset of RIL_GRP_FORCE, element i. -/
def RIL_GRP_FORCE (i : Nat) : Nat := 0x90010C + 0x10 * i
/-- Offset of RIL_GRP_SLOT, element i. -/
def RIL_GRP_SLOT (i : Nat) : Nat := 0x900200 + 0x4 * i
/-- Offset of RIL_MASK, element i. -/
def RIL_MASK (i : Nat) : Nat := 0x904000 + 0x4 * i
/-- Offset of RIL_MASK_ACT, element i. -/
def RIL_MASK_ACT (i : Nat) : Nat := 0x906000 + 0x4 * i
/-- Offset of RIL_BT, element i. -/
def RIL_BT (i : Nat) : Nat := 0x980000 + 0x8 * i

/-- Rows of block RIL, part 0. -/
def rowsRIL0 : List RegRow :=
  [ { base := 0x900000, dws := [{ ro := 0x3C000 }] },
    { base := 0x900004, dws := [{ rw := 0x3FE00, reset := 0x4000 }], guard := .ready, cls := .job },
    { base := 0x900008, dws := [{ sh := 0xFFFF, reset := 0x1FE0 }], cls := .stripe },
    { base := 0x90000C, dws := [{ ro := 0xFFFF, reset := 0x1FE0 }] },
    { base := 0x900010, dws := [{ sh := 0x3FFFF }], count := 2, stride := 0x4, cls := .stripe },
    { base := 0x900018, dws := [{ ro := 0x3FFFF }], count := 2, stride := 0x4 },
    { base := 0x900020, dws := [{ wo := 0xF }] },
    { base := 0x900024, dws := [{ w1c := 0xFFF0, ro := 0xF }] },
    { base := 0x900028, dws := [{ ro := 0x3FFFF }, { ro := 0x3FFFF }], capture := true },
    { base := 0x900030, dws := [{ ro := 0x3FFFF }], count := 4, stride := 0x4 },
    { base := 0x900040, dws := [{ ro := 0x3FFFF }], count := 4, stride := 0x4 },
    { base := 0x900050, dws := [{ w1c := 0x20000, ro := 0x1C000 }] } ]

/-- Rows of block RIL, part 1. -/
def rowsRIL1 : List RegRow :=
  [ { base := 0x900054, dws := [{ ro := 0x3FFFF }] },
    { base := 0x900058, dws := [{ rw := 0x20003 }] },
    { base := 0x900060, dws := [{ ro := 0xFFF }] },
    { base := 0x900070, dws := [{ rc := 0x3FFFF }] },
    { base := 0x900074, dws := [{ rc := 0x3FFFF }, { rc := 0x3FFFF }], capture := true },
    { base := 0x900080, dws := [{ w1c := 0x20000, ro := 0x181FF }] },
    { base := 0x900084, dws := [{ ro := 0x3FFFF }, { ro := 0x3FFFF }], capture := true },
    { base := 0x90008C, dws := [{ ro := 0x3FFFF }] },
    { base := 0x900090, dws := [{ wo := 0x1 }] },
    { base := 0x900100, dws := [{ ro := 0xFFF, reset := 0x20 }], count := 8, stride := 0x10 },
    { base := 0x900104, dws := [{ ro := 0x3FFFF }, { ro := 0x7FFF }], count := 8, stride := 0x10 },
    { base := 0x90010C, dws := [{ wo := 0x2001F }], count := 8, stride := 0x10 } ]

/-- Rows of block RIL, part 2. -/
def rowsRIL2 : List RegRow :=
  [ { base := 0x900200, dws := [{ ro := 0x3F }], count := 256, stride := 0x4 },
    { base := 0x904000, dws := [{ sh := 0x1FF }], count := 2048, stride := 0x4, cls := .stripe },
    { base := 0x906000, dws := [{ ro := 0x1FF }], count := 2048, stride := 0x4 },
    { base := 0x980000, dws := [{ sh := 0x3FFFF }, { sh := 0x3FFFF }], count := 65536, stride := 0x8, cls := .stripe } ]

/-- Every row of block RIL (R568). -/
def rowsRIL : List RegRow :=
  rowsRIL0 ++ rowsRIL1 ++ rowsRIL2
/-! ## Block LNE -/
/-- Offset of LNE_STATUS. -/
def LNE_STATUS : Nat := 0xA00000
/-- Offset of LNE_CFG. -/
def LNE_CFG : Nat := 0xA00004
/-- Offset of LNE_ACK_TIMEOUT. -/
def LNE_ACK_TIMEOUT : Nat := 0xA00008
/-- Offset of LNE_ARRAY. -/
def LNE_ARRAY : Nat := 0xA0000C
/-- Offset of LNE_WEIR. -/
def LNE_WEIR : Nat := 0xA00010
/-- Offset of LNE_NOSPARE. -/
def LNE_NOSPARE : Nat := 0xA00014
/-- Offset of LNE_ERR_INFO. -/
def LNE_ERR_INFO : Nat := 0xA00020
/-- Offset of LNE_ERR_FSEQ. -/
def LNE_ERR_FSEQ : Nat := 0xA00024
/-- Offset of LNE_REPLAY_COUNT. -/
def LNE_REPLAY_COUNT : Nat := 0xA00030
/-- Offset of LNE_STRAY_COUNT. -/
def LNE_STRAY_COUNT : Nat := 0xA00034
/-- Offset of LNE_ZONE_TEMP, element i. -/
def LNE_ZONE_TEMP (i : Nat) : Nat := 0xA00040 + 0x4 * i
/-- Offset of LNE_ZONE_STATUS. -/
def LNE_ZONE_STATUS : Nat := 0xA00080
/-- Offset of LNE_BGG_LANE, element i. -/
def LNE_BGG_LANE (i : Nat) : Nat := 0xA00100 + 0x4 * i
/-- Offset of LNE_PP_WRITES. -/
def LNE_PP_WRITES : Nat := 0xA00300
/-- Offset of LNE_PP_FAILS. -/
def LNE_PP_FAILS : Nat := 0xA00310
/-- Offset of LNE_PP_ANCHOR. -/
def LNE_PP_ANCHOR : Nat := 0xA00320
/-- Offset of LNE_LANE_STATE, element i. -/
def LNE_LANE_STATE (i : Nat) : Nat := 0xA01000 + 0x40 * i
/-- Offset of LNE_LANE_CTRL, element i. -/
def LNE_LANE_CTRL (i : Nat) : Nat := 0xA01004 + 0x40 * i
/-- Offset of LNE_LANE_TRAIN, element i. -/
def LNE_LANE_TRAIN (i : Nat) : Nat := 0xA01008 + 0x40 * i
/-- Offset of LNE_LANE_EYE_FAR, element i. -/
def LNE_LANE_EYE_FAR (i : Nat) : Nat := 0xA0100C + 0x40 * i
/-- Offset of LNE_LANE_EYE_NEAR, element i. -/
def LNE_LANE_EYE_NEAR (i : Nat) : Nat := 0xA01010 + 0x40 * i
/-- Offset of LNE_LANE_FEC_CORR, element i. -/
def LNE_LANE_FEC_CORR (i : Nat) : Nat := 0xA01014 + 0x40 * i
/-- Offset of LNE_LANE_FEC_UNCORR, element i. -/
def LNE_LANE_FEC_UNCORR (i : Nat) : Nat := 0xA01018 + 0x40 * i
/-- Offset of LNE_LANE_LB_ERR, element i. -/
def LNE_LANE_LB_ERR (i : Nat) : Nat := 0xA0101C + 0x40 * i
/-- Offset of LNE_LANE_CAL_COUNT, element i. -/
def LNE_LANE_CAL_COUNT (i : Nat) : Nat := 0xA01020 + 0x40 * i
/-- Offset of LNE_LANE_CAL_TOD, element i. -/
def LNE_LANE_CAL_TOD (i : Nat) : Nat := 0xA01024 + 0x40 * i
/-- Offset of LNE_LANE_CAL_TEMP, element i. -/
def LNE_LANE_CAL_TEMP (i : Nat) : Nat := 0xA01038 + 0x40 * i

/-- Rows of block LNE, part 0. -/
def rowsLNE0 : List RegRow :=
  [ { base := 0xA00000, dws := [{ ro := 0x3F800 }] },
    { base := 0xA00004, dws := [{ rw := 0x3FFFC, reset := 0x24100 }] },
    { base := 0xA00008, dws := [{ rw := 0x7FF, reset := 0xC8 }] },
    { base := 0xA0000C, dws := [{ ro := 0x1F }] },
    { base := 0xA00010, dws := [{ ro := 0x7FF }] },
    { base := 0xA00014, dws := [{ ro := 0xFFFF }] },
    { base := 0xA00020, dws := [{ w1c := 0x20000, ro := 0x1FFFF }] },
    { base := 0xA00024, dws := [{ ro := 0x3FFFF }, { ro := 0x3FFFF }], capture := true },
    { base := 0xA00030, dws := [{ rc := 0x3FFFF }] },
    { base := 0xA00034, dws := [{ rc := 0x3FFFF }] },
    { base := 0xA00040, dws := [{ ro := 0x3FFFF }], count := 16, stride := 0x4 },
    { base := 0xA00080, dws := [{ ro := 0x2FFFF, reset := 0x20000 }] } ]

/-- Rows of block LNE, part 1. -/
def rowsLNE1 : List RegRow :=
  [ { base := 0xA00100, dws := [{ ro := 0x7F }], count := 64, stride := 0x4 },
    { base := 0xA00300, dws := [{ ro := 0x3FFFF }, { ro := 0x3FFFF }, { ro := 0x3FFFF }, { ro := 0x3FF }], capture := true },
    { base := 0xA00310, dws := [{ rc := 0x3FFFF }] },
    { base := 0xA00320, dws := [{ rwl := 0x3FFFF }, { rwl := 0x3FFFF }, { rwl := 0x3FFFF }, { rwl := 0x3FFFF }, { rwl := 0x3FFFF }, { rwl := 0x3FFFF }, { rwl := 0x3FFFF }, { rwl := 0x3FFFF }, { rwl := 0x3FFFF }, { rwl := 0x3FFFF }, { rwl := 0x3FFFF }, { rwl := 0x3FFFF }, { rwl := 0x3FFFF }, { rwl := 0x3FFFF }, { rwl := 0xF }], capture := true },
    { base := 0xA01000, dws := [{ ro := 0x3FFFC }], count := 72, stride := 0x40 },
    { base := 0xA01004, dws := [{ rw := 0x30000, wo := 0xC000 }], count := 72, stride := 0x40 },
    { base := 0xA01008, dws := [{ ro := 0x3FFE0 }], count := 72, stride := 0x40 },
    { base := 0xA0100C, dws := [{ ro := 0x3FFFF }], count := 72, stride := 0x40 },
    { base := 0xA01010, dws := [{ ro := 0x3FFFF }], count := 72, stride := 0x40 },
    { base := 0xA01014, dws := [{ rc := 0x3FFFF }], count := 72, stride := 0x40 },
    { base := 0xA01018, dws := [{ rc := 0x3FFFF }], count := 72, stride := 0x40 },
    { base := 0xA0101C, dws := [{ rc := 0x3FFFF }], count := 72, stride := 0x40 } ]

/-- Rows of block LNE, part 2. -/
def rowsLNE2 : List RegRow :=
  [ { base := 0xA01020, dws := [{ ro := 0x3FFFF }], count := 72, stride := 0x40 },
    { base := 0xA01024, dws := [{ ro := 0x3FFFF }, { ro := 0x3FFFF }, { ro := 0x3FFFF }, { ro := 0x3FFFF }, { ro := 0x3FFF }], count := 72, stride := 0x40, capture := true },
    { base := 0xA01038, dws := [{ ro := 0x3FFFF }], count := 72, stride := 0x40 } ]

/-- Every row of block LNE (R568). -/
def rowsLNE : List RegRow :=
  rowsLNE0 ++ rowsLNE1 ++ rowsLNE2
/-! ## Block POS -/
/-- Offset of POS_STATUS. -/
def POS_STATUS : Nat := 0xB00000
/-- Offset of POS_CFG. -/
def POS_CFG : Nat := 0xB00004
/-- Offset of POS_XCHK. -/
def POS_XCHK : Nat := 0xB00008
/-- Offset of POS_Y_TOL. -/
def POS_Y_TOL : Nat := 0xB0000C
/-- Offset of POS_TICK. -/
def POS_TICK : Nat := 0xB00010
/-- Offset of POS_X. -/
def POS_X : Nat := 0xB00018
/-- Offset of POS_Y. -/
def POS_Y : Nat := 0xB00020
/-- Offset of POS_X_CONT. -/
def POS_X_CONT : Nat := 0xB00028
/-- Offset of POS_Y_CONT. -/
def POS_Y_CONT : Nat := 0xB0002C
/-- Offset of POS_HEAD_CTRL. -/
def POS_HEAD_CTRL : Nat := 0xB00030
/-- Offset of POS_CH_STATE, element i. -/
def POS_CH_STATE (i : Nat) : Nat := 0xB00100 + 0x40 * i
/-- Offset of POS_CH_COUNT, element i. -/
def POS_CH_COUNT (i : Nat) : Nat := 0xB00104 + 0x40 * i
/-- Offset of POS_CH_POS, element i. -/
def POS_CH_POS (i : Nat) : Nat := 0xB0010C + 0x40 * i
/-- Offset of POS_CH_SCALE, element i. -/
def POS_CH_SCALE (i : Nat) : Nat := 0xB00114 + 0x40 * i
/-- Offset of POS_CH_OFFSET, element i. -/
def POS_CH_OFFSET (i : Nat) : Nat := 0xB0011C + 0x40 * i
/-- Offset of POS_CH_SPEED, element i. -/
def POS_CH_SPEED (i : Nat) : Nat := 0xB00124 + 0x40 * i
/-- Offset of POS_CH_QUAD_ERR, element i. -/
def POS_CH_QUAD_ERR (i : Nat) : Nat := 0xB00128 + 0x40 * i
/-- Offset of POS_CH_INDEX, element i. -/
def POS_CH_INDEX (i : Nat) : Nat := 0xB0012C + 0x40 * i
/-- Offset of POS_CH_CTRL, element i. -/
def POS_CH_CTRL (i : Nat) : Nat := 0xB00134 + 0x40 * i
/-- Offset of POS_PCMP_CTRL, element i. -/
def POS_PCMP_CTRL (i : Nat) : Nat := 0xB00300 + 0x10 * i
/-- Offset of POS_PCMP_TARGET, element i. -/
def POS_PCMP_TARGET (i : Nat) : Nat := 0xB00304 + 0x10 * i
/-- Offset of POS_TCMP_CTRL, element i. -/
def POS_TCMP_CTRL (i : Nat) : Nat := 0xB00340 + 0x10 * i
/-- Offset of POS_TCMP_TARGET, element i. -/
def POS_TCMP_TARGET (i : Nat) : Nat := 0xB00344 + 0x10 * i
/-- Offset of POS_PRB_CTRL, element i. -/
def POS_PRB_CTRL (i : Nat) : Nat := 0xB00400 + 0x80 * i
/-- Offset of POS_PRB_TICK, element i. -/
def POS_PRB_TICK (i : Nat) : Nat := 0xB00404 + 0x80 * i
/-- Offset of POS_PRB_POS, element i. -/
def POS_PRB_POS (i : Nat) : Nat := 0xB00410 + 0x80 * i

/-- Rows of block POS, part 0. -/
def rowsPOS0 : List RegRow :=
  [ { base := 0xB00000, dws := [{ ro := 0x3FFFC }] },
    { base := 0xB00004, dws := [{ rw := 0x3FF80, reset := 0x10E00 }], guard := .ready, cls := .job },
    { base := 0xB00008, dws := [{ rw := 0x3FFFF, reset := 0x4040 }] },
    { base := 0xB0000C, dws := [{ rw := 0x3FFFF, reset := 0x400 }] },
    { base := 0xB00010, dws := [{ ro := 0x3FFFF }, { ro := 0x3FFFF }], capture := true },
    { base := 0xB00018, dws := [{ ro := 0x3FFFF }, { ro := 0x3FFFF }], capture := true },
    { base := 0xB00020, dws := [{ ro := 0x3FFFF }, { ro := 0x3FFFF }], capture := true },
    { base := 0xB00028, dws := [{ ro := 0x3FFFF }] },
    { base := 0xB0002C, dws := [{ ro := 0x3FFFF }] },
    { base := 0xB00030, dws := [{ wo := 0xFFF }] },
    { base := 0xB00100, dws := [{ ro := 0x3FF80 }], count := 6, stride := 0x40 },
    { base := 0xB00104, dws := [{ ro := 0x3FFFF }, { ro := 0x3FFFF }], count := 6, stride := 0x40, capture := true } ]

/-- Rows of block POS, part 1. -/
def rowsPOS1 : List RegRow :=
  [ { base := 0xB0010C, dws := [{ ro := 0x3FFFF }, { ro := 0x3FFFF }], count := 6, stride := 0x40, capture := true },
    { base := 0xB00114, dws := [{ rw := 0x3FFFF }, { rw := 0x3FFFF, reset := 0x400 }], count := 6, stride := 0x40, guard := .ready, cls := .job, capture := true, hold := true },
    { base := 0xB0011C, dws := [{ rw := 0x3FFFF }, { rw := 0x3FFFF }], count := 6, stride := 0x40, guard := .ready, cls := .job, capture := true, hold := true },
    { base := 0xB00124, dws := [{ ro := 0x3FFFF }], count := 6, stride := 0x40 },
    { base := 0xB00128, dws := [{ rc := 0x3FFFF }], count := 6, stride := 0x40 },
    { base := 0xB0012C, dws := [{ ro := 0x3FFFF }, { ro := 0x3FFFF }], count := 6, stride := 0x40, capture := true },
    { base := 0xB00134, dws := [{ rw := 0x30000 }], count := 6, stride := 0x40, guard := .ready, cls := .job },
    { base := 0xB00300, dws := [{ rw := 0x27800, w1c := 0x18000 }], count := 4, stride := 0x10 },
    { base := 0xB00304, dws := [{ rw := 0x3FFFF }, { rw := 0x3FFFF }], count := 4, stride := 0x10, capture := true, hold := true },
    { base := 0xB00340, dws := [{ rw := 0x20000, w1c := 0x18000 }], count := 4, stride := 0x10 },
    { base := 0xB00344, dws := [{ rw := 0x3FFFF }, { rw := 0x3FFFF }], count := 4, stride := 0x10, capture := true, hold := true },
    { base := 0xB00400, dws := [{ rw := 0xC000, w1c := 0x30000 }], count := 2, stride := 0x80 } ]

/-- Rows of block POS, part 2. -/
def rowsPOS2 : List RegRow :=
  [ { base := 0xB00404, dws := [{ ro := 0x3FFFF }, { ro := 0x3FFFF }], count := 2, stride := 0x80, capture := true },
    { base := 0xB00410, dws := [{ ro := 0x3FFFF }, { ro := 0x3FFFF }, { ro := 0x3FFFF }, { ro := 0x3FFFF }, { ro := 0x3FFFF }, { ro := 0x3FFFF }, { ro := 0x3FFFF }, { ro := 0x3FFFF }, { ro := 0x3FFFF }, { ro := 0x3FFFF }, { ro := 0x3FFFF }, { ro := 0x3FFFF }], count := 2, stride := 0x80 } ]

/-- Every row of block POS (R568). -/
def rowsPOS : List RegRow :=
  rowsPOS0 ++ rowsPOS1 ++ rowsPOS2
/-! ## Block FLS -/
/-- Offset of FLS_STATUS. -/
def FLS_STATUS : Nat := 0xC00000
/-- Offset of FLS_CFG. -/
def FLS_CFG : Nat := 0xC00004
/-- Offset of FLS_MIN_PERIOD. -/
def FLS_MIN_PERIOD : Nat := 0xC00008
/-- Offset of FLS_DELAY, element i. -/
def FLS_DELAY (i : Nat) : Nat := 0xC00010 + 0x4 * i
/-- Offset of FLS_DELAY_ACT, element i. -/
def FLS_DELAY_ACT (i : Nat) : Nat := 0xC00018 + 0x4 * i
/-- Offset of FLS_COMMIT. -/
def FLS_COMMIT : Nat := 0xC00020
/-- Offset of FLS_COMMIT_STATUS. -/
def FLS_COMMIT_STATUS : Nat := 0xC00024
/-- Offset of FLS_NEXT_N. -/
def FLS_NEXT_N : Nat := 0xC00030
/-- Offset of FLS_NEXT_POS. -/
def FLS_NEXT_POS : Nat := 0xC00038
/-- Offset of FLS_LAST_FSEQ. -/
def FLS_LAST_FSEQ : Nat := 0xC00040
/-- Offset of FLS_STITCH_FSEQ. -/
def FLS_STITCH_FSEQ : Nat := 0xC00048
/-- Offset of FLS_STITCH_N. -/
def FLS_STITCH_N : Nat := 0xC00050
/-- Offset of FLS_STOP_AT. -/
def FLS_STOP_AT : Nat := 0xC00060
/-- Offset of FLS_PERMIT_FSEQ. -/
def FLS_PERMIT_FSEQ : Nat := 0xC00084
/-- Offset of FLS_FIRED. -/
def FLS_FIRED : Nat := 0xC00090
/-- Offset of FLS_STOP_CAUSES. -/
def FLS_STOP_CAUSES : Nat := 0xC00058
/-- Offset of FLS_TEMP_WARN. -/
def FLS_TEMP_WARN : Nat := 0xC00070
/-- Offset of FLS_TEMP_LIMIT. -/
def FLS_TEMP_LIMIT : Nat := 0xC00074
/-- Offset of FLS_HEAD_TEMP. -/
def FLS_HEAD_TEMP : Nat := 0xC00078
/-- Offset of FLS_PERMIT_CUT. -/
def FLS_PERMIT_CUT : Nat := 0xC00080

/-- Rows of block FLS, part 0. -/
def rowsFLS0 : List RegRow :=
  [ { base := 0xC00000, dws := [{ w1c := 0x3000, ro := 0x3CC00 }] },
    { base := 0xC00004, dws := [{ rw := 0x3FE00, reset := 0x30000 }], guard := .ready, cls := .job },
    { base := 0xC00008, dws := [{ rw := 0xFFFF, reset := 0x190 }], guard := .ready, cls := .job },
    { base := 0xC00010, dws := [{ sh := 0x7F }], count := 2, stride := 0x4, cls := .stripe },
    { base := 0xC00018, dws := [{ ro := 0x7F }], count := 2, stride := 0x4 },
    { base := 0xC00020, dws := [{ wo := 0x1 }] },
    { base := 0xC00024, dws := [{ w1c := 0x6, ro := 0x1 }] },
    { base := 0xC00030, dws := [{ ro := 0x3FFFF }, { ro := 0x3FFFF }], capture := true },
    { base := 0xC00038, dws := [{ ro := 0x3FFFF }, { ro := 0x3FFFF }], capture := true },
    { base := 0xC00040, dws := [{ ro := 0x3FFFF }, { ro := 0x3FFFF }], capture := true },
    { base := 0xC00048, dws := [{ ro := 0x3FFFF }, { ro := 0x3FFFF }], capture := true },
    { base := 0xC00050, dws := [{ ro := 0x3FFFF }, { ro := 0x3FFFF }], capture := true } ]

/-- Rows of block FLS, part 1. -/
def rowsFLS1 : List RegRow :=
  [ { base := 0xC00060, dws := [{ ro := 0x3FFFF }, { ro := 0x3FFFF }], capture := true },
    { base := 0xC00084, dws := [{ ro := 0x3FFFF }, { ro := 0x3FFFF }], capture := true },
    { base := 0xC00090, dws := [{ ro := 0x3FFFF }, { ro := 0x3FFFF }], capture := true },
    { base := 0xC00058, dws := [{ ro := 0x3FF }] },
    { base := 0xC00070, dws := [{ rw := 0x3FFFF, reset := 0x2800 }] },
    { base := 0xC00074, dws := [{ rw := 0x3FFFF, reset := 0x2D00 }] },
    { base := 0xC00078, dws := [{ ro := 0x3FFFF }] },
    { base := 0xC00080, dws := [{ w1c := 0x20000, ro := 0x1FF }] } ]

/-- Every row of block FLS (R568). -/
def rowsFLS : List RegRow :=
  rowsFLS0 ++ rowsFLS1
/-! ## Block MOT -/
/-- Offset of MOT_STATUS. -/
def MOT_STATUS : Nat := 0xD00000
/-- Offset of MOT_CFG. -/
def MOT_CFG : Nat := 0xD00004
/-- Offset of MOT_VMAX. -/
def MOT_VMAX : Nat := 0xD00008
/-- Offset of MOT_VMIN. -/
def MOT_VMIN : Nat := 0xD0000C
/-- Offset of MOT_VMOVE. -/
def MOT_VMOVE : Nat := 0xD00010
/-- Offset of MOT_ACC. -/
def MOT_ACC : Nat := 0xD00014
/-- Offset of MOT_JERK. -/
def MOT_JERK : Nat := 0xD0001C
/-- Offset of MOT_STOP_ACC. -/
def MOT_STOP_ACC : Nat := 0xD00024
/-- Offset of MOT_STOP_JERK. -/
def MOT_STOP_JERK : Nat := 0xD0002C
/-- Offset of MOT_MARGIN. -/
def MOT_MARGIN : Nat := 0xD00034
/-- Offset of MOT_SETTLE. -/
def MOT_SETTLE : Nat := 0xD0003C
/-- Offset of MOT_GOV_DB_LOW. -/
def MOT_GOV_DB_LOW : Nat := 0xD00040
/-- Offset of MOT_GOV_DB_HIGH. -/
def MOT_GOV_DB_HIGH : Nat := 0xD00048
/-- Offset of MOT_GOV_CL_LOW. -/
def MOT_GOV_CL_LOW : Nat := 0xD00050
/-- Offset of MOT_GOV_CL_HIGH. -/
def MOT_GOV_CL_HIGH : Nat := 0xD00054
/-- Offset of MOT_GOV_TFLOOR. -/
def MOT_GOV_TFLOOR : Nat := 0xD00058
/-- Offset of MOT_GOV_FACTOR. -/
def MOT_GOV_FACTOR : Nat := 0xD0005C
/-- Offset of MOT_GOV_MESH. -/
def MOT_GOV_MESH : Nat := 0xD00060
/-- Offset of MOT_GOV_VTGT. -/
def MOT_GOV_VTGT : Nat := 0xD00064
/-- Offset of MOT_V_TOP. -/
def MOT_V_TOP : Nat := 0xD00068
/-- Offset of MOT_SP. -/
def MOT_SP : Nat := 0xD00070
/-- Offset of MOT_END_X. -/
def MOT_END_X : Nat := 0xD000A0
/-- Offset of MOT_BACKUP_X. -/
def MOT_BACKUP_X : Nat := 0xD000A8
/-- Offset of MOT_REST_X. -/
def MOT_REST_X : Nat := 0xD000B0
/-- Offset of MOT_LAYER. -/
def MOT_LAYER : Nat := 0xD000C0
/-- Offset of MOT_COMMIT. -/
def MOT_COMMIT : Nat := 0xD000D0
/-- Offset of MOT_COMMIT_STATUS. -/
def MOT_COMMIT_STATUS : Nat := 0xD000D4
/-- Offset of MOT_LAX_CTRL, element i. -/
def MOT_LAX_CTRL (i : Nat) : Nat := 0xD00100 + 0x40 * i
/-- Offset of MOT_LAX_CUR, element i. -/
def MOT_LAX_CUR (i : Nat) : Nat := 0xD00104 + 0x40 * i
/-- Offset of MOT_LAX_VMAX, element i. -/
def MOT_LAX_VMAX (i : Nat) : Nat := 0xD00108 + 0x40 * i
/-- Offset of MOT_LAX_ACC, element i. -/
def MOT_LAX_ACC (i : Nat) : Nat := 0xD0010C + 0x40 * i
/-- Offset of MOT_LAX_PITCH, element i. -/
def MOT_LAX_PITCH (i : Nat) : Nat := 0xD00110 + 0x40 * i
/-- Offset of MOT_LAX_CMD, element i. -/
def MOT_LAX_CMD (i : Nat) : Nat := 0xD00118 + 0x40 * i
/-- Offset of MOT_LAX_TARGET, element i. -/
def MOT_LAX_TARGET (i : Nat) : Nat := 0xD00120 + 0x40 * i
/-- Offset of MOT_LAX_GOTO, element i. -/
def MOT_LAX_GOTO (i : Nat) : Nat := 0xD00128 + 0x40 * i
/-- Offset of MOT_SINE, element i. -/
def MOT_SINE (i : Nat) : Nat := 0xD01000 + 0x4 * i
/-- Offset of MOT_SINE_ACT, element i. -/
def MOT_SINE_ACT (i : Nat) : Nat := 0xD01400 + 0x4 * i

/-- Rows of block MOT, part 0. -/
def rowsMOT0 : List RegRow :=
  [ { base := 0xD00000, dws := [{ ro := 0x3FF00 }] },
    { base := 0xD00004, dws := [{ rw := 0x3FC00, reset := 0xA000 }], guard := .ready, cls := .job },
    { base := 0xD00008, dws := [{ rw := 0x3FFFF, reset := 0x8000 }] },
    { base := 0xD0000C, dws := [{ rw := 0x3FFFF, reset := 0x800 }] },
    { base := 0xD00010, dws := [{ rw := 0x3FFFF, reset := 0x8000 }] },
    { base := 0xD00014, dws := [{ rw := 0x3FFFF }, { rw := 0x3FFFF }], capture := true, hold := true },
    { base := 0xD0001C, dws := [{ rw := 0x3FFFF }, { rw := 0x3FFFF }], capture := true, hold := true },
    { base := 0xD00024, dws := [{ rw := 0x3FFFF }, { rw := 0x3FFFF }], capture := true, hold := true },
    { base := 0xD0002C, dws := [{ rw := 0x3FFFF }, { rw := 0x3FFFF }], capture := true, hold := true },
    { base := 0xD00034, dws := [{ rw := 0x3FFFF }, { rw := 0x3FFFF }], guard := .ready, cls := .job, capture := true, hold := true },
    { base := 0xD0003C, dws := [{ rw := 0xFFFF, reset := 0x3E8 }] },
    { base := 0xD00040, dws := [{ rw := 0x3FFFF, reset := 0x10000 }, { rw := 0x3FFFF }], capture := true, hold := true } ]

/-- Rows of block MOT, part 1. -/
def rowsMOT1 : List RegRow :=
  [ { base := 0xD00048, dws := [{ rw := 0x3FFFF }, { rw := 0x3FFFF, reset := 0x1 }], capture := true, hold := true },
    { base := 0xD00050, dws := [{ rw := 0x3FFFF, reset := 0x400 }] },
    { base := 0xD00054, dws := [{ rw := 0x3FFFF, reset := 0x800 }] },
    { base := 0xD00058, dws := [{ rw := 0x1FFFF, reset := 0x4000 }] },
    { base := 0xD0005C, dws := [{ ro := 0x1FFFF }] },
    { base := 0xD00060, dws := [{ ro := 0x1FFFF, reset := 0x10000 }] },
    { base := 0xD00064, dws := [{ ro := 0x3FFFF }] },
    { base := 0xD00068, dws := [{ ro := 0x3FFFF }] },
    { base := 0xD00070, dws := [{ ro := 0x3FFFF }, { ro := 0x3FFFF }, { ro := 0x3FFFF }, { ro := 0x3FFFF }, { ro := 0x3FFFF }, { ro := 0x3FFFF }, { ro := 0x3FFFF }, { ro := 0x3FFFF }], capture := true },
    { base := 0xD000A0, dws := [{ ro := 0x3FFFF }, { ro := 0x3FFFF }], capture := true },
    { base := 0xD000A8, dws := [{ ro := 0x3FFFF }, { ro := 0x3FFFF }], capture := true },
    { base := 0xD000B0, dws := [{ ro := 0x3FFFF }, { ro := 0x3FFFF }], capture := true } ]

/-- Rows of block MOT, part 2. -/
def rowsMOT2 : List RegRow :=
  [ { base := 0xD000C0, dws := [{ wo := 0x20000, ro := 0x10000 }] },
    { base := 0xD000D0, dws := [{ wo := 0x1 }] },
    { base := 0xD000D4, dws := [{ w1c := 0x6, ro := 0x1 }] },
    { base := 0xD00100, dws := [{ rw := 0x3FF00, reset := 0x11000 }], count := 2, stride := 0x40 },
    { base := 0xD00104, dws := [{ rw := 0x3FFFF }], count := 2, stride := 0x40 },
    { base := 0xD00108, dws := [{ rw := 0x3FFFF, reset := 0x4000 }], count := 2, stride := 0x40 },
    { base := 0xD0010C, dws := [{ rw := 0x3FFFF, reset := 0x4000 }], count := 2, stride := 0x40 },
    { base := 0xD00110, dws := [{ rw := 0x3FFFF }, { rw := 0x3FFFF }], count := 2, stride := 0x40, capture := true, hold := true },
    { base := 0xD00118, dws := [{ ro := 0x3FFFF }, { ro := 0x3FFFF }], count := 2, stride := 0x40, capture := true },
    { base := 0xD00120, dws := [{ ro := 0x3FFFF }, { ro := 0x3FFFF }], count := 2, stride := 0x40, capture := true },
    { base := 0xD00128, dws := [{ wo := 0x3FFFF }, { wo := 0x3FFFF }], count := 2, stride := 0x40, hold := true },
    { base := 0xD01000, dws := [{ sh := 0x1FFFF }], count := 256, stride := 0x4, cls := .stripe } ]

/-- Rows of block MOT, part 3. -/
def rowsMOT3 : List RegRow :=
  [ { base := 0xD01400, dws := [{ ro := 0x1FFFF }], count := 256, stride := 0x4 } ]

/-- Every row of block MOT (R568). -/
def rowsMOT : List RegRow :=
  rowsMOT0 ++ rowsMOT1 ++ rowsMOT2 ++ rowsMOT3
/-! ## Block MEM -/
/-- Offset of MEM_STATUS. -/
def MEM_STATUS : Nat := 0xE00000
/-- Offset of MEM_CFG. -/
def MEM_CFG : Nat := 0xE00004
/-- Offset of MEM_SR_IDLE. -/
def MEM_SR_IDLE : Nat := 0xE00008
/-- Offset of MEM_SCRUB. -/
def MEM_SCRUB : Nat := 0xE0000C
/-- Offset of MEM_RETUNE. -/
def MEM_RETUNE : Nat := 0xE00010
/-- Offset of MEM_FILL_FRONT. -/
def MEM_FILL_FRONT : Nat := 0xE00020
/-- Offset of MEM_SCRUB_FRONT. -/
def MEM_SCRUB_FRONT : Nat := 0xE00028
/-- Offset of MEM_UE_LINE. -/
def MEM_UE_LINE : Nat := 0xE00044
/-- Offset of MEM_CANDIDATE. -/
def MEM_CANDIDATE : Nat := 0xE00050
/-- Offset of MEM_SCRUB_PASSES. -/
def MEM_SCRUB_PASSES : Nat := 0xE00030
/-- Offset of MEM_CE_COUNT. -/
def MEM_CE_COUNT : Nat := 0xE00034
/-- Offset of MEM_UE_COUNT. -/
def MEM_UE_COUNT : Nat := 0xE00038
/-- Offset of MEM_UE_INFO. -/
def MEM_UE_INFO : Nat := 0xE00040
/-- Offset of MEM_LOG_STATUS. -/
def MEM_LOG_STATUS : Nat := 0xE00060
/-- Offset of MEM_LOG_OVERFLOW. -/
def MEM_LOG_OVERFLOW : Nat := 0xE00064
/-- Offset of MEM_LOG, element i. -/
def MEM_LOG (i : Nat) : Nat := 0xE00800 + 0x10 * i
/-- Offset of MEM_CH_STATE, element i. -/
def MEM_CH_STATE (i : Nat) : Nat := 0xE00100 + 0x40 * i
/-- Offset of MEM_CH_RETUNE_COUNT, element i. -/
def MEM_CH_RETUNE_COUNT (i : Nat) : Nat := 0xE00104 + 0x40 * i
/-- Offset of MEM_CH_RETUNE_TOD, element i. -/
def MEM_CH_RETUNE_TOD (i : Nat) : Nat := 0xE00108 + 0x40 * i
/-- Offset of MEM_CH_RETUNE_TEMP, element i. -/
def MEM_CH_RETUNE_TEMP (i : Nat) : Nat := 0xE0011C + 0x40 * i
/-- Offset of MEM_CH_HARD, element i. -/
def MEM_CH_HARD (i : Nat) : Nat := 0xE00120 + 0x40 * i
/-- Offset of MEM_DEV_CE, element i. -/
def MEM_DEV_CE (i : Nat) : Nat := 0xE00200 + 0x4 * i
/-- Offset of MEM_CH_REMAP, element i. -/
def MEM_CH_REMAP (i : Nat) : Nat := 0xE01000 + 0x8 * i
/-- Offset of MEM_RETIRE, element i. -/
def MEM_RETIRE (i : Nat) : Nat := 0xE02000 + 0x8 * i

/-- Rows of block MEM, part 0. -/
def rowsMEM0 : List RegRow :=
  [ { base := 0xE00000, dws := [{ w1c := 0x2, ro := 0x3FFFC }] },
    { base := 0xE00004, dws := [{ rw := 0x3FFFC, reset := 0x10080 }] },
    { base := 0xE00008, dws := [{ rw := 0xFFFF, reset := 0x3E8 }] },
    { base := 0xE0000C, dws := [{ rw := 0xFF, reset := 0x18 }] },
    { base := 0xE00010, dws := [{ rw := 0x3FFF0, reset := 0x19050 }] },
    { base := 0xE00020, dws := [{ ro := 0x3FFFF }, { ro := 0x3FFFF }], capture := true },
    { base := 0xE00028, dws := [{ ro := 0x3FFFF }, { ro := 0x3FFFF }], capture := true },
    { base := 0xE00044, dws := [{ ro := 0x3FFFF }, { ro := 0x3FFFF }], capture := true },
    { base := 0xE00050, dws := [{ ro := 0x3FFFF }, { ro := 0x3FFFF }], capture := true },
    { base := 0xE00030, dws := [{ ro := 0x3FFFF }] },
    { base := 0xE00034, dws := [{ rc := 0x3FFFF }] },
    { base := 0xE00038, dws := [{ rc := 0x3FFFF }] } ]

/-- Rows of block MEM, part 1. -/
def rowsMEM1 : List RegRow :=
  [ { base := 0xE00040, dws := [{ w1c := 0x20000, ro := 0x1FC00 }] },
    { base := 0xE00060, dws := [{ wo := 0x20000, ro := 0x1FF }] },
    { base := 0xE00064, dws := [{ rc := 0x3FFFF }] },
    { base := 0xE00800, dws := [{ ro := 0x3FFF0 }, { ro := 0x3FFFF }, { ro := 0x3FFFF }], count := 16, stride := 0x10, capture := true },
    { base := 0xE00100, dws := [{ ro := 0x3FFFF, reset := 0xF800 }], count := 4, stride := 0x40 },
    { base := 0xE00104, dws := [{ ro := 0x3FFFF }], count := 4, stride := 0x40 },
    { base := 0xE00108, dws := [{ ro := 0x3FFFF }, { ro := 0x3FFFF }, { ro := 0x3FFFF }, { ro := 0x3FFFF }, { ro := 0x3FFF }], count := 4, stride := 0x40, capture := true },
    { base := 0xE0011C, dws := [{ ro := 0x3FFFF }], count := 4, stride := 0x40 },
    { base := 0xE00120, dws := [{ rc := 0x3FFFF }], count := 4, stride := 0x40 },
    { base := 0xE00200, dws := [{ rc := 0x3FFFF }], count := 84, stride := 0x4 },
    { base := 0xE01000, dws := [{ ro := 0x3FFFF }, { ro := 0x31FFF }], count := 128, stride := 0x8, capture := true },
    { base := 0xE02000, dws := [{ rws := 0x3FFFF }, { rws := 0x20007 }], count := 256, stride := 0x8, guard := .ready, capture := true, hold := true } ]

/-- Every row of block MEM (R568). -/
def rowsMEM : List RegRow :=
  rowsMEM0 ++ rowsMEM1
/-! ## Block DMA -/
/-- Offset of DMA_BUSY. -/
def DMA_BUSY : Nat := 0xF00000
/-- Offset of DMA_HALTED. -/
def DMA_HALTED : Nat := 0xF00008
/-- Offset of DMA_FLAGS. -/
def DMA_FLAGS : Nat := 0xF00010
/-- Offset of DMA_FLAG_SET. -/
def DMA_FLAG_SET : Nat := 0xF00014
/-- Offset of DMA_CH_CTRL, element i. -/
def DMA_CH_CTRL (i : Nat) : Nat := 0xF00100 + 0x40 * i
/-- Offset of DMA_CH_STATE, element i. -/
def DMA_CH_STATE (i : Nat) : Nat := 0xF00104 + 0x40 * i
/-- Offset of DMA_CH_PC, element i. -/
def DMA_CH_PC (i : Nat) : Nat := 0xF00108 + 0x40 * i
/-- Offset of DMA_CH_FAULT_ADDR, element i. -/
def DMA_CH_FAULT_ADDR (i : Nat) : Nat := 0xF00114 + 0x40 * i
/-- Offset of DMA_CH_MOVED, element i. -/
def DMA_CH_MOVED (i : Nat) : Nat := 0xF00120 + 0x40 * i

/-- Rows of block DMA, part 0. -/
def rowsDMA0 : List RegRow :=
  [ { base := 0xF00000, dws := [{ ro := 0x3FFFF }, { ro := 0x3FFF }] },
    { base := 0xF00008, dws := [{ ro := 0x3FFFF }, { ro := 0x3FFF }] },
    { base := 0xF00010, dws := [{ w1c := 0xFFFF }] },
    { base := 0xF00014, dws := [{ wo := 0xFFFF }] },
    { base := 0xF00100, dws := [{ rw := 0x1C00, wo := 0x3E000 }], count := 32, stride := 0x40 },
    { base := 0xF00104, dws := [{ ro := 0x3FC00 }], count := 32, stride := 0x40 },
    { base := 0xF00108, dws := [{ rw := 0x3FFFF }, { rw := 0x3FFFF }, { rw := 0x3FFFF }], count := 32, stride := 0x40, capture := true, hold := true },
    { base := 0xF00114, dws := [{ ro := 0x3FFFF }, { ro := 0x3FFFF }, { ro := 0x3FFFF }], count := 32, stride := 0x40, capture := true },
    { base := 0xF00120, dws := [{ ro := 0x3FFFF }, { ro := 0x3FFFF }], count := 32, stride := 0x40, capture := true } ]

/-- Every row of block DMA (R568). -/
def rowsDMA : List RegRow :=
  rowsDMA0
/-! ## Block CHK -/
/-- Offset of CHK_U_CTRL, element i. -/
def CHK_U_CTRL (i : Nat) : Nat := 0x1000100 + 0x80 * i
/-- Offset of CHK_U_STATE, element i. -/
def CHK_U_STATE (i : Nat) : Nat := 0x1000104 + 0x80 * i
/-- Offset of CHK_U_START, element i. -/
def CHK_U_START (i : Nat) : Nat := 0x1000108 + 0x80 * i
/-- Offset of CHK_U_LENGTH, element i. -/
def CHK_U_LENGTH (i : Nat) : Nat := 0x1000110 + 0x80 * i
/-- Offset of CHK_U_SEQ, element i. -/
def CHK_U_SEQ (i : Nat) : Nat := 0x1000118 + 0x80 * i
/-- Offset of CHK_U_PFX0, element i. -/
def CHK_U_PFX0 (i : Nat) : Nat := 0x100011C + 0x80 * i
/-- Offset of CHK_U_RESULT, element i. -/
def CHK_U_RESULT (i : Nat) : Nat := 0x1000120 + 0x80 * i
/-- Offset of CHK_U_EXPECT, element i. -/
def CHK_U_EXPECT (i : Nat) : Nat := 0x1000130 + 0x80 * i
/-- Offset of CHK_U_PROGRESS, element i. -/
def CHK_U_PROGRESS (i : Nat) : Nat := 0x1000140 + 0x80 * i
/-- Offset of CHK_U_FAIL_ADDR, element i. -/
def CHK_U_FAIL_ADDR (i : Nat) : Nat := 0x1000148 + 0x80 * i

/-- Rows of block CHK, part 0. -/
def rowsCHK0 : List RegRow :=
  [ { base := 0x1000100, dws := [{ rw := 0xFF00, wo := 0x30000 }], count := 4, stride := 0x80 },
    { base := 0x1000104, dws := [{ w1c := 0x6000, ro := 0x39FC0 }], count := 4, stride := 0x80 },
    { base := 0x1000108, dws := [{ rw := 0x3FFFF }, { rw := 0x3FFFF }], count := 4, stride := 0x80, capture := true, hold := true },
    { base := 0x1000110, dws := [{ rw := 0x3FFFF }, { rw := 0x3FFFF }], count := 4, stride := 0x80, capture := true, hold := true },
    { base := 0x1000118, dws := [{ rw := 0x3FFFF }], count := 4, stride := 0x80 },
    { base := 0x100011C, dws := [{ rw := 0x3FFFF }], count := 4, stride := 0x80 },
    { base := 0x1000120, dws := [{ ro := 0x3FFFF }, { ro := 0x3FFFF }, { ro := 0x3FFFF }, { ro := 0x3FF }], count := 4, stride := 0x80, capture := true },
    { base := 0x1000130, dws := [{ rw := 0x3FFFF }, { rw := 0x3FFFF }, { rw := 0x3FFFF }, { rw := 0x3FF }], count := 4, stride := 0x80, capture := true, hold := true },
    { base := 0x1000140, dws := [{ ro := 0x3FFFF }, { ro := 0x3FFFF }], count := 4, stride := 0x80, capture := true },
    { base := 0x1000148, dws := [{ ro := 0x3FFFF }, { ro := 0x3FFFF }], count := 4, stride := 0x80, capture := true } ]

/-- Every row of block CHK (R568). -/
def rowsCHK : List RegRow :=
  rowsCHK0
/-! ## Block ETH -/
/-- Offset of ETH_STATUS. -/
def ETH_STATUS : Nat := 0x1100000
/-- Offset of ETH_CFG. -/
def ETH_CFG : Nat := 0x1100004
/-- Offset of ETH_NDF_TMO. -/
def ETH_NDF_TMO : Nat := 0x1100008
/-- Offset of ETH_NDF_PORT. -/
def ETH_NDF_PORT : Nat := 0x110000C
/-- Offset of ETH_NDF_REQS. -/
def ETH_NDF_REQS : Nat := 0x1100040
/-- Offset of ETH_NDF_NAKS. -/
def ETH_NDF_NAKS : Nat := 0x1100044
/-- Offset of ETH_NDF_DUP. -/
def ETH_NDF_DUP : Nat := 0x1100048
/-- Offset of ETH_NDF_STRAY. -/
def ETH_NDF_STRAY : Nat := 0x110004C
/-- Offset of ETH_NDF_BAD. -/
def ETH_NDF_BAD : Nat := 0x1100050
/-- Offset of ETH_NDF_ABANDON. -/
def ETH_NDF_ABANDON : Nat := 0x1100054
/-- Offset of ETH_P_CTRL, element i. -/
def ETH_P_CTRL (i : Nat) : Nat := 0x1100100 + 0x80 * i
/-- Offset of ETH_P_MAC, element i. -/
def ETH_P_MAC (i : Nat) : Nat := 0x1100104 + 0x80 * i
/-- Offset of ETH_P_IPV4, element i. -/
def ETH_P_IPV4 (i : Nat) : Nat := 0x1100110 + 0x80 * i
/-- Offset of ETH_P_IPV6, element i. -/
def ETH_P_IPV6 (i : Nat) : Nat := 0x1100120 + 0x80 * i
/-- Offset of ETH_P_TX_LAT, element i. -/
def ETH_P_TX_LAT (i : Nat) : Nat := 0x1100140 + 0x80 * i
/-- Offset of ETH_P_RX_LAT, element i. -/
def ETH_P_RX_LAT (i : Nat) : Nat := 0x1100144 + 0x80 * i
/-- Offset of ETH_P_TX_ADJ, element i. -/
def ETH_P_TX_ADJ (i : Nat) : Nat := 0x1100148 + 0x80 * i
/-- Offset of ETH_P_RX_ADJ, element i. -/
def ETH_P_RX_ADJ (i : Nat) : Nat := 0x110014C + 0x80 * i
/-- Offset of ETH_P_FCS_ERR, element i. -/
def ETH_P_FCS_ERR (i : Nat) : Nat := 0x1100150 + 0x80 * i
/-- Offset of ETH_P_DISCARD, element i. -/
def ETH_P_DISCARD (i : Nat) : Nat := 0x1100154 + 0x80 * i
/-- Offset of ETH_P_FEC_CORR, element i. -/
def ETH_P_FEC_CORR (i : Nat) : Nat := 0x1100158 + 0x80 * i
/-- Offset of ETH_P_FEC_UNCORR, element i. -/
def ETH_P_FEC_UNCORR (i : Nat) : Nat := 0x110015C + 0x80 * i
/-- Offset of ETH_SRV_CTRL, element i. -/
def ETH_SRV_CTRL (i : Nat) : Nat := 0x1100400 + 0x40 * i
/-- Offset of ETH_SRV_ADDR, element i. -/
def ETH_SRV_ADDR (i : Nat) : Nat := 0x1100404 + 0x40 * i
/-- Offset of ETH_SRV_UDP, element i. -/
def ETH_SRV_UDP (i : Nat) : Nat := 0x1100424 + 0x40 * i

/-- Rows of block ETH, part 0. -/
def rowsETH0 : List RegRow :=
  [ { base := 0x1100000, dws := [{ ro := 0x3FF80 }] },
    { base := 0x1100004, dws := [{ rw := 0x3FF80, reset := 0x9400 }] },
    { base := 0x1100008, dws := [{ rw := 0x3FFFF, reset := 0x19032 }] },
    { base := 0x110000C, dws := [{ rws := 0xFFFF, reset := 0x4400 }], guard := .ready },
    { base := 0x1100040, dws := [{ rc := 0x3FFFF }] },
    { base := 0x1100044, dws := [{ rc := 0x3FFFF }] },
    { base := 0x1100048, dws := [{ rc := 0x3FFFF }] },
    { base := 0x110004C, dws := [{ rc := 0x3FFFF }] },
    { base := 0x1100050, dws := [{ rc := 0x3FFFF }] },
    { base := 0x1100054, dws := [{ rc := 0x3FFFF }] },
    { base := 0x1100100, dws := [{ rw := 0x30000, reset := 0x20000 }], count := 2, stride := 0x80, guard := .ready },
    { base := 0x1100104, dws := [{ rws := 0xFFFF }, { rws := 0xFFFF }, { rws := 0xFFFF }], count := 2, stride := 0x80, guard := .ready, capture := true, hold := true } ]

/-- Rows of block ETH, part 1. -/
def rowsETH1 : List RegRow :=
  [ { base := 0x1100110, dws := [{ rws := 0xFFFF }, { rws := 0xFFFF }], count := 2, stride := 0x80, guard := .ready, capture := true, hold := true },
    { base := 0x1100120, dws := [{ rws := 0xFFFF }, { rws := 0xFFFF }, { rws := 0xFFFF }, { rws := 0xFFFF }, { rws := 0xFFFF }, { rws := 0xFFFF }, { rws := 0xFFFF }, { rws := 0xFFFF }], count := 2, stride := 0x80, guard := .ready, capture := true, hold := true },
    { base := 0x1100140, dws := [{ ro := 0x3FFFF, reset := 0x260 }], count := 2, stride := 0x80 },
    { base := 0x1100144, dws := [{ ro := 0x3FFFF, reset := 0x5C0 }], count := 2, stride := 0x80 },
    { base := 0x1100148, dws := [{ rw := 0x3FFFF }], count := 2, stride := 0x80 },
    { base := 0x110014C, dws := [{ rw := 0x3FFFF }], count := 2, stride := 0x80 },
    { base := 0x1100150, dws := [{ rc := 0x3FFFF }], count := 2, stride := 0x80 },
    { base := 0x1100154, dws := [{ rc := 0x3FFFF }], count := 2, stride := 0x80 },
    { base := 0x1100158, dws := [{ rc := 0x3FFFF }], count := 2, stride := 0x80 },
    { base := 0x110015C, dws := [{ rc := 0x3FFFF }], count := 2, stride := 0x80 },
    { base := 0x1100400, dws := [{ rw := 0x3C000 }], count := 8, stride := 0x40 },
    { base := 0x1100404, dws := [{ rw := 0xFFFF }, { rw := 0xFFFF }, { rw := 0xFFFF }, { rw := 0xFFFF }, { rw := 0xFFFF }, { rw := 0xFFFF }, { rw := 0xFFFF }, { rw := 0xFFFF }], count := 8, stride := 0x40, capture := true, hold := true } ]

/-- Rows of block ETH, part 2. -/
def rowsETH2 : List RegRow :=
  [ { base := 0x1100424, dws := [{ rw := 0xFFFF }], count := 8, stride := 0x40 } ]

/-- Every row of block ETH (R568). -/
def rowsETH : List RegRow :=
  rowsETH0 ++ rowsETH1 ++ rowsETH2
/-! ## Block PTP -/
/-- Offset of PTP_STATUS. -/
def PTP_STATUS : Nat := 0x1200000
/-- Offset of PTP_CFG. -/
def PTP_CFG : Nat := 0x1200004
/-- Offset of PTP_STEP_LIMIT. -/
def PTP_STEP_LIMIT : Nat := 0x1200008
/-- Offset of PTP_LOCK_THR. -/
def PTP_LOCK_THR : Nat := 0x120000C
/-- Offset of PTP_HOLD_TMO. -/
def PTP_HOLD_TMO : Nat := 0x1200010
/-- Offset of PTP_CTRL. -/
def PTP_CTRL : Nat := 0x1200014
/-- Offset of PTP_TOD. -/
def PTP_TOD : Nat := 0x1200020
/-- Offset of PTP_SET. -/
def PTP_SET : Nat := 0x1200040
/-- Offset of PTP_OFFSET. -/
def PTP_OFFSET : Nat := 0x1200060
/-- Offset of PTP_RATE. -/
def PTP_RATE : Nat := 0x1200068
/-- Offset of PTP_PATH. -/
def PTP_PATH : Nat := 0x120006C
/-- Offset of PTP_GM_ID. -/
def PTP_GM_ID : Nat := 0x1200070
/-- Offset of PTP_HOLD_TIME. -/
def PTP_HOLD_TIME : Nat := 0x1200080
/-- Offset of PTP_STEPS. -/
def PTP_STEPS : Nat := 0x1200084

/-- Rows of block PTP, part 0. -/
def rowsPTP0 : List RegRow :=
  [ { base := 0x1200000, dws := [{ ro := 0x3FC00 }] },
    { base := 0x1200004, dws := [{ rw := 0x3FFF0 }] },
    { base := 0x1200008, dws := [{ rw := 0x3FFFF, reset := 0x3E8 }] },
    { base := 0x120000C, dws := [{ rw := 0xFFFF, reset := 0x64 }] },
    { base := 0x1200010, dws := [{ rw := 0xFFFF, reset := 0x3E8 }] },
    { base := 0x1200014, dws := [{ wo := 0x30000 }] },
    { base := 0x1200020, dws := [{ ro := 0x3FFFF }, { ro := 0x3FFFF }, { ro := 0xFFF }, { ro := 0x3FFFF }, { ro := 0x3FFF }, { ro := 0x3FFFF }, { ro := 0x3FFFF }], capture := true },
    { base := 0x1200040, dws := [{ rw := 0x3FFFF }, { rw := 0x3FFFF }, { rw := 0xFFF }], capture := true, hold := true },
    { base := 0x120004C, dws := [{ rw := 0x3FFFF }, { rw := 0x3FFF }], capture := true, hold := true },
    { base := 0x1200060, dws := [{ ro := 0x3FFFF }, { ro := 0x3FFFF }], capture := true },
    { base := 0x1200068, dws := [{ ro := 0x3FFFF }] },
    { base := 0x120006C, dws := [{ ro := 0x3FFFF }] },
    { base := 0x1200070, dws := [{ ro := 0xFFFF }, { ro := 0xFFFF }, { ro := 0xFFFF }, { ro := 0xFFFF }], capture := true } ]

/-- Rows of block PTP, part 1. -/
def rowsPTP1 : List RegRow :=
  [ { base := 0x1200080, dws := [{ ro := 0x3FFFF }] },
    { base := 0x1200084, dws := [{ rc := 0x3FFFF }] } ]

/-- Every row of block PTP (R568). -/
def rowsPTP : List RegRow :=
  rowsPTP0 ++ rowsPTP1
/-! ## Block MSH -/
/-- Offset of MSH_STATUS. -/
def MSH_STATUS : Nat := 0x1300000
/-- Offset of MSH_CFG. -/
def MSH_CFG : Nat := 0x1300004
/-- Offset of MSH_COLUMN. -/
def MSH_COLUMN : Nat := 0x1300008
/-- Offset of MSH_DIGEST. -/
def MSH_DIGEST : Nat := 0x130000C
/-- Offset of MSH_STOP_S. -/
def MSH_STOP_S : Nat := 0x1300024
/-- Offset of MSH_STOP_INFO. -/
def MSH_STOP_INFO : Nat := 0x1300020
/-- Offset of MSH_REFUSE_INFO. -/
def MSH_REFUSE_INFO : Nat := 0x1300030
/-- Offset of MSH_PORT_STATE, element i. -/
def MSH_PORT_STATE (i : Nat) : Nat := 0x1300100 + 0x20 * i
/-- Offset of MSH_PORT_CTRL, element i. -/
def MSH_PORT_CTRL (i : Nat) : Nat := 0x1300104 + 0x20 * i
/-- Offset of MSH_PORT_BLOCK_ERR, element i. -/
def MSH_PORT_BLOCK_ERR (i : Nat) : Nat := 0x1300108 + 0x20 * i
/-- Offset of MSH_FWD_MASK, element i. -/
def MSH_FWD_MASK (i : Nat) : Nat := 0x1300200 + 0x4 * i
/-- Offset of MSH_FWD_MASK14. -/
def MSH_FWD_MASK14 : Nat := 0x1300238
/-- Offset of MSH_FWD_POP. -/
def MSH_FWD_POP : Nat := 0x1300280
/-- Offset of MSH_FWD_LOST. -/
def MSH_FWD_LOST : Nat := 0x1300284
/-- Offset of MSH_COL_STATE, element i. -/
def MSH_COL_STATE (i : Nat) : Nat := 0x1300400 + 0x10 * i
/-- Offset of MSH_COL_FACTOR, element i. -/
def MSH_COL_FACTOR (i : Nat) : Nat := 0x1300404 + 0x10 * i
/-- Offset of MSH_COL_STITCH, element i. -/
def MSH_COL_STITCH (i : Nat) : Nat := 0x1300408 + 0x10 * i

/-- Rows of block MSH, part 0. -/
def rowsMSH0 : List RegRow :=
  [ { base := 0x1300000, dws := [{ ro := 0x3F800 }] },
    { base := 0x1300004, dws := [{ rw := 0x3FFE0, reset := 0x300 }], guard := .ready, cls := .job },
    { base := 0x1300008, dws := [{ rwl := 0xF, ro := 0x1F0 }] },
    { base := 0x130000C, dws := [{ ro := 0x3FFFF }, { ro := 0x3FFF }], capture := true },
    { base := 0x1300024, dws := [{ ro := 0x3FFFF }, { ro := 0x3FFFF }], capture := true },
    { base := 0x1300020, dws := [{ w1c := 0x20000, ro := 0x1F000 }] },
    { base := 0x1300030, dws := [{ w1c := 0x20000, ro := 0x1FF00 }] },
    { base := 0x1300100, dws := [{ ro := 0x3FFC0 }], count := 4, stride := 0x20 },
    { base := 0x1300104, dws := [{ wo := 0x20000 }], count := 4, stride := 0x20 },
    { base := 0x1300108, dws := [{ rc := 0x3FFFF }], count := 4, stride := 0x20 },
    { base := 0x1300200, dws := [{ rw := 0x3FFFF }], count := 14, stride := 0x4 },
    { base := 0x1300238, dws := [{ rw := 0xF }] } ]

/-- Rows of block MSH, part 1. -/
def rowsMSH1 : List RegRow :=
  [ { base := 0x1300280, dws := [{ rc := 0x2F0FF }] },
    { base := 0x1300284, dws := [{ rc := 0x3FFFF }] },
    { base := 0x1300400, dws := [{ ro := 0x3C000 }], count := 16, stride := 0x10 },
    { base := 0x1300404, dws := [{ ro := 0x1FFFF }], count := 16, stride := 0x10 },
    { base := 0x1300408, dws := [{ ro := 0x3FFFF }, { ro := 0x3FFFF }], count := 16, stride := 0x10, capture := true } ]

/-- Every row of block MSH (R568). -/
def rowsMSH : List RegRow :=
  rowsMSH0 ++ rowsMSH1
/-! ## Block PWR -/
/-- Offset of PWR_STATUS. -/
def PWR_STATUS : Nat := 0x1400000
/-- Offset of PWR_CFG. -/
def PWR_CFG : Nat := 0x1400004
/-- Offset of PWR_WAKE_EN. -/
def PWR_WAKE_EN : Nat := 0x1400008
/-- Offset of PWR_WAKE_CAUSE. -/
def PWR_WAKE_CAUSE : Nat := 0x140000C
/-- Offset of PWR_CTRL. -/
def PWR_CTRL : Nat := 0x1400010
/-- Offset of PWR_FROST_TIME. -/
def PWR_FROST_TIME : Nat := 0x1400014
/-- Offset of PWR_FROST_COUNT. -/
def PWR_FROST_COUNT : Nat := 0x140001C
/-- Offset of PWR_LATCH. -/
def PWR_LATCH : Nat := 0x1400020

/-- Rows of block PWR, part 0. -/
def rowsPWR0 : List RegRow :=
  [ { base := 0x1400000, dws := [{ ro := 0x3C000 }] },
    { base := 0x1400004, dws := [{ rw := 0x20000 }] },
    { base := 0x1400008, dws := [{ rw := 0xFF, reset := 0x10 }] },
    { base := 0x140000C, dws := [{ w1c := 0x3FF }] },
    { base := 0x1400010, dws := [{ wo := 0x20000 }] },
    { base := 0x1400014, dws := [{ ro := 0x3FFFF }, { ro := 0x3FFFF }], capture := true },
    { base := 0x140001C, dws := [{ ro := 0x3FFFF }] },
    { base := 0x1400020, dws := [{ ro := 0x7F }] } ]

/-- Every row of block PWR (R568). -/
def rowsPWR : List RegRow :=
  rowsPWR0
/-! ## Block PMC -/
/-- Offset of PMC_CTRL. -/
def PMC_CTRL : Nat := 0x1500000
/-- Offset of PMC_SNAP_TICK. -/
def PMC_SNAP_TICK : Nat := 0x1500004
/-- Offset of PMC_PSB_CTRL. -/
def PMC_PSB_CTRL : Nat := 0x1500010
/-- Offset of PMC_PSB_COUNT. -/
def PMC_PSB_COUNT : Nat := 0x1500014
/-- Offset of PMC_PSB_NEXT. -/
def PMC_PSB_NEXT : Nat := 0x1500018
/-- Offset of PMC_PSB_SKIP. -/
def PMC_PSB_SKIP : Nat := 0x150001C
/-- Offset of PMC_C_CFG, element (b, k). -/
def PMC_C_CFG (b k : Nat) : Nat := 0x1501000 + 0x100 * b + 0x20 * k
/-- Offset of PMC_C_COUNT, element (b, k). -/
def PMC_C_COUNT (b k : Nat) : Nat := 0x1501004 + 0x100 * b + 0x20 * k
/-- Offset of PMC_C_SNAP, element (b, k). -/
def PMC_C_SNAP (b k : Nat) : Nat := 0x150100C + 0x100 * b + 0x20 * k
/-- Offset of PMC_PSB, element i. -/
def PMC_PSB (i : Nat) : Nat := 0x1510000 + 0x20 * i

/-- Rows of block PMC, part 0. -/
def rowsPMC0 : List RegRow :=
  [ { base := 0x1500000, dws := [{ rw := 0x8000, wo := 0x30000 }] },
    { base := 0x1500004, dws := [{ ro := 0x3FFFF }, { ro := 0x3FFFF }], capture := true },
    { base := 0x1500010, dws := [{ rw := 0x3F800, wo := 0x200, ro := 0x400 }] },
    { base := 0x1500014, dws := [{ ro := 0x1FFF }] },
    { base := 0x1500018, dws := [{ ro := 0xFFF }] },
    { base := 0x150001C, dws := [{ rc := 0x3FFFF }] },
    { base := 0x1501000, dws := [{ rw := 0x380FF, w1c := 0x4000 }], count := 20, stride := 0x100, count2 := 8, stride2 := 0x20 },
    { base := 0x1501004, dws := [{ rw := 0x3FFFF }, { rw := 0x3FFFF }], count := 20, stride := 0x100, count2 := 8, stride2 := 0x20, capture := true, hold := true },
    { base := 0x150100C, dws := [{ ro := 0x3FFFF }, { ro := 0x3FFFF }], count := 20, stride := 0x100, count2 := 8, stride2 := 0x20, capture := true },
    { base := 0x1510000, dws := [{ ro := 0x3FFFF }, { ro := 0x3FFFF }, { ro := 0x7FFF }, { ro := 0x3F000 }, { ro := 0x3FFFF }, { ro := 0x3FFFF }], count := 4096, stride := 0x20, capture := true } ]

/-- Every row of block PMC (R568). -/
def rowsPMC : List RegRow :=
  rowsPMC0

/-- The rows of the 1 MiB block that holds an offset (R568). Space at or above 0x0160_0000 has none (R9). -/
def blockRows (off : Nat) : List RegRow :=
  match off / 0x100000 with
  | 0 => rowsSYS
  | 1 => rowsRST
  | 2 => rowsEVT
  | 3 => rowsULP
  | 4 => rowsSPR
  | 5 => rowsCSC
  | 6 => rowsBSN
  | 7 => rowsCST
  | 8 => rowsPOOL
  | 9 => rowsRIL
  | 10 => rowsLNE
  | 11 => rowsPOS
  | 12 => rowsFLS
  | 13 => rowsMOT
  | 14 => rowsMEM
  | 15 => rowsDMA
  | 16 => rowsCHK
  | 17 => rowsETH
  | 18 => rowsPTP
  | 19 => rowsMSH
  | 20 => rowsPWR
  | 21 => rowsPMC
  | _ => []

/-- Where an offset lies in the map: its row, its element number and the index of the dword. -/
structure RegLoc where
  row : RegRow
  elem : Nat
  dw : Nat
deriving DecidableEq, Repr

/-- The place of an offset in one row, if it lies there. -/
def RegRow.locate (r : RegRow) (off : Nat) : Option RegLoc :=
  if off < r.base then none else
  let x := off - r.base
  let i := if r.count == 1 then 0 else x / r.stride
  let y := x - i * (if r.count == 1 then 0 else r.stride)
  let k := if r.count2 == 1 then 0 else y / r.stride2
  let z := y - k * (if r.count2 == 1 then 0 else r.stride2)
  if decide (i < r.count) && decide (k < r.count2) && decide (z % 4 = 0) && decide (z / 4 < r.dws.length)
  then some { row := r, elem := i * r.count2 + k, dw := z / 4 } else none

/-- The register dword that an offset names, or none for an offset that the map does not list (R570). -/
def locate (off : Nat) : Option RegLoc := (blockRows off).findSome? (fun r => r.locate off)

/-- The access masks of a located dword. -/
def RegLoc.masks (l : RegLoc) : Dw := l.row.dws.getD l.dw {}

/-- Every bit of a dword that its register defines; the others are reserved and read 0 (R7). -/
def Dw.defined (m : Dw) : Nat := m.rw ||| m.rws ||| m.rwl ||| m.sh ||| m.w1c ||| m.rc ||| m.ro

/-- The level sources of R509. -/
def isLevelSource (s : Nat) : Bool :=
  (decide (11 ≤ s) && decide (s ≤ 15)) || s == 21 || s == 50 || s == 119 || s == 152

/-- Entries 0 to 31 of the reset sine table (R307). -/
def sineReset0 : List Nat :=
  [0, 804, 1608, 2413, 3217, 4021, 4824, 5628, 6431, 7234, 8037, 8840, 9642, 10444, 11246, 12047, 12847, 13647, 14447, 15246, 16044, 16842, 17640, 18436, 19232, 20027, 20822, 21615, 22408, 23200, 23991, 24781]
/-- Entries 32 to 63 of the reset sine table (R307). -/
def sineReset1 : List Nat :=
  [25571, 26359, 27146, 27933, 28718, 29502, 30285, 31067, 31848, 32627, 33405, 34183, 34958, 35733, 36506, 37278, 38048, 38817, 39584, 40350, 41115, 41877, 42639, 43398, 44156, 44913, 45668, 46421, 47172, 47921, 48669, 49415]
/-- Entries 64 to 95 of the reset sine table (R307). -/
def sineReset2 : List Nat :=
  [50159, 50901, 51641, 52379, 53115, 53850, 54582, 55312, 56040, 56766, 57490, 58212, 58931, 59648, 60363, 61076, 61786, 62495, 63200, 63904, 64605, 65303, 65999, 66693, 67384, 68073, 68758, 69442, 70123, 70801, 71476, 72149]
/-- Entries 96 to 127 of the reset sine table (R307). -/
def sineReset3 : List Nat :=
  [72819, 73486, 74151, 74813, 75472, 76128, 76781, 77431, 78079, 78723, 79365, 80003, 80639, 81272, 81901, 82527, 83151, 83771, 84388, 85001, 85612, 86219, 86823, 87424, 88022, 88616, 89207, 89795, 90379, 90960, 91537, 92111]
/-- Entries 128 to 159 of the reset sine table (R307). -/
def sineReset4 : List Nat :=
  [92681, 93248, 93812, 94371, 94928, 95481, 96030, 96575, 97117, 97655, 98190, 98721, 99248, 99772, 100291, 100807, 101319, 101828, 102332, 102833, 103329, 103822, 104311, 104796, 105277, 105754, 106227, 106697, 107162, 107623, 108080, 108533]
/-- Entries 160 to 191 of the reset sine table (R307). -/
def sineReset5 : List Nat :=
  [108982, 109426, 109867, 110303, 110736, 111164, 111588, 112008, 112423, 112835, 113242, 113645, 114043, 114437, 114827, 115213, 115594, 115971, 116344, 116712, 117076, 117435, 117790, 118141, 118487, 118828, 119166, 119498, 119826, 120150, 120469, 120784]
/-- Entries 192 to 223 of the reset sine table (R307). -/
def sineReset6 : List Nat :=
  [121094, 121399, 121700, 121997, 122288, 122575, 122858, 123136, 123409, 123678, 123942, 124201, 124456, 124706, 124951, 125191, 125427, 125658, 125885, 126106, 126323, 126535, 126743, 126945, 127143, 127336, 127524, 127708, 127886, 128060, 128229, 128393]
/-- Entries 224 to 255 of the reset sine table (R307). -/
def sineReset7 : List Nat :=
  [128553, 128707, 128857, 129001, 129141, 129276, 129407, 129532, 129652, 129768, 129879, 129984, 130085, 130181, 130272, 130359, 130440, 130516, 130588, 130654, 130716, 130773, 130824, 130871, 130913, 130950, 130982, 131009, 131032, 131049, 131061, 131069]

/-- The reset sine table: round(131,071 · sin(90° · m / 256)) (R307). -/
def sineReset (m : Nat) : Nat :=
  match m / 32 with
  | 0 => sineReset0.getD (m % 32) 0
  | 1 => sineReset1.getD (m % 32) 0
  | 2 => sineReset2.getD (m % 32) 0
  | 3 => sineReset3.getD (m % 32) 0
  | 4 => sineReset4.getD (m % 32) 0
  | 5 => sineReset5.getD (m % 32) 0
  | 6 => sineReset6.getD (m % 32) 0
  | _ => sineReset7.getD (m % 32) 0

/-- The shipped fuse map's pin encodings (R550), 0 beyond the last configurable pin (R465). -/
def pinFuse (i : Nat) : Nat := ([0, 0, 0, 4, 3, 4, 4, 3, 4, 3, 4, 0] : List Nat).getD i 0

/-- The reset value of the dword at an offset. The arrays whose elements differ come first. -/
def regReset (off : Nat) : Nat :=
  match locate off with
  | none => 0
  | some l =>
    if l.row.base = EVT_SRC 0 then (if isLevelSource l.elem then 0x20 else 0)
    else if l.row.base = POOL_G_WEIGHT 0 then (if l.elem = 0 then 0x10000 else 0)
    else if l.row.base = RIL_GRP_SLOT 0 then l.elem % 32
    else if l.row.base = RIL_MASK 0 then (if l.elem < 256 then 0x100 else 0)
    else if l.row.base = RIL_MASK_ACT 0 then (if l.elem < 256 then 0x100 else 0)
    else if l.row.base = LNE_BGG_LANE 0 then 9 * (l.elem / 8) + l.elem % 8
    else if l.row.base = MOT_SINE 0 then sineReset l.elem
    else if l.row.base = MOT_SINE_ACT 0 then sineReset l.elem
    else if l.row.base = RST_PIN 0 then pinFuse l.elem
    else l.masks.reset

end Sys2Proof.Machine
end

