-- ==== Sys2Proof/Machine/State.lean ====
section
/-! DEFINITION. The state of the module as plain data: every register (as a sparse list over the BAR0 map of
RegMap), the state that the manual gives the units beside their registers, what the module sends out, and the
queue of waiting commands. -/
namespace Sys2Proof.Machine

/-- A retry domain of R495: its code and unit, the times of its errors on the fault clock, and whether it is
recovering (R497) or permanent (R498). -/
structure Domain where
  code : Nat
  unit : Nat
  times : List Nat := []
  recovering : Bool := false
  permanent : Bool := false
deriving DecidableEq, Repr

/-- What a journal record restores (R448). -/
inductive JItem where
  | reg (off : Nat)
  | passportDelta
  | logEntry (lseq : Nat)
  | pairRetired (pair : Nat)
deriving DecidableEq, Repr

/-- One journal record: its SEQ, item, value, the time of day, and the CRC of its copy (R448). -/
structure JRec where
  seq : Nat
  item : JItem
  value : List Nat
  secs : Nat
  nanos : Nat := 0
  crc : Nat := 0
deriving DecidableEq, Repr

/-- One copy of the journal: the snapshot that starts its active half, the records after it, the bytes used of
the half, which half is active and how often each half was erased (R447 to R450). -/
structure JCopy where
  snapSeq : Nat := 0
  snapshot : List (JItem × List Nat) := []
  records : List JRec := []
  used : Nat := 0
  halfB : Bool := false
  erases0 : Nat := 0
  erases1 : Nat := 0
deriving DecidableEq, Repr

/-- A record that waits for the retained store: the tick of its commit, and whether copy A holds it already (R448). -/
structure JPend where
  entry : JRec
  since : Nat
  inA : Bool := false
deriving DecidableEq, Repr

/-- A limited-change fuse slot (R452, R464). `value` holds a column identity or an anchor digest. -/
structure FuseSlot where
  used : Bool := false
  valid : Bool := false
  todSrc : Nat := 0
  secs : Nat := 0
  value : Nat := 0
deriving DecidableEq, Repr

/-- Reset and start-up (chapter Clocks, reset and start-up), with the non-volatile stores. -/
structure RstState where
  /-- RESET_L or PERST_L is held low. -/
  resetLow : Bool := false
  perstLow : Bool := false
  /-- Option load runs; step 5 ends it with the release of island 13. -/
  loading : Bool := false
  /-- Option load waits for clocks: before step 1, after a clock-loss reset (true), or in step 2 (R438, R444). -/
  wait : Option (Bool × OptionLoad) := none
  /-- REFCLK is not good (R436). -/
  refBad : Bool := false
  /-- The fuse map has been read since power-good, so that the configurable pins have left hi-Z (R446). -/
  pinsFused : Bool := false
  /-- The run of option load in progress takes this many µs, and was restarted this many times. -/
  olMicros : Nat := 0
  olRestarts : Nat := 0
  /-- The reset in force was taken where a software reset would have been (R456). -/
  softMet : Bool := false
  /-- The ticks in which CLK_GOOD of an island last rose (R437, R456). -/
  goodAt : List (Nat × Nat) := []
  /-- The block resets in progress, oldest first, and the islands that RST_HOLD keeps in reset. -/
  blocks : List Nat := []
  held : List Nat := []
  /-- The tick of the last log entry, and the LSEQ before the first entry of that tick (R505). -/
  logAt : Option (Nat × Nat) := none
  /-- Control pairs that have passed their re-test and wait for the load of their state (R502). -/
  retested : List Nat := []
  journalA : JCopy := {}
  journalB : JCopy := {}
  /-- The records committed and not yet in both copies, oldest first (R448). -/
  jqueue : List JPend := []
  slots : Vector FuseSlot 21 := Vector.replicate 21 {}
  /-- The strict-integrity lock in force, and the column identity and anchor in force (R452, R453). -/
  strict : Bool := false
deriving DecidableEq, Repr

/-- The event controller beside its registers (R509 to R516). -/
structure EvtState where
  /-- Running moderation timers: vector and the tick at which it ends. -/
  timers : List (Nat × Nat) := []
  /-- Vectors with a message that waits on a mask, HOLD or the link. -/
  due : BitVec 64 := 0
  pba : BitVec 64 := 0
  vecMask : BitVec 64 := BitVec.allOnes 64
  msixEnable : Bool := false
  linkL0 : Bool := false
  /-- The source the control cores serve, and the sources they have served while still pending. -/
  serving : Option Nat := none
  coreDone : List Nat := []
  /-- The sources raised in this tick, as (source, tick, whether the edge has set OVERRUN) (R517). -/
  raised : List (Nat × Nat × Bool) := []
deriving DecidableEq, Repr

/-- What an in-flight command waits for. -/
inductive Wait where
  | fetched
  | job
  | pause
  | resume
  | abort
  | moveEnd
  | motionStop
  | layerGoto (k : Nat)
  | library
  | compress (e : Nat)
  /-- The commits of tables under the numbers of R487: `checking` while the rill check of R186 runs, before any table
  of the command is committed; `deferred` when it completes DEFERRED once checked. -/
  | tables (ts : List Nat) (checking deferred : Bool)
  | laneCal (lane : Nat)
  | laneRetrain (lane : Nat)
  | rillForce (slot : Nat)
  | dma (n : Nat)
  | check (u : Nat)
  | meshRetrain (p : Nat)
  | blockReset (island : Nat)
  | frost
deriving DecidableEq, Repr

/-- The command forces a rill (R481). -/
def Wait.isForce : Wait → Bool
  | .rillForce _ => true
  | _ => false

/-- A command in flight (R471, R472): its packet's header and parameters, its place in its queue's order, and
what it waits for. -/
structure Flight where
  tag : Nat
  sq : Nat
  op : Nat
  order : Nat
  cls : Nat
  deferOk : Bool
  fence : Bool
  params : List Nat
  wait : Wait := .fetched
deriving DecidableEq, Repr

/-- A completion that waits for its entry to be written (R469, R474). -/
structure Completion where
  q : Nat
  tag : Nat
  status : Nat
  dup : Bool := false
  /-- The completion holds its tag in flight; one that a duplicate tag or an opcode error gives does not (R472). -/
  own : Bool := true
  taken : Bool := false
  applied : Nat := 0
  detail : Nat := 0
  results : List Nat := []
  /-- ULP_CQq_STALL has counted this completion. -/
  counted : Bool := false
deriving DecidableEq, Repr

/-- The command engine beside its registers. -/
structure UlpState where
  flights : List Flight := []
  waiting : List Completion := []
  /-- Deferred JOB-class writes: offset and value, in submission order (R480). -/
  deferred : List (Nat × Nat) := []
  /-- Tables whose pending commit a command deferred: event 22 follows at the switch (R475). -/
  deferredTables : List Nat := []
  nextOrder : Nat := 0
  /-- The software reset that follows the completion of SYSTEM_RESET once its entry is written. -/
  resetTag : Option (Nat × OptionLoad) := none
  /-- The pair whose packet was fetched last (R468), and for each pair the tick of its last doorbell with the TAIL before it
  (R489). -/
  turn : Nat := 3
  tails : List (Nat × Nat × Nat) := []
  /-- Fetching and delivery stop while a takeover runs (R501). -/
  takeover : Bool := false
deriving DecidableEq, Repr

/-- Where a stream's blocks come from (R483). -/
inductive Source where
  | host (extents : List (Nat × Nat))
  | spool (line : Nat)
  | ndf (server : Nat)
deriving DecidableEq, Repr

/-- A stripe of the stripe list (R483). -/
structure Stripe where
  x0 : Int
  y0 : Int
  len : Nat
  tallyOnly : Bool
  source : Source
  streamId : Nat
deriving DecidableEq, Repr

/-- The job in progress: its geometry (R13 to R26) and its place. -/
structure Job where
  bx : Nat
  byy : Nat
  adv : Nat
  rows : Nat
  expo : Nat
  width : Nat
  window : Nat
  lead : Nat
  passes : Nat
  bidir : Bool
  pixelPm : Nat
  layers : Nat
  originX : Int
  originY : Int
  stripes : List Stripe
  tag : Option Nat
  stripe : Nat := 0
  pass : Nat := 0
  layer : Nat := 0
  /-- Stripes and layers completed, the FSEQ of flash 0 of the pass, and the flash last decided in it. -/
  stripesDone : Nat := 0
  layersDone : Nat := 0
  fseq0 : Nat := 0
  decidedN : Int := -1
  /-- The last flash of the pass that has fired (R105). -/
  firedN : Int := -1
  /-- A pause or an abort is pending. -/
  pausing : Bool := false
  aborting : Bool := false
deriving DecidableEq, Repr

/-- A job start whose checks have passed and whose passport or join runs (R484 steps 6 and 7). -/
inductive StartStage where
  | passport
  | join
deriving DecidableEq, Repr

/-- A head channel beside its registers (R252 to R264). -/
structure Head where
  a : Bool := false
  b : Bool := false
  z : Bool := false
  extreme : Int := 0
  /-- Counted edges (tick, POS), newest first, and the illegal transitions, newest first: the tick, and the mean of D
  before it (R254, R264). -/
  edges : List (Nat × Int) := []
  illegal : List (Nat × Int) := []
deriving DecidableEq, Repr

/-- One axis pair of heads: the history of D as (tick, D), newest first, the ticks before the present one through which the
running cross-check has seen |D| > 4·TOL (R263), and M of a failover that takes place in the next tick (R264). -/
structure AxisPair where
  hist : List (Nat × Int) := []
  apart : Nat := 0
  next : Option Int := none
deriving DecidableEq, Repr

/-- The position island beside its registers. -/
structure PosState where
  heads : Vector Head 6 := Vector.replicate 6 {}
  axes : Vector AxisPair 2 := Vector.replicate 2 {}
  /-- The filtered levels of the probes (R252, R262). -/
  probes : Vector Bool 2 := Vector.replicate 2 false
  /-- The ticks in which the index of a channel and a probe last latched, and a position compare was last armed (R261, R262,
  R269). -/
  indexAt : List (Nat × Nat) := []
  probeAt : List (Nat × Nat) := []
  armedAt : List (Nat × Nat) := []
deriving DecidableEq, Repr

/-- A decided flash that waits for its strobe: flash n, FSEQ, the decision tick and the rise tick (R272). -/
structure Decided where
  n : Int
  fseq : Nat
  tick : Nat
  rise : Nat
deriving DecidableEq, Repr

/-- The flash sequencer beside its registers. -/
structure FlsState where
  /-- The level of FLASH0 and FLASH1, and the always-on strobe gate. -/
  flash : Bool := false
  gate : Bool := false
  permit : Bool := false
  decided : Option Decided := none
  /-- The strobe that is high: FSEQ, rise tick and fall tick. -/
  high : Option (Nat × Nat × Nat) := none
  lastDecision : Option Nat := none
  /-- The flash whose compare this tick has met, the tick in which a run armed its first compare, and whether BEAM_PERMIT has set the
  latch since the last resume was accepted (R270, R271, R280). -/
  met : Option Int := none
  armedAt : Option Nat := none
  fell : Bool := false
  /-- The next flash is the first of its run, and a resume has not fired yet. -/
  firstOfRun : Bool := true
  resumed : Bool := false
  stopArmed : Bool := false
  /-- FLUSH waits for the strobe of the stitch point (R275). -/
  flushDue : Bool := false
  recent : List (Nat × Nat) := []
deriving DecidableEq, Repr

/-- A stretch of constant jerk of one axis (R299): start time in ticks, length in ticks (none: without end),
position in AU, velocity in AU/ms, acceleration in AU/ms² and jerk in AU/ms³. -/
structure Seg where
  t0 : Rat
  dur : Option Rat
  x0 : Rat
  v0 : Rat
  a0 : Rat
  jerk : Rat
deriving DecidableEq, Repr

/-- The plan of the pass in progress (R300). -/
structure PassPlan where
  vTop : Nat
  acc : Nat
  jerk : Nat
  start : Int
  target : Int
deriving DecidableEq, Repr

/-- A move of a layer axis: start and end in microsteps, the periods run, the captured speed and acceleration, the tick in
which it was decided, and whether it is a GOTO or the move of the layer handshake (R296, R308). -/
structure LayerMove where
  p0 : Int
  p1 : Int
  period : Nat := 0
  vmax : Nat
  acc : Nat
  goto : Bool
  asked : Nat := 0
  /-- The target is still to be formed from PITCH when the move starts. -/
  fresh : Bool := false
  running : Bool := false
  sent : Bool := false
  /-- The tick from which the axis rests on its target. -/
  ended : Nat := 0
deriving DecidableEq, Repr

/-- What the motion generator is asked to begin at the next servo boundary (R296); `nextLayer`: step 5 of the layer
handshake, with its return and step moves (R309). -/
inductive MotionAsk where
  | move (x y : Int) (ready : Bool)
  | backup (x y : Int)
  | stop
  | nextLayer
deriving DecidableEq, Repr

/-- The motion generator beside its registers. -/
structure MotState where
  nextBoundary : Nat := 0
  lastBoundary : Nat := 0
  seq : Nat := 0
  first : Bool := true
  /-- The rest position, or the position at the last boundary, in AU. -/
  x : Int := 0
  y : Int := 0
  planX : List Seg := []
  planY : List Seg := []
  pass : Option PassPlan := none
  /-- The backup-time capture of the next re-acceleration (R306). -/
  captured : Option (Nat × Nat × Nat) := none
  ask : Option MotionAsk := none
  askTick : Nat := 0
  /-- V_GOV in u12.6 AU/µs as the last boundary of this run formed it: the profile pursues it from the next one. -/
  vGov : Option Nat := none
  /-- MOT_ACC and MOT_JERK under which the governor last changed the plan of this run (R302). -/
  govLimits : Option (Nat × Nat) := none
  /-- Run-out is planned: flash N - 1 is decided. -/
  runOut : Bool := false
  /-- A motion command of READY runs. -/
  readyMove : Bool := false
  layer : Vector (Option LayerMove) 2 := Vector.replicate 2 none
  /-- The step of the layer handshake of R309: 0 none, 1 due after a pause, 2 moves due or running, 3 waiting for
  LAYER_READY. -/
  layerStep : Nat := 0
  /-- Layer axes whose move a resume makes again: a refused one, or one whose check failed with its target (R308). -/
  again : List (Nat × Option Int) := []
  /-- The back-up of an accepted resume has not settled yet (R306). -/
  backupDue : Bool := false
  /-- The tick since which every condition of a run has held (R296). -/
  runSince : Option Nat := none
  /-- CTRL and CUR in force for a layer axis where they differ from its registers, which a job or a move has written since
  the axis captured them (R302). -/
  lax : Vector (Option (Nat × Nat)) 2 := Vector.replicate 2 none
  /-- Settings written in a tick, with the values before: a boundary in that tick takes those (R310). -/
  wrote : Nat × List (Nat × Nat) := (0, [])
  /-- The tick of the last rise of the filtered LAYER_READY (R310). -/
  readyRise : Option Nat := none
deriving DecidableEq, Repr

/-- Frost beside its registers (R527 to R535). -/
structure PwrState where
  commitAt : Option Nat := none
  undoing : Bool := false
  /-- The tick of the wake. -/
  wakeAt : Nat := 0
  /-- The edges of this tick on the inputs of wake sources, as (source, tick); the PWR_WAKE_EN before a write, with its tick; and
  PWR_FROST_COUNT before the commit clock (R533, R535). -/
  edges : List (Nat × Nat) := []
  enWas : Option (Nat × Nat) := none
  countWas : Nat := 0
  /-- SYS_DIE_WARN and SYS_PLATE_WARN before the writes of a tick, with the tick (R559). -/
  dieWas : Option (Nat × Nat) := none
  plateWas : Option (Nat × Nat) := none
  /-- PSB: eligible records since the last mark. -/
  psbSince : Nat := 0
  /-- The tick of the last monitor command (R537). -/
  monAt : Nat := 0
deriving DecidableEq, Repr

/-- What the counters keep of a tick: the counters that have counted in it with their value before, those whose COUNT was written,
whether a snapshot was taken, and the values before a clear (R538, R540). Counter k of block b is number 8·b + k. -/
structure PmcState where
  tick : Nat := 0
  counted : List (Nat × Nat) := []
  wrote : List Nat := []
  snapped : Bool := false
  cleared : Option (List Nat) := none
deriving DecidableEq, Repr

/-- A marked record in flight (R541). -/
structure Mark where
  stream : Nat
  seq : Nat
  index : Nat
  type : Nat
  start : Nat
  band : Nat
deriving DecidableEq, Repr

/-- A line that the monitor answers (R536, R537). -/
inductive MonLine where
  | ok
  | err (code : Nat)
  | text (t : String)
  | numbers (ns : List Nat)
  | bigInt (n : Int)
deriving DecidableEq, Repr

/-- What a command makes the module send out. -/
inductive Out where
  | msix (vector : Nat)
  | coreJump (address : Nat)
  | pmeToAck
  | smbus (bytes : List Nat)
  | smbusNak
  | smbAlert (low : Bool)
  | readData (value : Nat)
  | monitor (lines : List MonLine)
  | setPoint (words : List Nat)
  | laneBlock (lane : Nat) (message : Nat)
  /-- The PRBS13 that a lane sends in training, for one block slot (R228). -/
  | lanePrbs13 (lane : Nat)
  | passport (bytes : List Nat)
  /-- An Ethernet frame, from its destination address to its FCS (R372). -/
  | eth (port : Nat) (frame : List Nat)
  | meshBlock (port : Nat) (message : Nat)
  /-- The PRBS13 that a mesh port sends in training, for one block slot (R410). -/
  | meshPrbs13 (port : Nat)
  | dram (requester la : Nat) (words : List Nat)
  | dramError (requester la : Nat)
deriving DecidableEq, Repr

/-- Where a dose frame stands in the replay buffer (R217, R223, R224). -/
inductive FrameState where
  | awaiting
  | replay
  | committed (inTime : Bool)
deriving DecidableEq, Repr

/-- A dose frame from its first sending until its flash fires: beam group, flash n of its pass and FSEQ, payload
words and header, the sum of its codes, the lane that last sent it with the CRC sent, and the tick at which its
last block ends. -/
structure Frame where
  group : Nat
  n : Int
  fseq : Nat
  head : Nat
  payload : List Nat
  sum : Nat
  lane : Nat
  crc : Nat
  endTick : Nat
  state : FrameState
deriving DecidableEq, Repr

/-- A FLUSH that waits for its acknowledgement, and the tick at which its block ends; none where no lane has carried its group since
(R227). -/
structure Flush where
  group : Nat
  next : Nat
  all : Bool
  tick : Option Nat
deriving DecidableEq, Repr

/-- What the passport transaction is for (R240, R241). -/
inductive PpUse where
  | start
  | writeback
deriving DecidableEq, Repr

/-- The passport controller (R238 to R242): the transaction that runs (its CMD, use and start tick), what it has
verified, and the usage deltas not yet written back, as (FLASHES, CODES) of each beam group. -/
structure PassportState where
  cmd : Nat := 0
  use : PpUse := .start
  since : Nat := 0
  nonce : List Nat := []
  serial : List Nat := []
  makerKey : List Nat := []
  devKey : List Nat := []
  cert : List Nat := []
  totals : List (Nat × Nat) := []
  deltas : List (Nat × Nat) := []
  sentDeltas : List (Nat × Nat) := []
  writes : Nat := 0
  tries : Nat := 0
  retryAt : Option Nat := none
  /-- A write-back fell due while a transaction ran. -/
  wanted : Bool := false
  /-- The third failure with the strict-integrity lock set holds the job (R242). -/
  blocked : Bool := false
  /-- A RESUME waits for the write-back that it tries (R242). -/
  forResume : Bool := false
deriving DecidableEq, Repr

/-- A block that a lane sends in a later block slot: its BTYPE, its index in its frame, its body words as far as they are
given, and the frame that it belongs to, by group and FSEQ (R209, R210, R213). -/
structure LineBlock where
  lane : Nat
  slot : Nat
  btype : Nat
  index : Nat
  body : List Nat
  frame : Option (Nat × Nat)
deriving DecidableEq, Repr

/-- What a receiver keeps of a lane's back channel: BSEQ of the last block, its place after the last MARKER slot once a MARKER
has come, the MARKERs missing in a row, and the uncorrectable codewords in a row (R210, R211, R233). -/
structure LaneRx where
  lane : Nat
  seq : Option Nat := none
  place : Option Nat := none
  missing : Nat := 0
  bad : Nat := 0
deriving DecidableEq, Repr

/-- The record that training keeps of a lane: the array port, the depth and the arrival time that it reported (R229, R230). -/
structure LanePort where
  lane : Nat
  port : Nat
  depth : Nat
  arrival : Nat
deriving DecidableEq, Repr

/-- The beam lanes beside their registers. -/
structure LneState where
  frames : List Frame := []
  flushes : List Flush := []
  calQueue : List Nat := []
  /-- Lanes whose group the spare has taken from FSEQ h on, as (lane, group, h): they enter CAL once their frames are committed
  (R235). -/
  handover : List (Nat × Nat × Nat) := []
  /-- The tick of the last training attempt of a lane that re-trains (R233). -/
  retrying : List (Nat × Nat) := []
  ports : List LanePort := []
  /-- The marker count that each lane's back channel last carried (R211). -/
  markers : List (Nat × Nat) := []
  /-- The blocks that wait for their slots, and the state of each receiver. -/
  line : List LineBlock := []
  rx : List LaneRx := []
  /-- Lane groups whose beam groups have not been given to lanes since all their lanes trained anew (R231). -/
  fresh : List Nat := []
  /-- The tick in which a lane was last retired or set down (R237). -/
  lost : List (Nat × Nat) := []
  /-- Beam groups of retired lanes, each with the tick in which it moves (R226). -/
  moves : List (Nat × Nat) := []
  /-- Lanes in training that have not locked yet (R228). -/
  locking : List Nat := []
  /-- Lanes that begin a handover for calibration at the end of this clock (R237). -/
  calDue : List Nat := []
  /-- Lanes that a write of LOOP has turned, each with its tick, and STATE and LOOP before (R237). -/
  looped : List (Nat × Nat × Nat × Nat) := []
  /-- The tick in which a lane last became ACTIVE (R237). -/
  became : List (Nat × Nat) := []
  /-- The tap values of each lane's transmitter, where they are not 0 (R236), and the states of the PRBS31 generator and checker
  of each lane in loopback (R232). -/
  taps : List (Nat × List Int) := []
  prbs : List (Nat × Nat × Nat) := []
  lastStatus : Nat := 0
  arrayFault : Bool := false
  mismatch : Bool := false
  /-- The tick until which a lane is sending a frame or a FLUSH. -/
  busyUntil : List (Nat × Nat) := []
  pp : PassportState := {}
deriving DecidableEq, Repr

/-- A computed flash of a rill slot in its buffer (R159): flash n, FSEQ and the 1,024 codes. -/
structure SlotFlash where
  slot : Nat
  n : Int
  fseq : Nat
  codes : List Nat
deriving DecidableEq, Repr

/-- A DRAM request in the queue of its channel, with the tick of its arrival (R326). -/
structure MemReq where
  req : Requester
  la : Nat
  access : DramAccess
  errors : List SymbolError
  tick : Nat := 0
deriving DecidableEq, Repr

/-- Module memory beside its registers: the queued requests in arrival order (R326), the lines in recovery with the code of
the requester and the channel devices concerned (R333), the reads that failed and that their requester, by its code, has not
met yet in its own command (R337), the open rows as (channel, bank, row, tick of the last request) (R327), the bank that
each channel refreshes next, the tick of each channel's last request (R328), and the channels that wait to
retune (R330). -/
structure MemState where
  held : List MemReq := []
  recovering : List (Nat × Nat × List Nat) := []
  failed : List (Nat × Nat) := []
  rows : List (Nat × Nat × Nat × Nat) := []
  refBank : Vector Nat 4 := Vector.replicate 4 0
  lastReq : Vector Nat 4 := Vector.replicate 4 0
  retuneWant : List Nat := []
  /-- The cell library was lost (R337). -/
  libLost : Bool := false
  /-- A row of the deep band could not be read (R337). -/
  bandLost : Bool := false
deriving DecidableEq, Repr

/-- The primitives of R54. A curve's segments are lines, or cubics with two control points. -/
inductive Prim where
  | rect (x0 y0 x1 y1 : Int)
  | trap (axisX : Bool) (p0 p1 l0 r0 l1 r1 : Int)
  | poly (vs : List (Int × Int))
  | curve (start : Int × Int) (segs : List (Option ((Int × Int) × (Int × Int)) × (Int × Int)))
deriving DecidableEq, Repr

/-- A placement (R53): the cell, the class mode, the orientation, the point and the array. -/
structure Place where
  id : Nat
  mode : Bool
  orient : Nat
  x : Int
  y : Int
  nx : Nat
  ny : Nat
  px : Int
  py : Int
deriving DecidableEq, Repr

/-- A box of the job frame: X_MIN, Y_MIN, X_MAX, Y_MAX, inclusive (R50). -/
structure Box where
  x0 : Int := 0
  y0 : Int := 0
  x1 : Int := 0
  y1 : Int := 0
deriving DecidableEq, Repr

/-- The records of R49. -/
inductive NdsRec where
  | sect (library : Bool) (num : Nat) (box : Box)
  | cellDef (id : Nat)
  | place (p : Place)
  | prim (p : Prim)
  | doseClass (c : Nat)
  | layer (first last : Nat)
  | ends (scope : Nat)
deriving DecidableEq, Repr

/-- A parsed record with its TYPE, its index in its block, the offset of its first word in the record area, the SEQ of
its block and the tick in which that block's first word arrived, the class and the layer range in force (R56, R57),
and the box of its section. -/
structure LRec where
  body : NdsRec
  type : Nat
  index : Nat
  word : Nat
  seq : Nat := 0
  tick : Nat := 0
  cls : Nat := 0
  first : Nat := 0
  last : Nat := 262142
  box : Box := {}
deriving DecidableEq, Repr

/-- The parser's place in a stream (R48 to R57): the sections begun, the open section's box, the open cell and
whether it holds a placement, the cells whole by now with the same mark, the current class and layer range. -/
structure ParseCtx where
  library : Bool := false
  secs : Nat := 0
  inSection : Bool := false
  box : Box := {}
  lastX : Option Int := none
  openCell : Option Nat := none
  openPlaces : Bool := false
  cells : List (Nat × Bool) := []
  cls : Nat := 0
  first : Nat := 0
  last : Nat := 262142
  ended : Bool := false
deriving DecidableEq, Repr

/-- The stages of a block in the Spring (R65): stored, in a decompressor, decoded, and parsed. A block that a
decompressor discarded goes to another one, and names those that discarded it, the last one first, until it is decoded again
(R66). -/
inductive BStage where
  | stored (avoid : List Nat)
  | decoding (dec : Nat) (avoid : List Nat)
  | decoded (words : List Nat)
  | parsed (words : List Nat) (recs : List LRec)
deriving DecidableEq, Repr

/-- A block that has passed its transport and header checks. -/
structure Block where
  seq : Nat
  words : List Nat
  last : Bool
  tick : Nat
  stage : BStage
deriving DecidableEq, Repr

/-- What a stream is read for: the cell library, a tally or raster pass, or a compression engine in RECODE mode. -/
inductive Reading where
  | library
  | tally
  | raster
  | recode
deriving DecidableEq, Repr

/-- A stream slot beside its registers (R64, R77): the groups taken of a host or spool source, the SEQ expected, the
blocks between fetch and release, and the parser's place. -/
structure Slot where
  isOpen : Bool := false
  failed : Bool := false
  use : Reading := .library
  source : Source := .spool 0
  streamId : Nat := 0
  stripe : Nat := 0
  pos : Nat := 0
  next : Nat := 0
  refetch : Bool := false
  lastSeen : Bool := false
  blocks : List Block := []
  ctx : ParseCtx := {}
  /-- The module asked for this library load's command, and the library words so far. -/
  tag : Option Nat := none
  /-- The NDF session of this reading, and the fetch attempt of the block expected (R377, R382). -/
  session : Nat := 0
  attempt : Nat := 0
deriving DecidableEq, Repr

/-- A compression engine beside its registers (R67 to R70): its mode, capture point, slot and rows, its
destination, the groups stored there, the spillway buffers it has taken in order, the groups that wait for room, the captured words not yet coded, and the
status with which the command completes. -/
structure Engine where
  running : Bool := false
  /-- The start-up self-test has retired the engine (R455). -/
  retired : Bool := false
  capture : Bool := false
  point : Nat := 0
  slot : Nat := 0
  rowFirst : Nat := 0
  rowCount : Nat := 0
  rowsSeen : Nat := 0
  base : Nat := 0
  lines : Nat := 0
  stored : Nat := 0
  chain : List Nat := []
  words : List Nat := []
  inputDone : Bool := false
  outSeq : Nat := 0
  hold : List Nat := []
  outcome : Option Nat := none
deriving DecidableEq, Repr

/-- A block that the module fetches over NDF (R379 to R383): its slot and SEQ, the attempt, the retries spent, the port,
SEG_SIZE of its request, SEG_COUNT and the segments held, and the ticks of the last request, the last segment and the
last BUSY. -/
structure NdfFetch where
  slot : Nat
  seq : Nat
  attempt : Nat
  spent : Nat := 0
  port : Nat
  size : Nat
  count : Option Nat := none
  segs : List (Nat × List Nat) := []
  reqAt : Nat
  segAt : Option Nat := none
  busyAt : Option Nat := none
deriving DecidableEq, Repr

/-- A cell of the library with its records in order (R52, R81). -/
structure Cell where
  id : Nat
  items : List LRec
deriving DecidableEq, Repr

/-- The Spring beside its registers. `ndf` holds what NDF has delivered: slot, SEQ, and the stored block's words, or
none where the fetch was abandoned (R382). -/
structure SprState where
  slots : Vector Slot 16 := Vector.replicate 16 {}
  engines : Vector Engine 2 := Vector.replicate 2 {}
  ndf : List (Nat × Nat × Option (List Nat)) := []
  /-- NDF streams opened so far: each has a new session (R377). -/
  opens : Nat := 0
deriving DecidableEq, Repr

/-- The contour pieces of one shape and class in one tile: the edges (FU), their exact area in 2^-33 AU², their row
crossings, and the exact area in FU² of each pool cell they meet (R85, R88, R130). -/
structure Contrib where
  band : Nat
  tile : Nat
  cls : Nat
  edges : List ((Int × Int) × (Int × Int))
  area : Int
  cross : Nat
  cells : List ((Int × Int) × Rat)
deriving DecidableEq, Repr

/-- A tally record (R88): the tile of a stripe and layer, its owning engine, and T (2^-33 AU²) and K of each class. -/
structure TallyRec where
  layer : Nat
  stripe : Nat
  band : Nat
  tile : Nat
  owner : Nat
  classes : List (Nat × Int × Nat)
deriving DecidableEq, Repr

/-- The states of a tile (R97); a tile that is COMMITTED is no longer held. `retally` waits for step 3 of R95, and
`failed` is a tile failure. -/
inductive TState where
  | binning
  | issued
  | raster
  | retally
  | failed
  | done
deriving DecidableEq, Repr

/-- What a basin formed for a tile: the basin, S of each class, the dose words in (row, pixel) order, and the counts of
clamped coverages and clamped doses. -/
structure BasinResult where
  basin : Nat
  sums : List (Nat × Int)
  doses : List Nat
  overlaps : Nat
  clamps : Nat
  overflow : Bool
deriving DecidableEq, Repr

/-- A tile in flight (R95, R97): its contours by class, the basin it is in, the failed attempts, and its result. -/
structure Tile where
  band : Nat
  tile : Nat
  classes : List (Nat × List ((Int × Int) × (Int × Int))) := []
  state : TState := .binning
  basin : Nat := 0
  tries : List BasinResult := []
  /-- The basins the next attempt skips, and whether only basin C is left to try (step 5 of R95). -/
  skip : List Nat := []
  last : Bool := false
  /-- The tally record could not be read, so the re-tally stands for it (R337). -/
  noRec : Bool := false
  result : Option BasinResult := none
deriving DecidableEq, Repr

/-- A tally or raster pass in progress (R89, R90): its layer, stripe and pass, its slot once it is open, and the
released records that no engine has finished. -/
structure PassRead where
  layer : Nat
  stripe : Nat
  pass : Nat
  slot : Option Nat := none
  recs : List LRec := []
  ended : Bool := false
deriving DecidableEq, Repr

/-- The Cascades and the Basins beside their registers. -/
structure CscState where
  lib : List Cell := []
  libWords : Nat := 0
  tallies : List TallyRec := []
  tallyLayer : Nat := 0
  /-- Stripes of the layer whose tally pass is complete. -/
  tallyDone : Nat := 0
  tally : Option PassRead := none
  /-- Contour pieces that wait for room in the tally store (R89). -/
  tallyLeft : List Contrib := []
  raster : Option PassRead := none
  /-- The raster pass that begins next: layer, stripe and pass. -/
  nextLayer : Nat := 0
  nextStripe : Nat := 0
  nextPass : Nat := 0
  /-- Bands of the raster pass that are complete, and that have committed. -/
  bands : Nat := 0
  committed : Nat := 0
  tiles : List Tile := []
  failed : Bool := false
  /-- The stripe has raised event 60, and event 77. -/
  overlapSeen : Option (Nat × Nat) := none
  clampSeen : Option (Nat × Nat) := none
deriving DecidableEq, Repr

/-- The tables captured at a stripe's raster boundary (R137): FACTOR and CORRECT of each class, the layer factor, DOSE_MAX,
and the dose factor table with which its correction is made. -/
structure PoolSnap where
  layer : Nat
  stripe : Nat
  classes : List (Nat × Bool)
  factor : Nat
  doseMax : Nat
  dft : List Nat := []
deriving DecidableEq, Repr

/-- The pool block beside its registers: densities of the ring by stripe and cell, the areas of the tally pass in
progress by cell (in AU² times PWEIGHT), the correction that runs, the stripes corrected with their q by cell, and the
raster snapshots. `doseMax` is the active copy of DOSE_MAX, which no register shows. -/
structure PoolState where
  doseMax : Nat := 0x3FFFF
  dens : List (Nat × Int × Int × Nat) := []
  acc : List ((Int × Int) × Rat) := []
  corr : Option (Nat × Nat) := none
  q : List ((Nat × Nat) × List ((Int × Int) × Nat)) := []
  snaps : List PoolSnap := []
deriving DecidableEq, Repr

/-- Rows [lo, hi) of a band that the look-ahead of the deep band holds (R100). -/
structure DbRun where
  layer : Nat
  stripe : Nat
  pass : Nat
  lo : Nat
  hi : Nat
deriving DecidableEq, Repr

/-- The deep band and the Cistern beside their registers: the runs of the look-ahead, the rows of the pass in progress
that occupy a slot and those of the pass after it (R185), the lines with the written bit set, the words, the lines in refill with their banks, those of them that
a resume waits for (R108), and the scrubber's next entry. -/
structure CstState where
  runs : List DbRun := []
  rows : List Nat := []
  ahead : List Nat := []
  written : List Nat := []
  words : List (Nat × Word) := []
  refill : List (Nat × Nat) := []
  first : List Nat := []
  scrub : Nat := 0
deriving DecidableEq, Repr

/-- A flash that a rill computes (R159): its slot, rill, flash and codes, and the clamped codes. -/
structure RillJob where
  slot : Nat
  rill : Nat
  n : Int
  fseq : Nat
  codes : List Nat
  clamps : Nat
deriving DecidableEq, Repr

/-- The active rill tables of a stripe: beam table, direction offsets, mask entries and CODE_SCALE (R184). -/
structure RillTables where
  beams : List (Nat × Word)
  fwd : Nat
  rev : Nat
  masks : List Nat
  scale : Nat
  /-- The flash delays of a forward and a reverse pass, which switch with the rill tables (R273). -/
  delayFwd : Nat
  delayRev : Nat
deriving DecidableEq, Repr

/-- The rills beside their registers: shadow and active beam tables (word 2·beam + w), flashes in computation, the FSEQ of
the last flash begun by slot, slots whose rill loads, slots whose switch has not checked its first flash (R182) and slots
that a forced switch moved (R183), the tables of the running check and those held for the next (R186), the acknowledgement
(R165), the rill boundary passed with the tables of the stripe before it while that one is in progress (R185), and the FSEQ
that R108 bars. -/
structure RilState where
  shadow : List (Nat × Word) := []
  active : List (Nat × Word) := []
  jobs : List RillJob := []
  begun : List (Nat × Nat) := []
  loading : List Nat := []
  switching : List Nat := []
  forced : List Nat := []
  check : Option Nat := none
  held : Nat := 0
  acked : Bool := false
  boundary : Option (Nat × Nat) := none
  old : Option RillTables := none
  barred : Option Nat := none
  /-- The stripes, as (layer, stripe), of this job that have raised event 95 (R172). -/
  clampSeen : List (Nat × Nat) := []
  /-- Beams that the array has reported stuck open in this job, and whether one of them was while the lock is set, so
  that the job can only be aborted (R166). -/
  reported : List Nat := []
  stuckStrict : Bool := false
deriving DecidableEq, Repr

/-- An address that a port has resolved or is resolving (R375): the port, the family, the address, the tick of the last request,
the MAC address learned, and the datagrams that wait for it, each with its UDP port. -/
structure Neighbour where
  port : Nat
  v6 : Bool := false
  addr : Nat
  asked : Nat
  mac : Option Nat := none
  waiting : List (Nat × List Nat) := []
deriving DecidableEq, Repr

/-- The Ethernet ports beside their registers: the blocks that NDF fetches, the slot that took a buffer last (R380), and
the server addresses in use. -/
structure EthState where
  fetches : List NdfFetch := []
  turn : Nat := 15
  neighbours : List Neighbour := []
deriving DecidableEq, Repr

/-- What the manager keeps of a REPORT: the worker, the tick of its receipt and its factor (R418). -/
structure MeshReport where
  col : Nat
  tick : Nat
  factor : Nat
deriving DecidableEq, Repr

/-- A message that waits for a block of a mesh port: the tick in which it came to wait, and its 16 words (R410, R423). -/
structure MeshSlot where
  port : Nat
  tick : Nat
  words : List Nat
deriving DecidableEq, Repr

/-- The mesh beside its registers (R406 to R425): the count of its own messages, the (SRC, MSEQ) taken whose second copy
may still come, the tick of the last message from the manager, the latest REPORTs, the JOINs taken (column,
digest) and the tick at which the wait for them began, the workers marked LOST, and the answers to a RESUME (column,
status). -/
structure MshState where
  seq : Nat := 0
  seen : List (Nat × Nat) := []
  heard : Nat := 0
  reports : List MeshReport := []
  joins : List (Nat × Nat) := []
  joinSince : Nat := 0
  lost : List Nat := []
  acks : List (Nat × Nat) := []
  /-- The manager waits for answers to its RESUME; a worker has accepted a RESUME and waits for RUN. -/
  asking : Bool := false
  resuming : Bool := false
  /-- A worker's RESUME that only the head temperature defers (R485). -/
  deferred : Bool := false
  /-- STOP has been sent for the stop in progress; REST has arrived for it; the column is cut off (R414, R420, R421). -/
  stopSent : Bool := false
  rest : Bool := false
  cut : Bool := false
  /-- Forwarded events (column, source), oldest first (R424). -/
  fwd : List (Nat × Nat) := []
  /-- Messages that wait for a block, in their order (R410). -/
  line : List MeshSlot := []
  /-- Consecutive failed block CRCs and uncorrectable codewords of each port, and the ticks of the last training attempts (R233,
  R413). -/
  crcRun : Vector Nat 4 := Vector.replicate 4 0
  fecRun : Vector Nat 4 := Vector.replicate 4 0
  tried : Vector (Option Nat) 4 := Vector.replicate 4 none
  /-- The ports in training whose clock and data recovery has not locked (R228, R410). -/
  locking : List Nat := []
  /-- The tick of a worker's last stop request in HELD, and of its last RESUME_ACK with OK (R425). -/
  reqTick : Option Nat := none
  ackTick : Option Nat := none
  /-- The tick of the last global stop sent, or begun by a STOP, and of the last TIME sent. -/
  stopTick : Nat := 0
  timeSent : Option Nat := none
  /-- A worker's time from the mesh: the ring of the last TIME, and whether the manager's TOD is traced to PTP (R423). -/
  timeRing : Option Bool := none
  traced : Bool := false
deriving DecidableEq, Repr

/-- A DMA channel beside its registers (R356 to R363): the space of its program (true: host), the instruction fetched at
its PC, whether the source of a fetched event WAIT has been raised since, a kept POKE, the running source and destination
(space, address), the loaded loop counters, the groups that a halted MOVE has moved, the tick of the fetch, and whether the fetch waits for module
memory. -/
structure DmaChan where
  host : Bool := false
  instr : Option (List Nat) := none
  hit : Bool := false
  poke : Bool := false
  src : Option (Nat × Nat) := none
  dst : Option (Nat × Nat) := none
  ctrs : List (Nat × Nat) := []
  done : Nat := 0
  since : Nat := 0
  waits : Bool := false
  /-- The staging buffer: groups read and not yet written, oldest first, the cause with which the read after them failed, and a
  STOP that waits until they are written (R355, R362, R363). -/
  staged : List (List Nat) := []
  fail : Option Nat := none
  stopping : Bool := false
  /-- The tick in which the channel last began to wait for host memory (R363). -/
  readAt : Nat := 0
  /-- The ticks of the last POKE that found no END fetched, and of the last END (R361, R364). -/
  pokeAt : Option Nat := none
  endAt : Option Nat := none
  /-- The PC before the writes of a tick, with the tick (R364). -/
  pcWas : Option (Nat × Nat) := none
deriving DecidableEq, Repr

/-- The DMA engine and the check units beside their registers: the channels, the channel that has the turn of each level with
the beats of its quantum (R362), the CRC register of each unit (R365), and the units that have taken their last group in this clock
(R368). -/
structure DmaState where
  chans : Vector DmaChan 32 := Vector.replicate 32 {}
  turns : Vector (Nat × Nat) 4 := Vector.replicate 4 (31, 64)
  crcs : Vector Nat 4 := Vector.replicate 4 0
  ended : List Nat := []
deriving DecidableEq, Repr

/-- A master heard of in Announce messages (R392): its data set, the port and the tick of its last Announce. -/
structure Master where
  info : AnnounceInfo
  port : Nat
  heard : Nat
  /-- The tick of its Announce before. -/
  before : Option Nat := none
deriving DecidableEq, Repr

/-- The PTP clock beside its registers (R389 to R395). Times are in units of 2^-16 ns. The masters heard of and the one
chosen; a two-step Sync that waits for its Follow_Up (sequenceId, t2, cS); t2 - t1 - cS of the last Sync and
t4 - t3 - cD of the last Delay_Resp; the last Delay_Req (sequenceId, t3), its tick and the interval (log2 s) that the
master gave; the consecutive offsets within PTP_LOCK_THR; the last 64 rates, newest first; the ticks of the last Sync and
of the entry to HOLDOVER; and a STEP_NOW that waits, with its tick. -/
structure PtpState where
  masters : List Master := []
  best : Option Master := none
  sync : Option (Nat × Int × Int) := none
  down : Option Int := none
  up : Option Int := none
  request : Option (Nat × Int) := none
  requestAt : Option Nat := none
  requestSeq : Nat := 0
  logInterval : Int := 0
  run : Nat := 0
  rates : List Int := []
  syncAt : Nat := 0
  holdSince : Nat := 0
  stepNow : Option Nat := none
  /-- What the next tick does to the time of day: a value that it loads (R395), or a step (R393, R396). -/
  load : Option Nat := none
  step : Int := 0
  /-- t2 - t1 - cS of a Sync of this tick, which a host set in the same tick would discard (R396). -/
  synced : Option Int := none
deriving DecidableEq, Repr

/-- The ticks of the last meetings of shadowed tables with their boundaries (R143, R188, R273, R310), by the numbers of
R487: the tick in which a table's commit became pending, and in which it switched at a boundary; the last raster and rill
boundaries as (tick, stripe, layer), and the tick of the last start of a layer move. -/
structure TableState where
  pendAt : List (Nat × Nat) := []
  switchAt : List (Nat × Nat) := []
  raster : Option (Nat × Nat × Nat) := none
  rill : Option (Nat × Nat × Nat) := none
  layerMove : Option Nat := none
deriving DecidableEq, Repr

-- END UNITS

/-- The module, everything but the queue of commands. `regs` holds every register of RegMap: a BAR0 offset that
the list does not hold reads as its reset value. -/
structure Device where
  /-- Power-good; false is device state OFF (R27). -/
  powered : Bool := false
  regs : List (Nat × Word) := []
  /-- The registers as the present tick began, by which a bit or a count of this clock is told from an earlier one (R11). -/
  atTick : List (Nat × Word) := []
  /-- The captured higher words of wide reads, and the held lower words of wide writes (R10). -/
  capture : List (Nat × Word) := []
  heldWrites : List (Nat × Word) := []
  /-- The fault clock: ticks since option load, over 64 bits (R496). POS_TICK is its low 36 bits (R267). -/
  clock : Nat := 0
  /-- The time of day in units of 2^-16 ns, and the remainder of the tick step in units of 10^-9 of that (R387). -/
  tod : Nat := 0
  todRem : Nat := 0
  /-- The model's own counter of free values: Config gives the value for each count. -/
  freeCtr : Nat := 0
  /-- What the last command made the module send. -/
  out : List Out := []
  /-- Host memory as the module reads and writes it over PCIe, by byte address. -/
  hostMem : List Host.Cell := []
  /-- Module DRAM, by word address (64 words a line). -/
  dram : List (Nat × Word) := []
  /-- The model's own field: words of DRAM regions that a unit has filled in a layout that the manual does not give, as
  (first word, words, counter of the free values that they hold), the last filled first (R81, R88, R139). -/
  laidOut : List (Nat × Nat × Nat) := []
  domains : List Domain := []
  rst : RstState := {}
  evt : EvtState := {}
  ulp : UlpState := {}
  job : Option Job := none
  pos : PosState := {}
  fls : FlsState := {}
  mot : MotState := {}
  pwr : PwrState := {}
  marks : List Mark := []
  lne : LneState := {}
  slotBuf : List SlotFlash := []
  mem : MemState := {}
  spr : SprState := {}
  csc : CscState := {}
  pool : PoolState := {}
  cst : CstState := {}
  ril : RilState := {}
  eth : EthState := {}
  msh : MshState := {}
  dma : DmaState := {}
  ptp : PtpState := {}
  tbl : TableState := {}
  start : Option (StartStage × Job) := none
  /-- The conditions (block, event code) that held in the last tick, for counters in edge mode (R538). -/
  conds : List (Nat × Nat) := []
  pmc : PmcState := {}
  /-- The last row of the pass is committed to the deep band, and is in the Cistern (R303). -/
  lastCommitted : Bool := false
  lastHeld : Bool := false
deriving DecidableEq, Repr

/-- The state of the block: the module and the queue of commands that wait, first in, first out. -/
structure State where
  dev : Device := {}
  pending : List Instr := []
deriving DecidableEq, Repr

/-- Why the machine stops with a fault. -/
inductive Fault where
  /-- A stimulus that the module's interface cannot carry (raised by no command of this model). Safe. -/
  | malformed
deriving DecidableEq, Repr

/-- Why a command is refused. -/
inductive Refusal where
  /-- The command has no meaning in the model yet: raised by an arm of `exec` alone. Safe. -/
  | notModelled (mnemonic : String)
deriving DecidableEq, Repr

/-- The module right after a power-on reset, before power-good rises: every register at its reset value (BOOT,
PHASE FUSE, RST_CAUSE POR), empty memories, and no command waiting. -/
def State.reset : State := {}

end Sys2Proof.Machine
end

