-- ==== Sys2Proof/Machine/Ops.lean ====
section
/-! DEFINITION. The named operations over the module's state: sparse memories, registers and their fields,
wide registers, host memory and module DRAM. -/
namespace Sys2Proof.Machine

/-! ## Sparse memories -/

/-- The value at key `k` of a sparse memory, or none where the list holds no entry. -/
def cellFind {α : Type} (l : List (Nat × α)) (k : Nat) : Option α :=
  match l with
  | [] => none
  | (k', v) :: rest => if k' = k then some v else cellFind rest k

/-- A sparse memory without key `k`. -/
def cellErase {α : Type} (l : List (Nat × α)) (k : Nat) : List (Nat × α) :=
  match l with
  | [] => []
  | (k', v) :: rest => if k' = k then cellErase rest k else (k', v) :: cellErase rest k

/-- A sparse memory with an entry placed before the first larger key. -/
def cellInsert {α : Type} (l : List (Nat × α)) (k : Nat) (v : α) : List (Nat × α) :=
  match l with
  | [] => [(k, v)]
  | (k', v') :: rest => if k < k' then (k, v) :: (k', v') :: rest else (k', v') :: cellInsert rest k v

/-- Read a sparse memory whose unlisted keys read as `dflt`. -/
def cellGet {α : Type} (dflt : α) (l : List (Nat × α)) (k : Nat) : α := (cellFind l k).getD dflt

/-- Write a sparse memory: an entry equal to what the unlisted key reads as is not listed. -/
def cellSet {α : Type} [DecidableEq α] (dflt : α) (l : List (Nat × α)) (k : Nat) (v : α) : List (Nat × α) :=
  if v = dflt then cellErase l k else cellInsert (cellErase l k) k v

/-- The canonical form of a sparse memory: keys strictly rising, and no entry equal to its default. -/
def cellWf {α : Type} [DecidableEq α] (dflt : Nat → α) (l : List (Nat × α)) : Bool :=
  match l with
  | [] => true
  | (k, v) :: rest =>
    decide (v ≠ dflt k) && (match rest with | [] => true | (k', _) :: _ => decide (k < k')) && cellWf dflt rest

/-! ## Registers -/

/-- The stored value of the register dword at BAR0 offset `off`. -/
def Device.reg (d : Device) (off : Nat) : Nat := ((cellFind d.regs off).getD (BitVec.ofNat 18 (regReset off))).toNat

/-- The value of the register dword at `off` as the present tick began. -/
def Device.tickReg (d : Device) (off : Nat) : Nat := ((cellFind d.atTick off).getD (BitVec.ofNat 18 (regReset off))).toNat

/-- Store the low 18 bits of `v` in the register dword at `off` (R7). -/
def Device.setReg (d : Device) (off : Nat) (v : Nat) : Device :=
  { d with regs := cellSet (BitVec.ofNat 18 (regReset off)) d.regs off (BitVec.ofNat 18 v) }

/-- A field: the dword that holds it, its lowest bit and its width. -/
structure Fld where
  off : Nat
  lo : Nat
  w : Nat
deriving DecidableEq, Repr

/-- The value of a field. -/
def Device.get (d : Device) (f : Fld) : Nat := bits (d.reg f.off) f.lo f.w

/-- Set a field to the low bits of `v`, keeping the rest of its dword. -/
def Device.put (d : Device) (f : Fld) (v : Nat) : Device := d.setReg f.off (setBits (d.reg f.off) f.lo f.w v)

/-- A one-bit field as a truth value. -/
def Device.flag (d : Device) (f : Fld) : Bool := d.get f == 1

/-- Set a one-bit field from a truth value. -/
def Device.putFlag (d : Device) (f : Fld) (b : Bool) : Device := d.put f (b2n b)

/-- Count one more in a field, saturating at its largest value. -/
def Device.bump (d : Device) (f : Fld) : Device := d.put f (min (d.get f + 1) (2 ^ f.w - 1))

/-- Add `n` to a field, saturating at its largest value. -/
def Device.bumpBy (d : Device) (f : Fld) (n : Nat) : Device := d.put f (min (d.get f + n) (2 ^ f.w - 1))

/-- A whole register dword as a field. -/
def whole (off : Nat) : Fld := { off := off, lo := 0, w := 18 }

/-- A single bit of a register dword as a field. -/
def bitAt (off i : Nat) : Fld := { off := off, lo := i, w := 1 }

/-- A 36-bit register pair, low word first (R4, R10). -/
def Device.get36 (d : Device) (off : Nat) : Nat := pairVal (d.reg off) (d.reg (off + 4))

/-- Set a 36-bit register pair. -/
def Device.put36 (d : Device) (off : Nat) (v : Nat) : Device := (d.setReg off (v % wordMod)).setReg (off + 4) (v / wordMod)

/-- A 36-bit signed register pair. -/
def Device.getS36 (d : Device) (off : Nat) : Int := s36 (d.get36 off)

/-- Set a 36-bit signed register pair. -/
def Device.putS36 (d : Device) (off : Nat) (v : Int) : Device := d.put36 off (w36 v)

/-- A 54-bit register triple, low word first. -/
def Device.get54 (d : Device) (off : Nat) : Nat := d.get36 off + d.reg (off + 8) * pairMod

/-- Store a list of words at consecutive dwords. -/
def Device.setRegs (d : Device) (off : Nat) (vs : List Nat) : Device :=
  match vs with
  | [] => d
  | v :: rest => (d.setReg off v).setRegs (off + 4) rest

/-- Load the captured value of a higher dword of a wide register (R10). -/
def Device.captureDword (d : Device) (off v : Nat) : Device :=
  { d with capture := cellInsert (cellErase d.capture off) off (BitVec.ofNat 18 v) }

/-- Set a dword to the value that a reset gives it: a higher dword of a wide register is captured with it (R10). -/
def Device.resetDword (d : Device) (off v : Nat) : Device :=
  let d := d.setReg off v
  if (locate off).any (fun l => l.row.capture && l.dw != 0) then d.captureDword off v else d

/-- Set consecutive dwords to the values that a reset gives them. -/
def Device.resetDwords (d : Device) (off : Nat) (vs : List Nat) : Device :=
  match vs with
  | [] => d
  | v :: rest => (d.resetDword off v).resetDwords (off + 4) rest

/-- Apply an operation to each element of a list in turn. -/
def Device.each {α : Type} (d : Device) (l : List α) (f : Device → α → Device) : Device := l.foldl f d

/-- Apply an operation where a condition holds. -/
def Device.when (d : Device) (c : Bool) (f : Device → Device) : Device := if c then f d else d

/-- Send something out. -/
def Device.emit (d : Device) (o : Out) : Device := { d with out := d.out ++ [o] }

/-- Take the next free value's index. -/
def Device.nextFree (d : Device) : Device := { d with freeCtr := d.freeCtr + 1 }

/-! ## Time -/

/-- POS_TICK (R267). -/
def Device.tick (d : Device) : Nat := d.clock % pairMod

/-- The units of `Device.tod` in one second. -/
def todSecond : Nat := 65536000000000

/-- The seconds of the time of day (R387). -/
def Device.todSecs (d : Device) : Nat := d.tod / todSecond

/-- The nanoseconds of the time of day. -/
def Device.todNs (d : Device) : Nat := d.tod % todSecond / 65536

/-! ## Host memory -/

/-- A byte of host memory. -/
def Device.hostByte (d : Device) (a : Nat) : Nat := (cellGet (0 : Byte) d.hostMem a).toNat

/-- Write a byte of host memory. -/
def Device.setHostByte (d : Device) (a : Nat) (v : Nat) : Device :=
  { d with hostMem := cellSet (0 : Byte) d.hostMem a (BitVec.ofNat 8 v) }

/-- `n` bytes of host memory from address `a`. -/
def Device.hostBytes (d : Device) (a n : Nat) : List Nat := (List.range n).map (fun i => d.hostByte (a + i))

/-- A little-endian number from its bytes. -/
def leNat (l : List Nat) : Nat := l.foldr (fun b acc => b + 256 * acc) 0

/-- The `n` little-endian bytes of a number. -/
def leBytes (n v : Nat) : List Nat := (List.range n).map (fun i => v / 256 ^ i % 256)

/-- A little-endian dword of host memory (R466). -/
def Device.hostDword (d : Device) (a : Nat) : Nat := leNat (d.hostBytes a 4)

/-- `n` dwords of host memory. -/
def Device.hostDwords (d : Device) (a n : Nat) : List Nat := (List.range n).map (fun i => d.hostDword (a + 4 * i))

/-- Write bytes to host memory. -/
def Device.putHostBytes (d : Device) (a : Nat) (bs : List Nat) : Device :=
  (d.each bs.zipIdx (fun d p => d.setHostByte (a + p.2) p.1))

/-- Write dwords to host memory. -/
def Device.putHostDwords (d : Device) (a : Nat) (ws : List Nat) : Device :=
  (d.each ws.zipIdx (fun d p => d.putHostBytes (a + 4 * p.2) (leBytes 4 p.1)))

/-- The four words of a word group from its 72-bit value (R5). -/
def groupWords (v : Nat) : List Nat := (List.range 4).map (fun i => bits v (18 * i) 18)

/-- The 72-bit value of a word group (R5). -/
def groupVal (ws : List Nat) : Nat := (List.range 4).foldl (fun acc i => acc + ws.getD i 0 % wordMod * 2 ^ (18 * i)) 0

/-- `n` word groups of host memory as words (R5). -/
def Device.hostGroups (d : Device) (a n : Nat) : List Nat :=
  (List.range n).flatMap (fun i => groupWords (leNat (d.hostBytes (a + 9 * i) 9)))

/-- Cut a list into lists of `n`, for `fuel` pieces. -/
def chunks {α : Type} (n : Nat) : Nat → List α → List (List α)
  | 0, _ => []
  | fuel + 1, l => if l.isEmpty then [] else l.take n :: chunks n fuel (l.drop n)

/-- Write words as packed word groups (R5). -/
def Device.putHostGroups (d : Device) (a : Nat) (ws : List Nat) : Device :=
  (d.each (chunks 4 ws.length ws).zipIdx (fun d p => d.putHostBytes (a + 9 * p.2) (leBytes 9 (groupVal p.1))))

/-! ## Module DRAM -/

/-- The address lies in the first `n` words from `first`. -/
def within (first n a : Nat) : Bool := decide (first ≤ a) && decide (a < first + n)

/-- The counter of the free value that a word of a region holds whose layout the manual does not give. -/
def laidAt (rs : List (Nat × Nat × Nat)) (a : Nat) : Option Nat := (rs.find? (fun r => within r.1 r.2.1 a)).map (fun r => r.2.2)

/-- Such regions without the word at `a`. -/
def cutWord (rs : List (Nat × Nat × Nat)) (a : Nat) : List (Nat × Nat × Nat) :=
  rs.flatMap (fun r => if within r.1 r.2.1 a then [(r.1, a - r.1, r.2.2), (a + 1, r.1 + r.2.1 - (a + 1), r.2.2)] else [r])

/-- A word of module DRAM; a word that nothing has written is 0, as the zero fill leaves it (R331), and one of a region whose
layout the manual does not give is a free value once its unit has filled the region. -/
def Device.dramWord (d : Device) (a : Nat) : Nat :=
  match laidAt d.laidOut a with
  | some k => (Config.regionWord k a).toNat
  | none => (cellGet (0 : Word) d.dram a).toNat

/-- Write a word of module DRAM. -/
def Device.setDramWord (d : Device) (a v : Nat) : Device :=
  { d with dram := cellSet (0 : Word) d.dram a (BitVec.ofNat 18 v), laidOut := cutWord d.laidOut a }

/-- A unit fills the region at a line base in a layout that the manual does not give: its words are free values (R81, R88,
R139). DESIGN CHOICE: log entry 70. -/
def Device.fillRegion (d : Device) (base lines : Nat) : Device :=
  let d := { d with laidOut := (64 * base, 64 * lines, d.freeCtr) ::
                      d.laidOut.filter (fun r => !(decide (64 * base ≤ r.1) && decide (r.1 + r.2.1 ≤ 64 * base + 64 * lines))) }
  d.nextFree

/-- `n` words of module DRAM. -/
def Device.dramWords (d : Device) (a n : Nat) : List Nat := (List.range n).map (fun i => d.dramWord (a + i))

/-- Write words to module DRAM. -/
def Device.putDram (d : Device) (a : Nat) (ws : List Nat) : Device :=
  (d.each ws.zipIdx (fun d p => d.setDramWord (a + p.2) p.1))

/-- Replace an element of a list. -/
def listSet {α : Type} (l : List α) (i : Nat) (v : α) : List α := l.set i v

/-- Insert in ascending order of a key. -/
def insertBy {α : Type} (key : α → Nat) (a : α) : List α → List α
  | [] => [a]
  | b :: rest => if key a < key b then a :: b :: rest else b :: insertBy key a rest

/-- Sort in ascending order of a key, keeping the order of equal keys. -/
def sortBy {α : Type} (key : α → Nat) (l : List α) : List α := l.foldl (fun acc a => insertBy key a acc) []

/-- A signed value in nearest-integer rounding of a quotient, ties towards plus infinity, for any divisor. -/
def ratRound (r : Rat) : Int := (r + 1 / 2).floor

end Sys2Proof.Machine
end

