-- ==== Sys2Proof/Machine/Crypto.lean ====
section
/-! DEFINITION. SHA-256 and ECDSA P-256 signature verification (R239, R444). The manual names the algorithms; their
constants are PRESUMED from the published standards (log entry 20). -/
namespace Sys2Proof.Machine

/-- Round constants 0 to 15 of SHA-256. -/
def shaK0 : List Nat :=
  [0x428A2F98, 0x71374491, 0xB5C0FBCF, 0xE9B5DBA5, 0x3956C25B, 0x59F111F1, 0x923F82A4, 0xAB1C5ED5, 0xD807AA98, 0x12835B01, 0x243185BE, 0x550C7DC3, 0x72BE5D74, 0x80DEB1FE, 0x9BDC06A7, 0xC19BF174]
/-- Round constants 16 to 31 of SHA-256. -/
def shaK1 : List Nat :=
  [0xE49B69C1, 0xEFBE4786, 0xFC19DC6, 0x240CA1CC, 0x2DE92C6F, 0x4A7484AA, 0x5CB0A9DC, 0x76F988DA, 0x983E5152, 0xA831C66D, 0xB00327C8, 0xBF597FC7, 0xC6E00BF3, 0xD5A79147, 0x6CA6351, 0x14292967]
/-- Round constants 32 to 47 of SHA-256. -/
def shaK2 : List Nat :=
  [0x27B70A85, 0x2E1B2138, 0x4D2C6DFC, 0x53380D13, 0x650A7354, 0x766A0ABB, 0x81C2C92E, 0x92722C85, 0xA2BFE8A1, 0xA81A664B, 0xC24B8B70, 0xC76C51A3, 0xD192E819, 0xD6990624, 0xF40E3585, 0x106AA070]
/-- Round constants 48 to 63 of SHA-256. -/
def shaK3 : List Nat :=
  [0x19A4C116, 0x1E376C08, 0x2748774C, 0x34B0BCB5, 0x391C0CB3, 0x4ED8AA4A, 0x5B9CCA4F, 0x682E6FF3, 0x748F82EE, 0x78A5636F, 0x84C87814, 0x8CC70208, 0x90BEFFFA, 0xA4506CEB, 0xBEF9A3F7, 0xC67178F2]
/-- The initial hash value of SHA-256. -/
def shaInit : List Nat :=
  [0x6A09E667, 0xBB67AE85, 0x3C6EF372, 0xA54FF53A, 0x510E527F, 0x9B05688C, 0x1F83D9AB, 0x5BE0CD19]

/-- 2^32. -/
def w32 : Nat := 4294967296

/-- Rotate a 32-bit value right. -/
def rotr (n x : Nat) : Nat := x / 2 ^ n + x % 2 ^ n * 2 ^ (32 - n)

/-- Big-endian number from bytes. -/
def beNat (bs : List Nat) : Nat := bs.foldl (fun a b => 256 * a + b) 0

/-- The `n` big-endian bytes of a number. -/
def beBytes (n v : Nat) : List Nat := (leBytes n v).reverse

/-- One more word of the message schedule; the list holds the last 16 words, oldest first. -/
def shaNext (w : List Nat) : Nat :=
  let w0 := w.getD 0 0
  let w1 := w.getD 1 0
  let w9 := w.getD 9 0
  let w14 := w.getD 14 0
  let s0 := rotr 7 w1 ^^^ rotr 18 w1 ^^^ (w1 / 8)
  let s1 := rotr 17 w14 ^^^ rotr 19 w14 ^^^ (w14 / 1024)
  (w0 + s0 + w9 + s1) % w32

/-- One round: the eight working variables and the schedule. -/
def shaRound (st : List Nat × List Nat) (k : Nat) : List Nat × List Nat :=
  let (v, w) := st
  let a := v.getD 0 0
  let b := v.getD 1 0
  let c := v.getD 2 0
  let d := v.getD 3 0
  let e := v.getD 4 0
  let f := v.getD 5 0
  let g := v.getD 6 0
  let h := v.getD 7 0
  let s1 := rotr 6 e ^^^ rotr 11 e ^^^ rotr 25 e
  let ch := (e &&& f) ^^^ ((w32 - 1 - e) &&& g)
  let t1 := h + s1 + ch + k + w.getD 0 0
  let s0 := rotr 2 a ^^^ rotr 13 a ^^^ rotr 22 a
  let maj := (a &&& b) ^^^ (a &&& c) ^^^ (b &&& c)
  ([(t1 + s0 + maj) % w32, a, b, c, (d + t1) % w32, e, f, g], w.drop 1 ++ [shaNext w])

/-- Compress one 64-byte block. -/
def shaBlock (h : List Nat) (block : List Nat) : List Nat :=
  let w := (chunks 4 16 block).map beNat
  let (v, _) := (shaK0 ++ shaK1 ++ shaK2 ++ shaK3).foldl shaRound (h, w)
  (h.zip v).map (fun p => (p.1 + p.2) % w32)

/-- SHA-256 of bytes, as 32 bytes. -/
def sha256 (bs : List Nat) : List Nat :=
  let pad := bs ++ [128] ++ List.replicate ((119 - bs.length % 64) % 64) 0 ++ beBytes 8 (8 * bs.length)
  ((chunks 64 (pad.length / 64) pad).foldl shaBlock shaInit).flatMap (beBytes 4)

/-! ## P-256 -/

/-- The field prime, the order, the coefficient b and the base point of P-256. -/
def p256 : Nat := 0xFFFFFFFF00000001000000000000000000000000FFFFFFFFFFFFFFFFFFFFFFFF
def n256 : Nat := 0xFFFFFFFF00000000FFFFFFFFFFFFFFFFBCE6FAADA7179E84F3B9CAC2FC632551
def b256 : Nat := 0x5AC635D8AA3A93E7B3EBBD55769886BC651D06B0CC53B0F63BCE3C3E27D2604B
def gx256 : Nat := 0x6B17D1F2E12C4247F8BCE6E563A440F277037D812DEB33A0F4A13945D898C296
def gy256 : Nat := 0x4FE342E2FE1A7F9B8EE7EB4A7C0F9E162BCE33576B315ECECBB6406837BF51F5

/-- base^e mod m, e given by its bits, most significant first. -/
def powModBits (m base : Nat) : List Bool → Nat → Nat
  | [], acc => acc
  | b :: rest, acc => powModBits m base rest ((if b then acc * acc % m * base else acc * acc) % m)

/-- The 256 bits of a number, most significant first. -/
def bits256 (v : Nat) : List Bool := (List.range 256).map (fun i => bitOf v (255 - i))

/-- The inverse modulo a prime. -/
def invMod (m a : Nat) : Nat := powModBits m (a % m) (bits256 (m - 2)) 1

/-- A point of the curve in projective coordinates (x : y : z) with x/z², y/z³; z = 0 is the point at infinity. -/
structure EcPoint where
  x : Nat
  y : Nat
  z : Nat
deriving DecidableEq, Repr

/-- a - b modulo p. -/
def subP (a b : Nat) : Nat := (a + p256 - b % p256) % p256

/-- Double a point (a = -3). -/
def ecDouble (q : EcPoint) : EcPoint :=
  if q.z == 0 || q.y == 0 then { x := 1, y := 1, z := 0 }
  else
    let zz := q.z * q.z % p256
    let m := 3 * (subP q.x zz * ((q.x + zz) % p256) % p256) % p256
    let yy := q.y * q.y % p256
    let s := 4 * (q.x * yy % p256) % p256
    let x := subP (m * m % p256) (2 * s)
    let y := subP (m * subP s x % p256) (8 * (yy * yy % p256))
    { x := x, y := y, z := 2 * (q.y * q.z % p256) % p256 }

/-- Add two points. -/
def ecAdd (a b : EcPoint) : EcPoint :=
  if a.z == 0 then b else if b.z == 0 then a
  else
    let za := a.z * a.z % p256
    let zb := b.z * b.z % p256
    let u1 := a.x * zb % p256
    let u2 := b.x * za % p256
    let s1 := a.y * zb % p256 * b.z % p256
    let s2 := b.y * za % p256 * a.z % p256
    if u1 == u2 then
      if s1 == s2 then ecDouble a else { x := 1, y := 1, z := 0 }
    else
      let h := subP u2 u1
      let r := subP s2 s1
      let hh := h * h % p256
      let hhh := hh * h % p256
      let v := u1 * hh % p256
      let x := subP (subP (r * r % p256) hhh) (2 * v)
      { x := x, y := subP (r * subP v x % p256) (s1 * hhh), z := a.z * b.z % p256 * h % p256 }

/-- A multiple of a point, by the bits of the factor, most significant first. -/
def ecMul (q : EcPoint) : List Bool → EcPoint → EcPoint
  | [], acc => acc
  | b :: rest, acc => ecMul q rest (if b then ecAdd (ecDouble acc) q else ecDouble acc)

/-- The point at infinity. -/
def ecZero : EcPoint := { x := 1, y := 1, z := 0 }

/-- A key of 64 bytes, X then Y big-endian, names a point of the curve (R239). -/
def keyPoint (key : List Nat) : Option EcPoint :=
  let x := beNat (key.take 32)
  let y := beNat (key.drop 32)
  if key.length == 64 && decide (x < p256) && decide (y < p256) &&
     y * y % p256 == (x * x % p256 * x + b256 + (p256 - 3) * x) % p256
  then some { x := x, y := y, z := 1 } else none

/-- ECDSA P-256 verification over the SHA-256 of a message; the signature is r then s, big-endian (R239). -/
def ecdsaVerify (key msg sig : List Nat) : Bool :=
  let r := beNat (sig.take 32)
  let s := beNat (sig.drop 32)
  match keyPoint key with
  | none => false
  | some q =>
    if sig.length == 64 && decide (0 < r) && decide (r < n256) && decide (0 < s) && decide (s < n256) then
      let e := beNat (sha256 msg)
      let w := invMod n256 s
      let g : EcPoint := { x := gx256, y := gy256, z := 1 }
      let pt := ecAdd (ecMul g (bits256 (e * w % n256)) ecZero) (ecMul q (bits256 (r * w % n256)) ecZero)
      if pt.z == 0 then false
      else
        let zi := invMod p256 pt.z
        (pt.x * (zi * zi % p256) % p256) % n256 == r
    else false

end Sys2Proof.Machine
end

