-- ==== Sys2Proof/Machine/Geometry.lean ====
section
/-! DEFINITION. The geometry of the Cascades and the Basins (R53 to R57, R81 to R92): transforms and cell expansion,
curve flattening, the nonzero resolution, the contours of a tile, and the exact areas of contours. Contour points are
in fine units FU = 1/65,536 AU. -/
namespace Sys2Proof.Machine

/-- A point in whole AU, or in FU. -/
abbrev Pt := Int × Int

/-- A directed edge. -/
abbrev Edge := Pt × Pt

/-! ## Transforms (R53) -/

/-- A point under ORIENT. -/
def orientPt (o : Nat) (p : Pt) : Pt :=
  match o with
  | 0 => (p.1, p.2)
  | 1 => (-p.2, p.1)
  | 2 => (-p.1, -p.2)
  | 3 => (p.2, -p.1)
  | 4 => (p.1, -p.2)
  | 5 => (p.2, p.1)
  | 6 => (-p.1, p.2)
  | _ => (-p.2, -p.1)

/-- A cell point in instance (i, j) of a placement. -/
def Place.map (q : Place) (i j : Nat) (p : Pt) : Pt :=
  let r := orientPt q.orient p
  (q.x + i * q.px + r.1, q.y + j * q.py + r.2)

/-- The segments of a primitive: its start and, for each segment, the control points and the end. -/
structure Outline where
  start : Pt
  segs : List (Option (Pt × Pt) × Pt)
deriving DecidableEq, Repr

/-- The outline of a primitive, closed by its last segment (R54). -/
def Prim.outline : Prim → Outline
  | .rect x0 y0 x1 y1 => ⟨(x0, y0), [(none, (x1, y0)), (none, (x1, y1)), (none, (x0, y1)), (none, (x0, y0))]⟩
  | .trap false y0 y1 l0 r0 l1 r1 => ⟨(l0, y0), [(none, (r0, y0)), (none, (r1, y1)), (none, (l1, y1)), (none, (l0, y0))]⟩
  | .trap true x0 x1 b0 t0 b1 t1 => ⟨(x0, b0), [(none, (x1, b1)), (none, (x1, t1)), (none, (x0, t0)), (none, (x0, b0))]⟩
  | .poly vs => ⟨vs.headD (0, 0), (vs.drop 1 ++ vs.take 1).map (fun p => (none, p))⟩
  | .curve s segs => ⟨s, if (segs.getLast?).any (fun g => g.2 == s) then segs else segs ++ [(none, s)]⟩

/-- Every vertex, end point and control point of an outline. -/
def Outline.points (o : Outline) : List Pt :=
  o.start :: o.segs.flatMap (fun g => (g.1.toList.flatMap (fun c => [c.1, c.2])) ++ [g.2])

/-- An outline under a map of points. -/
def Outline.map (o : Outline) (f : Pt → Pt) : Outline :=
  ⟨f o.start, o.segs.map (fun g => (g.1.map (fun c => (f c.1, f c.2)), f g.2))⟩

/-! ## Boxes and expansion (R81, R82) -/

/-- The smallest box that holds a list of points. -/
def boxOf (ps : List Pt) : Option Box :=
  match ps with
  | [] => none
  | p :: rest => some (rest.foldl (fun b q => { x0 := min b.x0 q.1, y0 := min b.y0 q.2, x1 := max b.x1 q.1, y1 := max b.y1 q.2 })
      { x0 := p.1, y0 := p.2, x1 := p.1, y1 := p.2 })

/-- The corners of a box. -/
def Box.corners (b : Box) : List Pt := [(b.x0, b.y0), (b.x1, b.y0), (b.x1, b.y1), (b.x0, b.y1)]

/-- A box holds a point. -/
def Box.holds (b : Box) (p : Pt) : Bool :=
  decide (b.x0 ≤ p.1) && decide (p.1 ≤ b.x1) && decide (b.y0 ≤ p.2) && decide (p.2 ≤ b.y1)

/-- Two boxes meet. -/
def Box.meets (a b : Box) : Bool :=
  decide (a.x0 ≤ b.x1) && decide (b.x0 ≤ a.x1) && decide (a.y0 ≤ b.y1) && decide (b.y0 ≤ a.y1)

/-- The cell of an identity in a library. -/
def findCell (lib : List Cell) (id : Nat) : Cell := (lib.find? (fun c => c.id == id)).getD { id := id, items := [] }

/-- The first and last instances of a placement. -/
def Place.ends (q : Place) : List (Nat × Nat) := [(0, 0), (q.nx - 1, 0), (0, q.ny - 1), (q.nx - 1, q.ny - 1)]

/-- The box points of a cell, through `depth` levels of placements (R81). -/
def cellPoints (lib : List Cell) : Nat → Nat → List Pt
  | 0, _ => []
  | depth + 1, id => (findCell lib id).items.flatMap (fun r =>
      match r.body with
      | .prim p => p.outline.points
      | .place q =>
        match boxOf (cellPoints lib depth q.id) with
        | some b => q.ends.flatMap (fun e => b.corners.map (q.map e.1 e.2))
        | none => []
      | _ => [])

/-- An expanded primitive: its class and its outline in the frame of the section. -/
structure Shape where
  cls : Nat
  outline : Outline
deriving DecidableEq, Repr

/-- The instances of a placement whose transformed box meets a region (R82). -/
def Place.instances (q : Place) (b region : Box) : List (Nat × Nat) :=
  match boxOf (b.corners.map (orientPt q.orient)) with
  | none => []
  | some t =>
    let ps := (List.range q.nx).filter (fun (i : Nat) => decide (q.x + i * q.px + t.x0 ≤ region.x1) && decide (region.x0 ≤ q.x + i * q.px + t.x1))
    let qs := (List.range q.ny).filter (fun (j : Nat) => decide (q.y + j * q.py + t.y0 ≤ region.y1) && decide (region.y0 ≤ q.y + j * q.py + t.y1))
    ps.flatMap (fun i => qs.map (fun j => (i, j)))

/-- The shapes of a record in the frame of its section: `depth` levels of cells, a class that an enclosing placement
forces (R56), and the map from the record's frame. Instances that do not meet the region cost nothing (R82). -/
def expand (lib : List Cell) (region : Box) : Nat → Option Nat → (Pt → Pt) → List LRec → List Shape
  | 0, _, _, _ => []
  | depth + 1, cls, f, rs => rs.flatMap (fun r =>
      match r.body with
      | .prim p => [{ cls := cls.getD r.cls, outline := p.outline.map f }]
      | .place q =>
        let pts := cellPoints lib 2 q.id
        match boxOf pts with
        | none => []
        | some b =>
          let forced := match cls with
            | some c => some c
            | none => if q.mode then some r.cls else none
          let all := (List.range q.nx).flatMap (fun i => (List.range q.ny).map (fun j => (i, j)))
          let which := if depth == 2 then q.instances b region
            else all.filter (fun e => (boxOf (b.corners.map (fun p => f (q.map e.1 e.2 p)))).any (fun t => t.meets region))
          which.flatMap (fun e => expand lib region depth forced (fun p => f (q.map e.1 e.2 p)) (findCell lib q.id).items)
      | _ => [])

/-- The shapes of one record of a geometry section. -/
def expandRecord (lib : List Cell) (region : Box) (r : LRec) : List Shape := expand lib region 3 none id [r]

/-- BOUNDS (R51): some point of a shape lies outside the section's box, or outside 36 bits. -/
def outOfBounds (box : Box) (s : Shape) : Bool :=
  s.outline.points.any (fun p => !box.holds p || decide (p.1 < -34359738368) || decide (34359738367 < p.1) ||
    decide (p.2 < -34359738368) || decide (34359738367 < p.2))

/-! ## Curves (R84) -/

/-- The square of the length of a vector. -/
def norm2 (p : Pt) : Nat := (p.1 * p.1 + p.2 * p.2).toNat

/-- The number of lines of a cubic: n = max(1, ceil(sqrt(3·M / 60))), the least n with 400·n⁴ at or above M². -/
def curveLines (p0 p1 p2 p3 : Pt) : Nat :=
  let m2 := max (norm2 (p0.1 - 2 * p1.1 + p2.1, p0.2 - 2 * p1.2 + p2.2)) (norm2 (p1.1 - 2 * p2.1 + p3.1, p1.2 - 2 * p2.2 + p3.2))
  max 1 (isqrtUp (isqrtUp (ceilDiv m2 400)))

/-- The flattening error of a coordinate, below 1/4 AU (R84), in AU. -/
def flatError (cubic : List Int) (k i : Nat) : Rat := mkRat (Config.flattenError cubic k i % 32767 - 16383) 65536

/-- A coordinate of a cubic at k/n, with its error, rounded to the nearest AU. -/
def cubicAt (axis : Nat) (cubic : List Int) (k n : Nat) : Int :=
  let at_ := fun i => cubic.getD (2 * i + axis) 0
  let a := at_ 0
  let b := at_ 1
  let c := at_ 2
  let d := at_ 3
  let s : Int := (n : Int) - k
  let t : Int := k
  ratRound (mkRat (a * s * s * s + 3 * b * s * s * t + 3 * c * s * t * t + d * t * t * t) (n * n * n) + flatError cubic k axis)

/-- The polygon of an outline, flattened, in AU. -/
def Outline.polygon (o : Outline) : List Pt :=
  (o.segs.foldl (fun (acc : Pt × List Pt) g =>
    match g.1 with
    | none => (g.2, g.2 :: acc.2)
    | some (c1, c2) =>
      let p0 := acc.1
      let n := curveLines p0 c1 c2 g.2
      let cubic := [p0.1, p0.2, c1.1, c1.2, c2.1, c2.2, g.2.1, g.2.2]
      let inner := (List.range (n - 1)).map (fun k => (cubicAt 0 cubic (k + 1) n, cubicAt 1 cubic (k + 1) n))
      (g.2, g.2 :: inner.reverse ++ acc.2)) (o.start, [o.start])).2.reverse

/-! ## Resolution by the nonzero winding rule (R85) -/

/-- FU in one AU. -/
def fu : Int := 65536

/-- A polygon's edges of nonzero length, in FU. -/
def polygonEdges (ps : List Pt) : List Edge :=
  let qs := ps.map (fun p => (p.1 * fu, p.2 * fu))
  (qs.zip (qs.drop 1 ++ qs.take 1)).filter (fun e => e.1 != e.2)

def Edge.dx (e : Edge) : Int := e.2.1 - e.1.1
def Edge.dy (e : Edge) : Int := e.2.2 - e.1.2

/-- The point of an edge at parameter t. -/
def Edge.at (e : Edge) (t : Rat) : Rat × Rat := ((e.1.1 : Rat) + t * Edge.dx e, (e.1.2 : Rat) + t * Edge.dy e)

/-- The parameters on `e` at which `f` crosses, touches or overlaps it. -/
def crossParams (e f : Edge) : List Rat :=
  let cross := Edge.dx e * Edge.dy f - Edge.dy e * Edge.dx f
  let wx := f.1.1 - e.1.1
  let wy := f.1.2 - e.1.2
  if cross != 0 then
    let t : Rat := (wx * Edge.dy f - wy * Edge.dx f : Int) / (cross : Int)
    let u : Rat := (wx * Edge.dy e - wy * Edge.dx e : Int) / (cross : Int)
    if decide (0 ≤ t) && decide (t ≤ 1) && decide (0 ≤ u) && decide (u ≤ 1) then [t] else []
  else if wx * Edge.dy e - wy * Edge.dx e != 0 then []
  else
    let l2 := Edge.dx e * Edge.dx e + Edge.dy e * Edge.dy e
    let par := fun (p : Pt) => (((p.1 - e.1.1) * Edge.dx e + (p.2 - e.1.2) * Edge.dy e : Int) : Rat) / (l2 : Int)
    ([par f.1, par f.2]).filter (fun t => decide (0 ≤ t) && decide (t ≤ 1))

/-- Insert into a rising list without repeats. -/
def insertRat (x : Rat) : List Rat → List Rat
  | [] => [x]
  | y :: rest => if x < y then x :: y :: rest else if x = y then y :: rest else y :: insertRat x rest

/-- The pieces of an edge between its crossing points. -/
def piecesOf (all : List Edge) (e : Edge) : List ((Rat × Rat) × (Rat × Rat)) :=
  let ts := (all.flatMap (crossParams e)).foldl (fun acc t => insertRat t acc) [0, 1]
  (ts.zip (ts.drop 1)).map (fun p => (Edge.at e p.1, Edge.at e p.2))

/-- Twice signed winding count contributions of an edge seen from a point along +y: where it passes above, at or below
the point's x, with half-open ranges. The answer is the edge's y at x and its sign. -/
def upHit (x : Rat) (closedRight : Bool) (f : Edge) : Option (Rat × Int) :=
  let a : Rat := (min f.1.1 f.2.1 : Int)
  let b : Rat := (max f.1.1 f.2.1 : Int)
  if Edge.dx f == 0 then none
  else if (if closedRight then decide (a < x) && decide (x ≤ b) else decide (a ≤ x) && decide (x < b)) then
    some ((f.1.2 : Rat) + (x - f.1.1) * Edge.dy f / Edge.dx f, if Edge.dx f < 0 then 1 else -1)
  else none

/-- The same along +x for a point's y. -/
def rightHit (y : Rat) (closedTop : Bool) (f : Edge) : Option (Rat × Int) :=
  let a : Rat := (min f.1.2 f.2.2 : Int)
  let b : Rat := (max f.1.2 f.2.2 : Int)
  if Edge.dy f == 0 then none
  else if (if closedTop then decide (a < y) && decide (y ≤ b) else decide (a ≤ y) && decide (y < b)) then
    some ((f.1.1 : Rat) + (y - f.1.2) * Edge.dx f / Edge.dy f, if 0 < Edge.dy f then 1 else -1)
  else none

/-- The winding numbers on the two sides of a piece: above and below it, or right and left of it where it is
vertical. -/
def sideWindings (all : List Edge) (p q : Rat × Rat) : Int × Int :=
  let mx := (p.1 + q.1) / 2
  let my := (p.2 + q.2) / 2
  let hits := if p.1 != q.1 then all.filterMap (upHit mx false) else all.filterMap (rightHit my false)
  let m := if p.1 != q.1 then my else mx
  let above := ((hits.filter (fun h => decide (m < h.1))).map Prod.snd).sum
  let at_ := ((hits.filter (fun h => decide (h.1 = m))).map Prod.snd).sum
  (above, above + at_)

/-- A crossing point rounded to FU (R85). -/
def roundPt (p : Rat × Rat) : Pt := (ratRound p.1, ratRound p.2)

/-- A piece as a boundary edge with the filled side on its left, not yet rounded; none where both sides are alike. -/
def boundaryEdge (all : List Edge) (p q : Rat × Rat) : Option ((Rat × Rat) × (Rat × Rat)) :=
  let (hi, lo) := sideWindings all p q
  -- left of the piece p → q
  let leftIsHi := if p.1 != q.1 then decide (p.1 < q.1) else decide (q.2 < p.2)
  let left := if leftIsHi then hi else lo
  let right := if leftIsHi then lo else hi
  if left != 0 && right == 0 then some (p, q)
  else if right != 0 && left == 0 then some (q, p)
  else none

/-- Step 1 of R85: the directed edges that separate filled from unfilled area. Edges that lie on one another give one boundary edge;
two that only round to the same points stay two, so that every contour stays closed. -/
def resolve (ps : List Pt) : List Edge :=
  let all := polygonEdges ps
  (((all.flatMap (fun e => (piecesOf all e).filterMap (fun p => boundaryEdge all p.1 p.2))).eraseDups).map
    (fun e => (roundPt e.1, roundPt e.2))).filter (fun e => e.1 != e.2)

/-! ## Contours of a tile (R85 steps 2 and 3) -/

/-- A rectangle in FU. -/
structure Rect where
  x0 : Int
  y0 : Int
  x1 : Int
  y1 : Int
deriving DecidableEq, Repr

/-- The part [t0, t1] of an edge within lo ≤ v ≤ hi, for a coordinate that runs from `a` by `d`. -/
def clipRange (a d lo hi : Int) (r : Rat × Rat) : Rat × Rat :=
  if d == 0 then (if a < lo || hi < a then (1, 0) else r)
  else
    let s : Rat := (lo - a : Int) / (d : Int)
    let t : Rat := (hi - a : Int) / (d : Int)
    (max r.1 (min s t), min r.2 (max s t))

/-- An edge along one of the tile's sides: it belongs to the closing edges. -/
def sideEdge (r : Rect) (e : Edge) : Bool :=
  (e.1.1 == e.2.1 && (e.1.1 == r.x0 || e.1.1 == r.x1)) || (e.1.2 == e.2.2 && (e.1.2 == r.y0 || e.1.2 == r.y1))

/-- The part of an edge in a tile, its ends rounded to FU; none where it is empty (R85 step 2). -/
def clipPart (r : Rect) (e : Edge) : Option Edge :=
  let (t0, t1) := clipRange e.1.2 (Edge.dy e) r.y0 r.y1 (clipRange e.1.1 (Edge.dx e) r.x0 r.x1 (0, 1))
  let p := roundPt (Edge.at e t0)
  let q := roundPt (Edge.at e t1)
  if t1 ≤ t0 || p == q then none else some (p, q)

/-- A part along a side has its filled side outside the tile. -/
def outward (r : Rect) (e : Edge) : Bool :=
  (e.1.2 == e.2.2 && ((e.1.2 == r.y0 && decide (e.2.1 < e.1.1)) || (e.1.2 == r.y1 && decide (e.1.1 < e.2.1)))) ||
    (e.1.1 == e.2.1 && ((e.1.1 == r.x0 && decide (e.1.2 < e.2.2)) || (e.1.1 == r.x1 && decide (e.2.2 < e.1.2))))

/-- The place of a point on the tile's sides, in FU anticlockwise from (x0, y0); none inside. -/
def sidePlace (r : Rect) (p : Pt) : Option Int :=
  let w := r.x1 - r.x0
  let h := r.y1 - r.y0
  if p.2 == r.y0 then some (p.1 - r.x0)
  else if p.1 == r.x1 then some (w + (p.2 - r.y0))
  else if p.2 == r.y1 then some (w + h + (r.x1 - p.1))
  else if p.1 == r.x0 then some (2 * w + h + (r.y1 - p.2))
  else none

/-- The point at a place of the sides, from 0 to their whole length. -/
def placePt (r : Rect) (s : Rat) : Rat × Rat :=
  let w : Rat := (r.x1 - r.x0 : Int)
  let h : Rat := (r.y1 - r.y0 : Int)
  if s ≤ w then ((r.x0 : Rat) + s, r.y0)
  else if s ≤ w + h then (r.x1, (r.y0 : Rat) + (s - w))
  else if s ≤ 2 * w + h then ((r.x1 : Rat) - (s - w - h), r.y1)
  else (r.x0, (r.y1 : Rat) - (s - 2 * w - h))

/-- The area just inside the sides at a place between two corners is filled. -/
def filledAt (r : Rect) (es : List Edge) (s : Rat) : Bool :=
  let w : Rat := (r.x1 - r.x0 : Int)
  let h : Rat := (r.y1 - r.y0 : Int)
  let p := placePt r s
  let wind := fun (hits : List (Rat × Int)) (m : Rat) (incl : Bool) =>
    ((hits.filter (fun x => if incl then decide (m ≤ x.1) else decide (m < x.1))).map Prod.snd).sum != 0
  if s < w then wind (es.filterMap (upHit p.1 false)) p.2 false
  else if s < w + h then wind (es.filterMap (rightHit p.2 false)) p.1 true
  else if s < 2 * w + h then wind (es.filterMap (upHit p.1 false)) p.2 true
  else wind (es.filterMap (rightHit p.2 false)) p.1 false

/-- Insert into a rising list of integers without repeats. -/
def insertInt (x : Int) : List Int → List Int
  | [] => [x]
  | y :: rest => if x < y then x :: y :: rest else if x = y then y :: rest else y :: insertInt x rest

/-- The closing edges of a tile (R85 step 3). The parts' end points and the corners cut the sides into intervals; round them
the number of closing edges changes by the parts that end at a place less those that begin there, so that every contour
closes, and on the longest interval there is one where the area just inside it is filled. -/
def closingEdges (r : Rect) (es parts alongs : List Edge) : List Edge :=
  let w := r.x1 - r.x0
  let h := r.y1 - r.y0
  let ends := (parts.map Prod.snd).filterMap (sidePlace r)
  let begins := (parts.map Prod.fst).filterMap (sidePlace r)
  let more := (alongs.flatMap (fun e => [e.1, e.2])).filterMap (sidePlace r)
  let cuts := (ends ++ begins ++ more).foldl (fun acc x => insertInt x acc) [0, w, w + h, 2 * w + h, 2 * w + 2 * h]
  let step := fun (x : Int) => ((ends.filter (fun y => y == x)).length : Int) - (begins.filter (fun y => y == x)).length
  let spans := ((cuts.zip (cuts.drop 1)).foldl (fun (acc : Int × List (Int × Int × Int)) c =>
    let n := acc.1 + (if c.1 == 0 then 0 else step c.1)
    (n, (c.1, c.2, n) :: acc.2)) (0, [])).2.reverse
  let long := spans.foldl (fun (b : Int × Int × Int) c => if b.2.1 - b.1 < c.2.1 - c.1 then c else b) (0, 0, 0)
  let base := (if filledAt r es (((long.1 + long.2.1 : Int) : Rat) / 2) then 1 else 0) - long.2.2
  let pt := fun (s : Int) => roundPt (placePt r s)
  spans.flatMap (fun c =>
    let n := base + c.2.2
    List.replicate n.natAbs (if 0 < n then (pt c.1, pt c.2.1) else (pt c.2.1, pt c.1)))

/-- The closed contours of a tile, as their edges with the filled side on the left. -/
def tileContours (r : Rect) (es : List Edge) : List Edge :=
  let parts := (es.filter (fun e => !sideEdge r e)).filterMap (clipPart r)
  let alongs := ((es.filter (sideEdge r)).filterMap (clipPart r)).filter (fun e => !outward r e)
  parts ++ closingEdges r es parts alongs

/-! ## Areas (R88, R91, R130) -/

/-- The shoelace sum of closed contours: twice their area in FU², which is their area in units of 2^-33 AU² (R88). -/
def shoelace (es : List Edge) : Int := (es.map (fun e => e.1.1 * e.2.2 - e.2.1 * e.1.2)).sum

/-- The number of rows (256 AU of x) in which an edge of a tile from x0 has a part of nonzero length (R88). An edge along x = c
lies in the row that begins at or before c, on the tile's far side the first row beyond the tile. -/
def rowCrossings (x0 : Int) (e : Edge) : Nat :=
  let row := 256 * fu
  let a := min e.1.1 e.2.1
  let b := max e.1.1 e.2.1
  if a < b then ((b - x0 + row - 1) / row - (a - x0) / row).toNat else if e.1 == e.2 then 0 else 1

/-- The antiderivative of clamp(s, 0, h). -/
def clampInt (h s : Rat) : Rat := if s ≤ 0 then 0 else if s ≤ h then s * s / 2 else h * s - h * h / 2

/-- The integral over x of clamp(y(x) - y0, 0, h) along an edge's part between xa and xb, signed by its direction. -/
def edgeIntegral (xa xb y0 h : Rat) (e : Edge) : Rat :=
  let dx := Edge.dx e
  if dx == 0 then 0
  else
    let lo := max xa (min e.1.1 e.2.1 : Int)
    let hi := min xb (max e.1.1 e.2.1 : Int)
    if hi ≤ lo then 0
    else
      let y := fun (x : Rat) => (e.1.2 : Rat) + (x - e.1.1) * Edge.dy e / dx - y0
      let a := y lo
      let b := y hi
      let mean := if a = b then max 0 (min h a) else (clampInt h b - clampInt h a) / (b - a)
      (if 0 < dx then mean * (hi - lo) else -(mean * (hi - lo)))

/-- The area, in FU², of contours within a rectangle: exact. -/
def areaIn (es : List Edge) (xa xb y0 y1 : Rat) : Rat :=
  let total := (es.map (edgeIntegral xa xb y0 (y1 - y0))).foldl (fun a b => a + b) 0
  0 - total

/-- FU² in one AU². -/
def fu2 : Rat := 4294967296

/-- The error of a part's contribution at a boundary: at most 2^-9 AU² (R92). -/
def partError (e : Edge) (k : Nat) : Rat := mkRat (Config.coverError [e.1.1, e.1.2, e.2.1, e.2.2] k % 257 - 128) 65536

/-- The part of an edge in a row of the tile, between points rounded to FU at the row's sides (R92). -/
def rowPart (xa xb : Int) (e : Edge) : Option Edge :=
  let (t0, t1) := clipRange e.1.1 (Edge.dx e) xa xb (0, 1)
  if t1 ≤ t0 || Edge.dx e == 0 then none else some (roundPt (Edge.at e t0), roundPt (Edge.at e t1))

/-- The coverages of the 256 pixels of a row of a tile, unclamped: A at every pixel boundary, each part with its
error, rounded once (R91, R92). -/
def rowCoverages (es : List Edge) (xa y0 : Int) : List Int :=
  let parts := es.filterMap (rowPart xa (xa + 256 * fu))
  let atB := fun (k : Nat) =>
    let h : Rat := (256 * fu * k : Int)
    let sum := (parts.map (fun p =>
      edgeIntegral xa (xa + 256 * fu : Int) y0 h p / fu2 + (if k == 0 then 0 else partError p k))).foldl (fun a b => a + b) (0 : Rat)
    ratRound (-sum)
  let as := (List.range 257).map atB
  (as.zip (as.drop 1)).map (fun p => p.2 - p.1)

end Sys2Proof.Machine
end

