-- ==== Sys2Proof/Machine/Checks.lean ====
section
/-! DEFINITION. The checks the manual names: CRC-32C (R43), CRC-16/CCITT (R238), and the generic reflected and
unreflected CRCs of the check units. -/
namespace Sys2Proof.Machine

/-- One bit of a reflected CRC of polynomial `poly` (bit-reversed form). -/
def crcReflBit (poly crc : Nat) : Nat := if crc % 2 == 1 then (crc / 2) ^^^ poly else crc / 2

/-- One byte of a reflected CRC. -/
def crcReflByte (poly crc b : Nat) : Nat := Nat.repeat (crcReflBit poly) 8 (crc ^^^ (b % 256))

/-- A reflected CRC over bytes from an initial register value. -/
def crcRefl (poly init : Nat) (bs : List Nat) : Nat := bs.foldl (crcReflByte poly) init

/-- One bit of an unreflected CRC of `w` bits. -/
def crcBit (w poly crc : Nat) : Nat :=
  if bitOf crc (w - 1) then (crc * 2 % 2 ^ w) ^^^ poly else crc * 2 % 2 ^ w

/-- One byte of an unreflected CRC. -/
def crcByte (w poly crc b : Nat) : Nat := Nat.repeat (crcBit w poly) 8 (crc ^^^ (b % 256 * 2 ^ (w - 8)))

/-- An unreflected CRC over bytes. -/
def crcPlain (w poly init : Nat) (bs : List Nat) : Nat := bs.foldl (crcByte w poly) init

/-- CRC-32C with its final complement (R43). -/
def crc32c (bs : List Nat) : Nat := crcRefl 0x82F63B78 0xFFFFFFFF bs ^^^ 0xFFFFFFFF

/-- CRC-16/CCITT of R238. -/
def crc16 (bs : List Nat) : Nat := crcPlain 16 0x1021 0xFFFF bs

/-- The bytes of words packed as word groups (R5). -/
def packGroups (ws : List Nat) : List Nat := (chunks 4 ws.length ws).flatMap (fun g => leBytes 9 (groupVal g))

/-- CRC-32C over word groups (R43). -/
def crcGroups (ws : List Nat) : Nat := crc32c (packGroups ws)

/-- CRC-16 over bits rather than bytes: one step a bit, first bit first. -/
def crc16Bits (bs : List Nat) : Nat :=
  bs.foldl (fun crc b =>
    let top := if bitOf crc 15 then 1 else 0
    let shifted := crc * 2 % 65536
    if top ^^^ b == 1 then shifted ^^^ 0x1021 else shifted) 0xFFFF

/-- CRC-16 of a set-point frame: over the 324 bits of W0 to W17, each word with bit 17 first (R297). -/
def crcSetPoint (ws : List Nat) : Nat :=
  crc16Bits (ws.flatMap (fun w => (List.range 18).map (fun i => bits w (17 - i) 1)))

end Sys2Proof.Machine
end

