-- ==== Sys2Proof/Machine/Operands.lean ====
section
/-! DEFINITION. The fields of the registers that several chapters use, the device state and phase of R34, the
islands of R435 and the register blocks they hold, and the module's non-register views. -/
namespace Sys2Proof.Machine

/-! ## Device state (R34) -/

def fState : Fld := { off := SYS_STATE, lo := 0, w := 3 }
def fPhase : Fld := { off := SYS_STATE, lo := 3, w := 3 }
def fPass : Fld := { off := SYS_STATE, lo := 6, w := 3 }
def fDir : Fld := { off := SYS_STATE, lo := 9, w := 1 }
def fHeldCause : Fld := { off := SYS_STATE, lo := 10, w := 3 }

/-- STATE codes of R34. -/
def stBoot : Nat := 1
def stReady : Nat := 2
def stWriting : Nat := 3
def stHeld : Nat := 4
def stFrost : Nat := 5

/-- PHASE codes of R34. -/
def phIdle : Nat := 0
def phLead : Nat := 1
def phRunIn : Nat := 2
def phExpose : Nat := 3
def phRunOut : Nat := 4
def phStep : Nat := 5
def phLayer : Nat := 6
def phStopping : Nat := 7

/-- The device state field. -/
def Device.st (d : Device) : Nat := d.get fState
def Device.inBoot (d : Device) : Bool := d.st == stBoot
def Device.inReady (d : Device) : Bool := d.st == stReady
def Device.inWriting (d : Device) : Bool := d.st == stWriting
def Device.inHeld (d : Device) : Bool := d.st == stHeld
def Device.inFrost (d : Device) : Bool := d.st == stFrost
/-- WRITING or HELD: a job is in progress or kept. -/
def Device.inJob (d : Device) : Bool := d.inWriting || d.inHeld
/-- The rills and lanes prepare flashes: in WRITING with no stop pending, or on a worker that has accepted a resume and
waits for RUN (R278, R422). -/
def Device.dataRuns (d : Device) : Bool := (d.inWriting || (d.inHeld && d.msh.resuming)) && !d.flag { off := FLS_STATUS, lo := 14, w := 1 }
/-- READY, WRITING or HELD. -/
def Device.inRun (d : Device) : Bool := d.inReady || d.inJob
/-- The phase field. -/
def Device.phase (d : Device) : Nat := d.get fPhase
def Device.setPhase (d : Device) (p : Nat) : Device := d.put fPhase p
def Device.setState (d : Device) (s : Nat) : Device := d.put fState s
/-- The direction of the pass: true for reverse (R34). -/
def Device.reversePass (d : Device) : Bool := d.flag fDir

/-! ## Islands (R435, R461) -/

/-- Island `k` as a bit of a LO and HI register pair (R461). -/
def islandBit (lo : Nat) (k : Nat) : Fld := if k < 18 then bitAt lo k else bitAt (lo + 4) (k - 18)
/-- Island `k` is out of reset. -/
def Device.released (d : Device) (k : Nat) : Bool := d.flag (islandBit RST_RELEASED k)
/-- CLK_GOOD of island `k` (R436). -/
def Device.clkGood (d : Device) (k : Nat) : Bool := d.flag (islandBit RST_CLK_GOOD k)
def Device.setReleased (d : Device) (k : Nat) (b : Bool) : Device := d.putFlag (islandBit RST_RELEASED k) b
def Device.setClkGood (d : Device) (k : Nat) (b : Bool) : Device := d.putFlag (islandBit RST_CLK_GOOD k) b

/-- The bits of a register that have been set in this clock (R11). -/
def Device.justSet (d : Device) (off : Nat) : Nat := if d.released 13 then d.reg off - (d.reg off &&& d.tickReg off) else 0

/-- The value of a register as this clock began, where what is written in a clock acts from the next one. -/
def Device.asTick (d : Device) (off : Nat) : Nat := if d.released 13 then d.tickReg off else d.reg off

/-- The value of a quantity of `n` dwords from an offset, low word first (R10), with the dwords read by `r`. -/
def wideVal (r : Nat → Nat) (off n : Nat) : Nat := ((List.range n).map (fun i => r (off + 4 * i) * wordMod ^ i)).sum

/-- What a counter of `n` dwords has counted in this clock (R11). -/
def Device.justCounted (d : Device) (off n : Nat) : Nat :=
  if d.released 13 then wideVal d.reg off n - wideVal d.tickReg off n else 0

/-- FSTATE and ETH_KEPT of PWR_STATUS (R542). -/
def fFState : Fld := { off := PWR_STATUS, lo := 15, w := 3 }
def fEthKept : Fld := bitAt PWR_STATUS 14

/-- An island whose clock Frost has stopped: 1 to 12, 14 to 18, and 20 unless ETH_KEPT (R528). -/
def Device.frosted (d : Device) (k : Nat) : Bool :=
  d.get fFState == 2 && ((decide (1 ≤ k) && decide (k ≤ 12)) || (decide (14 ≤ k) && decide (k ≤ 18)) || (k == 20 && !d.flag fEthKept))

/-- The unit of an island runs: it is out of reset and its clock runs. -/
def Device.unitUp (d : Device) (k : Nat) : Bool := d.released k && !d.frosted k

/-- The island that holds the register at an offset; none for the always-on island (R435, R442). The places that
R435 does not name are DEDUCED: see log entry 12. -/
def islandOf (off : Nat) : Option Nat :=
  match off / 0x100000 with
  | 0 => if off ≤ SYS_FIRMWARE_REL || (decide (SYS_VIN ≤ off) && decide (off < 0x700)) then none else some 0
  | 1 => none
  | 2 => some 0
  | 3 => some 0
  | 4 => some 1
  | 5 => some 2
  | 6 => some 3
  | 7 => some 4
  | 8 => some 3
  | 9 =>
    match locate off with
    | some l =>
      if l.row.base = RIL_GRP_MAP 0 || l.row.base = RIL_GRP_RETIRED 0 || l.row.base = RIL_GRP_FORCE 0 then some (5 + l.elem)
      else if l.row.base = RIL_GRP_SLOT 0 then some (5 + l.elem / 32) else some 5
    | none => some 5
  | 10 => some 18
  | 11 => some 13
  | 12 => some 13
  | 13 => some 13
  | 14 =>
    match locate off with
    | some l =>
      if l.row.count = 4 then some (14 + l.elem)
      else if l.row.base = MEM_CH_REMAP 0 then some (14 + l.elem / 32) else some 0
    | none => some 0
  | 15 => some 0
  | 16 => some 0
  | 17 => some 20
  | 18 => some 20
  | 19 => some 19
  | _ => some 0

/-- The island of an offset runs, so that its registers answer (R442, R530). -/
def Device.regUp (d : Device) (off : Nat) : Bool :=
  match islandOf off with
  | none => true
  | some k => d.released k && !d.frosted k

/-! ## Fields of the fault manager, the monitor and the reset block -/

def fFltCount : Fld := { off := SYS_FLT_CFG, lo := 16, w := 2 }
def fFltWindow : Fld := { off := SYS_FLT_CFG, lo := 8, w := 8 }
def fActivePair : Fld := bitAt SYS_CTL_STATUS 17
/-- The state of control pair `p`: 0 ACTIVE, 1 STANDBY, 2 RETESTING, 3 RETIRED (R520). -/
def fPairState (p : Nat) : Fld := { off := SYS_CTL_STATUS, lo := 15 - 2 * p, w := 2 }
def fFailovers : Fld := { off := SYS_CTL_STATUS, lo := 5, w := 8 }
def fLogCount : Fld := { off := SYS_ERRLOG_STATUS, lo := 10, w := 7 }
def fMonLevel : Fld := { off := SYS_MON_STATUS, lo := 16, w := 2 }
def fMonBaud : Fld := { off := SYS_MON_STATUS, lo := 12, w := 4 }
def fL1Open : Fld := bitAt SYS_MON_CFG 17
def fL2Open : Fld := bitAt SYS_MON_CFG 16
def fIdleMin : Fld := { off := SYS_MON_CFG, lo := 8, w := 8 }
def fClkIsland : Fld := { off := RST_CAUSE, lo := 6, w := 5 }
def fBootPhase : Fld := { off := RST_STATUS, lo := 15, w := 3 }
def fFuseErr : Fld := bitAt RST_STATUS 14
def fFwErr : Fld := bitAt RST_STATUS 13
def fJournalDefault : Fld := bitAt RST_STATUS 12
def fSelftestFail : Fld := bitAt RST_STATUS 11
def fOlRestarts : Fld := { off := RST_STATUS, lo := 7, w := 4 }
def fReleaseRefused : Fld := bitAt RST_STATUS 6
def fBlkBusy : Fld := bitAt RST_BLK_STATUS 17
def fBlkResult : Fld := { off := RST_BLK_STATUS, lo := 15, w := 2 }
def fBlkIsland : Fld := { off := RST_BLK_STATUS, lo := 0, w := 5 }

/-! ## Fields of the flash sequencer and the position island -/

def fArmed : Fld := bitAt FLS_STATUS 17
def fPermit : Fld := bitAt FLS_STATUS 16
def fBlanked : Fld := bitAt FLS_STATUS 15
def fStopPending : Fld := bitAt FLS_STATUS 14
def fCompareBehind : Fld := bitAt FLS_STATUS 13
def fStopLate : Fld := bitAt FLS_STATUS 12
def fTempWarn : Fld := bitAt FLS_STATUS 11
def fTempLimit : Fld := bitAt FLS_STATUS 10
def fWindow : Fld := { off := FLS_CFG, lo := 9, w := 9 }
def fMinPeriod : Fld := { off := FLS_MIN_PERIOD, lo := 0, w := 16 }
def fXSrc : Fld := bitAt POS_STATUS 17
def fYSrc : Fld := bitAt POS_STATUS 16
def fHeadFailed (c : Nat) : Fld := bitAt POS_STATUS (10 + c)
def fHeadLos (c : Nat) : Fld := bitAt POS_STATUS (4 + c)
def fDiv (axis : Nat) : Fld := bitAt POS_STATUS (3 - axis)
def fDirHyst : Fld := { off := POS_CFG, lo := 14, w := 4 }
def fQuadRun : Fld := { off := POS_CFG, lo := 10, w := 4 }
def fSpeedLog2 : Fld := { off := POS_CFG, lo := 7, w := 3 }
def fXchkTol : Fld := { off := POS_XCHK, lo := 10, w := 8 }
def fXchkTicks : Fld := { off := POS_XCHK, lo := 0, w := 10 }

/-! ## Fields of the motion block -/

def fMState : Fld := { off := MOT_STATUS, lo := 15, w := 3 }
def fLimiter : Fld := { off := MOT_STATUS, lo := 12, w := 3 }
def fLayerDone : Fld := bitAt MOT_STATUS 11
def fLayerReady : Fld := bitAt MOT_STATUS 10
def fLaxMoving (k : Nat) : Fld := bitAt MOT_STATUS (9 - k)
def fServo : Fld := { off := MOT_CFG, lo := 11, w := 7 }
def fGoSrc : Fld := bitAt MOT_CFG 10
def fReadySeen : Fld := bitAt MOT_LAYER 16

/-! ## Fields of the command engine -/

def fEn (q : Nat) : Fld := bitAt (ULP_Q_CTRL q) 17
def fDraining (q : Nat) : Fld := bitAt (ULP_Q_CTRL q) 16
def fCqTail (q : Nat) : Fld := { off := ULP_CQ_TAIL q, lo := 0, w := 12 }
def fCqPhase (q : Nat) : Fld := bitAt (ULP_CQ_TAIL q) 12
def fDeferResume : Fld := bitAt ULP_DEFER_PENDING 7
def fDeferWrites : Fld := { off := ULP_DEFER_PENDING, lo := 0, w := 7 }

/-- The strict-integrity lock is in force (R452). -/
def Device.strict (d : Device) : Bool := d.rst.strict

end Sys2Proof.Machine
end

