-- ==== Sys2Proof/Machine/MeshOps.lean ====
section
/-! DEFINITION. Roles of the mesh, and the sending of its messages (R406, R410, R411). -/
namespace Sys2Proof.Machine

/-! ## Fields (R427 to R432) -/

def fColumns : Fld := { off := MSH_CFG, lo := 14, w := 4 }
def fStopLead : Fld := { off := MSH_CFG, lo := 6, w := 8 }
def fMeshTime : Fld := bitAt MSH_CFG 5
def fColumn : Fld := { off := MSH_COLUMN, lo := 0, w := 4 }
def fRole : Fld := { off := MSH_STATUS, lo := 16, w := 2 }
def fRing (b : Bool) : Fld := { off := MSH_STATUS, lo := if b then 12 else 14, w := 2 }
def fJoined : Fld := bitAt MSH_STATUS 11
def fPortState (p : Nat) : Fld := { off := MSH_PORT_STATE p, lo := 16, w := 2 }
def fPeer (p : Nat) : Fld := { off := MSH_PORT_STATE p, lo := 12, w := 4 }
def fWrap (p : Nat) : Fld := bitAt (MSH_PORT_STATE p) 11
def fPortErrs (p : Nat) : Fld := { off := MSH_PORT_STATE p, lo := 9, w := 2 }
def fPortCause (p : Nat) : Fld := { off := MSH_PORT_STATE p, lo := 6, w := 3 }
def fColLive (c : Nat) : Fld := bitAt (MSH_COL_STATE c) 17
def fColJoined (c : Nat) : Fld := bitAt (MSH_COL_STATE c) 16
def fColReady (c : Nat) : Fld := bitAt (MSH_COL_STATE c) 15
def fColHeld (c : Nat) : Fld := bitAt (MSH_COL_STATE c) 14

/-- M and c (R406). -/
def Device.columns (d : Device) : Nat := d.get fColumns + 1
def Device.column (d : Device) : Nat := d.get fColumn

/-- CHANGES of MSH_COLUMN: the slots of the identity that have been used (R11, R429, R452). -/
def Device.columnChanges (d : Device) : Nat := ((d.rst.slots.toList.take 16).filter (fun s => s.used)).length

/-- The identity has no place in the machine: role none (R406). -/
def Device.badColumn (d : Device) : Bool := decide (2 ≤ d.columns) && decide (d.columns ≤ d.column)
/-- The manager and the workers of a machine of several columns (R406). -/
def Device.isManager (d : Device) : Bool := decide (2 ≤ d.columns) && d.column == 0
def Device.isWorker (d : Device) : Bool := decide (2 ≤ d.columns) && decide (1 ≤ d.column) && decide (d.column < d.columns)
def Device.meshOn (d : Device) : Bool := (d.isManager || d.isWorker) && d.unitUp 19
/-- The workers' columns. -/
def Device.workers (d : Device) : List Nat := (List.range d.columns).filter (fun c => c != 0)

/-- A worker is LIVE: it has sent a REPORT within 1 ms (R414, R432). -/
def Device.colLive (d : Device) (c : Nat) : Bool := d.msh.reports.any (fun r => r.col == c && decide (d.clock < r.tick + 800000))

/-- MSH_STATUS.ROLE as the configuration gives it (R427). -/
def Device.showRole (d : Device) : Device := d.put fRole (if d.isManager then 1 else if d.isWorker then 2 else 0)

/-! ## Ports and rings (R409, R413) -/

def portDOWN : Nat := 0
def portTRAINING : Nat := 1
def portUP : Nat := 2
def portRETIRED : Nat := 3

def Device.portSt (d : Device) (p : Nat) : Nat := d.get (fPortState p)
def Device.portIsUp (d : Device) (p : Nat) : Bool := d.portSt p == portUP

/-- The ports by which a ring's messages arrive and leave: in 1 and out 0 for A, in 2 and out 3 for B. The idle direction runs the
other way (R409). -/
def ringIn (ring : Bool) : Nat := if ring then 2 else 1
def ringOut (ring : Bool) : Nat := if ring then 3 else 0

/-- A message waits for the next block of a port. -/
def Device.queueSlot (d : Device) (p : Nat) (words : List Nat) : Device :=
  { d with msh := { d.msh with line := d.msh.line ++ [{ port := p, tick := d.clock, words := words }] } }

/-- A message leaves on its ring; where the link is down, it turns back along the idle direction (R413). -/
def Device.sendOn (d : Device) (ring : Bool) (words : List Nat) : Device :=
  if d.portIsUp (ringOut ring) then d.queueSlot (ringOut ring) words
  else if d.portIsUp (ringIn ring) then d.queueSlot (ringIn ring) words
  else d

/-! ## Messages (R410, R411) -/

def mJOIN : Nat := 1
def mSTART : Nat := 2
def mREPORT : Nat := 3
def mRUN : Nat := 4
def mSTOP_REQ : Nat := 5
def mSTOP : Nat := 6
def mREST : Nat := 7
def mRESUME : Nat := 8
def mRESUME_ACK : Nat := 9
def mABORT : Nat := 10
def mEND : Nat := 11
def mPAUSE : Nat := 12
def mTIME : Nat := 13
def mTIME_REQ : Nat := 14
def mTIME_RESP : Nat := 15
def mEVT : Nat := 16
def mBEAT : Nat := 17

/-- DST of a message to every column. -/
def toAll : Nat := 31

/-- The words of a message slot (R410). -/
def slotWords (ty src dst ring seq : Nat) (body : List Nat) : List Nat :=
  [ty * 4096 + src * 256 + dst * 8 + ring * 4, seq] ++ body ++ List.replicate (14 - body.length) 0

/-- A 36-bit quantity in two words of a body. -/
def body36 (v : Nat) : List Nat := [v % wordMod, v / wordMod % wordMod]

/-- A 36-bit quantity in a body, from word `i` of it on. -/
def bodyAt36 (body : List Nat) (i : Nat) : Nat := body.getD i 0 + body.getD (i + 1) 0 * wordMod

/-- A time in units of 2^-16 ns as six words of a body, and back (R423). -/
def timeWords (t : Nat) : List Nat := (List.range 6).map (fun i => bits t (18 * i) 18)
def timeAt (body : List Nat) : Int := (((body.take 6).foldr (fun w acc => w + acc * wordMod) 0 : Nat) : Int)

/-- The place of the correction word in the body of a time message, and its unit: 1/80 of a tick, 2^-6 ns (R423). -/
def corrWord : Nat := 6
def corrTick : Nat := 80

/-- A time message that each column on its way corrects (R423). -/
def corrected (ty : Nat) : Bool := ty == mTIME || ty == mTIME_REQ

/-- The correction of a time message, in units of 2^-16 ns. -/
def corrAt (body : List Nat) : Int := ((body.getD corrWord 0 * 1024 : Nat) : Int)

/-- The words of a waiting message as they leave in a tick: a time message takes the time it has waited (R423). -/
def MeshSlot.leave (x : MeshSlot) (now : Nat) : List Nat :=
  if corrected (bits (x.words.headD 0) 12 6) then
    x.words.set (2 + corrWord) ((x.words.getD (2 + corrWord) 0 + (now - x.tick) * corrTick) % wordMod)
  else x.words

/-- The time of day in a body: 48 bits of seconds, then nanoseconds. -/
def Device.bodyTod (d : Device) : List Nat :=
  [bits d.todSecs 0 18, bits d.todSecs 18 18, bits d.todSecs 36 12, bits d.todNs 0 18, bits d.todNs 18 14]

end Sys2Proof.Machine
end

