-- ==== Sys2Proof/Machine/Flags.lean ====
section
/-! DEFINITION. The flags and events of the module: the performance counters (R538, R539), the pending bits,
overrun and level sources of the event controller, and the MSI-X messages (R509 to R517). -/
namespace Sys2Proof.Machine

/-! ## Performance counters -/

/-- What the counters keep of the present tick. -/
def Device.pmcNow (d : Device) : PmcState := if d.released 13 && d.pmc.tick == d.clock then d.pmc else { tick := d.clock }

/-- Counter `e` counts in this tick: its value before is kept, and a snapshot of the same tick takes the count (R540). -/
def Device.pmcNote (d : Device) (b k n : Nat) : Device :=
  let m := d.pmcNow
  let e := 8 * b + k
  let d := { d with pmc := { m with counted := if m.counted.any (fun x => x.1 == e) then m.counted else (e, d.get36 (PMC_C_COUNT b k)) :: m.counted } }
  d.when m.snapped (fun d => d.put36 (PMC_C_SNAP b k) ((d.get36 (PMC_C_SNAP b k) + n) % pairMod))

/-- Add `n` to counter `k` of block `b`; a wrap sets OVF and carries into counter k + 1 with CHAIN 1 (R539). The value of a COUNT
written in the same clock stands (R540). -/
def pmcAdd : Nat → Nat → Nat → Nat → Device → Device
  | 0, _, _, _, d => d
  | fuel + 1, b, k, n, d =>
    let v := d.get36 (PMC_C_COUNT b k) + n
    if d.pmcNow.wrote.contains (8 * b + k) then d
    else
    let d := d.pmcNote b k n
    if v < pairMod then d.put36 (PMC_C_COUNT b k) v
    else
      let d := (d.put36 (PMC_C_COUNT b k) (v % pairMod)).putFlag (bitAt (PMC_C_CFG b k) 14) true
      if k + 1 < 8 && d.flag (bitAt (PMC_C_CFG b (k + 1)) 15) && d.flag (bitAt (PMC_C_CFG b (k + 1)) 17)
      then pmcAdd fuel b (k + 1) 1 d else d

/-- Counter `k` of block `b` counts occurrences of event `code`: it is enabled, selects the event and is not
chained (R538, R539). -/
def pmcSelects (d : Device) (b k code : Nat) : Bool :=
  let cfg := d.reg (PMC_C_CFG b k)
  bitOf cfg 17 && (cfg % 256 == code) && !(bitOf cfg 15 && k != 0)

/-- A counter in level mode has counted an occurrence in this clock (R538). -/
def Device.pmcDone (d : Device) (b k : Nat) : Bool := !d.flag (bitAt (PMC_C_CFG b k) 16) && d.pmcNow.counted.any (fun x => x.1 == 8 * b + k)

/-- `n` occurrences of event `code` of block `b`: in level mode a counter adds 1 in a clock that has any, in edge mode `n`
(R538). While FREEZE is 1 no counter counts (R545). -/
def Device.count (d : Device) (b code n : Nat) : Device :=
  if n == 0 || d.flag (bitAt PMC_CTRL 15) then d
  else (List.range 8).foldl (fun d k =>
    if pmcSelects d b k code && !d.pmcDone b k then pmcAdd 8 b k (if d.flag (bitAt (PMC_C_CFG b k) 16) then n else 1) d else d) d

/-- One item in of block `b` (R538). -/
def Device.itemIn (d : Device) (b : Nat) : Device := d.count b 3 1
/-- One item out of block `b`. -/
def Device.itemOut (d : Device) (b : Nat) : Device := d.count b 4 1

/-- Originate a message: on both rings with the same MSEQ (R411). -/
def Device.sendMesh (d : Device) (dst ty : Nat) (body : List Nat) : Device :=
  if !d.meshOn then d
  else
    let d1 := (d.itemOut 18).each [false, true] (fun d r => d.sendOn r (slotWords ty d.column dst (b2n r) d.msh.seq body))
    { d1 with msh := { d1.msh with seq := (d1.msh.seq + 1) % wordMod } }

/-- The bit of a source in MSH_FWD_MASK (R433). -/
def fFwdMask (s : Nat) : Fld := bitAt (MSH_FWD_MASK (s / 18)) (s % 18)

/-- A worker forwards a source that its mask selects (R424). -/
def Device.forward (d : Device) (s : Nat) : Device :=
  if d.isWorker && d.flag (fFwdMask s) then d.sendMesh 0 mEVT (s :: d.bodyTod) else d

/-! ## Sources and vectors -/

/-- The pending bit of source `s` (R524). -/
def fPending (s : Nat) : Fld := bitAt (EVT_PENDING (s / 18)) (s % 18)
def Device.isPending (d : Device) (s : Nat) : Bool := d.flag (fPending s)
/-- TARGET, PRIO and VECTOR of a source (R525). -/
def Device.target (d : Device) (s : Nat) : Nat := bits (d.reg (EVT_SRC s)) 16 2
def Device.prio (d : Device) (s : Nat) : Nat := bits (d.reg (EVT_SRC s)) 12 4
def Device.vectorOf (d : Device) (s : Nat) : Nat := bits (d.reg (EVT_SRC s)) 6 6
/-- TARGET includes the control cores, or a vector (R511). -/
def Device.toCores (d : Device) (s : Nat) : Bool := d.target s % 2 == 1
def Device.toVector (d : Device) (s : Nat) : Bool := d.target s / 2 == 1

/-- The source delivered first among those that satisfy a condition: PRIO from 15 down, then the lowest number
(R511). -/
def Device.topSource (d : Device) (p : Nat → Bool) : Option Nat :=
  (List.range 256).foldl (fun best s =>
    if p s then
      match best with
      | none => some s
      | some b => if d.prio b < d.prio s then some s else best
    else best) none

/-- A source is pending on vector `v`. -/
def Device.onVector (d : Device) (v s : Nat) : Bool := d.isPending s && d.toVector s && d.vectorOf s == v
def Device.vectorPending (d : Device) (v : Nat) : Bool := (List.range 256).any (d.onVector v)

/-- A set of vectors with one vector put in or out. -/
def vecPut (b : BitVec 64) (v : Nat) (x : Bool) : BitVec 64 :=
  if x then b ||| ((1 : BitVec 64) <<< v) else b &&& ~~~((1 : BitVec 64) <<< v)

/-- HOLD of EVT_CTRL (R515). -/
def fHold : Fld := bitAt EVT_CTRL 17

/-- The vector is masked, alone or with the whole function, so a message sets its PBA bit (R513, R517). -/
def Device.vecMasked (d : Device) (v : Nat) : Bool := d.evt.vecMask.getLsbD v || !d.evt.msixEnable

/-- A message of the vector waits: a mask, HOLD or the link (R514). -/
def Device.vecBlocked (d : Device) (v : Nat) : Bool := d.vecMasked v || d.flag fHold || !d.evt.linkL0

/-- Issue the message of vector `v`, or let it wait as DUE (R514). -/
def Device.issue (d : Device) (v : Nat) : Device :=
  if d.vecBlocked v then
    { d with evt := { d.evt with due := vecPut d.evt.due v true,
                                 pba := vecPut d.evt.pba v (d.vecMasked v || d.evt.pba.getLsbD v) } }
  else
    (({ d with evt := { d.evt with due := vecPut d.evt.due v false, pba := vecPut d.evt.pba v false } }).emit
      (.msix v)).itemOut 19

/-- Issue every waiting message that nothing blocks now. The vector whose pending sources hold the highest PRIO
goes first (R514). -/
def Device.issueDue (d : Device) : Device :=
  let vs := (List.range 64).filter (fun v => d.evt.due.getLsbD v)
  let best := fun v => match d.topSource (d.onVector v) with | some s => 15 - d.prio s | none => 16
  (sortBy best vs).foldl Device.issue d

/-- The moderation timer of a vector runs. -/
def Device.timerOn (d : Device) (v : Nat) : Bool := d.evt.timers.any (fun t => t.1 == v)

/-- A source has become pending on vector `v`: start its timer, or with MOD 0 issue the message (R514). -/
def Device.vectorRise (d : Device) (v : Nat) : Device :=
  if d.timerOn v then d
  else
    let m := bits (d.reg (EVT_VEC_CFG v)) 0 10
    if m == 0 then d.issue v
    else { d with evt := { d.evt with timers := d.evt.timers ++ [(v, d.clock + 800 * m)] } }

/-- Set a source pending: it is due anew on its targets. -/
def Device.setPending (d : Device) (s : Nat) : Device :=
  let d := d.putFlag (fPending s) true
  let d := { d with evt := { d.evt with coreDone := d.evt.coreDone.filter (fun x => x != s) } }
  if d.toVector s then d.vectorRise (d.vectorOf s) else d

/-- A DMA channel has fetched an event WAIT for the source (R359). -/
def DmaChan.awaits (c : DmaChan) (s : Nat) : Bool :=
  match c.instr with
  | some ws => bits (ws.headD 0) 12 6 == 12 && ws.getD 1 0 == s
  | none => false

/-- A raising of the source in a clock after the fetch ends the event WAITs for it, whatever EVT_CTRL.HOLD says (R359). -/
def Device.noteRaise (d : Device) (s : Nat) : Device :=
  { d with dma := { d.dma with chans := d.dma.chans.map (fun c => if c.awaits s && c.since != d.clock then { c with hit := true } else c) } }

/-- A raising of source `s`: block 19 counts it, the DMA engine sees it, and a worker forwards it (R359, R424, R538). -/
def Device.raised (d : Device) (s : Nat) : Device := ((d.itemIn 19).noteRaise s).forward s

/-- OVERRUN of a source (R525). -/
def fOverrun (s : Nat) : Fld := bitAt (EVT_SRC s) 4

/-- What is kept of an edge in this tick: none where the source has had none (R517). -/
def Device.edgeNow (d : Device) (s : Nat) : Option (Nat × Nat × Bool) :=
  if d.released 13 then d.evt.raised.find? (fun x => x.1 == s && x.2.1 == d.clock) else none

/-- Keep an edge of this tick, and whether it has set OVERRUN. -/
def Device.keepEdge (d : Device) (s : Nat) (overrun : Bool) : Device :=
  { d with evt := { d.evt with raised := (s, d.clock, overrun) :: d.evt.raised.filter (fun x => x.2.1 == d.clock && x.1 != s) } }

/-- Raise a source as an edge: pending, or OVERRUN where it is already pending (R509). Raises of one source in one clock are one
edge (R517). -/
def Device.raise (d : Device) (s : Nat) : Device :=
  if (d.edgeNow s).isSome && d.isPending s then d
  else
    let overrun := d.isPending s && !d.flag (fOverrun s)
    let d := (d.raised s).keepEdge s overrun
    if d.isPending s then d.putFlag (fOverrun s) true else d.setPending s

/-- Raise a list of sources in order. -/
def Device.raiseAll (d : Device) (l : List Nat) : Device := l.foldl Device.raise d

/-- Clear the pending bit of a source: its service ends (R509, R511). -/
def Device.clearPending (d : Device) (s : Nat) : Device :=
  let d := d.putFlag (fPending s) false
  { d with evt := { d.evt with coreDone := d.evt.coreDone.filter (fun x => x != s) } }

/-- The host clears the pending bit of a source. An edge of the same clock keeps the bit set, and counts as a new pending transition
on its vector (R517). -/
def Device.clearByHost (d : Device) (s : Nat) : Device :=
  match d.edgeNow s with
  | none => d.clearPending s
  | some x =>
    let d := d.when x.2.2 (fun d => d.putFlag (fOverrun s) false)
    let d := { d with evt := { d.evt with coreDone := d.evt.coreDone.filter (fun y => y != s) } }
    if d.toVector s then d.vectorRise (d.vectorOf s) else d

/-- A level source whose condition holds is pending (R509). -/
def Device.levelRise (d : Device) (s : Nat) (cond : Bool) : Device :=
  if cond && !d.isPending s then (d.raised s).setPending s else d

end Sys2Proof.Machine
end

