-- ==== Sys2Proof/Machine/Faults.lean ====
section
/-! DEFINITION. The retained journal (R448, R450), the error log (R504 to R506) and the classification of errors
in retry domains (R495 to R499). -/
namespace Sys2Proof.Machine

/-! ## The journal -/

/-- The retained items of a copy: its snapshot brought up to date by its records. -/
def foldRecords (snap : List (JItem × List Nat)) (rs : List JRec) : List (JItem × List Nat) :=
  rs.foldl (fun acc r => (r.item, r.value) :: acc.filter (fun p => p.1 != r.item)) snap

/-- The regions of the retained store, with their first byte and their size (R447): the firmware image, the two copies of the journal,
and a reserved region that is never written. -/
def storeRegions : List (String × Nat × Nat) :=
  [("firmware", 0, 0x800000), ("journal A", 0x800000, 0x1000000), ("journal B", 0x1800000, 0x1000000), ("reserved", 0x2800000, 0x1800000)]

/-- One half of a copy: half of its region (R447). -/
def halfBytes : Nat := ((storeRegions.getD 1 ("", 0, 0)).2.2) / 2

/-- The item number of a record. The manual gives no numbers: DESIGN CHOICE, log entry 81. -/
def JItem.number : JItem → Nat
  | .reg off => 4 * off
  | .passportDelta => 1
  | .logEntry lseq => 4 * lseq + 2
  | .pairRetired p => 4 * p + 3

/-- The CRC of a record in copy A (0) or B (1): under R43, with the prefix group (copy, SEQ, 0), over its item number, value and time
(R448). -/
def JRec.crcIn (r : JRec) (copy : Nat) : Nat :=
  let word2 := fun (v : Nat) => [bits v 0 18, bits v 18 18]
  crcGroups ([copy] ++ word2 r.seq ++ [0] ++ word2 r.item.number ++ r.value.flatMap (fun v => word2 v ++ [bits v 36 18, bits v 54 10]) ++
    word2 r.secs ++ [bits r.secs 36 12] ++ word2 r.nanos)

/-- Append a record to a copy; at 90 % the copy takes a snapshot into its other half, makes that half active and
erases the old one (R450). -/
def JCopy.append (c : JCopy) (copy : Nat) (r : JRec) : JCopy :=
  let c := { c with records := c.records ++ [{ r with crc := r.crcIn copy }], used := c.used + Config.recordBytes r.value.length }
  if c.used * 10 < halfBytes * 9 then c
  else
    let snap := foldRecords c.snapshot c.records
    { snapSeq := r.seq, snapshot := snap, records := [], used := (snap.map (fun p => Config.recordBytes p.2.length)).sum, halfB := !c.halfB,
      erases0 := c.erases0 + b2n (!c.halfB), erases1 := c.erases1 + b2n c.halfB }

/-- The highest erase count of any half of the journal (R450). -/
def Device.eraseCount (d : Device) : Nat :=
  let a := d.rst.journalA
  let b := d.rst.journalB
  min (max (max a.erases0 a.erases1) (max b.erases0 b.erases1)) wordMax

/-- Show the active halves and the erase count; event 10 when the count reaches 90,000 (R450, R463). -/
def Device.showJournal (d : Device) : Device :=
  let before := d.reg RST_JOURNAL_ERASES
  let d := (d.putFlag (bitAt RST_JOURNAL 14) d.rst.journalA.halfB).putFlag (bitAt RST_JOURNAL 13) d.rst.journalB.halfB
  (d.setReg RST_JOURNAL_ERASES d.eraseCount).when (decide (before < 90000) && decide (90000 ≤ d.eraseCount)) (fun d => d.raise 10)

/-- Journal a committed change (R448): its record waits to be programmed. -/
def Device.journal (d : Device) (item : JItem) (value : List Nat) : Device :=
  let last := d.rst.jqueue.getLast?.elim (d.get36 RST_JOURNAL_SEQ) (fun q => q.entry.seq)
  let r : JRec := { seq := (last + 1) % pairMod, item := item, value := value, secs := d.todSecs, nanos := d.todNs }
  { d with rst := { d.rst with jqueue := d.rst.jqueue ++ [{ entry := r, since := d.clock }] } }

/-- The oldest waiting record is programmed and verified in copy A, or in copy B once copy A holds it (R448). -/
def Device.journalStep (d : Device) : Device :=
  match d.rst.jqueue with
  | [] => d
  | q :: rest =>
    if q.inA then ({ d with rst := { d.rst with journalB := d.rst.journalB.append 1 q.entry, jqueue := rest } }).showJournal
    else
      (({ d with rst := { d.rst with journalA := d.rst.journalA.append 0 q.entry, jqueue := { q with inA := true } :: rest } }).showJournal).put36
        RST_JOURNAL_SEQ q.entry.seq

/-- A record is in both copies within 5 ms of its commit. The manual gives no other time: the programming goes on by a free value
(R448, log entry 81). -/
def Device.journalTick (d : Device) : Device :=
  let d1 := (d.when (Config.freeNat d.freeCtr % 2 == 1) Device.journalStep).nextFree
  let late := (d1.rst.jqueue.filter (fun q => decide (q.since + 4000000 ≤ d1.clock))).length
  Nat.repeat Device.journalStep (2 * late) d1

/-- A module reset or a loss of power ends the programming: how far it had come is a free value, and what had not reached a copy is
lost to it (R448, R456). -/
def Device.journalCut (d : Device) : Device :=
  if d.rst.jqueue.isEmpty then d
  else (Nat.repeat Device.journalStep (Config.freeNat d.freeCtr % (2 * d.rst.jqueue.length + 1)) d).nextFree

/-- The RWS bits of a register. -/
def rwsBits (off : Nat) : Nat := (locate off).elim 0 (fun l => l.masks.rws)

/-- Journal the RWS fields of the register at an offset (R11, R448). -/
def Device.journalReg (d : Device) (off : Nat) : Device := d.journal (.reg off) [d.reg off &&& rwsBits off]

/-! ## The error log -/

/-- CLASS codes of a log entry (R522). -/
def logTransient : Nat := 0
def logPermanent : Nat := 1
def logEvent : Nat := 2

/-- The slot of a log entry is in use. -/
def Device.logValid (d : Device) (i : Nat) : Bool := d.flag (bitAt (SYS_EL i) 17)
def Device.logClass (d : Device) (i : Nat) : Nat := bits (d.reg (SYS_EL i)) 15 2
def Device.logLseq (d : Device) (i : Nat) : Nat := d.get36 (SYS_EL i + 0x24)

/-- The slot of lowest LSEQ among those that satisfy a condition. -/
def Device.oldestLog (d : Device) (p : Nat → Bool) : Option Nat :=
  (List.range 64).foldl (fun best i =>
    if p i then
      match best with
      | none => some i
      | some b => if d.logLseq i < d.logLseq b then some i else best
    else best) none

/-- The slot for a new entry: a free one, else the oldest that is not PERMANENT, else the oldest (R505). -/
def Device.logSlot (d : Device) : Nat × Bool :=
  match (List.range 64).find? (fun i => !d.logValid i) with
  | some i => (i, false)
  | none =>
    match d.oldestLog (fun i => d.logClass i != logPermanent) with
    | some i => (i, true)
    | none => ((d.oldestLog (fun _ => true)).getD 0, true)

/-- The eleven words of a log entry (R522). -/
def logWords (cls : Nat) (atOnce restored : Bool) (domain cause unit data secs ns lseq : Nat) : List Nat :=
  [ 131072 + cls * 32768 + b2n atOnce * 16384 + b2n restored * 8192 + domain % 32 * 256 + cause % 256,
    unit % wordMod, bits data 0 18, bits data 18 18, bits secs 0 18, bits secs 18 18, bits secs 36 12,
    bits ns 0 18, bits ns 18 14, bits lseq 0 18, bits lseq 18 18 ]

/-- An entry leaves the log; a PERMANENT one is then retained no longer (R506). -/
def Device.dropLog (d : Device) (i : Nat) : Device :=
  (d.when (d.logClass i == logPermanent) (fun d => d.journal (.logEntry (d.logLseq i)) [])).setRegs (SYS_EL i) (List.replicate 11 0)

/-- Write a log entry (R504, R505), with event 29; a replacement counts, and the first one since the count was
read or cleared raises event 28. A PERMANENT entry is a retained item (R506). -/
def Device.log (d : Device) (cls : Nat) (atOnce : Bool) (domain cause unit data : Nat) : Device :=
  let lseq := (d.get36 SYS_ERRLOG_LSEQ + 1) % pairMod
  let (slot, replaced) := d.logSlot
  let ws := logWords cls atOnce false domain cause unit data d.todSecs d.todNs lseq
  let first := d.reg SYS_ERRLOG_OVERFLOW == 0
  let d := d.when replaced (fun d => d.dropLog slot)
  let d := { d with rst := { d.rst with logAt := if d.rst.logAt.any (fun (x : Nat × Nat) => x.1 == d.clock) then d.rst.logAt else some (d.clock, d.get36 SYS_ERRLOG_LSEQ) } }
  let d := (d.put36 SYS_ERRLOG_LSEQ lseq).setRegs (SYS_EL slot) ws
  let d := if replaced then (d.bump (whole SYS_ERRLOG_OVERFLOW)).when first (fun d => d.raise 28)
           else d.put fLogCount (d.get fLogCount + 1)
  let d := d.when (cls == logPermanent) (fun d => d.journal (.logEntry lseq) ws)
  d.raise 29

/-! ## Classification -/

/-- How an error was classified. A permanent domain counts no further errors (R498). -/
inductive Verdict where
  | transient
  | permanent
  | ignored
deriving DecidableEq, Repr

/-- The record of a domain; a domain without errors has none. -/
def Device.domain (d : Device) (code unit : Nat) : Domain :=
  (d.domains.find? (fun x => x.code == code && x.unit == unit)).getD { code := code, unit := unit }

/-- Store the record of a domain. -/
def Device.setDomain (d : Device) (x : Domain) : Device :=
  { d with domains := d.domains.filter (fun y => !(y.code == x.code && y.unit == x.unit)) ++ [x] }

/-- Forget a domain: it is no longer permanent or recovering, and its window is empty. -/
def Device.dropDomain (d : Device) (code unit : Nat) : Device :=
  { d with domains := d.domains.filter (fun y => !(y.code == code && y.unit == unit)) }

/-- WINDOW in ticks (R496). -/
def Device.windowTicks (d : Device) : Nat := d.get fFltWindow * 800000000

/-- The errors of a domain that are still in the window. -/
def Device.errsNow (d : Device) (code unit : Nat) : Nat :=
  ((d.domain code unit).times.filter (fun t => decide (d.clock < t + d.windowTicks))).length

/-- The counter block of a domain's errors and recoveries (R538). -/
def domainBlock (code unit : Nat) : Nat :=
  match code with
  | 1 => 1
  | 2 => 1
  | 3 => 3
  | 4 => 4
  | 5 => 6
  | 6 => 5
  | 7 => 7
  | 8 => 8
  | 9 => 11 + unit / 21
  | 10 => 18
  | _ => 0

/-- Charge an error to a domain and classify it: permanent at COUNT errors within the window, or at once while the
domain is recovering; the errors of a domain within one clock count as one (R496, R497). The verdict is logged (R504), and a permanent one raises event 27. -/
def Device.charge (d : Device) (code unit cause data : Nat) : Verdict × Device :=
  let x := d.domain code unit
  if x.permanent then (.ignored, d)
  else if d.released 13 && x.times.head? == some d.clock then (.transient, d.setDomain { x with recovering := true })
  else
    let times := d.clock :: x.times.filter (fun t => decide (d.clock < t + d.windowTicks))
    let perm := x.recovering || decide (d.get fFltCount ≤ times.length)
    let d := d.setDomain { x with times := times, recovering := !perm, permanent := perm }
    let d := (d.count (domainBlock code unit) 5 1).count (domainBlock code unit) 6 1
    let d := d.log (if perm then logPermanent else logTransient) (x.recovering && perm) code cause unit data
    let d := d.when perm (fun d => d.raise 27)
    (if perm then .permanent else .transient, d)

/-- The recovery action of a domain has ended (R497). -/
def Device.recovered (d : Device) (code unit : Nat) : Device :=
  let x := d.domain code unit
  if x.permanent then d else if x.recovering then d.setDomain { x with recovering := false } else d

/-- The domain is permanent (R498). -/
def Device.isPermanent (d : Device) (code unit : Nat) : Bool := (d.domain code unit).permanent

/-- The domain is recovering (R495). -/
def Device.isRecovering (d : Device) (code unit : Nat) : Bool := (d.domain code unit).recovering

end Sys2Proof.Machine
end

