-- ==== Sys2Proof/Machine/Packets.lean ====
section
/-! DEFINITION. Completions and in-flight commands of the command engine (R466 to R476). -/
namespace Sys2Proof.Machine

/-! ## Status codes (R475) -/

def sOK : Nat := 0
def sDEFERRED : Nat := 1
def sBUSY_JOB : Nat := 2
def sBAD_OPCODE : Nat := 3
def sBAD_PARAM : Nat := 4
def sNO_RESOURCE : Nat := 5
def sLIMIT_REACHED : Nat := 6
def sREFUSED_STRICT : Nat := 7
def sWOKEN : Nat := 8
def sAUTH_FAIL : Nat := 9
def sTIMEOUT : Nat := 10
def sABORTED : Nat := 11
def sDATA_ERROR : Nat := 12

/-- DETAIL of a BAD_PARAM on the header, and on a register setting or a derived check (R474). -/
def detailHeader : Nat := 0x3FFFE
def detailDerived : Nat := 0x3FFFF

/-! ## Completion queues -/

/-- The completion queue of pair `q` holds no free entry (R469). -/
def Device.cqFull (d : Device) (q : Nat) : Bool :=
  let size := d.reg (ULP_CQ_SIZE q)
  size == 0 || (d.get (fCqTail q) + 1) % size == d.reg (ULP_CQ_HEAD q)

/-- Count, once, each completion that waits on a full queue (R469). Source 21 follows as a level source. -/
def Device.countStalls (d : Device) : Device :=
  let ws := d.ulp.waiting.map (fun c => if d.cqFull c.q then { c with counted := true } else c)
  let n := fun q => (d.ulp.waiting.filter (fun c => c.q == q && !c.counted && d.cqFull q)).length
  let d := { d with ulp := { d.ulp with waiting := ws } }
  let counts := (List.range 4).map n
  d.each (List.range 4) (fun d q => d.when (decide (0 < counts.getD q 0)) (fun d => d.bumpBy (whole (ULP_CQ_STALL q)) (counts.getD q 0)))

/-- A pair that drains stops draining when no command of it is in flight (R470). -/
def Device.drainCheck (d : Device) : Device :=
  d.each (List.range 4) (fun d q =>
    d.when (d.flag (fDraining q) && !(d.ulp.flights.any (fun f => f.sq == q)) && !(d.ulp.waiting.any (fun c => c.q == q)))
      (fun d => d.putFlag (fDraining q) false))

/-- A completion joins those that wait for their entry, in the order of completion (R469). One whose pair PERST_L
has disabled is discarded (R470): its queue number is 4. -/
def Device.post (d : Device) (c : Completion) : Device :=
  if c.q < 4 then ({ d with ulp := { d.ulp with waiting := d.ulp.waiting ++ [c] } }).countStalls else d

/-! ## Commands in flight -/

/-- The command in flight under a tag. -/
def Device.flight (d : Device) (tag : Nat) : Option Flight := d.ulp.flights.find? (fun f => f.tag == tag)

/-- The tag is in flight: its command runs, or its completion waits (R472). -/
def Device.tagBusy (d : Device) (tag : Nat) : Bool :=
  d.ulp.flights.any (fun f => f.tag == tag) || d.ulp.waiting.any (fun c => c.own && c.tag == tag)

/-- Tags in flight (R491). -/
def Device.inflight (d : Device) : Nat := d.ulp.flights.length + (d.ulp.waiting.filter (fun c => c.own)).length

/-- End a command: it leaves the list of running commands, and its completion waits to be written. -/
def Device.complete (d : Device) (f : Flight) (status detail : Nat) (results : List Nat)
    (applied : Nat := 0) (taken : Bool := false) : Device :=
  let d := { d with ulp := { d.ulp with flights := d.ulp.flights.filter (fun g => g.tag != f.tag) } }
  (d.post { q := f.sq, tag := f.tag, status := status, detail := detail, results := results,
            applied := applied, taken := taken }).drainCheck

/-- Let a command in flight wait. -/
def Device.await (d : Device) (f : Flight) (w : Wait) : Device :=
  { d with ulp := { d.ulp with flights := d.ulp.flights.map (fun g => if g.tag == f.tag then { g with wait := w } else g) } }

/-- End every command in flight whose wait satisfies a condition. -/
def Device.completeWhere (d : Device) (p : Wait → Bool) (status detail : Nat) (results : List Nat)
    (applied : Nat := 0) : Device :=
  d.each (d.ulp.flights.filter (fun f => p f.wait)) (fun d f => d.complete f status detail results applied)

/-- Some command in flight waits so. -/
def Device.someWaits (d : Device) (p : Wait → Bool) : Bool := d.ulp.flights.any (fun f => p f.wait)

/-- The class codes of R471. -/
def clsImmediate : Nat := 0
def clsFlash : Nat := 1
def clsStripe : Nat := 2
def clsJob : Nat := 3

/-- The rank of a register's class (R477). -/
def AClass.rank : AClass → Nat
  | .immediate => 0
  | .flash => 1
  | .stripe => 2
  | .job => 3

end Sys2Proof.Machine
end

