-- ==== Sys2Proof/Machine/JobOps.lean ====
section
/-! DEFINITION. The job's geometry and place (R13 to R26): flash counts and positions, FSEQ, and the registers
that show them. -/
namespace Sys2Proof.Machine

/-- R20 to R22 for a job: the flashes of a pass of a stripe of length `len`. -/
def Job.flashes (j : Job) (len : Nat) : Nat := (len - 1 + (j.rows - 1) * j.bx) / j.adv + 1

/-- A stripe of the job by its index. -/
def Job.stripeAt (j : Job) (k : Nat) : Stripe :=
  j.stripes.getD k { x0 := 0, y0 := 0, len := 0, tallyOnly := true, source := .spool 0, streamId := 0 }

/-- The first stripe that is written. -/
def Job.firstStripe (j : Job) : Nat := ((List.range j.stripes.length).find? (fun k => !(j.stripeAt k).tallyOnly)).getD 0

/-- The stripe in progress. -/
def Job.cur (j : Job) : Stripe :=
  j.stripes.getD j.stripe { x0 := 0, y0 := 0, len := 0, tallyOnly := true, source := .spool 0, streamId := 0 }

/-- N of the stripe in progress. -/
def Job.nFlashes (j : Job) : Nat := j.flashes j.cur.len

/-- A pass is a reverse pass: odd passes of bidirectional writing (R24). -/
def Job.reverse (j : Job) : Bool := j.bidir && j.pass % 2 == 1

/-- F(n), the stage position of flash n in the direction of the pass in progress (R20, R21). -/
def Job.flashPos (j : Job) (n : Int) : Int :=
  if j.reverse then j.cur.x0 + 256 * ((j.cur.len : Int) - 1 + (j.rows - 1 : Nat) * j.bx - n * j.adv) + 128
  else j.cur.x0 + 256 * n * j.adv + 128

/-- The FSEQ of flash n of the pass in progress (R214). -/
def Job.fseq (j : Job) (n : Int) : Nat := ((j.fseq0 + n) % (pairMod : Int)).toNat

/-- The first flash of the next run. -/
def Job.nextFlash (j : Job) : Int := j.decidedN + 1

/-- FSEQ a is at or after FSEQ b, within half of the 36-bit range (R267 uses the same signed rule). -/
def fseqGe (a b : Nat) : Bool := decide ((a + pairMod - b) % pairMod < pairMod / 2)

/-! ## What follows a pass (R24 to R26) -/

/-- The next stripe that is written, if any. -/
def Job.nextStripe (j : Job) : Option Nat :=
  (List.range j.stripes.length).find? (fun k => decide (j.stripe < k) && !(j.stripeAt k).tallyOnly)

/-- What follows a pass. -/
inductive After where
  | pass
  | stripe (k : Nat)
  | layer
  | jobEnd
deriving DecidableEq, Repr

def Job.after (j : Job) : After :=
  if j.pass + 1 < j.passes then .pass
  else match j.nextStripe with
    | some k => .stripe k
    | none => if j.layer + 1 < j.layers then .layer else .jobEnd

/-- The job as it will stand in the pass after the one in progress, while the rills run ahead into it (R185). -/
def Job.ahead (j : Job) : Option Job :=
  let k := { j with fseq0 := (j.fseq0 + j.nFlashes) % pairMod, decidedN := -1, firedN := -1 }
  match j.after with
  | .pass => some { k with pass := j.pass + 1 }
  | .stripe i => some { k with stripe := i, pass := 0 }
  | .layer => some { k with layer := j.layer + 1, stripe := j.firstStripe, pass := 0 }
  | .jobEnd => none

/-- The layer and stripe in progress. -/
def Job.key (j : Job) : Nat × Nat := (j.layer, j.stripe)

/-- The same pass of the same stripe and layer. -/
def Job.samePass (j k : Job) : Bool := j.key == k.key && j.pass == k.pass

/-- The flash of an FSEQ, in the pass in progress or the one after it. -/
def Job.atFseq (j : Job) (fs : Nat) : Option (Job × Nat) :=
  let n := fun (k : Job) => (fs + pairMod - k.fseq0) % pairMod
  if n j < j.nFlashes then some (j, n j)
  else j.ahead.bind (fun k => if n k < k.nFlashes then some (k, n k) else none)

/-! ## The slots that take code 0 (R158 to R160, R180) -/

/-- STATE of a beam in a beam table: 0 GOOD, 1 WEAK, 2 DEAD, 3 STUCK_OPEN (R160). -/
def beamState (bt : List (Nat × Word)) (beam : Nat) : Nat := (cellGet (0x20100 : Word) bt (2 * beam + 1)).toNat % 4

/-- The active rows of a slot (R158, R159). -/
def Job.slotRows (j : Job) (slot : Nat) : List Nat := [2 * slot, 2 * slot + 1].filter (fun i => decide (i < j.rows))

/-- The rill tables of a pass that lies before the last rill boundary: none where the active ones apply (R185). -/
def Device.oldTables (d : Device) (j : Job) : Option RillTables := if d.ril.boundary == some j.key then none else d.ril.old

/-- The beam table that applies to a pass. -/
def Device.beamsOf (d : Device) (j : Job) : List (Nat × Word) := (d.oldTables j).elim d.ril.active RillTables.beams

/-- A slot that takes code 0 for every beam: both rows idle (R159), or no rill serves it and every beam of its active rows
is DEAD (R180). -/
def Device.slotZero (d : Device) (j : Job) (slot : Nat) : Bool :=
  (j.slotRows slot).isEmpty ||
    (d.reg (RIL_GRP_SLOT slot) % 64 == 63 &&
      (j.slotRows slot).all (fun i => (List.range 512).all (fun k => beamState (d.beamsOf j) (512 * i + k) == 2)))

/-! ## Shown in registers -/

/-- The direction of the pass: +1 forward, -1 reverse (R300). -/
def Job.dir (j : Job) : Int := if j.reverse then -1 else 1

/-- Update the job in progress. -/
def Device.mapJob (d : Device) (f : Job → Job) : Device := { d with job := d.job.map f }

/-- Show the job's geometry and place in the SYS registers (R35 to R39). -/
def Device.showJob (d : Device) : Device :=
  match d.job with
  | none => d
  | some j =>
    let d := ((d.put fDir (b2n j.reverse)).put fPass j.pass).setReg SYS_JOB_STRIPE j.stripe
    d.setReg SYS_JOB_LAYER j.layer

/-- Clear the geometry registers, which hold 0 outside WRITING and HELD (R34 to R39). -/
def Device.clearGeometry (d : Device) : Device :=
  d.each [SYS_GEOM_PITCH, SYS_GEOM_ROWS, SYS_GEOM_WIDTH, SYS_GEOM_LEAD, SYS_JOB_STRIPE, SYS_JOB_LAYER] (fun d o => d.setReg o 0)

end Sys2Proof.Machine
end

