-- ==== Sys2Proof/Machine/MemOps.lean ====
section
/-! DEFINITION. Shared operations of module memory (R321 to R352): the address map, the remap tables, the decoding of
a codeword, the memory log, and what a read or a write of a line does. -/
namespace Sys2Proof.Machine

/-! ## Address map (R325) -/

/-- The number of data lines. -/
def memLines : Nat := 2147483648

/-- The channel of a line. -/
def chanOf (la : Nat) : Nat := bits la 2 2
/-- The channel line. -/
def chanLine (la : Nat) : Nat := bits la 0 2 + bits la 4 27 * 4
/-- The bank of a line among the 32 of its channel: bank group above bank within group. -/
def bankOf (la : Nat) : Nat :=
  let cl := chanLine la
  (bits cl 2 3 ^^^ bits cl 12 3) * 4 + (bits cl 5 2 ^^^ bits cl 15 2)
/-- The row of a line. -/
def rowOf (la : Nat) : Nat := bits (chanLine la) 12 17
/-- The column line of a line, and the first column of its burst. -/
def columnLine (la : Nat) : Nat := bits (chanLine la) 7 5 * 4 + bits (chanLine la) 0 2
def burstColumn (la : Nat) : Nat := 16 * columnLine la

/-! ## Channel state (R349) -/

def fChState (c : Nat) : Fld := { off := MEM_CH_STATE c, lo := 16, w := 2 }
def fFailedDev (c : Nat) : Fld := { off := MEM_CH_STATE c, lo := 11, w := 5 }
def fRemapUsed (c : Nat) : Fld := { off := MEM_CH_STATE c, lo := 5, w := 6 }
def fSelfRefresh (c : Nat) : Fld := bitAt (MEM_CH_STATE c) 4
def fRefresh2x (c : Nat) : Fld := bitAt (MEM_CH_STATE c) 3
def fChTrainCause (c : Nat) : Fld := { off := MEM_CH_STATE c, lo := 0, w := 3 }
def fFilled : Fld := bitAt MEM_STATUS 17
def fFillRun : Fld := bitAt MEM_STATUS 16
def fRetuning (c : Nat) : Fld := bitAt MEM_STATUS (2 + c)
def fCand : Fld := bitAt MEM_STATUS 1

def chTRAINING : Nat := 0
def chNORMAL : Nat := 1
def chERASURE : Nat := 2
def chDOWN : Nat := 3

/-- The channel's controller runs: its island is released and its clock is not stopped by Frost. -/
def Device.chanRuns (d : Device) (c : Nat) : Bool := d.released (14 + c) && !d.frosted (14 + c)

/-- The channel answers requests: NORMAL or ERASURE. -/
def Device.chanUp (d : Device) (c : Nat) : Bool := d.get (fChState c) == chNORMAL || d.get (fChState c) == chERASURE

/-- The marked device of a channel in ERASURE (R324). -/
def Device.marked (d : Device) (c : Nat) : Option Nat :=
  if d.get (fChState c) == chERASURE then some (d.get (fFailedDev c)) else none

/-- CH_DOWN and CH_ERASURE of MEM_STATUS, and REMAP_USED (R343, R349). -/
def Device.showChannels (d : Device) : Device :=
  d.each (List.range 4) (fun d c =>
    let s := d.get (fChState c)
    let n := ((List.range 32).filter (fun e => bits (d.reg (MEM_CH_REMAP (32 * c + e) + 4)) 16 2 != 0)).length
    ((d.putFlag (bitAt MEM_STATUS (11 + c)) (s == chDOWN)).putFlag (bitAt MEM_STATUS (7 + c)) (s == chERASURE)).put (fRemapUsed c) n)

/-! ## Remap tables (R335, R351) -/

def rmFREE : Nat := 0
def rmREMAPPED : Nat := 1
def rmPOISONED : Nat := 2

def fRemapState (c e : Nat) : Fld := { off := MEM_CH_REMAP (32 * c + e) + 4, lo := 16, w := 2 }
def Device.remapState (d : Device) (c e : Nat) : Nat := d.get (fRemapState c e)
def Device.remapLA (d : Device) (c e : Nat) : Nat :=
  d.reg (MEM_CH_REMAP (32 * c + e)) + bits (d.reg (MEM_CH_REMAP (32 * c + e) + 4)) 0 13 * wordMod

/-- The remap entry that holds a line. -/
def Device.remapOf (d : Device) (la : Nat) : Option Nat :=
  (List.range 32).find? (fun e => d.remapState (chanOf la) e != rmFREE && d.remapLA (chanOf la) e == la)

/-- The state of a line in its channel's remap table: FREE where no entry holds it. -/
def Device.lineState (d : Device) (la : Nat) : Nat :=
  match d.remapOf la with
  | some e => d.remapState (chanOf la) e
  | none => rmFREE

/-- Write a remap entry. The addresses of REMAPPED entries are retained items (R339); a POISONED or a free entry is
kept as free. -/
def Device.setRemap (d : Device) (c e st la : Nat) : Device :=
  let off := MEM_CH_REMAP (32 * c + e)
  let was := d.remapState c e
  let d := (d.setReg off (la % wordMod)).setReg (off + 4) (st * 65536 + la / wordMod % 8192)
  let d := if st == rmREMAPPED then (d.journal (.reg off) [d.reg off]).journal (.reg (off + 4)) [d.reg (off + 4)]
           else if was == rmREMAPPED then (d.journal (.reg off) [0]).journal (.reg (off + 4)) [0] else d
  d.showChannels

/-- A free remap entry of a channel. -/
def Device.freeRemap (d : Device) (c : Nat) : Option Nat := (List.range 32).find? (fun e => d.remapState c e == rmFREE)

/-- The fill has written the line, or its channel is DOWN and takes no fill (R329, R331, R332). -/
def Device.lineFilled (d : Device) (la : Nat) : Bool :=
  d.flag fFilled || decide (la < d.get36 MEM_FILL_FRONT) || d.get (fChState (chanOf la)) == chDOWN

/-- The channel takes requests: it runs, has trained, and no retune stops it (R329, R330). -/
def Device.chanServes (d : Device) (c : Nat) : Bool := d.chanRuns c && d.get (fChState c) != chTRAINING && !d.flag (fRetuning c)

/-- The lines of `n` words from word address `a`. -/
def linesOf (a n : Nat) : List Nat := if n == 0 then [] else (List.range ((a + n - 1) / 64 - a / 64 + 1)).map (fun i => a / 64 + i)

/-- No recovery holds requests to a line, and no request to it waits (R326, R333). -/
def Device.lineClear (d : Device) (la : Nat) : Bool := !(d.mem.recovering.any (fun p => p.1 == la)) && !(d.mem.held.any (fun r => r.la == la))

/-- Module memory serves `n` words from word address `a` now: an access to lines that the fill has not written, to a channel that is
stopped, or to a line in recovery waits, and so does one behind a request to its line (R100, R326, R330, R332, R333). -/
def Device.memServes (d : Device) (a n : Nat) : Bool :=
  let chans := (List.range 4).all d.chanServes
  (chans && d.flag fFilled && d.mem.recovering.isEmpty && d.mem.held.isEmpty) ||
    (linesOf a n).all (fun la => (chans || d.chanServes (chanOf la)) && d.lineFilled la && d.lineClear la)

/-- Module memory serves a region of lines now, in which a unit places its data as it will (R332). -/
def Device.regionServes (d : Device) (base lines : Nat) : Bool :=
  lines == 0 || ((List.range 4).all d.chanServes && (d.flag fFilled || decide (base + lines ≤ d.get36 MEM_FILL_FRONT)) &&
    !(d.mem.recovering.any (fun p => within base lines p.1)) && !(d.mem.held.any (fun r => within base lines r.la)))

/-- Every read of the line is uncorrectable: it is POISONED, or its channel is DOWN (R329, R336). -/
def Device.lineBad (d : Device) (la : Nat) : Bool :=
  d.lineState la == rmPOISONED || d.get (fChState (chanOf la)) == chDOWN

/-- Some line of `n` words from word address `a` is bad. -/
def Device.wordsBad (d : Device) (a n : Nat) : Bool :=
  (linesOf a n).any d.lineBad

/-- A requester's read of `n` words fails: a line is bad, or an uncorrectable read of one has been reported to it (R336,
R337). -/
def Device.readBad (d : Device) (req a n : Nat) : Bool :=
  d.wordsBad a n || d.mem.failed.any (fun p => p.1 == req && decide (a / 64 ≤ p.2) && decide (64 * p.2 < a + n))

/-- Write words to lines as a whole-line or partial write: a DOWN channel discards them, and a poisoned line takes
only a write of all its 64 words, which makes it REMAPPED (R329, R336). -/
def Device.writeLine (d : Device) (la : Nat) (ws : List Nat) : Device :=
  if d.get (fChState (chanOf la)) == chDOWN then d
  else
    let d := match d.remapOf la with
      | some e => if d.remapState (chanOf la) e == rmPOISONED then d.setRemap (chanOf la) e rmREMAPPED la else d
      | none => d
    { d with mem := { d.mem with failed := d.mem.failed.filter (fun p => p.2 != la) } }.putDram (64 * la) ws

/-- Write whole lines from a line address. -/
def Device.writeLines (d : Device) (la : Nat) (ws : List Nat) : Device :=
  d.each (chunks 64 ws.length ws).zipIdx (fun d p => d.writeLine (la + p.2) p.1)

/-! ## Requesters (R348) -/

def reqCode : Requester → Nat
  | .spool => 0
  | .compression => 1
  | .cellLibrary => 2
  | .tallyStore => 3
  | .poolRegion => 4
  | .basinWrite => 5
  | .deepBand => 6
  | .mirror => 7
  | .dma => 8
  | .checkUnit => 9
  | .patrolScrub => 10
  | .zeroFill => 11

/-! ## The memory log (R348) -/

def mkCORRECTED : Nat := 0
def mkUNCORRECTABLE : Nat := 1
def mkHARD : Nat := 2
def mkDEVICE : Nat := 3

def fMlCount : Fld := { off := MEM_LOG_STATUS, lo := 4, w := 5 }
def fMlNext : Fld := { off := MEM_LOG_STATUS, lo := 0, w := 4 }

/-- One record of the memory log; an overwrite counts, and the first one since the count was last read or reset raises
event 204. -/
def Device.memLog (d : Device) (kind dev la req : Nat) : Device :=
  let i := d.get fMlNext
  let full := d.get fMlCount == 16
  let first := d.reg MEM_LOG_OVERFLOW == 0
  let info := 131072 + kind * 32768 + dev % 32 * 1024 + chanOf la * 256 + req % 16 * 16
  let d := d.setRegs (MEM_LOG i) [info, la % wordMod, la / wordMod]
  let d := (d.put fMlNext (i + 1)).put fMlCount (if full then 16 else d.get fMlCount + 1)
  if full then (d.bump (whole MEM_LOG_OVERFLOW)).when first (fun d => d.raise 204) else d

/-- The record is also entered in the error log (R348): domain 0x09, the device or 0x3_FFFF when none is named. The
errors that a domain classifies are entered by their classification. -/
def Device.memErrorLog (d : Device) (kind dev la : Nat) : Device :=
  d.log logTransient false 9 (if dev < 21 then 21 * chanOf la + dev else wordMax) kind la

/-! ## Symbols and the code (R323) -/

/-- Multiplication by α in GF(2^8), with the field polynomial x^8 + x^4 + x^3 + x^2 + 1. -/
def gfTwice (a : Nat) : Nat := if a < 128 then 2 * a else (2 * a) ^^^ 0x11D

/-- A product in GF(2^8). -/
def gfMul (a b : Nat) : Nat := (List.range 8).foldl (fun acc i => gfTwice acc ^^^ (if bitOf b (7 - i) then a else 0)) 0

/-- A polynomial over GF(2^8), highest degree first, at a point. -/
def gfEval (p : List Nat) (x : Nat) : Nat := p.foldl (fun acc c => gfMul acc x ^^^ c) 0

/-- The three syndromes of the 21 symbols of a codeword, symbol 0 having the highest degree: the values at α^0, α^1 and α^2. -/
def syndromes (symbols : List Nat) : List Nat := [1, 2, 4].map (gfEval symbols)

/-- The data symbols of a codeword's eight words. -/
def dataSymbols (ws : List Nat) : List Nat :=
  (List.range 18).map (fun k => ((List.range 8).map (fun i =>
    let n := 8 * k + i
    b2n (bitOf (ws.getD (n / 18) 0) (n % 18)) * 2 ^ i)).sum)

/-- The generator's coefficients of x^2, x and 1; that of x^3 is 1: (x - 1)(x - α)(x - α^2). -/
def generator : List Nat := [1 ^^^ 2 ^^^ 4, 2 ^^^ 4 ^^^ 8, 8]

/-- The check symbols of a codeword: the remainder of its data symbols, moved up by three degrees, by the generator. -/
def checkSymbols (data : List Nat) : List Nat :=
  data.foldl (fun r s =>
    let f := r.headD 0 ^^^ s
    ((r.drop 1 ++ [0]).zip generator).map (fun (p : Nat × Nat) => p.1 ^^^ gfMul f p.2)) [0, 0, 0]

/-- The 21 symbols that the devices of a channel hold of a codeword. -/
def codewordSymbols (ws : List Nat) : List Nat := dataSymbols ws ++ checkSymbols (dataSymbols ws)

/-- What the errors of a read change in the 21 symbols of a codeword. -/
def errorSymbols (errors : List SymbolError) (cw : Nat) : List Nat :=
  (List.range 21).map (fun k => (errors.filter (fun e => e.codeword.val == cw && e.device.val == k)).foldl (fun a e => a ^^^ e.diff.toNat) 0)

/-- What changed symbols change in word `w` of a codeword: data bit n is bit n mod 18 of word n / 18. -/
def symbolWord (changed : List Nat) (w : Nat) : Nat :=
  ((List.range 18).map (fun i =>
    let n := 18 * w + i
    b2n (bitOf (changed.getD (n / 8) 0) (n % 8)) * 2 ^ i)).sum

/-! ## Decoding (R324) -/

/-- What decoding a codeword gives: corrected (with the devices, the marked one apart, whose symbols were wrong),
uncorrectable, another codeword of the code, or beyond what the mode guarantees. -/
inductive Decoded where
  | good (devs : List Nat)
  | bad
  | aliased
  | beyond
deriving DecidableEq, Repr

/-- Decode a codeword from what the errors change in its symbols (R324). -/
def decodeWord (marked : Option Nat) (lock : Bool) (changed : List Nat) : Decoded :=
  let devs := (List.range 21).filter (fun k => changed.getD k 0 != 0)
  let others := devs.filter (fun k => some k != marked)
  let n := others.length
  match marked with
  | none => if n ≤ 1 then .good others else if n == 2 then .bad else if syndromes changed == [0, 0, 0] then .aliased else .beyond
  | some _ =>
    if lock then (if n == 0 then .good [] else if n ≤ 2 then .bad else .beyond)
    else if n ≤ 1 then .good others else .beyond

/-- Decode a codeword of a remap entry: SECDED on each pair of words corrects a single bit and finds a double one (R335). -/
def decodeEntry (changed : List Nat) : Decoded :=
  let wrong := (List.range 4).map (fun p => ((List.range 36).filter (fun i => bitOf (changed.getD ((36 * p + i) / 8) 0) ((36 * p + i) % 8))).length)
  if wrong.any (fun n => n == 2) then .bad else if wrong.any (fun n => decide (2 < n)) then .beyond else .good []

/-- What a read of codewords of a line gives: its words, none, or words that differ in some codewords: free ones, and those
that another codeword gives. -/
inductive LineRead where
  | good (devs : List Nat)
  | bad
  | wrong (wild aliased : List Nat) (devs : List Nat)
deriving DecidableEq, Repr

/-- Read codewords of a line. Beyond the guarantee of R324 the outcome is free: uncorrectable, or words that nothing
constrains. -/
def Device.decodeLine (d : Device) (la : Nat) (errors : List SymbolError) (cws : List Nat) : LineRead :=
  let c := chanOf la
  if d.lineBad la then .bad
  else
    let rs := cws.map (fun i => (i, if d.lineState la == rmREMAPPED then decodeEntry (errorSymbols errors i)
                                    else decodeWord (d.marked c) d.strict (errorSymbols errors i)))
    let devs := (rs.flatMap (fun r => match r.2 with | .good l => l | _ => [])).eraseDups
    if rs.any (fun r => r.2 == .bad) then .bad
    else
      let wild := (rs.filter (fun r => r.2 == .beyond)).map Prod.fst
      let other := (rs.filter (fun r => r.2 == .aliased)).map Prod.fst
      if wild.isEmpty && other.isEmpty then .good devs
      else if !wild.isEmpty && Config.freeNat d.freeCtr % 2 == 0 then .bad else .wrong wild other devs

/-! ## Corrected and uncorrectable reads -/

/-- A device has become permanent (R334): the first of a NORMAL channel is marked, and the mark is journalled. -/
def Device.devicePermanent (d : Device) (c k la req : Nat) : Device :=
  let d := if d.get (fChState c) == chNORMAL then
      (((d.put (fChState c) chERASURE).put (fFailedDev c) k).showChannels).journal (.reg (MEM_CH_STATE c)) [k * 2048]
    else d
  (d.raise 195).memLog mkDEVICE k la req

/-- A corrected read (R333): the counts, the log, one error in each device's domain, and the line recovers. -/
def Device.corrected (d : Device) (la req : Nat) (devs : List Nat) : Device :=
  if devs.isEmpty then d
  else
    let c := chanOf la
    let d := d.bump (whole MEM_CE_COUNT)
    let d := d.each devs (fun d k => d.bump (whole (MEM_DEV_CE (21 * c + k))))
    let d := (d.memLog mkCORRECTED (if devs.length == 1 then devs.headD 31 else 31) la req).raise 192
    let d := d.each devs (fun d k =>
      let seq := d.get36 SYS_ERRLOG_LSEQ
      let (v, d) := d.charge 9 (21 * c + k) mkCORRECTED la
      -- an error that its domain does not classify is entered here
      let d := d.when (d.get36 SYS_ERRLOG_LSEQ == seq) (fun d => d.memErrorLog mkCORRECTED k la)
      d.when (v == .permanent) (fun d => d.devicePermanent c k la req))
    { d with mem := { d.mem with recovering := d.mem.recovering ++ [(la, req, devs)] } }

/-- An uncorrectable read (R336): the count, the first one's record, event 196, and the line is poisoned where an
entry is free. A line of a DOWN channel takes no entry. -/
def Device.uncorrectable (d : Device) (la req : Nat) : Device :=
  let c := chanOf la
  let was := d.lineState la == rmPOISONED
  let d := d.bump (whole MEM_UE_COUNT)
  let d := if d.flag (bitAt MEM_UE_INFO 17) then d
    else (d.setReg MEM_UE_INFO (131072 + req % 16 * 8192 + c * 2048 + b2n was * 1024)).put36 MEM_UE_LINE la
  let d := ((d.raise 196).memLog mkUNCORRECTABLE 31 la req).memErrorLog mkUNCORRECTABLE 31 la
  if was || d.get (fChState c) == chDOWN then d
  else
    match (match d.remapOf la with | some e => some e | none => d.freeRemap c) with
    | some e => (d.setRemap c e rmPOISONED la).raise 197
    | none => d

/-- A row that is open: a request to its bank waits, or was served within the last IDLE controller clocks, two of which are a tick
(R327). -/
def Device.rowOpen (d : Device) (r : Nat × Nat × Nat × Nat) : Bool :=
  d.mem.held.any (fun q => chanOf q.la == r.1 && bankOf q.la == r.2.1) || decide (2 * d.clock ≤ 2 * r.2.2.2 + bits (d.reg MEM_CFG) 10 8)

/-- Forget the rows that have closed. -/
def Device.closeRows (d : Device) : Device := { d with mem := { d.mem with rows := d.mem.rows.filter d.rowOpen } }

/-- The bank's open row is that of the line (R326). -/
def Device.rowHit (d : Device) (la : Nat) : Bool :=
  d.mem.rows.any (fun r => r.1 == chanOf la && r.2.1 == bankOf la && r.2.2.1 == rowOf la && d.rowOpen r)

/-- The bank's open row closes unless the row is the one requested; the request opens its row, and MEM_CFG.IDLE 0
closes it again at once (R327). A line in the remap table, or of a DOWN channel, has no DRAM access (R335, R336). -/
def Device.touchRow (d : Device) (la : Nat) : Device :=
  let c := chanOf la
  let d := { d with mem := { d.mem with lastReq := d.mem.lastReq.set! c d.clock } }
  if d.lineState la != rmFREE || d.get (fChState c) == chDOWN then d
  else
    let others := d.mem.rows.filter (fun r => !(r.1 == c && r.2.1 == bankOf la) && d.rowOpen r)
    { d with mem := { d.mem with rows := if bits (d.reg MEM_CFG) 10 8 == 0 then others else (c, bankOf la, rowOf la, d.clock) :: others } }

/-! ## The accesses of the units -/

/-- A unit's access to `n` words: its requests take the channels out of self-refresh and open rows (R327, R328). -/
def Device.memUse (d : Device) (a n : Nat) : Device := d.each (linesOf a n) (fun d la => (d.putFlag (fSelfRefresh (chanOf la)) false).touchRow la)

/-- A unit's access to a region in which it places its data as it will: every channel takes requests of it. -/
def Device.regionUse (d : Device) : Device :=
  d.each (List.range 4) (fun d c =>
    ({ d with mem := { d.mem with lastReq := d.mem.lastReq.set! c d.clock } }).putFlag (fSelfRefresh c) false)

/-- A requester's read of `n` words fails: each bad line is an uncorrectable read, but for those reported to it already, and it has met
those (R336, R337). -/
def Device.readMet (d : Device) (req a n : Nat) : Device :=
  let d := d.each ((linesOf a n).filter (fun la => d.lineBad la && !d.mem.failed.contains (req, la))) (fun d la => d.uncorrectable la req)
  ({ d with mem := { d.mem with failed := d.mem.failed.filter (fun p => !(p.1 == req && decide (a / 64 ≤ p.2) && decide (64 * p.2 < a + n))) } }).memUse a n

/-- The lowest line of a region that is POISONED, or lies on a DOWN channel. -/
def Device.badIn (d : Device) (base lines : Nat) : Option Nat :=
  let poisoned := ((List.range 128).filter (fun i => d.remapState (i / 32) (i % 32) == rmPOISONED)).map (fun i => d.remapLA (i / 32) (i % 32))
  let down := ((List.range (min lines 16)).map (fun i => base + i)).filter (fun la => d.get (fChState (chanOf la)) == chDOWN)
  (sortBy id (poisoned ++ down)).find? (within base lines)

/-- A unit writes all lines of a region afresh: a POISONED one becomes REMAPPED (R336). -/
def Device.rewriteRegion (d : Device) (base lines : Nat) : Device :=
  let d := d.each (List.range 128) (fun d i =>
    let la := d.remapLA (i / 32) (i % 32)
    d.when (d.remapState (i / 32) (i % 32) == rmPOISONED && within base lines la) (fun d => d.setRemap (i / 32) (i % 32) rmREMAPPED la))
  ({ d with mem := { d.mem with failed := d.mem.failed.filter (fun p => !within base lines p.2) } }).regionUse

/-- A unit, by its code, writes words: whole lines, and parts of lines. A part of a POISONED line needs a read, which is uncorrectable, so
that the write is discarded; a DOWN channel discards every write (R329, R336). -/
def Device.putWords (d : Device) (req a : Nat) (ws : List Nat) : Device :=
  d.each (linesOf a ws.length) (fun d la =>
    let lo := max a (64 * la)
    let part := (ws.drop (lo - a)).take (64 * (la + 1) - lo)
    let d := d.memUse lo part.length
    if part.length == 64 then d.writeLine la part
    else if d.get (fChState (chanOf la)) == chDOWN then d
    else if d.lineBad la then d.uncorrectable la req
    else d.putDram lo part)

end Sys2Proof.Machine
end

