-- ==== Sys2Proof/Machine/LaneBlocks.lean ====
section
/-! DEFINITION. The blocks of the beam lanes (R209 to R213, R216, R218): block slots, the layout of a message, block CRCs, and what
a received ACK or STATUS block holds. -/
namespace Sys2Proof.Machine

/-! ## Block slots (R209, R211) -/

/-- The tick in which a block slot begins: a block takes 40.96 ticks. -/
def slotStart (k : Nat) : Nat := ceilDiv (k * 4096) 100

/-- The first block slot that begins in a tick or after it. -/
def slotAt (t : Nat) : Nat := if t ≤ slotStart (t * 100 / 4096) then t * 100 / 4096 else t * 100 / 4096 + 1

/-- A MARKER slot: every 64th. -/
def markerSlot (k : Nat) : Bool := k % 64 == 0

/-- The first `n` slots from slot `k` on that are no MARKER slots. -/
def openSlots (k : Nat) : Nat → List Nat
  | 0 => []
  | n + 1 =>
    let k := if markerSlot k then k + 1 else k
    k :: openSlots (k + 1) n

/-! ## Messages (R209 to R211) -/

/-- BTYPE codes (R210). -/
def btIDLE : Nat := 0
def btFRAME : Nat := 1
def btMARKER : Nat := 2
def btFLUSH : Nat := 3
def btTRAIN : Nat := 4
def btACK : Nat := 5
def btSTATUS : Nat := 6
/-- BTYPE of a mesh lane's MESSAGE blocks (R410). -/
def btMESSAGE : Nat := 8

/-- The words of a list up to a length, 0 beyond its end. -/
def padWords (n : Nat) (ws : List Nat) : List Nat := (List.range n).map (fun i => ws.getD i 0 % wordMod)

/-- The header of a block. -/
def blockHeader (btype seq index : Nat) : Nat := btype * 2 ^ 24 + seq % 256 * 2 ^ 16 + index * 2 ^ 12

/-- The CRC of a block other than FRAME: over the prefix (LN or AP, BTYPE, 0, 0) and words 0 to 281, the last group filled up with
zero words. -/
def blockCrc (sender btype : Nat) (body : List Nat) : Nat := crcGroups ([sender, btype, 0, 0] ++ padWords 284 (body.take 282))

/-- A CRC as two words: bits [17:0], then bits [31:18] in [13:0] (R40, R211, R212). -/
def crcWords (crc : Nat) : List Nat := [bits crc 0 18, bits crc 18 14]

/-- The 284 body words of a block that a lane sends. -/
def blockBody (sender btype : Nat) (body : List Nat) : List Nat :=
  if btype == btFRAME then padWords 284 body else padWords 282 body ++ crcWords (blockCrc sender btype body)

/-- The 5,140-bit message of a block: the header in bits [27:0], word w in bits [28 + 18·w + 17 : 28 + 18·w]. -/
def blockMessage (header : Nat) (body : List Nat) : Nat :=
  body.zipIdx.foldl (fun m p => m + p.1 * 2 ^ (28 + 18 * p.2)) header

/-- The message of a block other than FRAME that a sender puts into slot `k`. -/
def slotBlock (sender k btype : Nat) (body : List Nat) : Nat := blockMessage (blockHeader btype k 0) (blockBody sender btype body)

/-- The body of the MARKER in slot `k`: the sender and the marker count (R211). -/
def markerBody (sender k : Nat) : List Nat := [sender, bits (k / 64) 0 18, bits (k / 64) 18 18]

/-- A word of a message, and the fields of its header. -/
def msgWord (m w : Nat) : Nat := bits m (28 + 18 * w) 18
def msgType (m : Nat) : Nat := bits m 24 4
def msgSeq (m : Nat) : Nat := bits m 16 8

/-- The body words of a message. -/
def msgBody (m : Nat) : List Nat := (List.range 284).map (msgWord m)

/-! ## Dose frames (R212, R213) -/

/-- The blocks of a frame by CODE_BITS. -/
def frameBlocks (codeBits : Nat) : Nat := if codeBits == 0 then 8 else if codeBits == 1 then 5 else 4

/-- The payload words of 4,096 codes. -/
def packCodes (codeBits : Nat) (codes : List Nat) : List Nat :=
  if codeBits == 0 then (chunks 2 2048 codes).map (fun c => c.getD 0 0 % 512 + c.getD 1 0 % 512 * 512)
  else if codeBits == 1 then
    (chunks 3 1366 codes).map (fun c => c.getD 0 0 % 64 + c.getD 1 0 % 64 * 64 + c.getD 2 0 % 64 * 4096) ++ [0, 0]
  else (chunks 4 1024 codes).map (fun c => c.getD 0 0 % 16 + c.getD 1 0 % 16 * 16 + c.getD 2 0 % 16 * 256 + c.getD 3 0 % 16 * 4096)

/-- The header group of a frame. -/
def frameHeader (head fseq payloadWords : Nat) : List Nat := [head, bits fseq 0 18, bits fseq 18 18, payloadWords]

/-- The trailer group of a frame: its CRC, FSEQ_COPY and 0. -/
def frameTrailer (crc fseq : Nat) : List Nat := crcWords crc ++ [bits fseq 0 18, 0]

/-- The bodies of a frame's blocks: its words in order, and zeros to the end of the last block. -/
def frameBodies (blocks : Nat) (words : List Nat) : List (List Nat) := (chunks 284 blocks words).map (padWords 284)

/-! ## The back channel (R210, R211, R216, R218) -/

/-- An entry of an ACK block in use. -/
structure AckEntry where
  nack : Bool
  group : Nat
  flush : Bool
  fseqLo : Nat
  echo : Nat
deriving DecidableEq, Repr

/-- Entry `i` of an ACK block. -/
def ackEntryAt (m i : Nat) : AckEntry :=
  let e0 := msgWord m (4 * i)
  { nack := bitOf e0 16, group := bits e0 10 6, flush := bitOf e0 9, fseqLo := msgWord m (4 * i + 1),
    echo := msgWord m (4 * i + 2) + bits (msgWord m (4 * i + 3)) 0 14 * wordMod }

/-- Entry `i` is in use. -/
def ackUsed (m i : Nat) : Bool := bitOf (msgWord m (4 * i)) 17

/-- The entries of an ACK block: those before the first with VALID 0. -/
def ackEntries (m : Nat) : List AckEntry := ((List.range 70).takeWhile (ackUsed m)).map (ackEntryAt m)

/-- The fields of an ACK block that must be 0 are 0: those of its entries in use, every entry after the first with VALID 0, and
words 280 and 281. -/
def ackClean (m : Nat) : Bool :=
  let used := (ackEntries m).length
  (List.range used).all (fun i => bits (msgWord m (4 * i)) 0 9 == 0 && bits (msgWord m (4 * i + 3)) 14 4 == 0) &&
    (List.range 70).all (fun i => i ≤ used || (List.range 4).all (fun w => msgWord m (4 * i + w) == 0)) &&
    msgWord m 280 == 0 && msgWord m 281 == 0

/-- The content of a STATUS block. -/
structure StatusInfo where
  stuck : Bool
  arrayFault : Bool
  farLos : Bool
  firedFseq : Nat
  stuckBeam : Nat
  farCorr : Nat
  farUncorr : Nat
  farEye : Nat
  zones : List Nat
deriving DecidableEq, Repr

/-- What a STATUS block holds. -/
def statusOf (m : Nat) : StatusInfo :=
  { stuck := bitOf (msgWord m 0) 17, arrayFault := bitOf (msgWord m 0) 16, farLos := bitOf (msgWord m 0) 15,
    firedFseq := msgWord m 1 + msgWord m 2 * wordMod, stuckBeam := msgWord m 3, farCorr := msgWord m 4, farUncorr := msgWord m 5,
    farEye := msgWord m 6, zones := (List.range 16).map (fun z => msgWord m (7 + z)) }

/-- The fields of a STATUS block that must be 0 are 0. -/
def statusClean (m : Nat) : Bool := bits (msgWord m 0) 0 15 == 0 && (List.range 259).all (fun i => msgWord m (23 + i) == 0)

/-- The header of a back-channel block is one that the array may send: no reserved BTYPE, none of the forward direction, and no
reserved field set. -/
def headerClean (m : Nat) : Bool :=
  let t := msgType m
  decide (t ≤ btSTATUS) && t != btFRAME && t != btFLUSH && bits m 0 16 == 0

/-- The block CRC passes, for the array port `ap`. -/
def crcPasses (ap m : Nat) : Bool := [msgWord m 282, msgWord m 283] == crcWords (blockCrc ap (msgType m) (msgBody m))

/-- A received block is taken: else it is discarded and counts one BLOCK_CRC error. -/
def blockClean (ap m : Nat) : Bool :=
  headerClean m && crcPasses ap m && (msgType m != btACK || ackClean m) && (msgType m != btSTATUS || statusClean m)

/-! ## The back channel's sequence (R210, R211, R233) -/

/-- The receiver's place after `n` more slots that hold no MARKER, and the MARKERs it has missed. -/
def LaneRx.pass (x : LaneRx) (n : Nat) : LaneRx :=
  match x.place with
  | some p => { x with place := some ((p + n) % 64), missing := x.missing + (p + n) / 64 }
  | none => x

/-- The receiver after `n` blocks in good order that are no MARKERs. -/
def LaneRx.skip (x : LaneRx) (n : Nat) : LaneRx :=
  let x := x.pass n
  { x with seq := x.seq.map (fun s => (s + n) % 256), bad := if n == 0 then x.bad else 0 }

/-- The BSEQ of a block does not follow that of the block before it. -/
def LaneRx.gap (x : LaneRx) (m : Nat) : Bool := x.seq.any (fun s => msgSeq m != (s + 1) % 256)

/-- The receiver after a block that it takes: it goes on from the block's BSEQ, and a MARKER ends a row of missing ones. -/
def LaneRx.take (x : LaneRx) (m : Nat) : LaneRx :=
  let steps := x.seq.elim 1 (fun s => (msgSeq m + 256 - s) % 256)
  let x := { x.pass steps with seq := some (msgSeq m), bad := 0 }
  if msgType m == btMARKER then { x with place := some 0, missing := 0 } else x

/-- Lock is lost: 3 uncorrectable codewords in a row, or 2 MARKERs missing in a row. -/
def LaneRx.lost (x : LaneRx) : Bool := decide (3 ≤ x.bad) || decide (2 ≤ x.missing)

/-! ## PRBS31 (R232) -/

/-- `n` bits of PRBS31, x^31 + x^28 + 1, first bit first, with the state after them. -/
def prbs31 : Nat → Nat → List Nat × Nat
  | s, 0 => ([], s)
  | s, n + 1 =>
    let b := (s / 2 ^ 30 + s / 2 ^ 27) % 2
    let (bs, e) := prbs31 ((s * 2 + b) % 2 ^ 31) n
    (b :: bs, e)

/-- The state in which the generator and the checker of a loopback begin: all ones. -/
def prbsStart : Nat := 2 ^ 31 - 1

/-- A block body filled with PRBS31, bit 0 of word 0 first, with the state after it. -/
def prbsBody (s : Nat) : List Nat × Nat :=
  let (bs, e) := prbs31 s 5112
  ((chunks 18 284 bs).map (fun c => c.foldr (fun b acc => b + 2 * acc) 0), e)

/-! ## The tap search (R236) -/

/-- The step, 0 to 8, that a tap takes: the greatest height; on a tie the one nearest its present value, step 4. Of two as near,
`high` says which: the rule names none. -/
def tapStep (heights : List Nat) (high : Bool) : Nat :=
  let best := heights.foldl max 0
  let steps := (List.range 9).filter (fun i => heights.getD i 0 == best)
  let far := fun (i : Nat) => if i ≤ 4 then 4 - i else i - 4
  let near := steps.filter (fun i => steps.all (fun k => decide (far i ≤ far k)))
  if high then near.getLastD 4 else near.headD 4

end Sys2Proof.Machine
end

