-- ==== Sys2Proof/Machine/LaneOps.lean ====
section
/-! DEFINITION. Shared operations of the beam lanes: lane states, errors, the move of a beam group to a spare,
FLUSH, and the level of weir 5 (R205 to R227). -/
namespace Sys2Proof.Machine

/-! ## Lane state (R250) -/

def fLaneState (n : Nat) : Fld := { off := LNE_LANE_STATE n, lo := 15, w := 3 }
def fLaneGroup (n : Nat) : Fld := { off := LNE_LANE_STATE n, lo := 9, w := 6 }
def fLaneRev (n : Nat) : Fld := bitAt (LNE_LANE_STATE n) 8
def fLanePolTx (n : Nat) : Fld := bitAt (LNE_LANE_STATE n) 7
def fLanePolRx (n : Nat) : Fld := bitAt (LNE_LANE_STATE n) 6
def fLaneLos (n : Nat) : Fld := bitAt (LNE_LANE_STATE n) 5
def fLaneLol (n : Nat) : Fld := bitAt (LNE_LANE_STATE n) 4
def fLaneLoop (n : Nat) : Fld := { off := LNE_LANE_CTRL n, lo := 16, w := 2 }
def fTrainCause (n : Nat) : Fld := { off := LNE_LANE_TRAIN n, lo := 15, w := 3 }
def fTrainSkew (n : Nat) : Fld := { off := LNE_LANE_TRAIN n, lo := 5, w := 10 }
def fBggLane (g : Nat) : Fld := { off := LNE_BGG_LANE g, lo := 0, w := 7 }
def fNoSpare (g : Nat) : Fld := bitAt LNE_NOSPARE g
def fUnserved (g : Nat) : Fld := bitAt LNE_NOSPARE (8 + g)
def fAllServed : Fld := bitAt LNE_STATUS 17
def fPpAuth : Fld := bitAt LNE_STATUS 16
def fPpPending : Fld := bitAt LNE_STATUS 15
def fPpErr : Fld := { off := LNE_STATUS, lo := 11, w := 4 }
def fArrayDepth : Fld := { off := LNE_ARRAY, lo := 0, w := 5 }
def fWeirLevel : Fld := { off := LNE_WEIR, lo := 0, w := 5 }
def fWeirGroup : Fld := { off := LNE_WEIR, lo := 5, w := 6 }
def fStale : Fld := bitAt LNE_ZONE_STATUS 17
def fEyeMin : Fld := { off := LNE_CFG, lo := 2, w := 9 }
def fCalDelta : Fld := { off := LNE_CFG, lo := 11, w := 6 }
def fAutoCal : Fld := bitAt LNE_CFG 17

/-- STATE codes of R250. -/
def laneDown : Nat := 0
def laneTraining : Nat := 1
def laneActive : Nat := 2
def laneSpare : Nat := 3
def laneCal : Nat := 4
def laneLoopback : Nat := 5
def laneRetired : Nat := 6

def Device.laneSt (d : Device) (n : Nat) : Nat := d.get (fLaneState n)
def Device.setLaneSt (d : Device) (n s : Nat) : Device := d.put (fLaneState n) s

/-- The lane group of a lane, and the lanes of a lane group (R206). -/
def laneGroup (n : Nat) : Nat := n / 9
def lanesOf (g : Nat) : List Nat := (List.range 9).map (fun k => 9 * g + k)

/-- The lane that carries a beam group: the one that BGG_LANE names, once its lane group has given its beam groups to lanes
(R231). -/
def Device.carryingLane (d : Device) (g : Nat) : Option Nat :=
  if d.get (fBggLane g) < 72 && !d.lne.fresh.contains (g / 8) then some (d.get (fBggLane g)) else none

/-- The beam group a lane carries. -/
def Device.carried (d : Device) (n : Nat) : Option Nat := (List.range 64).find? (fun g => d.carryingLane g == some n)

/-- Some beam group is unserved (R226, R484). -/
def Device.unserved (d : Device) : Bool := (List.range 64).any (fun g => d.carryingLane g == none)

/-- What a lane was before a write of LOOP in this clock turned it. -/
def Device.turned (d : Device) (n : Nat) : Option (Nat × Nat × Nat × Nat) :=
  if d.released 13 then d.lne.looped.find? (fun x => x.1 == n && x.2.1 == d.clock) else none

/-- A write of LOOP in this clock is ignored after all (R237). -/
def Device.unturn (d : Device) (n : Nat) : Device :=
  match d.turned n with
  | some x => ({ d with lne := { d.lne with looped := d.lne.looped.filter (fun y => y.1 != n), line := d.lne.line.filter (fun b => b.lane != n) } }.put
      (fLaneLoop n) x.2.2.2).setLaneSt n x.2.2.1
  | none => d

/-- The spare that a lane group would use: its SPARE lane of lowest number. One that LOOP has turned in this clock is still one
(R237). -/
def Device.spareOf (d : Device) (g : Nat) : Option Nat :=
  (lanesOf g).find? (fun n => d.laneSt n == laneSpare || (d.turned n).any (fun x => x.2.2.1 == laneSpare))

/-- LNE_NOSPARE and LNE_STATUS.ALL_SERVED as the lane states give them (R231, R246). -/
def Device.showSpares (d : Device) : Device :=
  let d := d.each (List.range 8) (fun d g =>
    (d.putFlag (fNoSpare g) (d.spareOf g == none)).putFlag (fUnserved g)
      (!d.lne.fresh.contains g && (List.range 8).any (fun k => d.carryingLane (8 * g + k) == none)))
  d.putFlag fAllServed (!d.unserved)

/-- Record the first lane error (R247). `fseq` is 0xF_FFFF_FFFF when no frame is involved. -/
def Device.laneErrInfo (d : Device) (cause group lane fseq : Nat) : Device :=
  if d.flag (bitAt LNE_ERR_INFO 17) then d
  else (d.setReg LNE_ERR_INFO (131072 + cause * 8192 + group % 64 * 128 + lane % 128)).put36 LNE_ERR_FSEQ fseq

/-- No frame is involved in the error (R247, R495). -/
def noFseq : Nat := pairMod - 1

/-- Store the frames. -/
def Device.setFrames (d : Device) (fs : List Frame) : Device := { d with lne := { d.lne with frames := fs } }

/-- A lane becomes ACTIVE; a write of LOOP in the same clock is ignored (R237). -/
def Device.activate (d : Device) (n : Nat) : Device :=
  let d := d.unturn n
  { d with lne := { d.lne with became := (n, d.clock) :: d.lne.became.filter (fun p => p.1 != n) } }.setLaneSt n laneActive

/-- A lane carries a beam group from now on. -/
def Device.carry (d : Device) (n group : Nat) : Device := ((d.activate n).put (fLaneGroup n) group).put (fBggLane group) n

/-- The lanes begin to train, with the PRBS13 of step 1: those that are DOWN, or every lane after a reset (R228). -/
def Device.trainLane (d : Device) (n : Nat) : Device :=
  ({ d with lne := { d.lne with locking := n :: d.lne.locking.filter (fun m => m != n) } }.setLaneSt n laneTraining).showSpares

/-- Every lane group is to be given lanes anew (R231). -/
def Device.lanesFresh (d : Device) : Device := { d with lne := { d.lne with fresh := List.range 8 } }

/-- Give the beam groups of a lane group to its trained lanes, in increasing group and lane number; the rest are
SPARE, and groups left over are unserved with event 114 + 4·g (R231). -/
def Device.assignGroup (d : Device) (g : Nat) : Device :=
  let lanes := (lanesOf g).filter (fun n => d.laneSt n == laneSpare || d.laneSt n == laneActive)
  let d := { d with lne := { d.lne with fresh := d.lne.fresh.filter (fun x => x != g) } }
  let d := d.each lanes (fun d n => d.setLaneSt n laneSpare)
  d.each (List.range 8) (fun d k =>
    match lanes[k]? with
    | some n => d.carry n (8 * g + k)
    | none => (d.put (fBggLane (8 * g + k)) 0x7F).raise (114 + 4 * g))

/-- Give the beam groups of every lane group that is to be given lanes. -/
def Device.assignLanes (d : Device) : Device := (d.each d.lne.fresh Device.assignGroup).showSpares

/-! ## The line (R209 to R213, R220) -/

/-- The lane is sending until a tick. -/
def Device.laneBusy (d : Device) (n t : Nat) : Device :=
  { d with lne := { d.lne with busyUntil := (n, t) :: d.lne.busyUntil.filter (fun p => p.1 != n) } }

/-- The lane has sent what it had to send. -/
def Device.laneFree (d : Device) (n : Nat) : Bool := !(d.lne.busyUntil.any (fun p => p.1 == n && decide (d.clock < p.2)))

/-- Put blocks on a lane, from the first slot that begins now and that nothing of the lane takes: the tick at which the last
block ends. -/
def Device.putOnLine (d : Device) (n btype : Nat) (bodies : List (List Nat)) (frame : Option (Nat × Nat)) : Device × Nat :=
  let first := (d.lne.line.filter (fun b => b.lane == n)).foldl (fun m b => max m (b.slot + 1)) (slotAt d.clock)
  let slots := openSlots first bodies.length
  let blocks : List LineBlock := (bodies.zip slots).zipIdx.map (fun p =>
    { lane := n, slot := p.1.2, btype := btype, index := if btype == btFRAME then p.2 else 0, body := p.1.1, frame := frame })
  let last := slotStart (slots.getLastD first + 1)
  (({ d with lne := { d.lne with line := d.lne.line ++ blocks } }).laneBusy n last, last)

/-- Cut what the lanes still have to send of some frames: where a frame is in progress, the next block is IDLE (R237). -/
def Device.cutFrames (d : Device) (cut : Nat × Nat → Bool) : Device :=
  let gone := d.lne.line.filter (fun b => b.frame.any cut)
  let lanes := (gone.map LineBlock.lane).eraseDups
  let begun := fun (n : Nat) => !gone.any (fun b => b.lane == n && b.index == 0)
  let d := { d with lne := { d.lne with line := d.lne.line.filter (fun b => !b.frame.any cut) } }
  d.each lanes (fun d n => if begun n then (d.putOnLine n btIDLE [[]] none).1 else d.laneBusy n (slotStart (slotAt d.clock)))

/-- The message that a lane sends in a slot: a MARKER with the lane number and the marker count, the block that waits for the slot,
or IDLE (R211, R220). -/
def Device.slotMessage (d : Device) (n k : Nat) : Nat :=
  if markerSlot k then slotBlock n k btMARKER (markerBody n k)
  else match d.lne.line.find? (fun b => b.lane == n && b.slot == k) with
    | some b => blockMessage (blockHeader b.btype k b.index) (blockBody n b.btype b.body)
    | none => slotBlock n k btIDLE []

/-- The states of the PRBS31 generator and checker of a lane (R232). -/
def Device.prbsOf (d : Device) (n : Nat) : Nat × Nat := ((d.lne.prbs.find? (fun p => p.1 == n)).map Prod.snd).getD (prbsStart, prbsStart)
def Device.setPrbs (d : Device) (n : Nat) (x : Nat × Nat) : Device :=
  { d with lne := { d.lne with prbs := (n, x) :: d.lne.prbs.filter (fun p => p.1 != n) } }

/-- The slot of a lane in training: PRBS13 until clock and data recovery have locked, then MARKER blocks, and TRAIN blocks with the
lane number. No command tells when they lock: a free value does (R228). -/
def Device.sendTraining (d : Device) (k n : Nat) : Device :=
  if d.lne.locking.contains n then
    let d := d.when (Config.freeNat d.freeCtr % 2 == 1) (fun d => { d with lne := { d.lne with locking := d.lne.locking.filter (fun m => m != n) } })
    (d.nextFree).emit (.lanePrbs13 n)
  else d.emit (.laneBlock n (if markerSlot k then slotBlock n k btMARKER (markerBody n k) else slotBlock n k btTRAIN [n, 0]))

/-- A trained lane sends the block of a slot; one in loopback sends FRAME blocks filled with PRBS31 where nothing else waits
(R232). -/
def Device.sendSlot (d : Device) (k n : Nat) : Device :=
  let st := d.laneSt n
  if st == laneTraining then d.sendTraining k n
  else if st == laneLoopback && !markerSlot k && !(d.lne.line.any (fun b => b.lane == n && b.slot == k)) then
    let (body, e) := prbsBody (d.prbsOf n).1
    (d.setPrbs n (e, (d.prbsOf n).2)).emit (.laneBlock n (blockMessage (blockHeader btFRAME k 0) body))
  else if st == laneActive || st == laneSpare || st == laneCal || st == laneLoopback then d.emit (.laneBlock n (d.slotMessage n k))
  else d

/-- The blocks of the slot that begins in this tick leave: all lanes start their blocks together (R209). -/
def Device.lineTick (d : Device) : Device :=
  let k := slotAt d.clock
  if slotStart k != d.clock || !d.unitUp 18 then d
  else
    let d := d.each (List.range 72) (fun d n => d.sendSlot k n)
    { d with lne := { d.lne with line := d.lne.line.filter (fun b => decide (k < b.slot)) } }

/-! ## Frames, credits and weir 5 -/

/-- The CRC of a frame on a lane whose recorded array port is `ap` (R215). -/
def frameCrc (ap group fseq : Nat) (head : List Nat) (payload : List Nat) : Nat :=
  crcGroups ([ap, group, bits fseq 0 18, bits fseq 18 18] ++ head ++ payload)

/-- The array port that training recorded for a lane (R229). -/
def Device.arrayPort (d : Device) (n : Nat) : Nat := (d.lne.ports.find? (fun p => p.lane == n)).elim n LanePort.port

/-- The frames of a group sent but not yet fired: one credit each (R220). -/
def Device.creditsUsed (d : Device) (g : Nat) : Nat := (d.lne.frames.filter (fun f => f.group == g)).length

/-- The frame of a group for an FSEQ is committed before its deadline (R221). -/
def Device.groupCommitted (d : Device) (g fseq : Nat) : Bool :=
  d.lne.frames.any (fun f => f.group == g && f.fseq == fseq && f.state == .committed true)

/-- Flash FSEQ is committed: every beam group has committed its frame in time (R221). -/
def Device.flashCommitted (d : Device) (fseq : Nat) : Bool := (List.range 64).all (fun g => d.groupCommitted g fseq)

/-- How many consecutive flashes from FSEQ on a group has committed, up to 16. -/
def Device.groupLevel (d : Device) (g fseq : Nat) : Nat :=
  ((List.range 16).takeWhile (fun i => d.groupCommitted g ((fseq + i) % pairMod))).length

/-- The FSEQ after the last fired flash of the job; 0, that of the job's first flash, before it (R214, R222). -/
def Device.nextFire (d : Device) : Nat := if d.get36 FLS_FIRED == 0 then 0 else (d.get36 FLS_LAST_FSEQ + 1) % pairMod

/-- LNE_WEIR: the number of consecutive committed flashes after the last fired one, and the limiting group of
lowest number (R222, R246). -/
def Device.showWeir (d : Device) : Device :=
  let base := d.nextFire
  let (lvl, grp) := (List.range 64).foldl (fun (acc : Nat × Nat) g =>
    let l := d.groupLevel g base
    if l < acc.1 then (l, g) else acc) (17, 0)
  ((d.put fWeirLevel (min lvl 16)).put fWeirGroup grp)

/-! ## FLUSH (R227) -/

/-- The body of a FLUSH. -/
def flushBody (next : Nat) (all : Bool) : List Nat := [b2n all * 131072, bits next 0 18, bits next 18 18]

/-- Send a group's FLUSH on the lane that carries it; it waits for its acknowledgement from the end of the block. Where no lane
carries the group, its FLUSH waits for one that does. -/
def Device.flushGroup (d : Device) (g next : Nat) (all : Bool) : Device :=
  let keep := fun (d : Device) (t : Option Nat) =>
    { d with lne := { d.lne with flushes := d.lne.flushes.filter (fun x => x.group != g) ++ [{ group := g, next := next, all := all, tick := t }] } }
  match d.carryingLane g with
  | none => keep d none
  | some n =>
    if d.laneSt n == laneRetired then keep d none
    else
      let (d, t) := d.putOnLine n btFLUSH [flushBody next all] none
      keep d (some t)

/-! ## Errors, and the move of a beam group to a spare (R225, R226, R233) -/

/-- A lane is recovering while a frame that it carries awaits replay or the echo of one, and while it re-trains (R225, and the timeline
of R226). -/
def Device.laneSettle (d : Device) (n : Nat) : Device :=
  let busy := d.lne.frames.any (fun f => f.lane == n && (f.state == .replay || (f.state == .awaiting && bitOf f.head 9))) ||
    d.lne.retrying.any (fun p => p.1 == n)
  if !busy then d.recovered 8 n
  else if d.isPermanent 8 n || d.isRecovering 8 n then d
  else d.setDomain { d.domain 8 n with recovering := true }

/-- Some frames are sent again on a lane. -/
def Device.replayOn (d : Device) (n : Nat) (p : Frame → Bool) : Device :=
  (d.setFrames (d.lne.frames.map (fun f => if p f then { f with state := .replay, lane := n } else f))).laneSettle n

/-- A lane takes a beam group, and sends every frame of it that awaits echo or replay again, after a FLUSH that has not left whole
(R220, R223, R226). -/
def Device.takeGroup (d : Device) (n group : Nat) : Device :=
  let unsent := d.lne.flushes.filter (fun x => x.group == group && x.tick.isNone)
  ((d.carry n group).replayOn n (fun f => f.group == group && (f.state == .awaiting || f.state == .replay))).each unsent
    (fun d x => d.flushGroup group x.next x.all)

/-- Move a beam group to the spare of its lane group; with no spare the group is unserved (R226). -/
def Device.moveGroup (d : Device) (group : Nat) : Device :=
  let g := group / 8
  match d.spareOf g with
  | some n => ((d.takeGroup n group).showSpares).raise (113 + 4 * g)
  | none => ((d.put (fBggLane group) 0x7F).showSpares).raise (114 + 4 * g)

/-- A lane gives its beam group up: at once, or, where it is retired, 3 ticks after the classification (R226, R233). -/
def Device.unloadLane (d : Device) (n st : Nat) : Device :=
  match d.carried n with
  | some group =>
    if st == laneRetired && d.released 13 then
      { d.showSpares with lne := { d.lne with moves := d.lne.moves.filter (fun p => p.1 != group) ++ [(group, d.clock + 3)] } }
    else d.moveGroup group
  | none => d.showSpares

/-- The groups of retired lanes whose moves fall due. The lane is heard in that tick still (R226, R237). -/
def Device.movesDue (d : Device) : Device :=
  let due := d.lne.moves.filter (fun p => decide (p.2 ≤ d.clock))
  { d with lne := { d.lne with moves := d.lne.moves.filter (fun p => decide (d.clock < p.2)) } }.each due (fun d p =>
    let old := (d.carryingLane p.1).toList
    (({ d with lne := { d.lne with lost := old.map (fun n => (n, d.clock)) ++ d.lne.lost.filter (fun (x : Nat × Nat) => !old.contains x.1) } }).moveGroup p.1))

/-- A lane goes out of use: what it had still to send is dropped, its group moves, and the frames of a group that it had handed
over go to the lane that carries it now (R226, R233, R235). -/
def Device.laneOut (d : Device) (n st : Nat) : Device :=
  let cut := fun (x : Flush) => if d.carryingLane x.group == some n && x.tick.any (fun t => decide (d.clock < t)) then { x with tick := none } else x
  let d := { d with lne := { d.lne with line := d.lne.line.filter (fun b => b.lane != n), rx := d.lne.rx.filter (fun x => x.lane != n),
                                        handover := d.lne.handover.filter (fun h => h.1 != n), flushes := d.lne.flushes.map cut,
                                        lost := (n, d.clock) :: d.lne.lost.filter (fun p => p.1 != n) } }
  let d := (d.setLaneSt n st).unloadLane n st
  d.each (d.lne.frames.filter (fun f => f.lane == n && (f.state == .awaiting || f.state == .replay))) (fun d f =>
    match d.carryingLane f.group with
    | some m => if m == n then d else d.replayOn m (fun x => x.group == f.group && x.fseq == f.fseq)
    | none => d)

/-- Charge an error to a lane: first-error registers, event 112 + 4·g, and on a permanent classification the lane
is retired and its group moved (R225, R226). A permanent domain counts no further error (R498). -/
def Device.laneError (d : Device) (n cause group fseq : Nat) : Device :=
  if d.isPermanent 8 n then d
  else
    let d := (d.laneErrInfo cause group n fseq).raise (112 + 4 * laneGroup n)
    match d.charge 8 n cause fseq with
    | (.permanent, d) => d.laneOut n laneRetired
    | (_, d) => (d.laneSettle n).each (d.carryingLane group).toList Device.laneSettle

/-- A lane whose handover is complete enters CAL: every frame below h of the group that it handed over is committed (R235). -/
def Device.handoverDone (d : Device) : Device :=
  d.each d.lne.handover (fun d (x : Nat × Nat × Nat) =>
    if d.lne.frames.any (fun f => f.group == x.2.1 && !fseqGe f.fseq x.2.2 && (f.state == .awaiting || f.state == .replay)) then d
    else
      let d := { d with lne := { d.lne with handover := d.lne.handover.filter (fun y => y.1 != x.1) } }
      if d.laneSt x.1 == laneActive then (d.setLaneSt x.1 laneCal).showSpares else d)

/-- Send FLUSH on every lane that carries a group: frames at or after `next` (or all frames) are cut where they are being sent and
leave the replay buffers, and each group waits for its acknowledgement. -/
def Device.sendFlush (d : Device) (next : Nat) (all : Bool) : Device :=
  let gone := fun (fs : Nat) => all || fseqGe fs next
  let d := (d.setFrames (d.lne.frames.filter (fun f => !gone f.fseq))).cutFrames (fun x => gone x.2)
  let d := { d with lne := { d.lne with flushes := [] }, fls := { d.fls with flushDue := false } }
  let d := d.each (List.range 64) (fun d g => d.flushGroup g next all)
  (d.each (List.range 72) Device.laneSettle).handoverDone.showWeir

/-- The FLUSH of a stop, or of an abort, which has the array discard every frame (R227). -/
def Device.stopFlush (d : Device) (next : Nat) : Device := d.sendFlush next (d.job.any (fun j => j.aborting))

end Sys2Proof.Machine
end

