-- ==== Sys2Proof/Machine/Stop.lean ====
section
/-! DEFINITION. Stop requests and the stitch point (R274, R275). -/
namespace Sys2Proof.Machine

/-- The bits of FLS_STOP_CAUSES (R294). -/
def cWEIR : Nat := 0
def cFAULT : Nat := 1
def cTEMP : Nat := 2
def cPERMIT : Nat := 3
def cMESH : Nat := 4
def cOVERSPEED : Nat := 5
def cREVERSAL : Nat := 6
def cHEAD : Nat := 7
def cYDEV : Nat := 8
def cBEHIND : Nat := 9

/-- HELD_CAUSE of the first request of a stop (R274). -/
def heldCauseOf (bit : Nat) : Nat := if bit < 5 then bit + 2 else 7

/-- The stop begins: the stitch point is the last decided flash (in the layer handshake, the flash before flash 0 of the
next layer), event 160, and FLUSH follows at once or when the
strobe of s has risen (R275 steps 1 to 4). -/
def Device.beginStop (d : Device) : Device :=
  match d.job with
  | none => d
  | some j =>
    let s := j.decidedN
    let d := ((d.putFlag fStopPending true).putS36 FLS_STITCH_N (if d.phase == phLayer then -1 else s)).put36 FLS_STITCH_FSEQ (j.fseq s)
    let d := (d.raise 160).setPhase phStopping
    -- a worker sends no set-points: its stage is stopped by the manager (R407, R421)
    let d := d.when (!d.isWorker) (fun d => { d with mot := { d.mot with ask := some .stop, askTick := d.clock } })
    if d.fls.decided.isSome then { d with fls := { d.fls with flushDue := true } }
    else d.stopFlush (j.fseq (s + 1))

/-- A global stop: S is the FSEQ of the manager's last decided flash plus k, and STOP goes to every column (R420). The
register of the first record since VALID was cleared names the initiating column (R430). -/
def Device.recordStop (d : Device) (issued : Bool) (init s : Nat) : Device :=
  let d := d.put36 MSH_STOP_S s
  let d := if d.flag (bitAt MSH_STOP_INFO 17) then d else d.setReg MSH_STOP_INFO (131072 + b2n issued * 65536 + init % 16 * 4096)
  (d.put36 FLS_STOP_AT s).raise 253

/-- The manager issues a global stop (R420). It answers the module and S. -/
def Device.sendStop (d : Device) (init : Nat) : Device × Nat :=
  let s := (d.job.elim 0 (fun j => j.fseq j.decidedN) + d.get fStopLead) % pairMod
  let d := { d with msh := { d.msh with stopSent := true, stopTick := d.clock } }
  ((d.recordStop true init s).sendMesh toAll mSTOP (body36 s ++ [init]), s)

/-- What the mesh does with a first request: a worker sends STOP_REQ, the manager sends STOP (R420). A stop that a global
stop causes is no request of the column's own. -/
def Device.meshRequest (d : Device) (bit : Nat) : Device :=
  if bit == cMESH && !d.msh.cut then d
  else if d.isWorker then d.sendMesh 0 mSTOP_REQ (bit :: body36 (d.get36 FLS_STITCH_FSEQ))
  else if d.isManager && !d.msh.stopSent then (d.sendStop 0).1
  else d

/-- A worker's stop request that meets a RESUME in one tick: the answer carries BUSY_JOB (R425). -/
def Device.meetsResume (d : Device) : Device :=
  if !(d.isWorker && d.inHeld) then d
  else
    let d1 := { d with msh := { d.msh with reqTick := some d.clock, resuming := d.msh.resuming && d.msh.ackTick != some d.clock } }
    d1.when (d.msh.ackTick == some d.clock) (fun d => d.sendMesh 0 mRESUME_ACK [sBUSY_JOB])

/-- A worker's own request in the tick in which a STOP has begun a stop of it governs (R425). -/
def Device.meetsStop (d : Device) (bit : Nat) : Device :=
  if d.isWorker && bit != cMESH && d.msh.stopTick == d.clock && d.get fHeldCause == heldCauseOf cMESH then (d.put fHeldCause (heldCauseOf bit)).meshRequest bit
  else d

/-- A stop request with a cause (R274). The first of a stop sets HELD_CAUSE and begins it; later ones add their
bit. Outside WRITING there is nothing to stop. -/
def Device.stopRequest (d : Device) (bit : Nat) : Device :=
  if !d.inWriting then d.meetsResume
  else
    let d1 := d.putFlag (bitAt FLS_STOP_CAUSES bit) true
    if d.flag fStopPending then d1.meetsStop bit else ((d1.put fHeldCause (heldCauseOf bit)).beginStop).meshRequest bit

/-- No pass is in progress: no compare is armed (R275). -/
def Device.noPass (d : Device) : Bool :=
  d.inWriting && (d.phase == phLead || d.phase == phStep || d.phase == phLayer || d.phase == phIdle)

/-- The pass that comes next has all its rows in the deep band, so that a failed data path leaves it nothing to miss. -/
def Device.nextWhole (d : Device) : Bool :=
  d.job.all (fun j =>
    if d.phase == phLayer then
      d.cst.runs.any (fun r => r.layer == j.layer + 1 && r.stripe == j.firstStripe && r.pass == 0 && decide ((j.stripeAt j.firstStripe).len ≤ r.hi)) ||
        d.cst.ahead.contains ((j.stripeAt j.firstStripe).len - 1)
    else d.lastCommitted)

/-- A stop that begins at once where no pass is in progress; a pass in progress runs down to the flash compare. -/
def Device.stopIdle (d : Device) (bit : Nat) : Device := if d.noPass then d.stopRequest bit else d

/-- The data path has failed and completes only what it was supplied: its weirs run down to the flash compare, and where
no pass is in progress the stop begins at once, unless the next pass misses nothing (R33, R63). -/
def Device.runDry (d : Device) (bit : Nat) : Device := if d.nextWhole then d else d.stopIdle bit

/-- A stop request without a cause bit: an abort (R274). -/
def Device.stopForAbort (d : Device) : Device := if d.flag fStopPending then d else d.beginStop

end Sys2Proof.Machine
end

