-- ==== Sys2Proof/Machine/CascadeOps.lean ====
section
/-! DEFINITION. Shared operations of the Cascades, the pool grid and the deep band: the stripe of a reading, the
contour pieces of a record, the tally store, the weir levels, and the issue of tiles (R80 to R111, R127 to R130). -/
namespace Sys2Proof.Machine

/-! ## The job's stripes -/

/-- The last stripe of the list. -/
def Job.lastStripe (j : Job) : Nat := j.stripes.length - 1

/-- PC_EN and the cell size (R147). -/
def fPcEn : Fld := bitAt POOL_CFG 17
def Device.pcEn (d : Device) : Bool := d.flag fPcEn
def Device.cellLog (d : Device) : Nat := bits (d.reg POOL_CFG) 13 4
def Device.cellPix (d : Device) : Nat := 2 ^ d.cellLog
def Device.radius (d : Device) : Nat := bits (d.reg POOL_CFG) 3 8
def Device.nGauss (d : Device) : Nat := bits (d.reg POOL_CFG) 11 2 + 1

/-- The pool lead in stripes (R89, R129, R138). -/
def Device.poolLead (d : Device) (j : Job) : Nat := if d.pcEn then ceilDiv (d.radius * d.cellPix) j.width else 0

/-- The deep band's rows and the mode of a stripe (R100, R101). -/
def Device.dbRows (d : Device) (j : Job) : Nat := 64 * d.get36 CST_DB_LINES / j.width
def Device.wholeStripe (d : Device) (j : Job) (len : Nat) : Bool := decide (len ≤ d.dbRows j)

/-- Bands and tiles across of a stripe (R80). -/
def bandsOf (len : Nat) : Nat := ceilDiv len 256
def Job.tilesAcross (j : Job) : Nat := j.width / 256

/-- The rows of a band: the first and the one after the last. -/
def bandRows (len b : Nat) : Nat × Nat := (256 * b, min (256 * b + 256) len)

/-- The stripe rectangle in the job frame (R83). -/
def Job.region (j : Job) (s : Stripe) : Box :=
  { x0 := s.x0 - j.originX, y0 := s.y0 - j.originY,
    x1 := s.x0 - j.originX + 256 * s.len, y1 := s.y0 - j.originY + 256 * j.width }

/-- A tile in stripe-local FU; the last band ends at row L - 1. -/
def tileRect (len b t : Nat) : Rect :=
  { x0 := 256 * fu * (bandRows len b).1, y0 := 65536 * fu * t, x1 := 256 * fu * (bandRows len b).2, y1 := 65536 * fu * (t + 1) }

/-! ## Contour pieces (R82 to R85, R88, R130) -/

/-- The pixel offset of a stripe from the pool grid's origin (R127, R128). -/
def Job.gridOffset (j : Job) (s : Stripe) : Int × Int :=
  ((s.x0 - (j.stripeAt 0).x0) / 256, (s.y0 - (j.stripeAt 0).y0) / 256)

/-- The exact area, in FU², of contours of a tile in each pool cell they meet. -/
def cellAreas (c : Nat) (off : Int × Int) (r : Rect) (es : List Edge) : List ((Int × Int) × Rat) :=
  let px := fun (v : Int) => v / (256 * fu)
  let gx0 := (px r.x0 + off.1) / c
  let gx1 := (px (r.x1 - 1) + off.1) / c
  let gy0 := (px r.y0 + off.2) / c
  let gy1 := (px (r.y1 - 1) + off.2) / c
  (List.range (gx1 - gx0 + 1).toNat).flatMap (fun (i : Nat) => (List.range (gy1 - gy0 + 1).toNat).filterMap (fun (k : Nat) =>
    let gx := gx0 + i
    let gy := gy0 + k
    let xa := max r.x0 ((gx * c - off.1) * 256 * fu)
    let xb := min r.x1 (((gx + 1) * c - off.1) * 256 * fu)
    let ya := max r.y0 ((gy * c - off.2) * 256 * fu)
    let yb := min r.y1 (((gy + 1) * c - off.2) * 256 * fu)
    let a := areaIn es xa xb ya yb
    if a == 0 then none else some ((gx, gy), a)))

/-- The contour pieces of one shape in the tiles of a stripe. -/
def shapeContribs (j : Job) (s : Stripe) (cell : Option Nat) (sh : Shape) : List Contrib :=
  let pts := (sh.outline.polygon).map (fun p => (p.1 + j.originX - s.x0, p.2 + j.originY - s.y0))
  match boxOf pts with
  | none => []
  | some b =>
    let es := resolve pts
    let b0 := (b.x0 / 65536).toNat
    let b1 := min (bandsOf s.len) ((b.x1 / 65536 + 1).toNat)
    let t0 := (b.y0 / 65536).toNat
    let t1 := min j.tilesAcross ((b.y1 / 65536 + 1).toNat)
    (List.range (b1 - b0)).flatMap (fun i => (List.range (t1 - t0)).filterMap (fun k =>
      let r := tileRect s.len (b0 + i) (t0 + k)
      let cs := tileContours r es
      if cs.isEmpty then none
      else some { band := b0 + i, tile := t0 + k, cls := sh.cls, edges := cs, area := shoelace cs,
                  cross := (cs.map (rowCrossings r.x0)).sum,
                  cells := match cell with | some c => cellAreas c (j.gridOffset s) r cs | none => [] }))

/-- The shapes of a record in a layer (R57, R82). -/
def Device.shapesOf (d : Device) (j : Job) (s : Stripe) (layer : Nat) (r : LRec) : List Shape :=
  if r.first ≤ layer && layer ≤ r.last then expandRecord d.csc.lib (j.region s) r else []

/-- The contour pieces of a record. -/
def Device.contribsOf (d : Device) (j : Job) (s : Stripe) (layer : Nat) (pool : Bool) (r : LRec) : List Contrib :=
  let cell := if pool && d.pcEn then some d.cellPix else none
  (d.shapesOf j s layer r).flatMap (shapeContribs j s cell)

/-! ## The tally store (R88, R89) -/

/-- The words of the tally store in use. -/
def Device.tallyWords (d : Device) : Nat := (d.csc.tallies.map (fun r => 8 + 8 * r.classes.length)).sum

/-- CSC_TALLY_USED (R114). -/
def Device.showTally (d : Device) : Device := d.put36 CSC_TALLY_USED (ceilDiv d.tallyWords 64)

/-- The words a contribution needs (R88). -/
def Device.tallyNeed (d : Device) (layer stripe : Nat) (c : Contrib) : Nat :=
  match d.csc.tallies.find? (fun r => r.layer == layer && r.stripe == stripe && r.band == c.band && r.tile == c.tile) with
  | none => 16
  | some r => if r.classes.any (fun x => x.1 == c.cls) then 0 else 8

/-- Cascade engine `e` is retired (R113). -/
def Device.engineRetired (d : Device) (e : Nat) : Bool := bitOf (d.reg CSC_STATUS) e

/-- The first engine in service from `e` on, modulo 16. -/
def Device.engineFrom (d : Device) (e : Nat) : Nat :=
  (((List.range 16).map (fun i => (e + i) % 16)).find? (fun x => !d.engineRetired x)).getD (e % 16)

/-- The owning engine of a tile (R88). -/
def Device.ownerOf (d : Device) (j : Job) (band tile : Nat) : Nat := d.engineFrom ((band * j.tilesAcross + tile) % 16)

/-- Add T and K of a class. -/
def addClass (l : List (Nat × Int × Nat)) (c : Contrib) : List (Nat × Int × Nat) :=
  if l.any (fun x => x.1 == c.cls) then l.map (fun x => if x.1 == c.cls then (x.1, x.2.1 + c.area, x.2.2 + c.cross) else x)
  else l ++ [(c.cls, c.area, c.cross)]

/-- PWEIGHT of a class (R155). -/
def Device.pweight (d : Device) (c : Nat) : Nat := bits (d.reg (POOL_CLASS c + 4)) 9 9

/-- Add the areas of a contribution to the pool map of the tally pass, times PWEIGHT, in AU² (R130). -/
def Device.addDensity (d : Device) (c : Contrib) : Device :=
  let w : Rat := (d.pweight c.cls : Int)
  let acc := c.cells.foldl (fun acc x =>
    if acc.any (fun y => y.1 == x.1) then acc.map (fun y => if y.1 == x.1 then (y.1, y.2 + x.2 * w / fu2) else y)
    else acc ++ [(x.1, x.2 * w / fu2)]) d.pool.acc
  { d with pool := { d.pool with acc := acc } }

/-- Enter contour pieces in the tally of a stripe, until one needs room that the store lacks: those left wait (R89). A
TALLY_ONLY stripe keeps no records. -/
def Device.tallyAll (d : Device) (j : Job) (layer stripe : Nat) : List Contrib → Device
  | [] => ({ d with csc := { d.csc with tallyLeft := [] } }).showTally
  | c :: rest =>
    if (j.stripeAt stripe).tallyOnly then (d.addDensity c).tallyAll j layer stripe rest
    else if 64 * d.get36 CSC_TALLY_LINES < d.tallyWords + d.tallyNeed layer stripe c then
      ({ d with csc := { d.csc with tallyLeft := c :: rest } }).showTally
    else
      let same := fun (r : TallyRec) => r.layer == layer && r.stripe == stripe && r.band == c.band && r.tile == c.tile
      let ts := if d.csc.tallies.any same then
          d.csc.tallies.map (fun r => if same r then { r with classes := addClass r.classes c } else r)
        else d.csc.tallies ++ [{ layer := layer, stripe := stripe, band := c.band, tile := c.tile,
                                 owner := d.ownerOf j c.band c.tile, classes := [(c.cls, c.area, c.cross)] }]
      let d := ({ d with csc := { d.csc with tallies := ts } }).fillRegion (d.get36 CSC_TALLY_BASE) (d.get36 CSC_TALLY_LINES)
      (d.addDensity c).tallyAll j layer stripe rest

/-- The tally record of a tile. -/
def Device.tallyOf (d : Device) (layer stripe band tile : Nat) : TallyRec :=
  (d.csc.tallies.find? (fun r => r.layer == layer && r.stripe == stripe && r.band == band && r.tile == tile)).getD
    { layer := layer, stripe := stripe, band := band, tile := tile, owner := 0, classes := [] }

/-! ## The deep band (R100, R105, R111) -/

/-- u_lead of flash n (R105). -/
def Job.leadRow (j : Job) (n : Int) : Int := if j.reverse then (j.cur.len : Int) - 1 - n * j.adv else n * j.adv

/-- The rows held at flash n (R105). -/
def Job.heldAt (j : Job) (n : Int) : Int × Int :=
  let u := j.leadRow n
  if j.reverse then (u - j.lead, u + j.window - 1) else (u - j.window + 1, u + j.lead)

/-- The held range in force: that of the last flash of the pass that has fired, or of flash 0 (R105). -/
def Job.heldNow (j : Job) : Int × Int := j.heldAt (max 0 j.firedN)

/-- Two row ranges use a common row slot. -/
def slotsClash (n lo hi lo' hi' : Nat) : Bool :=
  n == 0 || (List.range (hi - lo)).any (fun i => (List.range (hi' - lo')).any (fun k => (lo + i) % n == (lo' + k) % n))

/-- A row of the pass in progress is behind the held range in force: the Cistern has held and released it. -/
def Job.behind (j : Job) (u : Nat) : Bool := if j.reverse then decide (j.heldNow.2 < u) else decide ((u : Int) < j.heldNow.1)

/-- The rows of a run that lie beyond the Cistern's write front: of the pass in progress those that the Cistern does not hold
and has not released, and of another pass those that have not been brought in ahead. -/
def Device.runAhead (d : Device) (j : Job) (r : DbRun) : Nat :=
  if r.layer == j.layer && r.stripe == j.stripe && (r.pass == j.pass || d.wholeStripe j j.cur.len) then
    ((List.range (r.hi - r.lo)).filter (fun i => !d.cst.rows.contains (r.lo + i) && !j.behind (r.lo + i))).length
  else ((List.range (r.hi - r.lo)).filter (fun i => !(j.ahead.any (fun k => r.layer == k.layer && r.stripe == k.stripe) && d.cst.ahead.contains (r.lo + i)))).length

/-- The level of weir 2. -/
def Device.dbLevel (d : Device) : Nat :=
  match d.job with
  | none => 0
  | some j => (d.cst.runs.map (d.runAhead j)).sum

def fBypass : Fld := bitAt CST_STATUS 16

/-- The level at which bypass ends: the rows of one band (R103). -/
def Device.bandLevel (d : Device) : Nat := d.job.elim 256 (fun j => min 256 j.cur.len)

/-- Show CST_WEIR_DB; bypass ends when the level reaches one band (R103, R123). -/
def Device.showDb (d : Device) : Device :=
  (d.put36 CST_WEIR_DB d.dbLevel).when (decide (d.bandLevel ≤ d.dbLevel)) (fun d => d.putFlag fBypass false)

/-! ## Tiles in flight (R97) -/

/-- Tiles between ISSUED and COMMITTED. -/
def Device.tilesInFlight (d : Device) : Nat := (d.csc.tiles.filter (fun t => t.state != .binning)).length

/-- Show BSN_INFLIGHT (R118). -/
def Device.showTiles (d : Device) : Device := d.put { off := BSN_INFLIGHT, lo := 0, w := 10 } d.tilesInFlight

/-- A band fits in the look-ahead when committed: its row slots are free of rows held and of the bands issued before it
(R111). -/
def Device.bandFits (d : Device) (j : Job) (len b : Nat) : Bool :=
  let n := d.dbRows j
  let (lo, hi) := bandRows len b
  let ahead := (List.range (b - d.csc.committed)).map (fun i => bandRows len (d.csc.committed + i))
  decide (hi - lo ≤ n) && !(d.cst.runs.any (fun r => slotsClash n lo hi r.lo r.hi)) && !(ahead.any (fun p => slotsClash n lo hi p.1 p.2))

/-- Issue the tiles of complete bands, in band and tile order, while fewer than 512 are in flight and the band fits
(R87, R97, R111). -/
def Device.issueTiles (d : Device) : Device :=
  match d.job, d.csc.raster with
  | some j, some pr =>
    let len := (j.stripeAt pr.stripe).len
    let go := fun (d : Device) (t : Tile) =>
      if t.state == .binning && decide (t.band < d.csc.bands) && decide (d.tilesInFlight < 512) && d.bandFits j len t.band then
        ({ d with csc := { d.csc with tiles := d.csc.tiles.map (fun (x : Tile) =>
            if x.band == t.band && x.tile == t.tile then { x with state := .issued } else x) } }).itemOut 3
      else d
    ((sortBy (fun (t : Tile) => t.band * 128 + t.tile) d.csc.tiles).foldl go d).showTiles
  | _, _ => d

end Sys2Proof.Machine
end

