-- ==== Sys2Proof/Machine/EthOut.lean ====
section
/-! DEFINITION. The Ethernet frames that the module sends, octet by octet (R372, R375, R377, R390): Ethernet with its FCS, ARP,
IPv4, IPv6, UDP, ICMP and neighbour messages, as the published protocols lay them out (log entries 59 and 63). -/
namespace Sys2Proof.Machine

/-- IPV6 of a server entry, and the IPv4 and IPv6 addresses of a port as numbers, the first octet highest (R401, R402). -/
def Device.srvV6 (d : Device) (srv : Nat) : Bool := d.flag (bitAt (ETH_SRV_CTRL srv) 16)
def Device.groups16 (d : Device) (off n : Nat) : Nat := (List.range n).foldl (fun acc i => acc * 65536 + d.reg (off + 4 * i) % 65536) 0
def Device.ipv4 (d : Device) (p : Nat) : Nat := d.groups16 (ETH_P_IPV4 p) 2
def Device.ipv6 (d : Device) (p : Nat) : Nat := d.groups16 (ETH_P_IPV6 p) 8
def Device.srvAddr (d : Device) (srv : Nat) : Nat := d.groups16 (ETH_SRV_ADDR srv) 8

/-- The port speaks an address family: its own address is not zero (R375). -/
def Device.speaks (d : Device) (p : Nat) (v6 : Bool) : Bool := (if v6 then d.ipv6 p else d.ipv4 p) != 0

def Device.macOf (d : Device) (p : Nat) : Nat := d.groups16 (ETH_P_MAC p) 3

/-- The sum of the 16-bit words of octets; an odd last octet is a word's high half. -/
def wordSum : List Nat → Nat
  | a :: b :: rest => a * 256 + b + wordSum rest
  | [a] => a * 256
  | [] => 0

/-- The Internet checksum of a sum of 16-bit words: the complement of the sum in ones' complement arithmetic. -/
def checksum (sum : Nat) : Nat := 65535 - (if sum == 0 then 0 else (sum - 1) % 65535 + 1)

/-- The FCS that the MAC appends (R372). -/
def fcsOctets (bs : List Nat) : List Nat := leBytes 4 (crcRefl 0xEDB88320 0xFFFFFFFF bs ^^^ 0xFFFFFFFF)

/-- A frame leaves a port from its MAC address, padded to 64 bytes, with its FCS (R372, R375). -/
def Device.sendEth (d : Device) (p dst type : Nat) (body : List Nat) : Device :=
  let f := beBytes 6 dst ++ beBytes 6 (d.macOf p) ++ beBytes 2 type ++ body
  let f := f ++ List.replicate (60 - f.length) 0
  (d.emit (.eth p (f ++ fcsOctets f))).itemOut 17

/-- An ARP packet of IPv4 over Ethernet: operation 1 asks, 2 answers. -/
def Device.sendArp (d : Device) (p op dst mac target : Nat) : Device :=
  d.sendEth p dst 0x0806
    (beBytes 6 0x000108000604 ++ beBytes 2 op ++ beBytes 6 (d.macOf p) ++ beBytes 4 (d.ipv4 p) ++ beBytes 6 mac ++ beBytes 4 target)

/-- The addresses of a packet as they enter its header and its checksums. -/
def ipAddrs (d : Device) (p : Nat) (v6 : Bool) (dst : Nat) : List Nat :=
  if v6 then beBytes 16 (d.ipv6 p) ++ beBytes 16 dst else beBytes 4 (d.ipv4 p) ++ beBytes 4 dst

/-- An IP packet. What the manual leaves open of its header is free: the service byte, the identification, the don't-fragment bit,
the flow label and, where `hop` gives none, the hop limit. -/
def Device.ipPacket (d : Device) (p : Nat) (v6 : Bool) (dst proto : Nat) (hop : Option Nat) (data : List Nat) : List Nat :=
  let x := Config.freeNat d.freeCtr
  let hops := hop.getD (bits x 25 8 % 255 + 1)
  let addrs := ipAddrs d p v6 dst
  if v6 then beBytes 4 (6 * 268435456 + bits x 0 8 * 1048576 + bits x 33 20) ++ beBytes 2 data.length ++ [proto, hops] ++ addrs ++ data
  else
    let front := [0x45, bits x 0 8] ++ beBytes 2 (20 + data.length) ++ beBytes 2 (bits x 8 16) ++ [if bitOf x 24 then 0x40 else 0, 0, hops, proto]
    front ++ beBytes 2 (checksum (wordSum (front ++ addrs))) ++ addrs ++ data

/-- Send an IP packet to a MAC address. -/
def Device.sendIp (d : Device) (p mac : Nat) (v6 : Bool) (dst proto : Nat) (hop : Option Nat) (data : List Nat) : Device :=
  (d.nextFree).sendEth p mac (if v6 then 0x86DD else 0x0800) (d.ipPacket p v6 dst proto hop data)

/-- Send a UDP datagram. Its checksum is 0 where `bare` says so; a computed checksum of 0 goes out as all ones. -/
def Device.sendUdp (d : Device) (p mac : Nat) (v6 : Bool) (dst sport dport : Nat) (bare : Bool) (data : List Nat) : Device :=
  let len := 8 + data.length
  let front := beBytes 2 sport ++ beBytes 2 dport ++ beBytes 2 len
  let c := checksum (wordSum (ipAddrs d p v6 dst) + 17 + len + wordSum (front ++ [0, 0] ++ data))
  d.sendIp p mac v6 dst 17 none (front ++ beBytes 2 (if bare then 0 else if c == 0 then 65535 else c) ++ data)

/-- Send an ICMP or ICMPv6 message: its type, and what follows the checksum. -/
def Device.sendIcmp (d : Device) (p mac : Nat) (v6 : Bool) (dst type : Nat) (hop : Option Nat) (data : List Nat) : Device :=
  let pseudo := if v6 then wordSum (ipAddrs d p true dst) + 58 + 4 + data.length else 0
  d.sendIp p mac v6 dst (if v6 then 58 else 1) hop ([type, 0] ++ beBytes 2 (checksum (pseudo + wordSum ([type, 0, 0, 0] ++ data))) ++ data)

/-- The answer to an echo request: its identifier, sequence number and data, back to where it came from (R375). -/
def Device.sendEcho (d : Device) (p mac : Nat) (v6 : Bool) (dst : Nat) (data : List Nat) : Device :=
  d.sendIcmp p mac v6 dst (if v6 then 129 else 0) none data

/-- Ask for the MAC address of an address: ARP, or a neighbour solicitation to its solicited-node address (R375). -/
def Device.sendAsk (d : Device) (p : Nat) (v6 : Bool) (addr : Nat) : Device :=
  if v6 then
    let low := addr % 16777216
    d.sendIcmp p (0x3333FF000000 + low) true (0xFF0200000000000000000001FF000000 + low) 135 (some 255)
      (beBytes 4 0 ++ beBytes 16 addr ++ [1, 1] ++ beBytes 6 (d.macOf p))
  else d.sendArp p 1 0xFFFFFFFFFFFF 0 addr

/-- The answer to a neighbour solicitation: to its sender, or to all nodes where it has no address yet (R375). -/
def Device.sendAdvert (d : Device) (p mac dst : Nat) : Device :=
  let named := dst != 0
  d.sendIcmp p (if named then mac else 0x333300000001) true (if named then dst else 0xFF020000000000000000000000000001) 136 (some 255)
    (beBytes 4 (if named then 0x60000000 else 0x20000000) ++ beBytes 16 (d.ipv6 p) ++ [2, 1] ++ beBytes 6 (d.macOf p))

end Sys2Proof.Machine
end

