-- ==== Sys2Proof/Machine/NdfOps.lean ====
section
/-! DEFINITION. What the module sends to a file server over NDF (R377, R378, R385): datagrams and the port of a server
entry. -/
namespace Sys2Proof.Machine

def fLink (p : Nat) : Fld := bitAt ETH_STATUS (17 - p)
def fEthLos (p : Nat) : Fld := bitAt ETH_STATUS (15 - p)
def fBufs : Fld := { off := ETH_STATUS, lo := 7, w := 7 }
def fSrvValid (s : Nat) : Fld := bitAt (ETH_SRV_CTRL s) 17
def fSrvPort (s : Nat) : Fld := bitAt (ETH_SRV_CTRL s) 15
def fSrvAlt (s : Nat) : Fld := bitAt (ETH_SRV_CTRL s) 14
def fNdfWindow : Fld := { off := ETH_CFG, lo := 13, w := 5 }
def fNdfRetries : Fld := { off := ETH_CFG, lo := 7, w := 4 }

/-- The server entry of a slot. -/
def Slot.server (s : Slot) : Nat := match s.source with | .ndf k => k | _ => 0

/-- A slot reads over NDF. -/
def Slot.isNdf (s : Slot) : Bool := match s.source with | .ndf _ => true | _ => false

/-- The port on which the module sends to a server entry (R385). -/
def Device.serverPort (d : Device) (srv : Nat) : Nat :=
  let p := d.get (fSrvPort srv)
  if d.flag (fLink p) then p else if d.flag (fSrvAlt srv) && d.flag (fLink (1 - p)) then 1 - p else p

/-- A datagram of R377: its header and its body. -/
def ndfBytes (type attempt session stream seq segIndex segCount : Nat) (body : List Nat) : List Nat :=
  [0xD5, 1, type, attempt % 256] ++ leBytes 4 session ++ leBytes 4 stream ++ leBytes 4 seq ++ leBytes 2 segIndex ++
    leBytes 2 segCount ++ leBytes 4 body.length ++ body

/-- Change the neighbours of the ports. -/
def Device.mapNeighbours (d : Device) (f : List Neighbour → List Neighbour) : Device :=
  { d with eth := { d.eth with neighbours := f d.eth.neighbours } }

/-- The neighbour of a port under an address. -/
def Neighbour.isAt (x : Neighbour) (p : Nat) (v6 : Bool) (addr : Nat) : Bool := x.port == p && x.v6 == v6 && x.addr == addr

/-- Resolve an address when it is first used on a port (R375): ARP, or a neighbour solicitation. -/
def Device.resolve (d : Device) (p : Nat) (v6 : Bool) (addr : Nat) : Device :=
  if d.eth.neighbours.any (fun x => x.isAt p v6 addr) then d
  else (d.sendAsk p v6 addr).mapNeighbours (fun l => l ++ [{ port := p, v6 := v6, addr := addr, asked := d.clock }])

/-- Send a datagram to a server entry, from ETH_NDF_PORT and to the UDP port of the entry (R377). One to an address that is
being resolved waits for its answer. A port without a link, or without an address of the entry's family, sends nothing (R375). -/
def Device.sendNdf (d : Device) (port srv : Nat) (bytes : List Nat) : Device :=
  let v6 := d.srvV6 srv
  let addr := d.srvAddr srv
  let dport := d.reg (ETH_SRV_UDP srv) % 65536
  if d.flag (fLink port) && d.speaks port v6 then
    let d := d.resolve port v6 addr
    match (d.eth.neighbours.find? (fun x => x.isAt port v6 addr)).bind (fun x => x.mac) with
    | some mac => d.sendUdp port mac v6 addr (d.reg ETH_NDF_PORT % 65536) dport false bytes
    | none => d.mapNeighbours (fun l => l.map (fun x => if x.isAt port v6 addr then { x with waiting := x.waiting ++ [(dport, bytes)] } else x))
  else d

/-- The block buffers in use: blocks under way, and blocks that the Spring has yet to take (R380). -/
def Device.bufsUsed (d : Device) : Nat := d.eth.fetches.length + (d.spr.ndf.filter (fun x => x.2.2.isSome)).length

/-- Show ETH_STATUS.BUFS (R398). -/
def Device.showBufs (d : Device) : Device := d.put fBufs d.bufsUsed

end Sys2Proof.Machine
end

