-- ==== Sys2Proof/Machine/EthFrames.lean ====
section
/-! DEFINITION. What a received Ethernet frame is (R373 to R375, R377, R389): its FCS, length, tag and destination, and the ARP,
IPv4, IPv6, ICMP, UDP and PTP headers in it, as the published protocols lay them out (log entry 63). -/
namespace Sys2Proof.Machine

/-- A received frame as R374 and R375 judge it. -/
inductive EthFrame where
  | badFcs
  | discard
  | arpRequest (target sender senderMac : Nat)
  | arpReply (sender senderMac : Nat)
  | neighborSolicit (target sender senderMac : Nat)
  | neighborAdvert (sender senderMac : Nat)
  | echoRequest (v6 : Bool) (src : Nat) (data : List Nat)
  | ndf (payload : List Nat)
  | other
deriving DecidableEq, Repr

/-- The big-endian field of `n` octets at octet `o`. -/
def octets (bs : List Nat) (o n : Nat) : Nat := beNat ((bs.drop o).take n)

/-- An Internet checksum holds over a sum that contains it. -/
def sumHolds (sum : Nat) : Bool := sum % 65535 == 0

/-- The FCS of a frame, its last four octets, is correct (R372, R374). -/
def fcsHolds (bs : List Nat) : Bool := decide (4 ≤ bs.length) && crcRefl 0xEDB88320 0xFFFFFFFF bs == 0xDEBB20E3

/-- The destinations of PTP messages over Ethernet, IPv4 and IPv6 (R389). -/
def ptpDestinations : List Nat := [0x011B19000000, 0x01005E000181, 0x333300000181]

/-- An ARP packet of IPv4 over Ethernet. -/
def arpPacket (b : List Nat) : EthFrame :=
  if octets b 0 6 != 0x000108000604 then .other
  else if octets b 6 2 == 1 then .arpRequest (octets b 24 4) (octets b 14 4) (octets b 8 6)
  else if octets b 6 2 == 2 then .arpReply (octets b 14 4) (octets b 8 6)
  else .other

/-- A UDP datagram; `pseudo`: the sum of its pseudo-header; `bare`: a checksum of 0 is accepted (R374). -/
def Device.udpPacket (d : Device) (pseudo : Nat) (bare : Bool) (b : List Nat) : EthFrame :=
  let len := octets b 4 2
  let dg := b.take len
  if decide (len < 8) || decide (b.length < len) then .discard
  else if !(if octets b 6 2 == 0 then bare else sumHolds (pseudo + 17 + len + wordSum dg)) then .discard
  else if octets b 2 2 == d.reg ETH_NDF_PORT % 65536 then .ndf (dg.drop 8)
  else .other

/-- An ICMP or ICMPv6 message for the port's own address: an echo request, a neighbour solicitation or advertisement. -/
def icmpPacket (v6 : Bool) (src sum : Nat) (b : List Nat) : EthFrame :=
  if !sumHolds sum then .discard
  else
    let type := octets b 0 1
    if !v6 then (if type == 8 then .echoRequest false src (b.drop 4) else .other)
    else if type == 128 then .echoRequest true src (b.drop 4)
    else if type == 135 then .neighborSolicit (octets b 8 16) src (octets b 26 6)
    else if type == 136 then .neighborAdvert (octets b 8 16) (octets b 26 6)
    else .other

/-- An IPv4 datagram: a valid header, whole, and for the port's own address (R373 to R375). -/
def Device.ipv4Packet (d : Device) (p : Nat) (b : List Nat) : EthFrame :=
  let header := octets b 0 1 % 16 * 4
  let total := octets b 2 2
  let data := (b.take total).drop header
  if octets b 0 1 / 16 != 4 || decide (header < 20) || decide (total < header) || decide (b.length < total) || !sumHolds (wordSum (b.take header)) then .discard
  else if octets b 6 2 % 16384 != 0 then .discard
  else if !d.speaks p false || octets b 16 4 != d.ipv4 p then .other
  else if octets b 9 1 == 1 then icmpPacket false (octets b 12 4) (wordSum data) data
  else if octets b 9 1 == 17 then d.udpPacket (wordSum ((b.drop 12).take 8)) true data
  else .other

/-- An IPv6 packet for the port's own address. -/
def Device.ipv6Packet (d : Device) (p : Nat) (b : List Nat) : EthFrame :=
  let len := octets b 4 2
  let data := (b.drop 40).take len
  let pseudo := wordSum ((b.drop 8).take 32)
  if octets b 0 1 / 16 != 6 || decide (b.length < 40 + len) then .discard
  else if !d.speaks p true || octets b 24 16 != d.ipv6 p then .other
  else if octets b 6 1 == 58 then icmpPacket true (octets b 8 16) (pseudo + 58 + len + wordSum data) data
  else if octets b 6 1 == 17 then d.udpPacket pseudo false data
  else .other

/-- What a frame is to a port: one with a bad FCS; one that is discarded for its length, a tag, MAC control or its destination, or
that fails a checksum; or what it carries. -/
def Device.judgeFrame (d : Device) (p : Nat) (bs : List Nat) : EthFrame :=
  let dst := octets bs 0 6
  let type := octets bs 12 2
  let body := (bs.take (bs.length - 4)).drop 14
  if !fcsHolds bs then .badFcs
  else if decide (bs.length < 64) || decide (9216 < bs.length) || type == 0x8100 || type == 0x88A8 || type == 0x8808 then .discard
  else if !(dst == d.macOf p || (dst == 0xFFFFFFFFFFFF && type == 0x0806) || ptpDestinations.contains dst) then .discard
  else if type == 0x0806 then arpPacket body
  else if type == 0x0800 then d.ipv4Packet p body
  else if type == 0x86DD then d.ipv6Packet p body
  else .other

end Sys2Proof.Machine
end

