-- ==== Sys2Proof/Machine/Profile.lean ====
section
/-! DEFINITION. Motion profiles (R298 to R301, R304, R305): stretches of constant jerk, and the position, speed and
acceleration at a time. Times are in ticks, 800,000 to the millisecond. -/
namespace Sys2Proof.Machine

/-- MSTATE codes (R312). -/
def msREST : Nat := 0
def msRUN_IN : Nat := 1
def msCRUISE : Nat := 2
def msRUN_OUT : Nat := 3
def msSTOPPING : Nat := 4
def msBACKUP : Nat := 5
def msMOVE : Nat := 6

/-- Update the motion generator. -/
def Device.mapMot (d : Device) (f : MotState → MotState) : Device := { d with mot := f d.mot }

/-- A limit pair in AU/ms² or AU/ms³ (u28.8, R315). -/
def Device.limit (d : Device) (off : Nat) : Rat := mkRat (d.get36 off) 256

/-- Ticks in a millisecond. -/
def msTicks : Rat := 800000

/-- Position, velocity and acceleration of a stretch at a time. -/
def Seg.at (g : Seg) (t : Rat) : Rat × Rat × Rat :=
  let u := (t - g.t0) / msTicks
  (g.x0 + g.v0 * u + g.a0 * u * u / 2 + g.jerk * u * u * u / 6, g.v0 + g.a0 * u + g.jerk * u * u / 2, g.a0 + g.jerk * u)

/-- The stretch in force at a time: the last one that has begun. -/
def planAt (p : List Seg) (t : Rat) : Option Seg :=
  p.foldl (fun best g => if g.t0 ≤ t then some g else best) p.head?

/-- The time at which a plan ends, if it does. -/
def planEnd (p : List Seg) : Option Rat :=
  match p.getLast? with
  | some g => g.dur.map (fun x => g.t0 + x)
  | none => none

/-- Append a stretch of a given length (ms) that continues a plan's end state. -/
def pushSeg (st : List Seg × Rat × Rat × Rat × Rat) (dur jerk : Rat) (setA : Option Rat) : List Seg × Rat × Rat × Rat × Rat :=
  let (p, t, x, v, a) := st
  let a := setA.getD a
  let g : Seg := { t0 := t, dur := some (dur * msTicks), x0 := x, v0 := v, a0 := a, jerk := jerk }
  let (x', v', a') := g.at (t + dur * msTicks)
  (p ++ [g], t + dur * msTicks, x', v', a')

/-- The square root of a rational, to 2^-32, from below: the ramp time of R299 is irrational when v·J < A², and its
rounding is the model's (log entry 31). -/
def sqrtRat (r : Rat) : Rat :=
  if r ≤ 0 then 0 else mkRat (isqrt ((r * (18446744073709551616 : Int)).floor.toNat) : Nat) 4294967296

/-- Jerk time and constant-acceleration time (ms) of a speed change by dv under limits A, J (R299). -/
def rampTimes (dv acc jerk : Rat) : Rat × Rat :=
  if acc * acc ≤ dv * jerk then (acc / jerk, dv / acc - acc / jerk) else (sqrtRat (dv / jerk), 0)

/-- Change speed from the plan's end speed to `v1`: jerk up, hold, jerk down (R299). -/
def rampTo (st : List Seg × Rat × Rat × Rat × Rat) (v1 acc jerk : Rat) : List Seg × Rat × Rat × Rat × Rat :=
  let v0 := st.2.2.2.1
  let dv := if v0 ≤ v1 then v1 - v0 else v0 - v1
  if dv == 0 || acc ≤ 0 || jerk ≤ 0 then st
  else
    let s : Rat := if v0 ≤ v1 then 1 else -1
    let (tj, ta) := rampTimes dv acc jerk
    let st := pushSeg st tj (s * jerk) (some 0)
    let st := pushSeg st ta 0 none
    let st := pushSeg st tj (-s * jerk) none
    (st.1, st.2.1, st.2.2.1, v1, 0)

/-- Cruise for a time (ms). -/
def cruise (st : List Seg × Rat × Rat × Rat × Rat) (dur : Rat) : List Seg × Rat × Rat × Rat × Rat :=
  pushSeg st dur 0 (some 0)

/-- D(v), the distance to reach v from rest or to stop from v, rounded up to whole AU (R299). -/
def stopDistance (v acc jerk : Rat) : Int :=
  if acc ≤ 0 || jerk ≤ 0 then 0
  else if acc * acc ≤ v * jerk then (v * (v / acc + acc / jerk) / 2).ceil
  else
    -- v·sqrt(v/J) = sqrt(v³/J), rounded up exactly
    let q := v * v * v / jerk
    (isqrtUp q.ceil.toNat : Nat)

/-- Two ramps of speed `v` fit a distance, exactly: 2·D(v) of R299 before it is rounded. -/
def rampsFit (dist : Nat) (acc jerk v : Rat) : Bool :=
  if acc * acc ≤ v * jerk then decide (v * (v / acc + acc / jerk) ≤ (dist : Int)) else decide (4 * v * v * v / jerk ≤ ((dist * dist : Nat) : Int))

/-- The largest multiple of `unit`, below 2^k of them above `n`, whose two ramps fit a distance. -/
def peakSpeed (dist : Nat) (acc jerk unit : Rat) : Nat → Nat → Nat
  | 0, n => n
  | k + 1, n => peakSpeed dist acc jerk unit k (if rampsFit dist acc jerk (((n + 2 ^ k : Nat) : Int) * unit) then n + 2 ^ k else n)

/-- u12.6 AU/µs as AU/ms. -/
def speedMs (v : Nat) : Rat := mkRat (v * 1000 : Nat) 64

/-- A move from rest at `p0` to rest at `p1`, from time `t0`, with top speed `v` (AU/ms) and limits A, J: ramp up,
cruise, ramp down, ending exactly on `p1` (R299 to R301). -/
def planMove (p0 p1 : Int) (t0 : Rat) (v : Nat) (acc jerk : Rat) : List Seg :=
  let dist := (p1 - p0).natAbs
  if dist == 0 || acc ≤ 0 || jerk ≤ 0 then []
  else
    -- the top speed to 2^-22 AU/µs
    let unit : Rat := mkRat 1000 4194304
    let top := min (v * 65536) (peakSpeed dist acc jerk unit 34 0)
    let vt : Rat := (max top 1 : Nat) * unit
    let up := rampTo (([], t0, 0, 0, 0)) vt acc jerk
    let rest : Rat := dist - 2 * up.2.2.1
    let st := cruise up (rest / vt)
    let st := rampTo st 0 acc jerk
    let s : Rat := if p0 ≤ p1 then 1 else -1
    st.1.map (fun g => { g with x0 := p0 + s * g.x0, v0 := s * g.v0, a0 := s * g.a0, jerk := s * g.jerk })

/-- Change the speed from a state of any acceleration to `v1` at none: jerk to a peak acceleration, hold it, and jerk back
to zero, so that an acceleration towards `v1` goes on (R299, R305). -/
def changeSpeed (st : List Seg × Rat × Rat × Rat × Rat) (v1 acc jerk : Rat) : List Seg × Rat × Rat × Rat × Rat :=
  let v0 := st.2.2.2.1
  let a0 := st.2.2.2.2
  let mag := if 0 ≤ a0 then a0 else -a0
  -- the speed at which the present acceleration would come to zero
  let vf := v0 + a0 * mag / (2 * jerk)
  let st := if v1 == vf then (if mag == 0 then st else pushSeg st (mag / jerk) (if 0 ≤ a0 then -jerk else jerk) none)
    else
      let s : Rat := if vf < v1 then 1 else -1
      let b := s * a0
      let dv := s * (v1 - v0)
      let p := min acc (sqrtRat ((2 * jerk * dv + b * b) / 2))
      let d1 := (if b ≤ p then p - b else b - p) / jerk
      let hold := if p ≤ 0 then 0 else (dv - (b + p) * d1 / 2 - p * p / (2 * jerk)) / p
      let st := pushSeg st d1 (if b ≤ p then s * jerk else -(s * jerk)) none
      pushSeg (pushSeg st (max 0 hold) 0 none) (p / jerk) (-(s * jerk)) none
  (st.1, st.2.1, st.2.2.1, v1, 0)

/-- A deceleration to rest from a position, speed and acceleration, under the stop limits (R305). -/
def planStop (t0 x v a acc jerk : Rat) : List Seg :=
  if (v == 0 && a == 0) || acc ≤ 0 || jerk ≤ 0 then [] else (changeSpeed ([], t0, x, v, a) 0 acc jerk).1

/-- A run-in: from rest to the top speed, and then a cruise without end (R300). -/
def planRunIn (p0 : Int) (t0 : Rat) (dir : Int) (v acc jerk : Rat) : List Seg :=
  let st := rampTo (([], t0, 0, 0, 0)) v acc jerk
  let segs := st.1 ++ [{ t0 := st.2.1, dur := none, x0 := st.2.2.1, v0 := v, a0 := 0, jerk := 0 }]
  segs.map (fun g => { g with x0 := p0 + dir * g.x0, v0 := dir * g.v0, a0 := dir * g.a0, jerk := dir * g.jerk })

/-- From any speed and acceleration in direction `s`, change to speed `v1` and cruise without end (R304). An acceleration
that MOT_JERK would take above `top` ends under the jerk that meets `top` (log entry 73). -/
def planChange (t0 x v a v1 top s acc jerk : Rat) : List Seg :=
  let room := 2 * (top - s * v)
  let jerk := if 0 < s * a && decide (room * jerk < a * a) && decide (0 < room) then a * a / room else jerk
  let st := changeSpeed ([], t0, s * x, s * v, s * a) v1 acc jerk
  let segs := st.1 ++ [{ t0 := st.2.1, dur := none, x0 := st.2.2.1, v0 := v1, a0 := 0, jerk := 0 }]
  segs.map (fun g => { g with x0 := s * g.x0, v0 := s * g.v0, a0 := s * g.a0, jerk := s * g.jerk })

/-- From a steady speed at `x`, cruise and then come to rest exactly on `target` (R300). `late`: the point at which the
cruise ends may lie before `t0`, by the lag of the position behind the set-points. -/
def planRunOut (t0 x v : Rat) (target : Int) (acc jerk : Rat) (late : Bool) : List Seg :=
  let s : Rat := if 0 ≤ v then 1 else -1
  let sp := s * v
  if sp ≤ 0 then []
  else
    let down := rampTo (([], 0, 0, sp, 0)) 0 acc jerk
    let left := (s * (target - x) - down.2.2.1) / sp
    let st := cruise (([], t0, s * x, sp, 0)) (if late then left else max 0 left)
    let st := rampTo st 0 acc jerk
    st.1.map (fun g => { g with x0 := s * g.x0, v0 := s * g.v0, a0 := s * g.a0, jerk := s * g.jerk })

/-- Position, velocity (AU/ms) and acceleration (AU/ms²) of a plan at a time; a plan that has ended rests at
`rest`. -/
def planState (p : List Seg) (rest : Int) (t : Rat) : Rat × Rat × Rat :=
  match planAt p t with
  | none => (rest, 0, 0)
  | some g =>
    match planEnd p with
    | some e => if e ≤ t then (rest, 0, 0) else if t < g.t0 then ((g.x0, 0, 0) : Rat × Rat × Rat) else g.at t
    | none => if t < g.t0 then (g.x0, 0, 0) else g.at t

/-- A run's plan is to be formed anew at a boundary: it does not lead to speed `v` in direction `s`, or it is still changing to it under
limits that have changed (R302, R304). -/
def planStale (p : List Seg) (tb : Nat) (v s acc jerk : Rat) (changed : Bool) : Bool :=
  let goal := (p.getLast?).elim 0 (fun g => s * g.v0)
  (goal != v || (changed && p.getLast?.any (fun g => decide ((tb : Rat) < g.t0)))) && decide (0 < acc) && decide (0 < jerk)

/-- A run's plan that pursues speed `v` in direction `s` from a boundary on (R304). -/
def pursuePlan (p : List Seg) (rest : Int) (tb : Nat) (v top s acc jerk : Rat) (changed : Bool) : List Seg :=
  if !planStale p tb v s acc jerk changed then p
  else
    let (x, vx, ax) := planState p rest tb
    planChange tb x vx ax v top s acc jerk

/-- The rest position a plan leads to, to the nearest AU. -/
def planRest (p : List Seg) (x : Int) : Int :=
  match p.getLast? with
  | some g => match g.dur with
    | some du => ratRound (g.at (g.t0 + du)).1
    | none => x
  | none => x

end Sys2Proof.Machine
end

