-- ==== Sys2Proof/Machine/PosOps.lean ====
section
/-! DEFINITION. Shared operations of the position inputs and the flash decision (R251 to R273). -/
namespace Sys2Proof.Machine

/-! ## Channel fields (R288) -/

def fChDir (c : Nat) : Fld := bitAt (POS_CH_STATE c) 17
def fChFailed (c : Nat) : Fld := bitAt (POS_CH_STATE c) 16
def fChLos (c : Nat) : Fld := bitAt (POS_CH_STATE c) 15
def fChLevels (c : Nat) : Fld := { off := POS_CH_STATE c, lo := 12, w := 3 }
def fIndexValid (c : Nat) : Fld := bitAt (POS_CH_STATE c) 7

/-- The head state of channel `c`. -/
def Device.head (d : Device) (c : Nat) : Head := d.pos.heads.toList.getD c {}

/-- Store the head state of a channel. -/
def Device.setHead (d : Device) (c : Nat) (h : Head) : Device :=
  { d with pos := { d.pos with heads := d.pos.heads.set! c h } }

/-- The axis pair record: 0 for x, 1 for y. -/
def Device.axis (d : Device) (a : Nat) : AxisPair := d.pos.axes.toList.getD a {}
def Device.setAxis (d : Device) (a : Nat) (x : AxisPair) : Device :=
  { d with pos := { d.pos with axes := d.pos.axes.set! a x } }

/-- The filtered state q of a channel (R253). -/
def Head.q (h : Head) : Nat := if h.a then (if h.b then 2 else 1) else (if h.b then 3 else 0)

/-- FAILED and LOS, in POS_STATUS and in the channel's state (R284, R288). -/
def Device.setFailed (d : Device) (c : Nat) (b : Bool) : Device := (d.putFlag (fHeadFailed c) b).putFlag (fChFailed c) b
def Device.setLos (d : Device) (c : Nat) (b : Bool) : Device := (d.putFlag (fHeadLos c) b).putFlag (fChLos c) b

/-- A head is healthy when it is not FAILED and LOS is clear (R263). -/
def Device.healthy (d : Device) (c : Nat) : Bool := !d.flag (fHeadFailed c) && !d.flag (fHeadLos c)

/-- The source and the partner of axis `a` (R263, R284). -/
def Device.sourceOf (d : Device) (a : Nat) : Nat := 2 * a + d.get (if a == 0 then fXSrc else fYSrc)
def Device.partnerOf (d : Device) (a : Nat) : Nat := 4 * a + 1 - d.sourceOf a

/-- POS of a channel from its COUNT (R258). -/
def Device.posOf (d : Device) (c : Nat) : Int :=
  s36 (w36 (d.getS36 (POS_CH_OFFSET c) + (d.getS36 (POS_CH_COUNT c) * (d.get36 (POS_CH_SCALE c) : Int) + 134217728) / 268435456))

/-- CONT of an axis (R287). -/
def contReg (a : Nat) : Nat := if a == 0 then POS_X_CONT else POS_Y_CONT
def posReg (a : Nat) : Nat := if a == 0 then POS_X else POS_Y
def Device.cont (d : Device) (a : Nat) : Int := sext 18 (d.reg (contReg a))

/-- The entries of a list of (number, tick) that name the present tick. -/
def Device.thisTick (d : Device) (l : List (Nat × Nat)) : List Nat := (l.filter (fun p => p.2 == d.clock)).map Prod.fst

/-- The POS of all channels goes to a probe's registers (R262). -/
def Device.latchPos (d : Device) (p : Nat) : Device :=
  d.each (List.range 6) (fun d c => d.put36 (POS_PRB_POS p + 8 * c) (d.get36 (POS_CH_POS c)))

/-- What an index or a probe has latched in this tick takes the tick's updates with it (R261, R262). -/
def Device.relatch (d : Device) : Device :=
  (d.each (d.thisTick d.pos.indexAt) (fun d c => d.put36 (POS_CH_INDEX c) (d.get36 (POS_CH_COUNT c)))).each (d.thisTick d.pos.probeAt) Device.latchPos

/-- POS of every channel, POS_X and POS_Y as they stand (R258, R259). -/
def Device.showPos (d : Device) : Device :=
  let d := d.each (List.range 6) (fun d c => d.putS36 (POS_CH_POS c) (d.posOf c))
  (d.each [0, 1] (fun d a => d.putS36 (posReg a) (d.getS36 (POS_CH_POS (d.sourceOf a)) + d.cont a))).relatch

def Device.posX (d : Device) : Int := d.getS36 POS_X
def Device.posY (d : Device) : Int := d.getS36 POS_Y

/-- D of an axis: (source POS + CONT) - partner POS (R263). -/
def Device.headD (d : Device) (a : Nat) : Int :=
  d.getS36 (POS_CH_POS (d.sourceOf a)) + d.cont a - d.getS36 (POS_CH_POS (d.partnerOf a))

/-- The sum of D over ticks [lo, hi) from a history of changes, newest first. -/
def sumD (hi lo : Nat) : List (Nat × Int) → Int
  | [] => 0
  | (t, x) :: rest =>
    let from_ := max t lo
    (if from_ < hi then x * (hi - from_ : Nat) else 0) + (if lo < min t hi then sumD (min t hi) lo rest else 0)

/-- The mean of D over the 256 ticks before now, to the nearest AU, ties upward (R264). -/
def Device.meanD (d : Device) (a : Nat) : Int :=
  let lo := d.clock - 256
  rndDiv (sumD d.clock lo ((d.axis a).hist ++ [(0, d.headD a)])) (max 1 (d.clock - lo))

/-- |D| of an axis lies beyond 4·TOL (R263). -/
def Device.beyond (d : Device) (a : Nat) : Bool := decide (4 * d.get fXchkTol < (d.headD a).natAbs)

/-- The cross-check of an axis runs: both heads are healthy, and CHK_TICKS is not 0 (R263). -/
def Device.checkRuns (d : Device) (a : Nat) : Bool := d.healthy (2 * a) && d.healthy (2 * a + 1) && d.get fXchkTicks != 0

/-- Record D where it changed, keeping what the last 256 ticks need; divergence ends within the tolerance. -/
def Device.trackD (d : Device) : Device :=
  d.each [0, 1] (fun d a =>
    let x := d.axis a
    let v := d.headD a
    let old := x.hist.takeWhile (fun p => decide (d.clock < p.1 + 256))
    let rest := (x.hist.drop old.length).take 1
    let d := d.setAxis a { x with hist := if (x.hist.head?.map Prod.snd) == some v then x.hist else (d.clock, v) :: old ++ rest }
    d.when (d.flag (fDiv a) && !d.beyond a) (fun d => d.putFlag (fDiv a) false))

/-- The illegal transitions of a channel in the last 4,096 ticks (R254). -/
def Device.errorRun (d : Device) (c : Nat) : List (Nat × Int) := (d.head c).illegal.filter (fun e => decide (d.clock < e.1 + 4096))

/-- QERR_WIN of a channel (R254, R288). -/
def Device.qerrWin (d : Device) (c : Nat) : Nat := min (d.errorRun c).length 15

/-- M of a failure: the mean of D before the first error of the run where QERR_WIN fails the head, otherwise before the tick
of the failure (R264). -/
def Device.meanAt (d : Device) (c cause : Nat) : Int :=
  if cause == 1 then ((d.errorRun c).getLast?).elim (d.meanD (c / 2)) Prod.snd else d.meanD (c / 2)

/-- A head fails (R264): FAILED, event 150, a PERMANENT log entry (R504), and a failover to a healthy partner in the next
tick, or a stop request when the axis has no healthy head. -/
def Device.failHead (d : Device) (c cause : Nat) : Device :=
  if d.flag (fHeadFailed c) then d
  else
    let a := c / 2
    let m := d.meanAt c cause
    let d := ((d.setFailed c true).raise 150).log logPermanent false 0x0C cause c (d.get36 (POS_CH_POS c))
    if 4 ≤ c then d
    else
      let d := d.when (d.sourceOf a == c && d.healthy (d.partnerOf a)) (fun d => d.setAxis a { d.axis a with next := some m })
      let d := d.putFlag (fDiv a) false
      if d.healthy (2 * a) || d.healthy (2 * a + 1) then d else d.stopRequest cHEAD

/-- The failover of an axis takes place: the partner becomes the source, and CONT takes M (R264, R276). -/
def Device.failover (d : Device) (a : Nat) : Device :=
  match (d.axis a).next with
  | none => d
  | some m =>
    let d := d.setAxis a { d.axis a with next := none }
    if d.healthy (d.partnerOf a) then
      ((d.put (if a == 0 then fXSrc else fYSrc) (d.partnerOf a % 2)).setReg (contReg a) (wrap 18 m)).showPos
    else d

/-! ## The flash compare (R270, R271) -/

/-- Arm the compare of flash n: it is armed only short of F(n) (R269, R270). -/
def Device.armFlash (d : Device) (n : Int) : Device :=
  match d.job with
  | none => d
  | some j => ((d.putFlag fArmed true).putS36 FLS_NEXT_N n).putS36 FLS_NEXT_POS (j.flashPos n)

/-- Flash n is short of POS_X in the direction of the pass. -/
def Device.shortOf (d : Device) (j : Job) (n : Int) : Bool :=
  if j.reverse then decide (j.flashPos n < d.posX) else decide (d.posX < j.flashPos n)

/-- DELAY of the pass direction: the active copy, or what it was before a rill boundary of a later stripe (R272, R273). -/
def Device.delay (d : Device) (j : Job) : Nat :=
  match d.oldTables j with
  | some t => (if j.reverse then t.delayRev else t.delayFwd) % 128
  | none => d.reg (FLS_DELAY_ACT (b2n j.reverse)) % 128

/-- The data path has failed and its weirs run down to a stop with HELD_CAUSE 0b011: a tile failure (R95), a failed
correction (R144), a lost library or deep-band row (R337), an unwritten line (R108). -/
def Device.dataFault (d : Device) : Bool :=
  d.csc.failed || d.flag (bitAt POOL_STATUS 15) || d.mem.libLost || d.mem.bandLost || d.ril.barred.isSome

/-- A weir 5 shortfall counts as FAULT: a beam group cannot be served (R226), a rill slot cannot that neither is idle nor
is handled as an idle one (R180), or the data path has failed. -/
def Device.cannotServe (d : Device) (j : Job) : Bool :=
  d.unserved || (List.range 256).any (fun s => d.reg (RIL_GRP_SLOT s) % 64 == 63 && !d.slotZero j s) || d.dataFault

/-- The compare of flash n is consumed: the next one of the pass is armed (R256). -/
def Device.armNext (d : Device) (j : Job) (n : Int) : Device := if n + 1 < j.nFlashes then d.armFlash (n + 1) else d.putFlag fArmed false

/-- MOT_ACC or MOT_JERK has changed since the governor last changed the plan of this run (R302). -/
def Device.govChanged (d : Device) : Bool := d.mot.govLimits.any (fun l => l != (d.get36 MOT_ACC, d.get36 MOT_JERK))

/-- The plan under which run-out begins: a speed change in progress runs to its end at the target that V_GOV has now, from
the next boundary under MOT_ACC and MOT_JERK (R300). -/
def Device.lastChange (d : Device) (p : PassPlan) : List Seg :=
  let m := d.mot
  if m.planX.getLast?.any (fun g => decide ((d.clock : Rat) < g.t0)) then
    pursuePlan m.planX m.x m.nextBoundary (speedMs (min (m.vGov.getD p.vTop) p.vTop)) (speedMs p.vTop) (d.job.elim 1 Job.dir : Int)
      (d.limit MOT_ACC) (d.limit MOT_JERK) d.govChanged
  else m.planX

/-- Flash N - 1 of a pass is decided: PHASE is RUN_OUT. A speed change in progress runs to its end, and the stage cruises at
the speed so reached until it comes to rest on the end target (R300, R310). A worker moves no stage (R407). -/
def Device.beginRunOut (d : Device) : Device :=
  let d := d.setPhase phRunOut
  match d.mot.pass, d.mot.planX.getLast? with
  | some p, some g =>
    if d.isWorker || g.dur.isSome then d
    else
      let d := d.mapMot (fun m => { m with planX := d.lastChange p })
      let g := (d.mot.planX.getLast?).getD g
      let t0 : Rat := max g.t0 (d.clock : Nat)
      let (x, v, _) := g.at t0
      let out := planRunOut t0 x v p.target (mkRat p.acc 256) (mkRat p.jerk 256) (decide (g.t0 ≤ (d.clock : Nat)))
      if out.isEmpty then d
      else (d.mapMot (fun m => { m with planX := m.planX.dropLast ++ [{ g with dur := some (t0 - g.t0) }] ++ out, x := p.target, runOut := true })).put
        fMState msRUN_OUT
  | _, _ => d

/-- The decision of flash n at the end of the tick in which its compare is met, so that a stop request of that tick refuses it (R271,
R276, R282). A refused compare is consumed too, and in a stop every further one is refused (R256). -/
def Device.decideFlash (d : Device) (j : Job) (n : Int) : Device :=
  let d := (d.itemIn 9).armNext j n
  let fs := j.fseq n
  let global := d.fls.stopArmed && fseqGe fs ((d.get36 FLS_STOP_AT + 1) % pairMod)
  if d.flag fStopPending then d
  else if d.flag fBlanked then d.stopRequest cPERMIT
  else if global then
    let at_ := fs == (d.get36 FLS_STOP_AT + 1) % pairMod
    ({ (d.when at_ (fun d => d.raise 171)) with fls := { d.fls with stopArmed := false } }).stopRequest cMESH
  else if !d.fls.firstOfRun && (d.fls.lastDecision.any (fun t => d.clock < t + d.get fMinPeriod)) then
    (d.raise 163).stopRequest cOVERSPEED
  else if !d.flashCommitted fs then d.stopRequest (if d.cannotServe j then cFAULT else cWEIR)
  else
    let d := { d with fls := { d.fls with decided := some { n := n, fseq := fs, tick := d.clock, rise := d.clock + 8 + d.delay j },
                                          lastDecision := some d.clock, firstOfRun := false } }
    let d := d.mapJob (fun j => { j with decidedN := n })
    let d := (d.setPhase phExpose).when d.fls.resumed (fun d => d.raise 162)
    let d := { d with fls := { d.fls with resumed := false } }
    if n + 1 < j.nFlashes then d else d.beginRunOut

/-- The first compare of a run lies at or behind POS_X: it is not armed, and the run does not start (R270). -/
def Device.armBehind (d : Device) : Device := ((d.putFlag fCompareBehind true).raise 174).stopRequest cBEHIND

/-- The flash compare where it is armed and met: its flash is decided when the tick ends. One that a run has armed in this very tick
was not short of POS_X (R269, R270). -/
def Device.flashCompare (d : Device) : Device :=
  match d.job with
  | none => d
  | some j =>
    let n := d.getS36 FLS_NEXT_N
    if !d.flag fArmed || d.shortOf j n || d.fls.met.isSome then d
    else if d.fls.armedAt == some d.clock then ((d.putFlag fArmed false).mapMot (fun m => { m with planX := [] })).armBehind
    else { d with fls := { d.fls with met := some n } }

/-- The flash whose compare this tick has met is decided (R271). -/
def Device.decideMet (d : Device) : Device :=
  match d.fls.met, d.job with
  | some n, some j => { d with fls := { d.fls with met := none } }.when (d.flag fArmed) (fun d => d.decideFlash j n)
  | some _, none => { d with fls := { d.fls with met := none } }
  | none, _ => d

/-! ## Position compares (R269) -/

/-- The position that a compare's CHANNEL field selects (R289). -/
def Device.comparePos (d : Device) (sel : Nat) : Int :=
  if sel == 6 then d.posX else if sel == 7 then d.posY else d.getS36 (POS_CH_POS sel)

/-- Position compare `k` has reached its TARGET in its direction. -/
def Device.reached (d : Device) (k : Nat) : Bool :=
  let c := d.reg (POS_PCMP_CTRL k)
  let p := d.comparePos (bits c 11 3)
  let t := d.getS36 (POS_PCMP_TARGET k)
  if bitOf c 14 then decide (p ≤ t) else decide (t ≤ p)

/-- Fire every armed position compare that is reached: FIRED, disarmed, event 156. One that was armed in this very tick is behind, since
the position after the tick's update counts (R269). -/
def Device.positionCompares (d : Device) : Device :=
  d.each (List.range 4) (fun d k =>
    d.when (d.flag (bitAt (POS_PCMP_CTRL k) 17) && d.reached k) (fun d =>
      let d := d.putFlag (bitAt (POS_PCMP_CTRL k) 17) false
      if (d.thisTick d.pos.armedAt).contains k then (d.putFlag (bitAt (POS_PCMP_CTRL k) 16) true).raise 158
      else ((d.putFlag (bitAt (POS_PCMP_CTRL k) 15) true).itemIn 9).raise 156))

/-- The y set-point that R266 checks: y0 + 128 AU of the stripe in progress (R298). -/
def Job.ySet (j : Job) : Int := j.cur.y0 + 128

/-- Y_DEV of R266 during EXPOSE. -/
def Device.yDeviation (d : Device) : Device :=
  match d.job with
  | none => d
  | some j =>
    let tol := d.reg POS_Y_TOL
    if d.inWriting && d.phase == phExpose && tol != 0 && decide (tol < (d.posY - j.ySet).natAbs)
    then (d.raise 159).stopRequest cYDEV else d

/-! ## Head temperature (R279) -/

/-- Set TEMP_WARN and TEMP_LIMIT from the head temperature, with their events and the stop request (R274, R279). -/
def Device.headTemp (d : Device) : Device :=
  let t := sext 18 (d.reg FLS_HEAD_TEMP)
  let limit := decide (sext 18 (d.reg FLS_TEMP_LIMIT) ≤ t) || d.flag fStale
  let warn := decide (sext 18 (d.reg FLS_TEMP_WARN) < t) || d.flag fStale
  let w0 := d.flag fTempWarn
  let l0 := d.flag fTempLimit
  let d := (d.putFlag fTempWarn warn).putFlag fTempLimit limit
  let d := d.when (warn && !w0) (fun d => d.raise 165)
  let d := d.when (!warn && w0) (fun d => d.raise 167)
  let d := d.when (limit && !l0) (fun d => d.raise 166)
  d.when limit (fun d => d.stopRequest cTEMP)

end Sys2Proof.Machine
end

