-- ==== Sys2Proof/Machine/Run.lean ====
section
/-! DEFINITION. How a command acts on the state: nothing acts in OFF, the outputs of the last command are
cleared, the command has its effect, and the logic that follows the state without a command settles: the strobe
gates (R280, R438, R446) and the level sources (R509). -/
namespace Sys2Proof.Machine

/-- The strobes are held low: blanking latch (R280), always-on gate (R438, R503, R552), or the position island in
reset (R446). -/
def Device.strobeGated (d : Device) : Bool := d.flag fBlanked || d.fls.gate || !d.released 13

/-- The condition of a level source (R509): the supply and temperature conditions (R558), a completion that waits
on a full queue (R469), the tally store full (R89), stale status (R219), and LOS of a head (R264). -/
def Device.levelCond (d : Device) (s : Nat) : Bool :=
  if s == 11 then d.flag (bitAt SYS_HW_STATUS 17)
  else if s == 12 then d.flag (bitAt SYS_HW_STATUS 16)
  else if s == 13 then d.flag (bitAt SYS_HW_STATUS 15)
  else if s == 14 then d.flag (bitAt SYS_HW_STATUS 14)
  else if s == 15 then d.flag (bitAt SYS_HW_STATUS 13)
  else if s == 21 then (List.range 4).any (fun q => d.ulp.waiting.any (fun c => c.q == q) && d.cqFull q)
  else if s == 50 then !d.csc.tallyLeft.isEmpty
  else if s == 119 then d.released 18 && d.flag (bitAt LNE_ZONE_STATUS 17)
  else if s == 152 then (List.range 6).any (fun c => d.flag (fHeadLos c))
  else false

/-- The level sources of R509. -/
def levelSources : List Nat := [11, 12, 13, 14, 15, 21, 50, 119, 152]

/-- The logic that follows the state: a gated strobe output is low, and a level source whose condition holds is pending. -/
def Device.settle (d : Device) : Device :=
  let d := { d with fls := { d.fls with flash := d.fls.flash && !d.strobeGated } }
  levelSources.foldl (fun d s => d.levelRise s (d.levelCond s)) d

/-- Let a command act: in OFF nothing happens (R27). -/
def State.run (s : State) (f : Device → Device) : Host.Outcome State Fault Refusal :=
  .next { s with dev := if s.dev.powered then (f { s.dev with out := [] }).settle else { s.dev with out := [] } }

end Sys2Proof.Machine
end

