-- ==== Sys2Proof/Machine/Ptp.lean ====
section
/-! DEFINITION. The time of day and PTP (R387 to R395). -/
namespace Sys2Proof.Machine

def fPtpState : Fld := { off := PTP_STATUS, lo := 15, w := 3 }
def fTodSrc : Fld := { off := PTP_STATUS, lo := 13, w := 2 }
def fPtpLocked : Fld := bitAt PTP_STATUS 12
def fStepRefused : Fld := bitAt PTP_STATUS 11
def fPtpPort : Fld := bitAt PTP_STATUS 10
def fPtpEn : Fld := bitAt PTP_CFG 17
def fDomain : Fld := { off := PTP_CFG, lo := 9, w := 8 }
def fTransport : Fld := { off := PTP_CFG, lo := 7, w := 2 }
def fAutoStep : Fld := bitAt PTP_CFG 6
def fPtpPorts : Fld := { off := PTP_CFG, lo := 4, w := 2 }

/-- STATE codes of R403. -/
def ptpDISABLED : Nat := 0
def ptpLISTENING : Nat := 1
def ptpUNCALIBRATED : Nat := 2
def ptpSLAVE : Nat := 3
def ptpHOLDOVER : Nat := 4

/-- One nanosecond in the units of the time of day. -/
def nsUnit : Int := 65536

def Device.ptpState (d : Device) : Nat := d.get fPtpState
def Device.mapPtp (d : Device) (f : PtpState → PtpState) : Device := { d with ptp := f d.ptp }
def Device.rate (d : Device) : Int := sext 18 (d.reg PTP_RATE)

/-- Set the state; on leaving HOLDOVER its time is cleared (R405). -/
def Device.setPtpState (d : Device) (s : Nat) : Device :=
  let d := d.when (d.ptpState == ptpHOLDOVER && s != ptpHOLDOVER) (fun d => d.setReg PTP_HOLD_TIME 0)
  d.put fPtpState s

/-- Set PTP_RATE, clamped to ±100,000 ppb, and keep it among the last 64 (R391, R394). -/
def Device.setRate (d : Device) (r : Int) : Device :=
  let v := max (-100000) (min 100000 r)
  (d.setReg PTP_RATE (wrap 18 v)).mapPtp (fun p => { p with rates := (v :: p.rates).take 64 })

/-- The module may use a port for PTP (R392, R404). -/
def Device.ptpPortOk (d : Device) (p : Nat) : Bool :=
  d.get fPtpPorts == 2 || d.get fPtpPorts == p

/-- A worker's time of day follows the mesh, and Ethernet PTP messages are discarded (R423). -/
def Device.meshTimed (d : Device) : Bool := d.isWorker && d.flag fMeshTime && d.unitUp 19

/-- TRANSPORT can run on a port: one over IP needs an address of its family (R375, R389). -/
def Device.transportOn (d : Device) (p : Nat) : Bool := d.get fTransport == 0 || d.speaks p (d.get fTransport == 2)

/-- A message that R389 accepts: majorSdoId is 0, the minor part of the sdoId may be any. -/
def Device.ptpOk (d : Device) (h : PtpHeader) : Bool :=
  d.unitUp 20 && !d.meshTimed && d.flag fPtpEn && d.flag (fLink h.port) && d.ptpPortOk h.port && h.version == 2 && decide (h.minor ≤ 1) && h.sdo / 256 == 0 &&
    h.domain == d.get fDomain && h.transport == d.get fTransport && d.transportOn h.port

/-! ## Masters (R392) -/

/-- The data set comparison of clause 9: the fields in their order, then steps removed and the sender (PRESUMED). -/
def Master.rank (m : Master) : List Nat :=
  [m.info.priority1, m.info.clockClass, m.info.accuracy, m.info.variance, m.info.priority2, m.info.gmIdentity.toNat,
   m.info.stepsRemoved, m.info.sender.toNat, m.port]

/-- Lexicographic order. -/
def listLess : List Nat → List Nat → Bool
  | a :: as, b :: bs => decide (a < b) || (a == b && listLess as bs)
  | _, _ => false

/-- The best of the masters heard of. -/
def bestMaster (l : List Master) : Option Master :=
  l.foldl (fun best m => match best with | none => some m | some b => if listLess m.rank b.rank then some m else some b) none

/-- An interval of 2^n seconds in ticks. -/
def logTicks (n : Int) : Nat := if 0 ≤ n then 800000000 * 2 ^ n.toNat else 800000000 / 2 ^ n.natAbs

/-- The tick at which a master's Announce messages have been missing for three intervals. -/
def Master.deadline (m : Master) : Nat := m.heard + 3 * logTicks m.info.logInterval

/-- A master takes part in the choice while its Announce messages come; clause 9 asks for two of them within four intervals
(PRESUMED, log entry 27). -/
def Master.qualified (m : Master) (now : Nat) : Bool :=
  decide (now < m.deadline) && m.before.elim false (fun t => decide (m.heard ≤ t + 4 * logTicks m.info.logInterval))

/-- Choose the master among those that qualify. A change of grandmaster or of the slave port raises event 251, and its first offset is judged as
uncalibrated (R392). -/
def Device.chooseMaster (d : Device) : Device :=
  match bestMaster (d.ptp.masters.filter (fun m => m.qualified d.clock)) with
  | none => d.mapPtp (fun p => { p with best := none })
  | some m =>
    let same := match d.ptp.best with
      | some b => b.info.gmIdentity == m.info.gmIdentity && b.port == m.port
      | none => d.ptpState != ptpLISTENING && d.groups16 PTP_GM_ID 4 == m.info.gmIdentity.toNat && d.get fPtpPort == m.port
    let d := d.mapPtp (fun p => { p with best := some m })
    if same then d
    else
      let id := m.info.gmIdentity.toNat
      let d := (d.setRegs PTP_GM_ID [bits id 48 16, bits id 32 16, bits id 16 16, bits id 0 16]).put fPtpPort m.port
      ((d.mapPtp (fun p => { p with sync := none, down := none, up := none, request := none, requestAt := none, run := 0, synced := none,
                                    syncAt := d.clock })).setPtpState ptpUNCALIBRATED).raise 251

/-- An Announce message. -/
def announceEffect (h : PtpHeader) (info : AnnounceInfo) (d : Device) : Device :=
  if !d.ptpOk h || decide (255 ≤ info.stepsRemoved) then d
  else
    let known := fun (x : Master) => x.info.sender == info.sender && x.port == h.port.val
    let m : Master := { info := info, port := h.port.val, heard := d.clock, before := (d.ptp.masters.find? known).map (fun x => x.heard) }
    ((d.itemIn 17).mapPtp (fun p => { p with masters := p.masters.filter (fun x => !known x) ++ [m] })).chooseMaster

def execAnnounce (hdr : PtpHeader) (info : AnnounceInfo) (s : State) := s.run (announceEffect hdr info)

/-- The chosen master is lost: no Announce for three intervals (R392); over the mesh, no TIME for 3 ms (R423). -/
def announceTimeoutEffect (d : Device) : Device :=
  if d.meshTimed then
    (if d.msh.timeRing.isSome && decide (d.ptp.syncAt + 2400000 ≤ d.clock) then { d with msh := { d.msh with timeRing := none } } else d)
  else match d.ptp.best with
  | none => d
  | some m =>
    if d.clock < m.deadline then d
    else (d.mapPtp (fun p => { p with masters := p.masters.filter (fun x => decide (d.clock < x.deadline)) })).chooseMaster

def execAnnounceReceiptTimeout (s : State) := s.run announceTimeoutEffect

/-- The masters of a port are lost with its link (R392). -/
def Device.ptpLinkLost (d : Device) (p : Nat) : Device :=
  let lost := d.ptp.masters.any (fun x => x.port == p)
  let d := d.mapPtp (fun q => { q with masters := q.masters.filter (fun x => x.port != p) })
  if lost && !d.meshTimed then d.chooseMaster else d

/-! ## Offsets (R391, R393) -/

/-- Move the time of day by a step, in the next tick: a capture of this one takes it before (R396). -/
def Device.stepTod (d : Device) (o : Int) : Device := d.mapPtp (fun p => { p with step := p.step + o })

/-- The clock is locked after 16 consecutive offsets within PTP_LOCK_THR (R391). -/
def Device.lockCheck (d : Device) : Device :=
  if decide (16 ≤ d.ptp.run) && !(d.ptpState == ptpSLAVE && d.flag fPtpLocked) then
    (((d.setPtpState ptpSLAVE).putFlag fPtpLocked true).put fTodSrc 2).raise 248
  else d

/-- Handle twice the offset of a Sync, while the servo follows a master: it is slewed, applied as a step, or refused. -/
def Device.takeOffset (d : Device) (o2 : Int) : Device :=
  let size := o2.natAbs
  let within := fun (ns : Nat) => decide (size ≤ 2 * 65536 * ns)
  let ns := o2 / (2 * nsUnit)
  let d := d.putS36 PTP_OFFSET (max (-34359738368) (min 34359738367 ns))
  let d := d.when (!within (4 * (d.reg PTP_LOCK_THR % 65536))) (fun d => d.putFlag fPtpLocked false)
  let run := if within (d.reg PTP_LOCK_THR % 65536) then d.ptp.run + 1 else 0
  let d := d.mapPtp (fun p => { p with run := run })
  if within (d.reg PTP_STEP_LIMIT) then
    let d := (d.putFlag fStepRefused false).mapPtp (fun p => { p with stepNow := if p.stepNow == some d.clock then none else p.stepNow })
    ((d.nextFree).setRate (Config.servoRate d.freeCtr o2)).lockCheck
  else if d.ptp.stepNow.isSome || (d.flag fAutoStep && d.inReady) then
    ((d.stepTod (o2 / 2)).putFlag fStepRefused false).bump (whole PTP_STEPS) |>.mapPtp (fun p => { p with stepNow := none, run := 0 })
  else ((d.putFlag fStepRefused true).raise 249).lockCheck

/-- PTP_PATH: half the sum of both ways, in ns (R391, R405). -/
def Device.showPath (d : Device) (a b : Int) : Device := d.setReg PTP_PATH (min (((a + b) / (2 * nsUnit)).toNat) wordMax)

/-- TOD_SRC as it reads: on a worker whose time comes over the mesh, PTP while it is LOCKED and the manager's is PTP (R423). -/
def Device.todSource (d : Device) : Nat :=
  if d.meshTimed then (if d.flag fPtpLocked && d.msh.traced then 2 else 0) else d.get fTodSrc

/-- A Sync is complete with its t1. Its offset is handled at the end of the clock, since a host set in the same one discards it
(R396). -/
def Device.syncComplete (d : Device) (ms : Int) : Device :=
  let d := d.when (d.ptpState == ptpHOLDOVER) (fun d => d.setPtpState ptpUNCALIBRATED)
  d.mapPtp (fun p => { p with synced := some ms, syncAt := d.clock, sync := none })

/-- Handle the Sync of the clock that ends: the offset follows once a Delay_Resp has given the other way. -/
def Device.syncEnds (d : Device) : Device :=
  match d.ptp.synced with
  | none => d
  | some ms =>
    let d := d.mapPtp (fun p => { p with synced := none, down := some ms })
    match d.ptp.up with
    | some sm => (d.showPath ms sm).takeOffset (ms - sm)
    | none => d

/-- The clock follows the sender of a message, the master chosen, on this port (R392). -/
def Device.follows (d : Device) (h : PtpHeader) : Bool :=
  d.ptpOk h && (d.ptp.best.elim false (fun m => m.port == h.port.val && m.info.sender == h.sender)) && decide (ptpUNCALIBRATED ≤ d.ptpState)

/-- The MAC's timestamp of a message: a time of the present tick, to 2^-16 ns (R390). -/
def Device.macTime (d : Device) (mac : Int) : Int := max d.tod (min mac (d.tod + 81919))

/-- t2 at the connector (R390). -/
def Device.rxTime (d : Device) (p : Nat) (mac : Int) : Int := d.macTime mac - (d.reg (ETH_P_RX_LAT p)) * 4096 - sext 18 (d.reg (ETH_P_RX_ADJ p)) * 4096
/-- t3 at the connector (R390). -/
def Device.txTime (d : Device) (p : Nat) (mac : Int) : Int := d.macTime mac + (d.reg (ETH_P_TX_LAT p)) * 4096 + sext 18 (d.reg (ETH_P_TX_ADJ p)) * 4096

/-- A Sync: in one step it is complete; in two steps it waits for its Follow_Up. -/
def ptpSyncEffect (h : PtpHeader) (twoStep : Bool) (t1 mac corr : Int) (seqId : Nat) (d : Device) : Device :=
  if !d.follows h then d
  else
    let t2 := d.rxTime h.port mac
    let d := d.itemIn 17
    if twoStep then d.mapPtp (fun p => { p with sync := some (seqId, t2, corr), syncAt := d.clock })
    else d.syncComplete (t2 - t1 - corr)

def execPtpSync (hdr : PtpHeader) (twoStep : Bool) (t1 macRx correction : Int) (seqId : Nat) (s : State) :=
  s.run (ptpSyncEffect hdr twoStep t1 macRx correction seqId)

/-- The Follow_Up of a two-step Sync. -/
def followUpEffect (h : PtpHeader) (t1 corr : Int) (seqId : Nat) (d : Device) : Device :=
  if !d.follows h then d
  else
    match d.ptp.sync with
    | some (q, t2, c) => if q == seqId then (d.itemIn 17).syncComplete (t2 - t1 - c - corr) else d
    | none => d

def execFollowUp (hdr : PtpHeader) (t1 correction : Int) (seqId : Nat) (s : State) := s.run (followUpEffect hdr t1 correction seqId)

/-- The Delay_Req message of IEEE 1588: its header, with the module's identity and the port, and t3 as its originTimestamp. -/
def delayReqOctets (domain p q : Nat) (t3 : Int) : List Nat :=
  let ns := (t3 / nsUnit).toNat
  [0x01, 0x12] ++ beBytes 2 44 ++ [domain, 0] ++ beBytes 2 0 ++ beBytes 8 0 ++ beBytes 4 0 ++ beBytes 8 Config.clockIdentity.toNat ++
    beBytes 2 (p + 1) ++ beBytes 2 q ++ [1, 0x7F] ++ beBytes 6 (ns / 1000000000) ++ beBytes 4 (ns % 1000000000)

/-- Send a Delay_Req over TRANSPORT: its UDP checksum is 0 over IPv4, and fits t3 over IPv6 (R389, R390). -/
def Device.sendDelayReq (d : Device) (p q : Nat) (t3 : Int) : Device :=
  let b := delayReqOctets (d.get fDomain) p q t3
  let t := d.get fTransport
  if t == 0 then d.sendEth p 0x011B19000000 0x88F7 b
  else if t == 1 then d.sendUdp p 0x01005E000181 false 0xE0000181 319 319 true b
  else d.sendUdp p 0x333300000181 true 0xFF0E0000000000000000000000000181 319 319 false b

/-- A Delay_Req leaves: t3 is written into it in one step (R390, R391). -/
def delayReqEffect (mac : Int) (d : Device) : Device :=
  match d.ptp.best with
  | none => d
  | some m =>
    let due := d.ptp.requestAt.elim true (fun t => decide (t + logTicks d.ptp.logInterval ≤ d.clock))
    if !d.unitUp 20 || d.meshTimed || !d.flag fPtpEn || !d.flag (fLink m.port) || !d.transportOn m.port || decide (d.ptpState < ptpUNCALIBRATED) || !due then d
    else
      let t3 := d.txTime m.port mac
      let q := d.ptp.requestSeq
      (d.mapPtp (fun p => { p with request := some (q, t3), requestAt := some d.clock, requestSeq := (q + 1) % 65536 })).sendDelayReq m.port
        q t3

def execDelayReq (macTx : Int) (s : State) := s.run (delayReqEffect macTx)

/-- The Delay_Resp to the last Delay_Req. -/
def delayRespEffect (h : PtpHeader) (t4 corr : Int) (seqId : Nat) (log : Int) (d : Device) : Device :=
  if !d.follows h then d
  else
    match d.ptp.request with
    | some (q, t3) =>
      if q != seqId then d
      else
        let sm := t4 - t3 - corr
        let d := (d.itemIn 17).mapPtp (fun p => { p with up := some sm, request := none, logInterval := log })
        d.ptp.down.elim d (fun ms => d.showPath ms sm)
    | none => d

def execDelayResp (hdr : PtpHeader) (t4 correction : Int) (seqId : Nat) (logInterval : Int) (s : State) :=
  s.run (delayRespEffect hdr t4 correction seqId logInterval)

/-- No Sync has passed for PTP_HOLD_TMO: HOLDOVER on the mean of the last rates (R394). -/
def holdoverEffect (d : Device) : Device :=
  if (d.ptpState == ptpSLAVE || d.ptpState == ptpUNCALIBRATED) && decide (d.ptp.syncAt + 800000 * (d.reg PTP_HOLD_TMO % 65536) ≤ d.clock) then
    let l := d.ptp.rates
    let d := if l.isEmpty then d else d.setReg PTP_RATE (wrap 18 (ratRound (mkRat l.sum l.length)))
    ((d.setPtpState ptpHOLDOVER).mapPtp (fun p => { p with holdSince := d.clock })).raise 250
  else d

def execHoldover (s : State) := s.run holdoverEffect

/-- PTP_HOLD_TIME as it reads: the seconds spent in HOLDOVER (R394, R405). -/
def Device.holdTime (d : Device) : Nat := if d.ptpState == ptpHOLDOVER then min ((d.clock - d.ptp.holdSince) / 800000000) wordMax else 0

/-! ## Steps, sets and configuration (R393, R395) -/

/-- STEP_NOW in READY or HELD waits for the next offset beyond the limit. -/
def Device.askStep (d : Device) : Device :=
  if d.inReady || d.inHeld then d.mapPtp (fun p => { p with stepNow := some d.clock }) else d

/-- Load the time of day in the next tick, in READY: TOD_SRC is host-set, and PTP listens again (R395). -/
def Device.setTod (d : Device) (secs ns : Nat) : Device :=
  let d := d.put fTodSrc 1
  (d.mapPtp (fun p => { stepNow := p.stepNow, rates := p.rates, requestSeq := p.requestSeq, load := some (secs * todSecond + ns * 65536) })).setPtpState
    ptpLISTENING

/-- SET of PTP_CTRL: PTP_SET in READY with legal nanoseconds. -/
def Device.askSet (d : Device) : Device :=
  let ns := d.reg (PTP_SET + 12) + bits (d.reg (PTP_SET + 16)) 0 14 * wordMod
  if !d.inReady || decide (999999999 < ns) then d
  else d.setTod (d.get36 PTP_SET + bits (d.reg (PTP_SET + 8)) 0 12 * pairMod) ns

/-- A write of PTP_CTRL. -/
def writePtpCtrl (v : Nat) (d : Device) : Device :=
  if !d.unitUp 20 then d else (d.when (bitOf v 17) Device.askStep).when (bitOf v 16) Device.askSet

def execStepNow (s : State) := s.run (writePtpCtrl 0x20000)
def execSet (s : State) := s.run (writePtpCtrl 0x10000)

/-- A write of PTP_CFG restarts PTP; a refused encoding is ignored as a whole (R395, R404). -/
def writePtpCfg (v : Nat) (d : Device) : Device :=
  if !d.unitUp 20 || bits v 7 2 == 3 || bits v 4 2 == 3 then d
  else
    let d := d.setReg PTP_CFG (v &&& 0x3FFF0)
    (d.mapPtp (fun p => { stepNow := p.stepNow, rates := p.rates, requestSeq := p.requestSeq, load := p.load, step := p.step })).setPtpState
      (if bitOf v 17 then ptpLISTENING else ptpDISABLED)

def execPtpCfg (value : Word) (s : State) := s.run (writePtpCfg value.toNat)

end Sys2Proof.Machine
end

