-- ==== Sys2Proof/Machine/Nds.lean ====
section
/-! DEFINITION. The layout stream format (R40 to R57): the LZ coding of a block, and the parser of its records with
the checks of R46 to R60 in the order of R571. -/
namespace Sys2Proof.Machine

/-- Error codes of R58 and R60. -/
def eSYNC : Nat := 0x01
def eSIZE_HDR : Nat := 0x02
def eSHORT : Nat := 0x03
def eCHECK : Nat := 0x04
def eSEQ : Nat := 0x05
def eVERSION : Nat := 0x08
def eCODING : Nat := 0x09
def eHEADER : Nat := 0x0A
def eKIND : Nat := 0x0B
def eLZ_TOKEN : Nat := 0x0C
def eLZ_DIST : Nat := 0x0D
def eLZ_SIZE : Nat := 0x0E
def eREC_TYPE : Nat := 0x10
def eREC_LEN : Nat := 0x11
def eREC_FIELD : Nat := 0x12
def eREC_CONTEXT : Nat := 0x13
def eREC_COUNT : Nat := 0x14
def eSTREAM_END : Nat := 0x15
def eSECTION_ORDER : Nat := 0x16
def eCELL_UNDEF : Nat := 0x18
def eCELL_DEPTH : Nat := 0x19
def eCELL_DUP : Nat := 0x1A
def eBOUNDS : Nat := 0x1B

/-- No single word is at fault (R74). -/
def noWord : Nat := 0x3FFFF

/-- An error: its code and the offset of the failing word. -/
structure NdsErr where
  code : Nat
  word : Nat
deriving DecidableEq, Repr

/-! ## Header fields (R40) -/

def hVersion (h1 : Nat) : Nat := bits h1 16 2
def hCoding (h1 : Nat) : Nat := bits h1 14 2
def hLast (h1 : Nat) : Bool := bitOf h1 13
def hKind (h1 : Nat) : Bool := bitOf h1 12
def hPad (h1 : Nat) : Nat := bits h1 0 2

/-- The header checks in the order VERSION, CODING, HEADER, KIND (R571). -/
def headerErr (ws : List Nat) : Option NdsErr :=
  let h := fun i => ws.getD i 0
  if hVersion (h 1) != 1 then some ⟨eVERSION, 1⟩
  else if decide (2 ≤ hCoding (h 1)) then some ⟨eCODING, 1⟩
  else if bits (h 1) 2 10 != 0 then some ⟨eHEADER, 1⟩
  else if h 5 == 0 || decide (16384 < h 5) then some ⟨eHEADER, 5⟩
  else if (if hKind (h 1) then h 6 != 0 else (h 6 == 0 || decide (32768 < h 6))) then some ⟨eHEADER, 6⟩
  else if h 7 != 0 then some ⟨eHEADER, 7⟩
  else if hCoding (h 1) == 0 && h 4 != h 5 then some ⟨eHEADER, 4⟩
  else if hKind (h 1) then some ⟨eKIND, 1⟩
  else none

/-- The bytes that the check value covers: the prefix group, the header and the payload (R43). -/
def checkValue (streamId seq : Nat) (body : List Nat) : Nat := crcGroups ([streamId, seq, 0, 0] ++ body)

/-! ## LZ (R45, R46) -/

/-- Copy `n` words from distance `d`, on the reversed output. -/
def copyBack : Nat → Nat → List Nat → List Nat
  | 0, _, out => out
  | n + 1, d, out => copyBack n d (out.getD (d - 1) 0 :: out)

/-- Decode LZ tokens from word `at_` of the payload: the output reversed, its length and the last distance. Offsets in
errors count from H0. -/
def lzDecode : Nat → Nat → Nat → List Nat → List Nat → Nat → Option Nat → Except NdsErr (List Nat)
  | 0, _, _, _, _, _, _ => .error ⟨eLZ_SIZE, noWord⟩
  | _ + 1, _, _, [], _, _, _ => .error ⟨eLZ_SIZE, noWord⟩
  | fuel + 1, limit, at_, w :: rest, out, n, dist =>
    match bits w 16 2 with
    | 0 =>
      let c := bits w 0 16 + 1
      if rest.length < c || limit < n + c then .error ⟨eLZ_SIZE, at_⟩
      else lzDecode fuel limit (at_ + 1 + c) (rest.drop c) ((rest.take c).reverse ++ out) (n + c) dist
    | 1 =>
      let len := bits w 7 9 + 2
      let v := rest.getD 0 0
      let d := v % 65536
      if 256 < bits w 7 9 || bits w 0 7 != 0 then .error ⟨eLZ_TOKEN, at_⟩
      else if rest.isEmpty then .error ⟨eLZ_SIZE, at_⟩
      else if bits v 16 2 != 0 then .error ⟨eLZ_TOKEN, at_ + 1⟩
      else if d == 0 || decide (n < d) then .error ⟨eLZ_DIST, at_ + 1⟩
      else if limit < n + len then .error ⟨eLZ_SIZE, at_⟩
      else lzDecode fuel limit (at_ + 2) (rest.drop 1) (copyBack len d out) (n + len) (some d)
    | 2 =>
      let len := bits w 7 9 + 2
      if 256 < bits w 7 9 || bits w 0 7 != 0 then .error ⟨eLZ_TOKEN, at_⟩
      else
        match dist with
        | none => .error ⟨eLZ_DIST, at_⟩
        | some d =>
          if n < d then .error ⟨eLZ_DIST, at_⟩
          else if limit < n + len then .error ⟨eLZ_SIZE, at_⟩
          else lzDecode fuel limit (at_ + 1) rest (copyBack len d out) (n + len) dist
    | _ =>
      if bits w 0 16 != 0 then .error ⟨eLZ_TOKEN, at_⟩
      else if n < limit then .error ⟨eLZ_SIZE, at_⟩
      else
        match rest.findIdx? (fun x => x != 0) with
        | some i => .error ⟨eLZ_SIZE, at_ + 1 + i⟩
        | none => .ok out.reverse

/-- The decoded output of a stored block: 4 · OUT_GROUPS words (R41, R44, R45). -/
def decodeBlock (ws : List Nat) : Except NdsErr (List Nat) :=
  let payload := (ws.drop 8).take (4 * ws.getD 4 0)
  if hCoding (ws.getD 1 0) == 0 then .ok payload
  else lzDecode (payload.length + 1) (4 * ws.getD 5 0) 8 payload [] 0 none

/-- A run of equal words at a distance. -/
def matchLen (out : List Nat) (p d : Nat) : Nat → Nat
  | 0 => 0
  | n + 1 => if out.getD p 0 == out.getD (p - d) 0 && decide (p < out.length) then matchLen out (p + 1) d n + 1 else 0

/-- LZ tokens for an output. The tokens are the encoder's choice: at each position Config offers a match, taken where
it is one, or a literal count. -/
def lzEncode (block : Nat) (out : List Nat) : Nat → Nat → Option Nat → List Nat
  | 0, _, _ => [0x30000]
  | fuel + 1, p, dist =>
    if out.length ≤ p then [0x30000]
    else
      let (d, n, c) := Config.lzChoice block p
      if decide (1 ≤ d) && decide (d ≤ p) && decide (d ≤ 65535) && decide (2 ≤ n) && decide (n ≤ 258) && matchLen out p d n == n then
        (if dist == some d then [0x20000 + (n - 2) * 128] else [0x10000 + (n - 2) * 128, d]) ++ lzEncode block out fuel (p + n) (some d)
      else
        let k := min (c % 65536 + 1) (out.length - p)
        (k - 1) :: (out.drop p).take k ++ lzEncode block out fuel (p + k) dist

/-- Words filled up to whole groups with zeros. -/
def padGroups (ws : List Nat) : List Nat := ws ++ List.replicate ((4 - ws.length % 4) % 4) 0

/-- A stored block: header, payload coded LZ or, where that would not be shorter than the limit of R67, raw, and the
trailer with its check value (R40, R43). -/
def storeBlock (choice : Nat) (last kind : Bool) (pad streamId seq recs : Nat) (out : List Nat) : List Nat :=
  let og := out.length / 4
  let lz := padGroups (lzEncode choice out (out.length + 1) 0 none)
  let raw := decide (4 * og < lz.length)
  let payload := if raw then out else lz
  let h1 := 65536 + (if raw then 0 else 16384) + b2n last * 8192 + b2n kind * 4096 + pad
  let body := [0x2D4E1, h1, streamId, seq, payload.length / 4, og, recs, 0] ++ payload
  let crc := checkValue streamId seq body
  body ++ [bits crc 0 18, bits crc 18 14, seq, 0x12B1E]

/-! ## Records (R47 to R57) -/

/-- A 36-bit signed coordinate of a record body. -/
def coord (b : List Nat) (i : Nat) : Int := s36 (pairVal (b.getD i 0) (b.getD (i + 1) 0))

/-- A point of a record body. -/
def point (b : List Nat) (i : Nat) : Int × Int := (coord b i, coord b (i + 2))

/-- The TYPE codes of R49. -/
def recTypes : List Nat := [1, 2, 3, 4, 5, 6, 7, 8, 9, 0x3F]

/-- The segments of a CURVE body from word `i`: kind and points, the words they take, or the word of a kind that R54
does not list. -/
def curveSegs (b : List Nat) : Nat → Nat → Except Nat (List (Option ((Int × Int) × (Int × Int)) × (Int × Int)) × Nat)
  | 0, i => .ok ([], i)
  | n + 1, i =>
    match b.getD i 0 with
    | 0 => (curveSegs b n (i + 5)).map (fun r => ((none, point b (i + 1)) :: r.1, r.2))
    | 1 => (curveSegs b n (i + 13)).map (fun r => ((some (point b (i + 1), point b (i + 5)), point b (i + 9)) :: r.1, r.2))
    | _ => .error i

/-- BODY_LEN that a record states must be this (R49); none where a kind word leaves it open. -/
def bodyLen (type : Nat) (b : List Nat) : Option Nat :=
  match type with
  | 1 => some 9
  | 2 => some 1
  | 3 => some 11
  | 4 => some 8
  | 5 => some 12
  | 6 => some (1 + 4 * b.getD 0 0)
  | 7 =>
    match curveSegs b (b.getD 0 0) 5 with
    | .ok (_, n) => some n
    | .error _ => none
  | 9 => some 2
  | _ => some 0

/-- The record with its field checks: the failing word counts from the record's first word. -/
def readRecord (ctx : ParseCtx) (type flags : Nat) (b : List Nat) : Except Nat NdsRec :=
  let c := coord b
  match type with
  | 1 =>
    let k := flags % 4
    let box : Box := { x0 := c 1, y0 := c 3, x1 := c 5, y1 := c 7 }
    if 4 ≤ flags || k == 0 || k == 3 then .error 0
    else if b.getD 0 0 != ctx.secs % wordMod then .error 2
    else
      match if k == 1 then (b.drop 1).findIdx? (fun w => w != 0) else none with
      | some i => .error (3 + i)
      | none => .ok (.sect (k == 1) (b.getD 0 0) box)
  | 2 => if flags != 0 then .error 0 else if 65535 < b.getD 0 0 then .error 2 else .ok (.cellDef (b.getD 0 0))
  | 3 =>
    if 16 ≤ flags then .error 0
    else if 65535 < b.getD 0 0 then .error 2
    else if 65536 ≤ b.getD 5 0 then .error 7
    else if 65536 ≤ b.getD 6 0 then .error 8
    else .ok (.place { id := b.getD 0 0, mode := bitOf flags 3, orient := flags % 8, x := c 1, y := c 3,
                       nx := b.getD 5 0 + 1, ny := b.getD 6 0 + 1, px := c 7, py := c 9 })
  | 4 =>
    if flags != 0 then .error 0
    else if c 4 ≤ c 0 then .error 2
    else if c 6 ≤ c 2 then .error 4
    else .ok (.prim (.rect (c 0) (c 2) (c 4) (c 6)))
  | 5 =>
    if 2 ≤ flags then .error 0
    else if c 2 ≤ c 0 then .error 2
    else if c 6 < c 4 then .error 6
    else if c 10 < c 8 then .error 10
    else if c 6 - c 4 + (c 10 - c 8) ≤ 0 then .error 6
    else .ok (.prim (.trap (flags == 1) (c 0) (c 2) (c 4) (c 6) (c 8) (c 10)))
  | 6 =>
    let nv := b.getD 0 0
    if flags != 0 then .error 0
    else if nv < 3 || 4095 < nv then .error 2
    else .ok (.prim (.poly ((List.range nv).map (fun i => point b (1 + 4 * i)))))
  | 7 =>
    let ns := b.getD 0 0
    if flags != 0 then .error 0
    else if ns < 1 || 4095 < ns then .error 2
    else
      match curveSegs b ns 5 with
      | .ok (segs, _) => .ok (.prim (.curve (point b 1) segs))
      | .error i => .error (i + 2)
  | 8 => if 64 ≤ flags then .error 0 else .ok (.doseClass flags)
  | 9 =>
    if flags != 0 then .error 0
    else if 262142 < b.getD 0 0 then .error 2
    else if 262142 < b.getD 1 0 || b.getD 1 0 < b.getD 0 0 then .error 3
    else .ok (.layer (b.getD 0 0) (b.getD 1 0))
  | _ => if 4 ≤ flags || flags % 4 == 0 then .error 0 else .ok (.ends (flags % 4))

/-- The record is allowed in the scope that is open (R48). -/
def contextOk (ctx : ParseCtx) : NdsRec → Bool
  | .sect lib _ _ => !ctx.inSection && !ctx.ended && lib == ctx.library
  | .cellDef _ => ctx.inSection && ctx.library && ctx.openCell.isNone
  | .place _ => ctx.inSection && (!ctx.library || ctx.openCell.isSome)
  | .prim _ => ctx.inSection && (!ctx.library || ctx.openCell.isSome)
  | .doseClass _ => ctx.inSection && (!ctx.library || ctx.openCell.isSome)
  | .layer _ _ => ctx.inSection && !ctx.library
  | .ends 1 => ctx.openCell.isSome
  | .ends 2 => ctx.inSection && ctx.openCell.isNone
  | .ends _ => !ctx.inSection && !ctx.ended

/-- SECTION_ORDER of a geometry section (R50): the failing word from the record's first word. -/
def sectionOrder (ctx : ParseCtx) : NdsRec → Option Nat
  | .sect false _ b =>
    if b.x1 ≤ b.x0 then some 3 else if b.y1 ≤ b.y0 then some 5
    else if ctx.lastX.any (fun x => decide (b.x0 < x)) then some 3 else none
  | _ => none

/-- The cell checks of R52, given the cells of the loaded library. -/
def cellErr (loaded : List Nat) (ctx : ParseCtx) : NdsRec → Option Nat
  | .place p =>
    if ctx.library then (if ctx.cells.any (fun x => x.1 == p.id && !x.2) then none else some eCELL_DEPTH)
    else if loaded.contains p.id then none else some eCELL_UNDEF
  | .cellDef id => if ctx.cells.any (fun x => x.1 == id) then some eCELL_DUP else none
  | _ => none

/-- The parser's place after a record. -/
def ParseCtx.after (ctx : ParseCtx) : NdsRec → ParseCtx
  | .sect _ _ b => { ctx with secs := ctx.secs + 1, inSection := true, box := b, lastX := some b.x0, cls := 0, first := 0, last := 262142 }
  | .cellDef id => { ctx with openCell := some id, openPlaces := false, cls := 0 }
  | .place _ => { ctx with openPlaces := true }
  | .prim _ => ctx
  | .doseClass c => { ctx with cls := c }
  | .layer f l => { ctx with first := f, last := l }
  | .ends 1 => { ctx with openCell := none, cells := ctx.cells ++ (ctx.openCell.toList.map (fun id => (id, ctx.openPlaces))) }
  | .ends 2 => { ctx with inSection := false }
  | .ends _ => { ctx with ended := true }

/-- One record at the head of the words left, with every check of step 6 of R571 in order. -/
def parseRecord (loaded : List Nat) (ctx : ParseCtx) (at_ : Nat) (ws : List Nat) : Except NdsErr (NdsRec × Nat × Nat) :=
  let w0 := ws.getD 0 0
  let type := bits w0 12 6
  let flags := bits w0 0 12
  let n := ws.getD 1 0
  let b := (ws.drop 2).take n
  if !recTypes.contains type then .error ⟨eREC_TYPE, at_⟩
  else if ws.length < 2 then .error ⟨eREC_LEN, at_⟩
  else if ws.length < n + 2 || 65534 < n || (bodyLen type b).any (fun x => x != n) then .error ⟨eREC_LEN, at_ + 1⟩
  else
    match readRecord ctx type flags b with
    | .error i => .error ⟨eREC_FIELD, at_ + i⟩
    | .ok r =>
      if !contextOk ctx r then .error ⟨eREC_CONTEXT, at_⟩
      else
        match sectionOrder ctx r with
        | some i => .error ⟨eSECTION_ORDER, at_ + i⟩
        | none =>
          match cellErr loaded ctx r with
          | some e => .error ⟨e, at_ + 2⟩
          | none => .ok (r, type, n + 2)

/-- The records of the record area, in order. -/
def parseRecords (loaded : List Nat) (seq tick : Nat) : Nat → ParseCtx → Nat → Nat → List Nat → Except NdsErr (List LRec × ParseCtx)
  | 0, ctx, _, _, _ => .ok ([], ctx)
  | fuel + 1, ctx, idx, at_, ws =>
    if ws.isEmpty then .ok ([], ctx)
    else
      match parseRecord loaded ctx at_ ws with
      | .error e => .error e
      | .ok (r, type, n) =>
        let ctx' := ctx.after r
        let l : LRec := { body := r, type := type, index := idx, word := at_, seq := seq, tick := tick, cls := ctx'.cls,
                          first := ctx'.first, last := ctx'.last, box := ctx'.box }
        (parseRecords loaded seq tick fuel ctx' (idx + 1) (at_ + n) (ws.drop n)).map (fun p => (l :: p.1, p.2))

/-- Steps 5 to 7 of R571 for a decoded block: pad words, records, their number, and the END and LAST rules. -/
def parseBlock (loaded : List Nat) (ctx : ParseCtx) (tick : Nat) (ws out : List Nat) : Except NdsErr (List LRec × ParseCtx) :=
  let pad := hPad (ws.getD 1 0)
  let area := out.take (out.length - pad)
  match (out.drop (out.length - pad)).findIdx? (fun w => w != 0) with
  | some i => .error ⟨eREC_COUNT, area.length + i⟩
  | none =>
    match parseRecords loaded (ws.getD 3 0) tick (area.length + 1) ctx 0 0 area with
    | .error e => .error e
    | .ok (recs, ctx') =>
      let ends := (recs.getLast?).any (fun r => r.body == .ends 3)
      if recs.length != ws.getD 6 0 then .error ⟨eREC_COUNT, noWord⟩
      else if hLast (ws.getD 1 0) && !ends then .error ⟨eSTREAM_END, noWord⟩
      else if ends && !hLast (ws.getD 1 0) then .error ⟨eSTREAM_END, ((recs.getLast?).map (·.word)).getD noWord⟩
      else .ok (recs, ctx')

end Sys2Proof.Machine
end

