-- ==== Sys2Proof/Machine/SpringOps.lean ====
section
/-! DEFINITION. Shared operations of the Spring (R58 to R71): stream slots, the sources of blocks, transport errors,
stream errors, the parsing of blocks in order, and the placing of a compression engine's output. -/
namespace Sys2Proof.Machine

/-! ## Slots (R64, R77) -/

def fSprFailed : Fld := bitAt SPR_STATUS 17
def fDecRetired (k : Nat) : Fld := bitAt SPR_STATUS (9 + k)
def fSprOpen : Fld := { off := SPR_STATUS, lo := 4, w := 5 }
def fSlotState (n : Nat) : Fld := { off := SPR_SLOT n, lo := 15, w := 3 }

/-- Stream slot `n`. -/
def Device.slot (d : Device) (n : Nat) : Slot := d.spr.slots.toList.getD n {}

/-- STATE of a slot: closed, fetching, re-fetching, complete or failed. -/
def Slot.code (s : Slot) : Nat :=
  if !s.isOpen then 0 else if s.failed then 4 else if s.refetch then 2 else if s.lastSeen then 3 else 1

/-- SOURCE of a slot. -/
def Slot.sourceCode (s : Slot) : Nat :=
  match s.source with
  | .host _ => 0
  | .spool _ => 1
  | .ndf _ => 2

/-- Store a slot and show its registers; OPEN counts the slots that are open and not failed. ERRS is computed when it is
read, because errors leave their window with time. -/
def Device.setSlot (d : Device) (n : Nat) (s : Slot) : Device :=
  let d := { d with spr := { d.spr with slots := d.spr.slots.set! n s } }
  let d := d.setReg (SPR_SLOT n) (s.code * 32768 + (if s.isOpen then s.sourceCode * 8192 + b2n (s.use == .library) * 4096 else 0))
  let d := if s.isOpen then (d.setReg (SPR_SLOT n + 4) s.streamId).setReg (SPR_SLOT n + 8) s.next else d
  d.put fSprOpen (d.spr.slots.toList.filter (fun x => x.isOpen && !x.failed)).length

/-- The slot of lowest number that is closed. -/
def Device.closedSlot (d : Device) : Option Nat := (List.range 16).find? (fun n => !(d.slot n).isOpen)

/-- Open a slot for a reading, at SEQ 0 (R42, R90). -/
def Device.openSlot (d : Device) (n : Nat) (use : Reading) (src : Source) (streamId stripe : Nat) (tag : Option Nat) : Device :=
  let s : Slot := { isOpen := true, use := use, source := src, streamId := streamId, stripe := stripe, tag := tag,
                    ctx := { library := use == .library }, session := (Config.sessionBase + d.spr.opens) % 4294967296 }
  (({ d with spr := { d.spr with opens := d.spr.opens + 1 } }).setReg (SPR_SLOT n + 12) 0).setSlot n s

/-- Every decompressor is retired, so that no block is decoded (R66). -/
def Device.noDecoder (d : Device) : Bool := (List.range 8).all (fun k => d.flag (fDecRetired k))

/-- The decompressors that have discarded a block, the last one first (R66). -/
def Block.avoid (b : Block) : List Nat :=
  match b.stage with
  | .stored a => a
  | .decoding _ a => a
  | _ => []

/-- The decompressors that discarded a block no longer recover: it is decoded again, or dropped (R495). -/
def Device.decoderEnds (d : Device) (b : Block) : Device := d.each b.avoid (fun d k => d.recovered 2 k)

/-- Close a slot: its window is empty and its domain no longer permanent (R59, R498); an NDF session ends with CLOSE
(R378). -/
def Device.closeSlot (d : Device) (n : Nat) : Device :=
  let s := d.slot n
  if !s.isOpen then d
  else
    let d := if s.isNdf then
        d.sendNdf (d.serverPort s.server) s.server (ndfBytes 6 0 s.session s.streamId s.next 0 0 [])
      else d
    let d := { d with eth := { d.eth with fetches := d.eth.fetches.filter (fun f => f.slot != n) },
                      spr := { d.spr with ndf := d.spr.ndf.filter (fun x => x.1 != n) } }
    (((d.each s.blocks Device.decoderEnds).dropDomain 1 n).setSlot n {}).showBufs

/-! ## Sources -/

/-- The word address of group `pos` of a spool stream: a line holds 16 groups. -/
def spoolWord (line pos : Nat) : Nat := 64 * line + 4 * pos

/-- The groups of a source from its start to its end: the extents, or the end of the spool region. -/
def Device.sourceGroups (d : Device) (src : Source) : Option Nat :=
  match src with
  | .host es => some (es.map Prod.snd).sum
  | .spool line => some (16 * (d.get36 SPR_SPOOL_BASE + d.get36 SPR_SPOOL_LINES - line))
  | .ndf _ => none

/-- `n` groups of host extents from group `pos`, as the pieces (address, groups). -/
def extentPieces : List (Nat × Nat) → Nat → Nat → List (Nat × Nat)
  | [], _, _ => []
  | (a, len) :: rest, pos, n =>
    if len ≤ pos then extentPieces rest (pos - len) n
    else
      let k := min n (len - pos)
      (a + 9 * pos, k) :: (if n ≤ k then [] else extentPieces rest 0 (n - k))

/-- `n` groups of a host or spool source from group `pos`, as words. -/
def Device.sourceWords (d : Device) (src : Source) (pos n : Nat) : List Nat :=
  match src with
  | .host es => (extentPieces es pos n).flatMap (fun p => d.hostGroups p.1 p.2)
  | .spool line => d.dramWords (spoolWord line pos) (4 * n)
  | .ndf _ => []

/-- `n` groups of a source cannot be read: an uncorrectable spool line (R337). `req`: the code of the requester. -/
def Device.sourceBad (d : Device) (req : Nat) (src : Source) (pos n : Nat) : Bool :=
  match src with
  | .spool line => d.readBad req (spoolWord line pos) (4 * n)
  | _ => false

/-- `n` groups of a source wait for module memory (R332). -/
def Device.sourceWaits (d : Device) (src : Source) (pos n : Nat) : Bool :=
  match src with
  | .spool line => !d.memServes (spoolWord line pos) (4 * n)
  | _ => false

/-- The requester of a slot's source: the Spring, or a compression engine (R348). -/
def Slot.requester (s : Slot) : Nat := if s.use == .recode then 1 else 0

/-- The slot has read its next block from its spool, or as much of it as its header let it: the failed reads are met (R336, R337). -/
def Device.sourceMet (d : Device) (n : Nat) : Device :=
  let s := d.slot n
  match s.source with
  | .spool line =>
    let pg := (d.sourceWords s.source s.pos 2).getD 4 0
    let k := if d.sourceBad s.requester s.source s.pos 1 then 1
      else if d.sourceBad s.requester s.source s.pos 2 || pg == 0 || decide (16384 < pg) then 2 else pg + 3
    d.readMet s.requester (spoolWord line s.pos) (4 * k)
  | _ => d

/-- The transport and header checks of a block's words, the stream's identity and the SEQ expected (R58, R571): the
order is SYNC of H0, SIZE_HDR, SYNC of T3, CHECK, SEQ, then the header. SHORT lies before SYNC of T3. -/
def blockErr (streamId seq : Nat) (ws : List Nat) : Option NdsErr :=
  let h := fun i => ws.getD i 0
  let pg := h 4
  let t := 8 + 4 * pg
  if h 0 != 0x2D4E1 then some ⟨eSYNC, 0⟩
  else if pg == 0 || decide (16384 < pg) then some ⟨eSIZE_HDR, 4⟩
  else if h (t + 3) != 0x12B1E then some ⟨eSYNC, t + 3⟩
  else if bits (h (t + 1)) 14 4 != 0 then some ⟨eCHECK, t + 1⟩
  else if checkValue streamId seq (ws.take t) != h t + bits (h (t + 1)) 0 14 * wordMod then some ⟨eCHECK, noWord⟩
  else if h 2 != streamId then some ⟨eSEQ, 2⟩
  else if h 3 != seq then some ⟨eSEQ, 3⟩
  else if h (t + 2) != seq then some ⟨eSEQ, t + 2⟩
  else none

/-- The next block of a slot as its source gives it: the error that stops it, or its words. `srcErr`: the PCIe read
completes with an error. None: an NDF source has nothing for the slot yet, or module memory does not serve its spool yet. -/
def Device.nextBlock (d : Device) (n : Nat) (srcErr : Bool) : Option (Except NdsErr (List Nat)) :=
  let s := d.slot n
  match s.source with
  | .ndf _ =>
    match d.spr.ndf.find? (fun x => x.1 == n && x.2.1 == s.next) with
    | none => none
    | some (_, _, none) => some (.error ⟨eSHORT, noWord⟩)
    | some (_, _, some ws) =>
      -- what arrived may be shorter than the header states; words beyond the stored block are dropped
      if ws.isEmpty then some (.error ⟨eSHORT, noWord⟩)
      else if ws.getD 0 0 != 0x2D4E1 then some (.error ⟨eSYNC, 0⟩)
      else if ws.length < 5 then some (.error ⟨eSHORT, noWord⟩)
      else if decide (1 ≤ ws.getD 4 0) && decide (ws.getD 4 0 ≤ 16384) && decide (ws.length < 12 + 4 * ws.getD 4 0) then
        some (.error ⟨eSHORT, noWord⟩)
      else some (match blockErr s.streamId s.next ws with | some e => .error e | none => .ok (ws.take (12 + 4 * ws.getD 4 0)))
  | src =>
    let left := (d.sourceGroups src).getD 0 - s.pos
    let head := d.sourceWords src s.pos 2
    let pg := head.getD 4 0
    let legal := decide (1 ≤ pg) && decide (pg ≤ 16384)
    -- H0 lies in the first group and H4 in the second: what cannot be read is not judged
    let noH0 := srcErr || d.sourceBad s.requester src s.pos 1
    let noH4 := noH0 || d.sourceBad s.requester src s.pos 2
    if d.sourceWaits src s.pos (min 2 left) then none
    else if left < 2 || (!noH4 && legal && decide (left < pg + 3)) then some (.error ⟨eSTREAM_END, noWord⟩)
    else if noH0 then some (.error ⟨eSHORT, noWord⟩)
    else if head.getD 0 0 != 0x2D4E1 then some (.error ⟨eSYNC, 0⟩)
    else if noH4 then some (.error ⟨eSHORT, noWord⟩)
    else if !legal then some (.error ⟨eSIZE_HDR, 4⟩)
    else if d.sourceWaits src s.pos (pg + 3) then none
    else if d.sourceBad s.requester src s.pos (pg + 3) then some (.error ⟨eSHORT, noWord⟩)
    else
      let ws := d.sourceWords src s.pos (pg + 3)
      some (match blockErr s.streamId s.next ws with | some e => .error e | none => .ok ws)

/-! ## Stream errors (R61 to R63) -/

/-- Empty the cell library (R62, R81). -/
def Device.clearLibrary (d : Device) : Device :=
  ({ d with csc := { d.csc with lib := [], libWords := 0 } }).setReg CSC_LIB_CELLS 0

/-- Record a stream error where none is recorded, with event 33 (R63, R73, R74). -/
def Device.recordStreamError (d : Device) (n streamId : Nat) (e : NdsErr) (seq : Nat) (perm : Bool) : Device :=
  let d := if d.flag (bitAt SPR_ERR_CODE 17) then d
    else (((d.setReg SPR_ERR_CODE (131072 + b2n perm * 65536 + n * 4096 + e.code)).setReg SPR_ERR_STREAM streamId).setReg
      SPR_ERR_SEQ seq).setReg SPR_ERR_WORD (min e.word noWord)
  d.raise 33

/-- A stream error of slot `n` at a SEQ and word, which leaves only the blocks before it: a library load completes
DATA_ERROR and leaves the library empty; a geometry stream fails its slot and sets FAILED, and the weirs run down. -/
def Device.streamError (d : Device) (n : Nat) (e : NdsErr) (seq : Nat) (perm : Bool) (keep : List Block) : Device :=
  let s := d.slot n
  let d := (d.each (s.blocks.filter (fun b => !keep.contains b)) Device.decoderEnds).recordStreamError n s.streamId e seq perm
  match s.use with
  | .library => ((d.closeSlot n).clearLibrary).completeWhere (fun w => w == .library) sDATA_ERROR 0 []
  | .recode => d
  | _ => (((d.setSlot n { s with failed := true, blocks := keep }).putFlag fSprFailed true)).runDry cWEIR

/-! ## Decoding in order (R65, R571) -/

/-- The block of SEQ `q` of a slot takes a stage. -/
def Slot.stage (s : Slot) (q : Nat) (st : BStage) : Slot :=
  { s with blocks := s.blocks.map (fun b => if b.seq == q then { b with stage := st } else b) }

/-- Parse the decoded blocks of a slot whose predecessors are parsed, in SEQ order. -/
def Device.parseReady (d : Device) (n : Nat) : Nat → Device
  | 0 => d
  | fuel + 1 =>
    let s := d.slot n
    let front := s.blocks.dropWhile (fun b => match b.stage with | .parsed _ _ => true | _ => false)
    match front with
    | [] => d
    | b :: _ =>
      match b.stage with
      | .decoded ws =>
        match parseBlock (d.csc.lib.map (fun c => c.id)) s.ctx b.tick b.words ws with
        | .error e => d.streamError n e b.seq false (s.blocks.takeWhile (fun x => x.seq != b.seq))
        | .ok (recs, ctx) => (d.setSlot n ({ s with ctx := ctx }.stage b.seq (.parsed ws recs))).parseReady n fuel
      | _ => d

/-- The slot and the block that a decompressor holds. -/
def Device.decoding (d : Device) (dec : Nat) : Option (Nat × Block) :=
  (List.range 16).findSome? (fun n =>
    ((d.slot n).blocks.find? (fun b => match b.stage with | .decoding k _ => k == dec | _ => false)).map (fun b => (n, b)))

/-! ## Compression engines (R67 to R70, R78, R79) -/

/-- Compression engine `e`. -/
def Device.engine (d : Device) (e : Nat) : Engine := d.spr.engines.toList.getD e {}

def fCmpState (e : Nat) : Fld := { off := SPR_CMP_STATUS e, lo := 16, w := 2 }
def fInSpill (e : Nat) : Fld := bitAt (SPR_CMP_STATUS e) 15
def fCmpMode (e : Nat) : Fld := bitAt (SPR_CMP_STATUS e) 14
def fSpillUsed (n : Nat) : Fld := bitAt (SPR_SPILL_STATE n) 17

/-- Store an engine and show its status. -/
def Device.setEngine (d : Device) (e : Nat) (x : Engine) : Device :=
  let d := { d with spr := { d.spr with engines := d.spr.engines.set! e x } }
  ((d.put (fCmpState e) (if !x.running then 0 else if x.hold.isEmpty then 1 else 2)).putFlag (fInSpill e) (!x.chain.isEmpty)).putFlag
    (fCmpMode e) x.capture

/-- A spillway buffer that is eligible (R68), as the clock began: a buffer whose USED is cleared is eligible from the next clock (R70). -/
def Device.eligible (d : Device) : Option Nat :=
  (List.range 16).find? (fun n => d.asTick (SPR_SPILL_LINES n) != 0 && !d.flag (fSpillUsed n) && !bitOf (d.asTick (SPR_SPILL_STATE n)) 17)

/-- A buffer that an engine takes has the BASE and LINES from before the clock: a write to them in the same clock is ignored (R70). -/
def Device.keepBuffer (d : Device) (n : Nat) : Device :=
  d.each [SPR_SPILL_BASE n, SPR_SPILL_BASE n + 4, SPR_SPILL_LINES n] (fun d off => d.setReg off (d.asTick off))

/-- Module memory takes the output of an engine: its destination, and the spillway buffers (R332). -/
def Device.outServes (d : Device) (x : Engine) : Bool :=
  d.memServes (64 * x.base) (64 * x.lines) &&
    (List.range 16).all (fun n => d.memServes (64 * d.get36 (SPR_SPILL_BASE n)) (64 * d.reg (SPR_SPILL_LINES n)))

/-- The groups that the engine's present buffer still takes. -/
def Device.engineRoom (d : Device) (x : Engine) : Nat :=
  match x.chain.getLast? with
  | none => 16 * x.lines - x.stored
  | some n => 16 * d.reg (SPR_SPILL_LINES n) - d.get36 (SPR_SPILL_FILL n)

/-- An engine takes the next spillway buffer, with event 42 or 43 for its first one (R68, R79). -/
def Device.takeBuffer (d : Device) (e k : Nat) : Device :=
  let x := d.engine e
  let d := (d.when x.chain.isEmpty (fun d => d.raise (42 + e))).keepBuffer k
  let d := (d.setReg (SPR_SPILL_STATE k) (131072 + e * 65536 + x.chain.length * 4096)).put36 (SPR_SPILL_FILL k) 0
  d.setEngine e { x with chain := x.chain ++ [k] }

/-- Place output groups: the destination, then spillway buffers as they are eligible. What finds no room is held. -/
def Device.placeGroups (d : Device) (e : Nat) : Nat → List Nat → Device
  | 0, ws => d.setEngine e { d.engine e with hold := ws }
  | fuel + 1, ws =>
    let x := d.engine e
    if ws.isEmpty then d.setEngine e { x with hold := [] }
    else
      let n := min (ws.length / 4) (d.engineRoom x)
      let now := ws.take (4 * n)
      let rest := ws.drop (4 * n)
      let d := match x.chain.getLast? with
        | none => (d.putWords 1 (64 * x.base + 4 * x.stored) now).setEngine e { x with stored := x.stored + n }
        | some k => (d.putWords 1 (64 * d.get36 (SPR_SPILL_BASE k) + 4 * d.get36 (SPR_SPILL_FILL k)) now).put36 (SPR_SPILL_FILL k) (d.get36 (SPR_SPILL_FILL k) + n)
      let d := d.put36 (SPR_CMP_OUT e) (d.get36 (SPR_CMP_OUT e) + n)
      if rest.isEmpty then d.setEngine e { d.engine e with hold := [] }
      else
        match d.eligible with
        | none => d.setEngine e { d.engine e with hold := rest }
        | some k =>
          (d.takeBuffer e k).placeGroups e fuel rest

/-- Give the words of a capture point to the engines that tap it. -/
def Device.capturePoint (d : Device) (p : Engine → Bool) (ws : List Nat) (last : Engine → Bool) : Device :=
  d.each [0, 1] (fun d e =>
    let x := d.engine e
    if x.running && x.capture && x.outcome.isNone && !x.inputDone && p x then
      (d.setEngine e { x with words := x.words ++ ws, rowsSeen := x.rowsSeen + 1, inputDone := last x }).put36 (SPR_CMP_IN e)
        (d.get36 (SPR_CMP_IN e) + ceilDiv ws.length 4)
    else d)

/-! ## The sample buffer (R541) -/

/-- A record that the sample buffer may mark: a primitive or a placement. -/
def NdsRec.markable : NdsRec → Bool
  | .prim _ => true
  | .place _ => true
  | _ => false

/-- Mark one record out of every 2^INTERVAL_LOG2 that has geometry in the stripe of its raster pass. -/
def Device.markRecord (d : Device) (j : Job) (pr : PassRead) (streamId : Nat) (r : LRec) : Device :=
  if !r.body.markable || !d.flag (bitAt PMC_PSB_CTRL 17) || d.flag (bitAt PMC_PSB_CTRL 10) || !d.released 0 then d
  else
    match ((d.contribsOf j (j.stripeAt pr.stripe) pr.layer false r).map (fun c => c.band)) with
    | [] => d
    | b :: bs =>
      let due := decide (2 ^ bits (d.reg PMC_PSB_CTRL) 11 5 ≤ d.pwr.psbSince + 1)
      let d := { d with pwr := { d.pwr with psbSince := if due then 0 else d.pwr.psbSince + 1 } }
      if !due then d
      else if 64 ≤ d.marks.length then d.bump (whole PMC_PSB_SKIP)
      else { d with marks := d.marks ++ [{ stream := streamId, seq := r.seq, index := r.index, type := r.type,
                                           start := r.tick, band := bs.foldl min b }] }

/-- Write the entries of the marks whose first band holds row `u` (R541). -/
def Device.writeMarks (d : Device) (u : Nat) : Device :=
  let due := d.marks.filter (fun m => m.band == u / 256)
  let d := { d with marks := d.marks.filter (fun m => m.band != u / 256) }
  d.each due (fun d m =>
    let n := d.reg PMC_PSB_COUNT
    let i := d.reg PMC_PSB_NEXT % 4096
    let wrap := d.flag (bitAt PMC_PSB_CTRL 16)
    if n == 4096 && !wrap then d
    else
      let lat := d.clock - m.start
      let d := d.setRegs (PMC_PSB i) [m.stream, m.seq, m.index % 32768, m.type * 4096, bits lat 0 18, bits lat 18 18]
      let d := (d.setReg PMC_PSB_NEXT ((i + 1) % 4096)).setReg PMC_PSB_COUNT (min (n + 1) 4096)
      d.when (n + 1 == 4096 && !wrap) (fun d => d.putFlag (bitAt PMC_PSB_CTRL 10) true))

end Sys2Proof.Machine
end

