-- ==== Sys2Proof/Machine/Eth.lean ====
section
/-! DEFINITION. The Ethernet ports and the NDF layout fetch (R372 to R386). -/
namespace Sys2Proof.Machine

/-! ## Fetches (R379 to R383) -/

def fReqTmo : Fld := { off := ETH_NDF_TMO, lo := 9, w := 9 }
def fGapTmo : Fld := { off := ETH_NDF_TMO, lo := 0, w := 9 }
def fSeg : Fld := { off := ETH_CFG, lo := 11, w := 2 }

/-- SEG_SIZE (R399). -/
def Device.segSize (d : Device) : Nat := if d.get fSeg == 0 then 1024 else if d.get fSeg == 1 then 4096 else 8192

def Device.setFetches (d : Device) (l : List NdfFetch) : Device := ({ d with eth := { d.eth with fetches := l } }).showBufs

/-- The fetch of a slot and a SEQ. -/
def Device.fetch (d : Device) (n q : Nat) : Option NdfFetch := d.eth.fetches.find? (fun f => f.slot == n && f.seq == q)

def Device.putFetch (d : Device) (f : NdfFetch) : Device :=
  d.setFetches (d.eth.fetches.map (fun g => if g.slot == f.slot && g.seq == f.seq then f else g))
def Device.dropFetch (d : Device) (f : NdfFetch) : Device :=
  d.setFetches (d.eth.fetches.filter (fun g => !(g.slot == f.slot && g.seq == f.seq)))

/-- A port that may carry the streams of a server entry now: the preferred one, or the other with ALT (R385). -/
def Device.usablePort (d : Device) (srv : Nat) : Option Nat :=
  let p := d.serverPort srv
  if d.flag (fLink p) then some p else none

/-- A fetch is abandoned, which is the transport error SHORT (R382). -/
def Device.abandon (d : Device) (f : NdfFetch) : Device :=
  let d := { d with spr := { d.spr with ndf := d.spr.ndf ++ [(f.slot, f.seq, none)] } }
  ((d.dropFetch f).bump (whole ETH_NDF_ABANDON)).raise 246

/-- Send the REQ of a fetch on a port, with the present SEG_SIZE; a size other than that of the segments held would not
fit them, so a REQ that keeps segments keeps their size (R378, R385, R399). -/
def Device.sendReq (d : Device) (f : NdfFetch) (port : Nat) : Device :=
  let s := d.slot f.slot
  let size := if f.segs.isEmpty then d.segSize else f.size
  let d := d.putFetch { f with port := port, size := size, reqAt := d.clock, busyAt := none }
  (d.bump (whole ETH_NDF_REQS)).sendNdf port s.server
    (ndfBytes 1 f.attempt s.session s.streamId f.seq 0 0 (leBytes 2 size ++ [0, 0]))

/-- Send the REQ again where a port may be used, else abandon the fetch. -/
def Device.request (d : Device) (f : NdfFetch) : Device :=
  match d.usablePort (d.slot f.slot).server with
  | some p => d.sendReq f p
  | none => d.abandon f

/-- Spend a retry, or abandon the fetch when none is left (R381, R382). -/
def Device.spendRetry (d : Device) (f : NdfFetch) (again : Device → NdfFetch → Device) : Device :=
  if d.get fNdfRetries ≤ f.spent then d.abandon f else again d { f with spent := f.spent + 1 }

/-- The block that a slot asks for next: the first SEQ from the one the Spring expects that is neither in a buffer nor
asked for, below the lowest incomplete SEQ plus WINDOW. -/
def Device.nextWanted (d : Device) (n : Nat) : Option Nat :=
  let s := d.slot n
  if !s.isOpen || !s.isNdf || s.failed || s.lastSeen then none
  else
    let held := fun q => (d.fetch n q).isSome || d.spr.ndf.any (fun x => x.1 == n && x.2.1 == q)
    -- 64 buffers, and a window of 16 beyond them, bound what can be held
    let k := ((List.range 81).find? (fun i => !held ((s.next + i) % wordMod))).getD 81
    let low := ((List.range 81).find? (fun i => !(d.spr.ndf.any (fun x => x.1 == n && x.2.1 == (s.next + i) % wordMod && x.2.2.isSome)))).getD 81
    if k < low + d.get fNdfWindow && d.bufsUsed < 64 then some ((s.next + k) % wordMod) else none

/-- Slots take turns for free buffers in increasing slot number (R380). -/
def Device.slotTurn (d : Device) : Option Nat :=
  ((List.range 16).map (fun i => (d.eth.turn + 1 + i) % 16)).find? (fun n => (d.nextWanted n).isSome)

/-- The module requests the next block of a slot, when the slot has the turn (R380). -/
def ndfReqEffect (n : Nat) (d : Device) : Device :=
  if !d.unitUp 20 || d.slotTurn != some n then d
  else
    match d.nextWanted n with
    | none => d
    | some q =>
      let s := d.slot n
      let f : NdfFetch := { slot := n, seq := q, attempt := if q == s.next then s.attempt else 0, port := d.serverPort s.server,
                            size := d.segSize, count := none, reqAt := d.clock }
      let d := { d with eth := { d.eth with turn := n } }
      (d.setFetches (d.eth.fetches ++ [f])).request f

def execNdfReq (slot : Fin 16) (s : State) := s.run (ndfReqEffect slot)

/-! ## Datagrams (R383, R384) -/

/-- A block is whole: ACK, and its words go on to the Spring (R381). -/
def Device.blockWhole (d : Device) (f : NdfFetch) : Device :=
  let s := d.slot f.slot
  let bytes := (List.range (f.count.getD 0)).flatMap (fun i => (f.segs.find? (fun x => x.1 == i)).elim [] Prod.snd)
  let ws := (chunks 9 bytes.length bytes).filter (fun g => g.length == 9) |>.flatMap (fun g => groupWords (leNat g))
  let d := d.sendNdf (d.serverPort s.server) s.server (ndfBytes 4 f.attempt s.session s.streamId f.seq 0 (f.count.getD 0) [])
  ({ d with spr := { d.spr with ndf := d.spr.ndf ++ [(f.slot, f.seq, some ws)] } }).dropFetch f

/-- A DATA datagram of the block that a fetch awaits. -/
def Device.takeSegment (d : Device) (f : NdfFetch) (idx count : Nat) (body : List Nat) : Device :=
  if f.count.isSome && f.count != some count then
    -- another SEG_COUNT: the partial block is discarded (R383)
    d.spendRetry { f with count := none, segs := [], segAt := none } Device.request
  else if f.segs.any (fun x => x.1 == idx) then (d.putFetch { f with segAt := some d.clock }).bump (whole ETH_NDF_DUP)
  else
    let f := { f with count := some count, segs := f.segs ++ [(idx, body)], segAt := some d.clock, busyAt := none }
    if f.segs.length == count then d.blockWhole f else d.putFetch f

/-- A datagram arrives on ETH_NDF_PORT. -/
def Device.receiveNdf (d : Device) (bs : List Nat) : Device :=
  let u := fun (o n : Nat) => leNat ((bs.drop o).take n)
  let bad := d.bump (whole ETH_NDF_BAD)
  let type := u 2 1
  let len := u 20 4
  let count := u 18 2
  let idx := u 16 2
  if bs.length < 24 || u 0 1 != 0xD5 || u 1 1 != 1 || !(type == 2 || type == 5) || len != bs.length - 24 then bad
  else if type == 2 then
    if count == 0 || decide (256 < count) || decide (count ≤ idx) then bad
    else
      match d.eth.fetches.find? (fun f => (d.slot f.slot).session == u 4 4 && (d.slot f.slot).streamId == u 8 4 && f.seq == u 12 4) with
      | none => d.bump (whole ETH_NDF_STRAY)
      | some f =>
        if (if idx + 1 == count then len == 0 || decide (f.size < len) else len != f.size) then bad
        else d.takeSegment f idx count (bs.drop 24)
  else
    match d.eth.fetches.find? (fun f => (d.slot f.slot).streamId == u 8 4 && f.seq == u 12 4 && f.attempt == u 3 1) with
    | none => d
    | some f =>
      let d := d.raise 247
      if u 24 4 == 3 then d.putFetch { f with busyAt := some d.clock }
      else if u 24 4 == 1 || u 24 4 == 2 then d.abandon f else d

/-- A datagram for ETH_NDF_PORT arrives on a port with a link and an IP address. -/
def ndfArrives (p : Nat) (payload : List Byte) (d : Device) : Device :=
  if d.unitUp 20 && d.flag (fLink p) && (d.speaks p false || d.speaks p true) then (d.itemIn 17).receiveNdf (payload.map (fun b => b.toNat)) else d

def execData (p : Fin 2) (payload : List Byte) (s : State) := s.run (ndfArrives p payload)

def execErr (p : Fin 2) (payload : List Byte) (s : State) := s.run (fun d => ndfArrives p payload d)

/-- REQ_TMO has passed with no DATA, not even in its last tick: the REQ goes again (R381, R396). -/
def reqTmoEffect (n q : Nat) (d : Device) : Device :=
  match d.fetch n q with
  | some f =>
    if !d.unitUp 20 || f.segAt.isSome || f.busyAt.isSome || decide (d.clock ≤ f.reqAt + 8000 * d.get fReqTmo) then d
    else d.spendRetry f Device.request
  | none => d

def execReqTmo (slot : Fin 16) (seq : Word) (s : State) := s.run (reqTmoEffect slot seq.toNat)

/-- The bitmap of the missing segments (R378). -/
def nakMap (f : NdfFetch) : List Nat :=
  (List.range 32).map (fun b => ((List.range 8).map (fun i =>
    if decide (8 * b + i < f.count.getD 0) && !(f.segs.any (fun x => x.1 == 8 * b + i)) then 2 ^ i else 0)).sum)

/-- Send a NAK for every missing segment. -/
def Device.sendNak (d : Device) (f : NdfFetch) : Device :=
  let s := d.slot f.slot
  match d.usablePort s.server with
  | none => d.abandon f
  | some p =>
    ((d.putFetch { f with port := p, segAt := some d.clock }).bump (whole ETH_NDF_NAKS)).sendNdf p s.server
      (ndfBytes 3 f.attempt s.session s.streamId f.seq 0 (f.count.getD 0) (nakMap f))

/-- GAP_TMO has passed without a further segment, not even in its last tick (R381, R396). -/
def gapTmoEffect (n q : Nat) (d : Device) : Device :=
  match d.fetch n q with
  | some f =>
    match f.segAt with
    | some t => if !d.unitUp 20 || f.busyAt.isSome || decide (d.clock ≤ t + 8000 * d.get fGapTmo) then d else d.spendRetry f Device.sendNak
    | none => d
  | none => d

def execGapTmo (slot : Fin 16) (seq : Word) (s : State) := s.run (gapTmoEffect slot seq.toNat)

/-- The REQ goes again 1 ms after an ERR with BUSY, and spends no retry (R382). -/
def busyRetryEffect (n q : Nat) (d : Device) : Device :=
  match d.fetch n q with
  | some f =>
    match f.busyAt with
    | some t => if !d.unitUp 20 || decide (d.clock < t + 800000) then d else d.request { f with busyAt := none }
    | none => d
  | none => d

def execBusyRetry (slot : Fin 16) (seq : Word) (s : State) := s.run (busyRetryEffect slot seq.toNat)

/-! ## Ports (R372 to R376, R401) -/

def fPortEn (p : Nat) : Fld := bitAt (ETH_P_CTRL p) 17
def fPortMode (p : Nat) : Fld := bitAt (ETH_P_CTRL p) 16

/-- The outstanding blocks of a port whose link went down: they move to the other port, or their fetches are abandoned
(R382, R385). -/
def Device.moveFetches (d : Device) (p : Nat) : Device :=
  d.each (d.eth.fetches.filter (fun f => f.port == p)) (fun d f => d.request f)

/-- A port's link changes (R376). -/
def Device.setLink (d : Device) (p : Nat) (up : Bool) : Device :=
  if d.flag (fLink p) == up then d
  else
    let d := (d.putFlag (fLink p) up).raise (244 + p)
    if up then d
    else
      -- what waits for an address on the port is lost with the link
      let d := d.mapNeighbours (fun l => l.map (fun x => if x.port == p then { x with waiting := [] } else x))
      (d.moveFetches p).ptpLinkLost p

/-- The codewords that the FEC of a port corrected, and could not correct, since its last report: free values, since no stimulus
tells them (R401, log entry 59). -/
def Device.fecCounts (d : Device) (p : Nat) : Device :=
  let x := Config.freeNat d.freeCtr
  ((d.nextFree).bumpBy (whole (ETH_P_FEC_CORR p)) (bits x 0 18)).bumpBy (whole (ETH_P_FEC_UNCORR p)) (bits x 18 18)

/-- The PCS and the FEC of a port report the link, and its module the signal. -/
def linkChangeEffect (p : Nat) (up los : Bool) (d : Device) : Device :=
  if !d.unitUp 20 then d else ((d.fecCounts p).putFlag (fEthLos p) los).setLink p (up && d.flag (fPortEn p))

def execLinkChange (p : Fin 2) (up los : Bool) (s : State) := s.run (linkChangeEffect p up los)

/-- A write of ETH_Pp_CTRL, in READY: a change of MODE or EN takes the link down, and the latencies follow MODE (R401). -/
def writePortCtrl (p v : Nat) (d : Device) : Device :=
  if !d.unitUp 20 || !d.inReady then d
  else
    let changed := d.flag (fPortEn p) != bitOf v 17 || d.flag (fPortMode p) != bitOf v 16
    let d := (d.putFlag (fPortEn p) (bitOf v 17)).putFlag (fPortMode p) (bitOf v 16)
    let d := (d.setReg (ETH_P_TX_LAT p) (if bitOf v 16 then 864 else 608)).setReg (ETH_P_RX_LAT p) (if bitOf v 16 then 2336 else 1472)
    d.when changed (fun d => d.setLink p false)

def execPortCtrl (p : Fin 2) (value : Word) (s : State) := s.run (writePortCtrl p value.toNat)

/-- A MAC address is learned for an address in use on a port; the datagrams that waited for it leave. -/
def Device.learn (d : Device) (p : Nat) (v6 : Bool) (addr mac : Nat) : Device :=
  let out := (d.eth.neighbours.filter (fun x => x.isAt p v6 addr)).flatMap (fun x => x.waiting)
  let d := d.mapNeighbours (fun l => l.map (fun x => if x.isAt p v6 addr then { x with mac := some mac, waiting := [] } else x))
  d.each out (fun d w => d.sendUdp p mac v6 addr (d.reg ETH_NDF_PORT % 65536) w.1 false w.2)

/-- A frame arrives (R374, R375, R384, R389). PTP messages come as commands of their own. -/
def ethFrameEffect (p : Nat) (frame : List Byte) (d : Device) : Device :=
  if !d.unitUp 20 || !d.flag (fLink p) then d
  else
    let bs := frame.map (fun b => b.toNat)
    let d := d.fecCounts p
    let taken := d.itemIn 17
    match d.judgeFrame p bs with
    | .badFcs => d.bump (whole (ETH_P_FCS_ERR p))
    | .discard => d.bump (whole (ETH_P_DISCARD p))
    | .arpRequest target sender mac =>
      if d.speaks p false && target == d.ipv4 p then taken.sendArp p 2 mac mac sender else taken
    | .arpReply sender mac => if d.speaks p false then taken.learn p false sender mac else taken
    | .neighborSolicit target sender mac => if target == d.ipv6 p then taken.sendAdvert p mac sender else taken
    | .neighborAdvert sender mac => taken.learn p true sender mac
    | .echoRequest v6 src data => taken.sendEcho p (octets bs 6 6) v6 src data
    | .ndf payload => taken.receiveNdf payload
    | .other => taken

def execEthFrame (p : Fin 2) (frame : List Byte) (s : State) := s.run (ethFrameEffect p frame)

/-- A stream is open whose server has the address, and which sends on the port. -/
def Device.serverUsed (d : Device) (p : Nat) (v6 : Bool) (addr : Nat) : Bool :=
  d.spr.slots.toList.any (fun s => s.isOpen && s.isNdf && d.srvV6 s.server == v6 && d.srvAddr s.server == addr && d.serverPort s.server == p)

/-- The addresses in use on a port are resolved again every 60 s; the others are forgotten (R375). -/
def arpRefreshEffect (p : Nat) (d : Device) : Device :=
  if !d.unitUp 20 || !d.flag (fLink p) then d
  else
    let due := d.eth.neighbours.filter (fun x => x.port == p && decide (x.asked + 48000000000 ≤ d.clock))
    d.each due (fun d x =>
      let d := d.mapNeighbours (fun l => l.filter (fun y => !y.isAt p x.v6 x.addr))
      if d.serverUsed p x.v6 x.addr && d.speaks p x.v6 then
        (d.sendAsk p x.v6 x.addr).mapNeighbours (fun l => l ++ [{ x with asked := d.clock }])
      else d)

def execArpRefresh (p : Fin 2) (s : State) := s.run (arpRefreshEffect p)

end Sys2Proof.Machine
end

