-- ==== Sys2Proof/Machine/CisternOps.lean ====
section
/-! DEFINITION. Shared operations of the deep band and the Cistern (R100 to R111): the held range, the row slots, moving a
row into the Cistern, the release of slots, and the errors of its cells. -/
namespace Sys2Proof.Machine

/-- The words of the Cistern (R18, R104). -/
def cisternWords : Nat := 100663296

def fWholeStripe : Fld := bitAt CST_STATUS 17
def fRefill : Fld := bitAt CST_STATUS 15

/-- S, the row slots of the Cistern (R104). -/
def Job.slots (j : Job) : Nat := cisternWords / j.width

/-- A row is in the held range in force. -/
def Job.holds (j : Job) (u : Nat) : Bool := decide (j.heldNow.1 ≤ u) && decide ((u : Int) ≤ j.heldNow.2)

/-- The word address of pixel 0 of a row in the Cistern (R104). -/
def Job.rowAddr (j : Job) (u : Nat) : Nat := u % j.slots * j.width

/-- The lines of a row. -/
def Job.rowLines (j : Job) (u : Nat) : List Nat := (List.range (j.width / 64)).map (fun i => j.rowAddr u / 64 + i)

/-- The DRAM word address of a row in the look-ahead, and of a Cistern word address in the mirror (R100). -/
def Device.lookAddr (d : Device) (j : Job) (u : Nat) : Nat := 64 * d.get36 CST_DB_BASE + u % d.dbRows j * j.width
def Device.mirrorAddr (d : Device) (a : Nat) : Nat := 64 * (d.get36 CST_DB_BASE + d.get36 CST_DB_LINES) + a

/-- A word of the Cistern. -/
def Device.cisternWord (d : Device) (a : Nat) : Nat := (cellGet (0 : Word) d.cst.words a).toNat

/-- A line's written bit (R107). -/
def Device.lineWritten (d : Device) (l : Nat) : Bool := d.cst.written.contains l

/-- Store words in the Cistern. -/
def Device.putCistern (d : Device) (a : Nat) (ws : List Nat) : Device :=
  { d with cst := { d.cst with words := ws.zipIdx.foldl (fun m p => cellSet (0 : Word) m (a + p.2) (BitVec.ofNat 18 p.1)) d.cst.words } }

/-- Set the written bits of lines. -/
def Device.setWritten (d : Device) (ls : List Nat) : Device :=
  { d with cst := { d.cst with written := d.cst.written ++ ls.filter (fun l => !d.cst.written.contains l) } }

/-- The last row of a pass in its direction. -/
def Job.lastRow (j : Job) : Nat := if j.reverse then 0 else j.cur.len - 1

/-- The rows of a run serve the pass in progress. -/
def Device.runServes (d : Device) (j : Job) (r : DbRun) : Bool :=
  r.layer == j.layer && r.stripe == j.stripe && (r.pass == j.pass || d.wholeStripe j j.cur.len)

/-- A row of the pass in progress is committed to the deep band. -/
def Device.rowCommitted (d : Device) (j : Job) (u : Nat) : Bool :=
  d.cst.rows.contains u || d.cst.runs.any (fun r => d.runServes j r && decide (r.lo ≤ u) && decide (u < r.hi))

/-- Show the weir levels, the mode of the stripe and what the pass still lacks (R111, R121, R123). -/
def Device.showCistern (d : Device) : Device :=
  match d.job with
  | none => (((d.setReg CST_WEIR_LEAD 0).put36 CST_WEIR_DB 0).setReg CST_SLOTS 0).putFlag fWholeStripe false
  | some j =>
    let u := j.leadRow (max 0 j.firedN)
    let ahead := (d.cst.rows.filter (fun (r : Nat) => if j.reverse then decide ((r : Int) < u) else decide (u < r))).length
    let d := (d.setReg CST_WEIR_LEAD (min ahead wordMax)).showDb
    let d := (d.putFlag fWholeStripe (d.wholeStripe j j.cur.len)).setReg CST_SLOTS (j.slots % wordMod)
    { d with lastCommitted := d.rowCommitted j j.lastRow, lastHeld := d.cst.rows.contains j.lastRow }

/-- Take a row out of the runs of the look-ahead. -/
def dropRow (u : Nat) (serves : DbRun → Bool) (rs : List DbRun) : List DbRun :=
  rs.flatMap (fun r =>
    if serves r && decide (r.lo ≤ u) && decide (u < r.hi) then
      ([{ r with hi := u }, { r with lo := u + 1 }]).filter (fun x => decide (x.lo < x.hi))
    else [r])

/-- Later passes of the stripe read its rows again (R101). -/
def Device.keepsRows (d : Device) (j : Job) : Bool := d.wholeStripe j j.cur.len && decide (j.pass + 1 < j.passes)

/-- In the last pass of a stripe the rows that the Cistern holds already are read no more: they leave the look-ahead (R101). -/
def Device.freeHeld (d : Device) (j : Job) : Device :=
  if d.keepsRows j then d
  else { d with cst := { d.cst with runs := d.cst.rows.foldl (fun rs u => dropRow u (d.runServes j) rs) d.cst.runs } }

/-- A row of the pass in progress, or of the one after it (`j`), reaches the Cistern and its mirror, by the reader or by
bypass: its lines are written, the row leaves the look-ahead where no later pass needs it, capture engines take it, and
marked records whose first band it opens are entered (R101 to R107, R541). -/
def Device.rowIntoCistern (d : Device) (j : Job) (u : Nat) (ws : List Nat) : Device :=
  let a := j.rowAddr u
  let d := ((d.putCistern a ws).putWords 7 (d.mirrorAddr a) ws).setWritten (j.rowLines u)
  let runs := if d.keepsRows j then d.cst.runs else dropRow u (d.runServes j) d.cst.runs
  let d := { d with cst := (if d.job.all j.samePass then { d.cst with rows := d.cst.rows ++ [u], runs := runs }
                            else { d.cst with ahead := d.cst.ahead ++ [u], runs := runs }) }
  let d := d.capturePoint (fun x => x.point == 1 && decide (x.rowFirst ≤ u) && decide (u < x.rowFirst + x.rowCount)) ws
    (fun x => decide (x.rowCount ≤ x.rowsSeen + 1))
  ((d.writeMarks u).itemIn 6).showCistern

/-- Refills of lines end without their words: their rows leave the Cistern. The banks whose refills they were recover no
longer. -/
def Device.dropRefills (d : Device) (gone : Nat → Bool) : Device :=
  let banks := (d.cst.refill.filter (fun r => gone r.1 && decide (r.2 < 1024))).map Prod.snd
  let d := { d with cst := { d.cst with refill := d.cst.refill.filter (fun r => !gone r.1), first := d.cst.first.filter (fun l => !gone l) } }
  (d.each banks (fun d b => d.recovered 5 b)).putFlag fRefill (!d.cst.refill.isEmpty)

/-- Release the slots of rows that are no longer kept, with their written bits. -/
def Device.releaseWhere (d : Device) (kept : Nat → Bool) : Device :=
  match d.job with
  | none => d
  | some j =>
    let gone := d.cst.rows.filter (fun u => !kept u)
    if gone.isEmpty then d
    else
      let lines := gone.flatMap j.rowLines
      let d := { d with cst := { d.cst with rows := d.cst.rows.filter kept,
                                            written := d.cst.written.filter (fun l => !lines.contains l) } }
      ((d.dropRefills (fun l => lines.contains l)).count 6 4 gone.length).showCistern

/-- Release the slots of rows that have left the held range in force (R106). -/
def Device.releaseRows (d : Device) : Device :=
  match d.job with
  | none => d
  | some j => d.releaseWhere j.holds

/-- The rows brought in ahead are rows of the pass that now begins. -/
def Device.takeAhead (d : Device) : Device := { d with cst := { d.cst with rows := d.cst.rows ++ d.cst.ahead, ahead := [] } }

/-- A row of the pass in progress stays in its slot to the end of that pass, where the pass after it reads the same stripe
again in whole-stripe mode. -/
def Device.staysFor (d : Device) (j k : Job) (u : Nat) : Bool :=
  j.key == k.key && d.wholeStripe j j.cur.len && d.cst.rows.contains u &&
    (let h := j.heldAt ((j.nFlashes : Int) - 1); decide (h.1 ≤ u) && decide ((u : Int) ≤ h.2))

/-- A row of the pass `k` is in the Cistern: `k` is the pass in progress, or the one after it. -/
def Device.inCistern (d : Device) (k : Job) (u : Nat) : Bool :=
  match d.job with
  | none => false
  | some j => if j.samePass k then d.cst.rows.contains u else d.cst.ahead.contains u || d.staysFor j k u

/-- Clear the Cistern and the look-ahead: at reset, at job start and by an abort (R107). -/
def Device.clearCistern (d : Device) : Device :=
  let d := d.dropRefills (fun _ => true)
  ({ d with cst := { scrub := d.cst.scrub } }).putFlag fBypass false

/-- The row that a line holds, and its place in the row. For a line that holds no row of a job, as the scrubber may meet it,
both are free values: R126 states none. -/
def Device.lineRow (d : Device) (l : Nat) : Nat × Nat :=
  match d.job with
  | none => (Config.freeNat d.freeCtr, Config.freeNat (d.freeCtr + 1))
  | some j => (((d.cst.rows ++ d.cst.ahead).find? (fun u => (j.rowLines u).contains l)).getD (Config.freeNat d.freeCtr), l % (j.width / 64))

/-- Record a read that R108 or R109 governs: the first since VALID was cleared; of the reads of one clock that of the lowest rill, and a
rill's before one by the scrubber or the reader, whose number is 0x1FF (R125, R126). -/
def Device.recordUnwritten (d : Device) (double : Bool) (rill l : Nat) : Device :=
  let v := d.reg CST_UNWR_INFO
  if bitOf v 17 && !(bitOf (d.justSet CST_UNWR_INFO) 17 && decide (rill % 512 < v % 512)) then d
  else
    let (row, line) := d.lineRow l
    ((d.setReg CST_UNWR_INFO (131072 + b2n double * 65536 + rill % 512)).put36 CST_UNWR_ROW row).setReg CST_UNWR_LINE (line % 512)

/-- An error of a Cistern pair met by a read (R109): a single-bit error is corrected; a double-bit error clears the
line's written bit and its refill begins. Each charges the pair's bank. -/
def Device.cellError (d : Device) (e : CellError) (rill : Nat) : Device :=
  let row := (d.lineRow e.line).1
  let bank := (32 * e.line + e.pair.val) % 1024
  let settle := fun (d : Device) =>
    match d.charge 5 bank (b2n e.double) row with
    | (.permanent, d) => d.raise 68
    | (_, d) => d
  if e.double then
    let held := d.lineWritten e.line
    let d := (d.bump (whole CST_ECC_UNCORR)).raise 65
    let d := settle (d.recordUnwritten true rill e.line)
    if held then
      ({ d with cst := { d.cst with written := d.cst.written.filter (fun l => l != e.line),
                                    refill := d.cst.refill ++ [(e.line, bank)] } }).putFlag fRefill true
    else d.recovered 5 bank
  else (settle ((d.bump (whole CST_ECC_CORR)).raise 64)).recovered 5 bank

end Sys2Proof.Machine
end

