-- ==== Sys2Proof/Machine/TableOps.lean ====
section
/-! DEFINITION. The switch of committed tables as the command engine sees it (R475, R478, R479). Tables carry the numbers
of R487. -/
namespace Sys2Proof.Machine

/-! ## Meetings in one clock (R143, R188, R273, R310) -/

/-- The commit of a table becomes pending. -/
def Device.pendTable (d : Device) (t : Nat) : Device :=
  { d with tbl := { d.tbl with pendAt := (t, d.clock) :: d.tbl.pendAt.filter (fun p => p.1 != t) } }

/-- The commit of a table became pending in this tick. -/
def Device.tableFresh (d : Device) (t : Nat) : Bool := d.tbl.pendAt.contains (t, d.clock)

/-- The table switched at a boundary in this tick. -/
def Device.switchedNow (d : Device) (t : Nat) : Bool := d.tbl.switchAt.contains (t, d.clock)

/-- Tables switch at a boundary that falls now. -/
def Device.noteSwitch (d : Device) (ts : List Nat) : Device :=
  { d with tbl := { d.tbl with switchAt := ts.map (fun t => (t, d.clock)) ++ d.tbl.switchAt.filter (fun p => !ts.contains p.1) } }

/-- The boundary in this tick, as stripe and layer. -/
def Device.boundaryNow (d : Device) (b : Option (Nat × Nat × Nat)) : Option (Nat × Nat) :=
  b.bind (fun x => if x.1 == d.clock then some x.2 else none)

/-! ## Completions -/

/-- Tables have switched at a boundary: commands that wait for them complete when their last one has, with the class and
DETAIL of that switch, and a deferred commit raises event 22. COMMIT_TAKEN says that a table of the command switched at a boundary
(`met`) in the clock of its commit (R480). -/
def Device.tablesTaken (d : Device) (ts : List Nat) (applied detail : Nat) (met : Bool) : Device :=
  let fresh := fun (l : List Nat) => met && l.any (fun t => ts.contains t && d.tableFresh t)
  let was := d.ulp.deferredTables.any (fun t => ts.contains t)
  let d := ({ d with ulp := { d.ulp with deferredTables := d.ulp.deferredTables.filter (fun t => !ts.contains t) } }).when was (fun d => d.raise 22)
  d.each d.ulp.flights (fun d f =>
    match f.wait with
    | .tables l false false =>
      let left := l.filter (fun t => !ts.contains t)
      if left.isEmpty then d.complete f sOK detail [] applied (fresh l)
      else if left.length == l.length then d else d.await f (.tables left false false)
    | _ => d)

end Sys2Proof.Machine
end

