-- ==== Sys2Proof/Machine/PoolOps.lean ====
section
/-! DEFINITION. Shared operations of dose classes, the pool map and proximity correction (R127 to R144): the kernel taps,
the filter, the factor at a pixel, the dose word, and the switch of pool tables. -/
namespace Sys2Proof.Machine

/-! ## Kernel taps (R131) -/

/-- The fixed-point scale of the exponential: 2^192. -/
def expOne : Nat := 2 ^ 192

/-- The alternating series of exp(-y) for y in units of 1/expOne: `n` terms from term `i`, whose value is `t`. -/
def expSeries : Nat → Nat → Nat → Nat → Int
  | 0, _, _, _ => 0
  | n + 1, i, t, y => (t : Int) - expSeries n (i + 1) (t * y / (expOne * (i + 1))) y

/-- exp(-num/den) in units of 1/expOne: a series on a small argument, squared up. -/
def expNeg (num den : Nat) : Nat :=
  let k := Nat.log2 (num / den + 1) + 2
  let y := num * expOne / (den * 2 ^ k)
  Nat.repeat (fun v => v * v / expOne) k (expSeries 48 0 expOne y).toNat

/-- The taps t(0) to t(r) for σ in units of 1/1024 cell (R131). -/
def tapTable (sigma r : Nat) : List Nat :=
  let es := (List.range r).map (fun i => expNeg ((i + 1) * (i + 1) * 1048576) (sigma * sigma))
  let sum := expOne + 2 * es.sum
  let ts := es.map (fun e => (rndDiv (131072 * e : Nat) sum).toNat)
  (131072 - 2 * ts.sum) :: ts

/-- Fill the tap windows for a job (R131, R157). -/
def Device.loadTaps (d : Device) : Device :=
  if !d.pcEn then d
  else d.each (List.range d.nGauss) (fun d m => d.setRegs (POOL_TAP (256 * m)) (tapTable (d.reg (POOL_G_SIGMA m)) d.radius))

/-- The tap windows read 0 outside WRITING and HELD (R157). -/
def Device.clearTaps (d : Device) : Device := d.each (List.range 1024) (fun d i => d.setReg (POOL_TAP i) 0)

/-- t_m(k) (R131). -/
def Device.tap (d : Device) (m : Nat) (k : Int) : Nat := d.reg (POOL_TAP (256 * m + k.natAbs))

/-! ## The filter (R128, R129, R132, R133) -/

/-- The stored cells of a stripe: gxs, NX, gys and NY. -/
def Device.stripeCells (d : Device) (j : Job) (k : Nat) : Int × Nat × Int × Nat :=
  let s := j.stripeAt k
  let c := d.cellPix
  let (xs, ys) := j.gridOffset s
  let gxs := xs / c
  let gxe := (xs + s.len - 1) / c
  (gxs, (gxe - gxs + 1).toNat, ys / c, j.width / c)

/-- The density of a cell, from the stripes of the ring (R128, R129). -/
def Device.density (d : Device) (lo hi : Nat) (gx gy : Int) : Nat :=
  ((d.pool.dens.find? (fun e => decide (lo ≤ e.1) && decide (e.1 ≤ hi) && e.2.1 == gx && e.2.2.1 == gy)).map (fun e => e.2.2.2)).getD 0

/-- The offsets -r to r. -/
def reachList (r : Nat) : List Int := (List.range (2 * r + 1)).map (fun (i : Nat) => (i : Int) - r)

/-- F17 of every cell of a stripe, unclamped (R132). -/
def Device.filtered (d : Device) (j : Job) (k : Nat) : List ((Int × Int) × Int) :=
  let (gxs, nx, gys, ny) := d.stripeCells j k
  let r := d.radius
  let lead := d.poolLead j
  let sat := fun (v : Nat) => min ((rndDiv (v : Int) 131072).toNat) 262143
  (List.range nx).flatMap (fun (ix : Nat) =>
    let gx := gxs + ix
    -- H of this column, one list for each Gaussian, from gy = gys - r on
    let hs := (List.range d.nGauss).map (fun m => (List.range (ny + 2 * r)).map (fun (iy : Nat) =>
      sat ((reachList r).map (fun e => d.tap m e * d.density (k - lead) (k + lead + 1) (gx + e) (gys - r + iy))).sum))
    (List.range ny).map (fun (iy : Nat) =>
      let sum := (hs.zipIdx.map (fun p =>
        let g := sat ((reachList r).map (fun e => d.tap p.2 e * p.1.getD (iy + ((r : Int) + e).toNat) 0)).sum
        sext 18 (d.reg (POOL_G_WEIGHT p.2)) * g)).sum
      ((gx, gys + iy), rndDiv sum 65536)))

/-- The correction factor of a clamped F17, from a dose factor table (R133). -/
def factorOf (dft : List Nat) (f : Nat) : Nat :=
  let i := f / 128
  let t := fun i => (dft.getD i 65536 : Int)
  (t i + rndDiv ((t (min (i + 1) 1023) - t i) * (f % 128 : Nat)) 128).toNat

/-! ## The factor and the dose of a pixel (R135, R136) -/

/-- q_pix at pixel offset (u, v) from the grid origin, from the q of a stripe's own cells. -/
def qPixel (c : Nat) (cells : Int × Nat × Int × Nat) (q : List ((Int × Int) × Nat)) (u v : Int) : Nat :=
  let (gxs, nx, gys, ny) := cells
  let px := 2 * u + 1 - c
  let py := 2 * v + 1 - c
  let gx := px / (2 * c)
  let gy := py / (2 * c)
  let wx := px - 2 * c * gx
  let wy := py - 2 * c * gy
  let cx := fun (x : Int) => max gxs (min x (gxs + nx - 1))
  let cy := fun (y : Int) => max gys (min y (gys + ny - 1))
  let at_ := fun (a b : Int) => (((q.find? (fun e => e.1 == (cx (gx + a), cy (gy + b)))).map Prod.snd).getD 0 : Int)
  (rndDiv ((2 * c - wx) * (2 * c - wy) * at_ 0 0 + wx * (2 * c - wy) * at_ 1 0 + (2 * c - wx) * wy * at_ 0 1 + wx * wy * at_ 1 1)
    (4 * c * c)).toNat

/-- The dose word of a pixel from the accumulators of its classes, and whether step 6 clamped it (R136). -/
def doseWord (snap : PoolSnap) (q : Nat) (covers : List (Nat × Nat)) : Nat × Bool :=
  let s := (covers.map (fun p =>
    let (factor, correct) := snap.classes.getD p.1 (65536, true)
    min p.2 65536 * factor * (if correct then q else 65536))).sum
  let x := (rndDiv (s * snap.factor : Nat) (2 ^ 48)).toNat
  (min x snap.doseMax, decide (snap.doseMax < x))

/-! ## Table switches (R140 to R143) -/

def fPoolPending (t : Nat) : Fld := bitAt POOL_COMMIT_STATUS t
def fPoolTaken (t : Nat) : Fld := bitAt POOL_COMMIT_STATUS (4 + t)

/-- Copy a shadow into its active copy: 0 class table, 1 dose factor table, 2 layer table, 3 DOSE_MAX. -/
def Device.copyPool (d : Device) (t : Nat) : Device :=
  match t with
  | 0 => d.each (List.range 64) (fun d c =>
      (d.setReg (POOL_CLASS_ACT c) (d.reg (POOL_CLASS c))).putFlag (bitAt (POOL_CLASS_ACT c + 4) 8) (d.flag (bitAt (POOL_CLASS c + 4) 8)))
  | 1 => d.each (List.range 1024) (fun d i => d.setReg (POOL_DFT_ACT i) (d.reg (POOL_DFT i)))
  | 2 => d.each (List.range 256) (fun d i => d.setReg (POOL_LAYER_ACT i) (d.reg (POOL_LAYER i)))
  | _ => { d with pool := { d.pool with doseMax := d.reg POOL_DOSE_MAX } }

/-- The pool region holds new densities, strips or x-pass results (R139). -/
def Device.fillPool (d : Device) : Device := d.fillRegion (d.get36 POOL_REGION_BASE) (d.get36 POOL_REGION_LINES)

/-- The pending pool tables switch, at a stripe and layer; in READY both read 0x3_FFFF (R142, R153). -/
def Device.switchPool (d : Device) (stripe layer applied : Nat) : Device :=
  let ts := (List.range 4).filter (fun t => d.flag (fPoolPending t))
  if ts.isEmpty then d
  else
    let d := d.each ts (fun d t =>
      ((((d.copyPool t).when (applied == clsStripe && d.tableFresh t) (fun d => d.putFlag (fPoolTaken t) true)).putFlag (fPoolPending t) false).setReg (POOL_SWITCH_STRIPE t) stripe).setReg (POOL_SWITCH_LAYER t) layer)
    ((d.noteSwitch ts).raise 73).tablesTaken ts applied (if applied == clsStripe then stripe else 0) (applied == clsStripe)

/-- What a stripe's raster passes keep from its raster boundary (R137). -/
def Device.poolSnap (d : Device) (stripe layer : Nat) : PoolSnap :=
  { layer := layer, stripe := stripe,
    classes := (List.range 64).map (fun c => (d.reg (POOL_CLASS_ACT c), d.flag (bitAt (POOL_CLASS_ACT c + 4) 8))),
    factor := d.reg (POOL_LAYER_ACT (min layer 255)), doseMax := d.pool.doseMax,
    dft := (List.range 1024).map (fun i => d.reg (POOL_DFT_ACT i)) }

/-- The pending tables switch at the raster boundary of a stripe, whose snapshot is taken (R137, R142). -/
def Device.switchRaster (d : Device) (stripe layer : Nat) : Device :=
  let d := d.switchPool stripe layer clsStripe
  { d with pool := { d.pool with
      snaps := d.pool.snaps.filter (fun x => !(x.stripe == stripe && x.layer == layer)) ++ [d.poolSnap stripe layer] } }

/-- The raster boundary of a stripe (R141). -/
def Device.rasterBoundary (d : Device) (stripe layer : Nat) : Device :=
  let d := (d.setReg POOL_BOUNDARY stripe).setReg (POOL_BOUNDARY + 4) layer
  let d := d.switchRaster stripe layer
  { d with tbl := { d.tbl with raster := some (d.clock, stripe, layer) } }

/-- The stripe whose correction may begin: the first stripe of the raster's layer, from the next raster pass on, that is
not TALLY_ONLY and has no correction; its tallies are complete (R89, R134). -/
def Device.correctionNext (d : Device) (j : Job) : Option Nat :=
  let ks := (List.range (j.stripes.length - d.csc.nextStripe)).map (fun i => d.csc.nextStripe + i)
  match ks.find? (fun k => !(j.stripeAt k).tallyOnly && !(d.pool.q.any (fun p => p.1 == (d.csc.nextLayer, k)))) with
  | some k => if d.csc.tallyLayer == d.csc.nextLayer && min (k + d.poolLead j) j.lastStripe < d.csc.tallyDone then some k else none
  | none => none

/-! ## Weir 1 (R111, R116, R134) -/

/-- The stripe whose raster comes next, after the one whose raster has begun, has a complete tally and no correction yet (R134). -/
def Device.nextUnmet (d : Device) (j : Job) : Bool :=
  let from_ := d.csc.nextStripe + b2n (d.csc.raster.isSome || d.csc.nextPass != 0)
  let ks := ((List.range (j.stripes.length - from_)).map (fun i => from_ + i)).filter (fun k => !(j.stripeAt k).tallyOnly)
  ks.head?.any (fun k => d.csc.tallyLayer == d.csc.nextLayer && decide (k < d.csc.tallyDone) &&
    !d.pool.q.any (fun p => p.1 == (d.csc.nextLayer, k)))

/-- NEED and LEVEL of weir 1: the complete tallies ahead of the stripe that is rasterised or comes next. The stripe whose raster
comes next is not counted as met until its correction is complete (R134). -/
def Device.showPoolWeir (d : Device) : Device :=
  match d.job with
  | none => d.setReg CSC_WEIR_POOL 0
  | some j =>
    let level := if d.csc.tallyLayer == d.csc.nextLayer then d.csc.tallyDone - (d.csc.nextStripe + 1) else 0
    d.setReg CSC_WEIR_POOL (d.poolLead j % 256 * 256 + min (level - b2n (d.pcEn && d.nextUnmet j)) 255)

/-! ## Errors in the pool region (R139, R144) -/

def fCorrRun : Fld := bitAt POOL_STATUS 17
def fPoolFailed : Fld := bitAt POOL_STATUS 15

/-- NX of the longest stripe of the job, and NY. -/
def Device.poolSize (d : Device) (j : Job) : Nat × Nat :=
  let longest := (j.stripes.map (fun s => s.len)).foldl max 0
  (((List.range j.stripes.length).filter (fun k => (j.stripeAt k).len == longest)).foldl (fun m k => max m (d.stripeCells j k).2.1) 0,
    j.width / d.cellPix)

/-- The lines of one stripe's cells. -/
def Device.stripLines (d : Device) (j : Job) : Nat := ceilDiv ((d.poolSize j).1 * (d.poolSize j).2) 64

/-- The lines of the pool ring. -/
def Device.ringLines (d : Device) (j : Job) : Nat := (2 * d.poolLead j + 2) * d.stripLines j

/-- The lines that the pool region needs (R139). -/
def Device.poolNeed (d : Device) (j : Job) : Nat :=
  let (nx, ny) := d.poolSize j
  d.ringLines j + 2 * d.stripLines j + d.nGauss * ceilDiv (nx * (ny + 2 * d.radius)) 64

/-- The places of the region's parts, PRESUMED: log entry 70. The ring comes first, then the two strips, then the x-pass results; a stripe
takes the place of the ring that its index gives, and the strips take turns. -/
def Device.ringAt (d : Device) (j : Job) (k : Nat) : Nat := d.get36 POOL_REGION_BASE + k % (2 * d.poolLead j + 2) * d.stripLines j
def Job.stripPlace (j : Job) (k : Nat) : Nat := ((List.range k).filter (fun i => !(j.stripeAt i).tallyOnly)).length % 2
def Device.stripAt (d : Device) (j : Job) (k : Nat) : Nat :=
  d.get36 POOL_REGION_BASE + d.ringLines j + j.stripPlace k * d.stripLines j

/-- A correction fails: FAILED, event 78, and the weirs run down. What was made for the stripe is dropped, so that no band of it is issued
(R144). -/
def Device.poolFails (d : Device) (key : Option (Nat × Nat)) : Device :=
  (((({ d with pool := { d.pool with corr := none, q := d.pool.q.filter (fun p => some p.1 != key) } }).putFlag fCorrRun false).putFlag fPoolFailed true).raise 78).runDry cFAULT

/-- The correction of a stripe is made again from the ring: its q is dropped, and no tile takes a factor until it is
complete. Another one that runs is completed first. -/
def Device.redoStrip (d : Device) (key : Nat × Nat) : Device :=
  let d := { d with pool := { d.pool with q := d.pool.q.filter (fun p => p.1 != key) } }
  let d := if d.pool.corr.isSome then d else ({ d with pool := { d.pool with corr := some key } }).putFlag fCorrRun true
  d.showPoolWeir

/-- An uncorrectable read of a line of the pool region (R144). -/
def Device.poolReadError (d : Device) (la : Nat) : Device :=
  let base := d.get36 POOL_REGION_BASE
  match d.job with
  | none => d
  | some j =>
    if !d.inJob || !d.pcEn || d.flag fPoolFailed || decide (la < base) || decide (base + d.poolNeed j ≤ la) then d
    else
      let k := d.csc.nextStripe
      if la - base < d.ringLines j then ((d.charge 6 0 1 k).2).poolFails d.pool.corr
      else
        let place := (la - base - d.ringLines j) / d.stripLines j
        let key := (d.pool.q.find? (fun p => j.stripPlace p.1.2 == place)).map Prod.fst
        match d.charge 6 0 0 k with
        | (.ignored, d) => d.poolFails key
        | (_, d) => key.elim d d.redoStrip

end Sys2Proof.Machine
end

