-- ==== Sys2Proof/Machine/Cascade.lean ====
section
/-! DEFINITION. The Cascades and the Basins (R80 to R103): records, tally and raster passes, tiles and the conservation
check, and the commit of bands. -/
namespace Sys2Proof.Machine

/-! ## Records (R82 to R89) -/

def fTallyRun : Fld := bitAt CSC_STATUS 17
def fRasterRun : Fld := bitAt CSC_STATUS 16

/-- BOUNDS: the record and every later record of its stream are discarded with the END, so that the pass never completes, and the
stream fails (R51, R61, R63). The slot may have closed when the error is found. -/
def Device.boundsError (d : Device) (j : Job) (pr : PassRead) (use : Reading) (r : LRec) : Device :=
  let n := pr.slot.getD 0
  let s := d.slot n
  let e : NdsErr := ⟨eBOUNDS, r.word⟩
  if s.isOpen && s.use == use && s.stripe == pr.stripe then d.streamError n e r.seq false []
  else ((d.recordStreamError n (j.stripeAt pr.stripe).streamId e r.seq false).putFlag fSprFailed true).runDry cWEIR

/-- With every engine retired no band completes (R96). -/
def Device.enginesLeft (d : Device) : Device := d.when ((List.range 16).all d.engineRetired) (fun d => d.runDry cWEIR)

/-- An engine error: the record is issued again, or the engine retires (R96). -/
def Device.cascadeError (d : Device) (e band : Nat) : Device :=
  match d.charge 3 e 0 band with
  | (.permanent, d) => (((d.raise 48).putFlag (bitAt CSC_STATUS e) true).raise 49).enginesLeft
  | (_, d) => d.raise 48

/-- Add contour pieces to the tiles of the raster pass (R85, R97). -/
def binTiles (ts : List Tile) (cs : List Contrib) : List Tile :=
  cs.foldl (fun ts c =>
    let add := fun (l : List (Nat × List Edge)) =>
      if l.any (fun p => p.1 == c.cls) then l.map (fun p => if p.1 == c.cls then (p.1, p.2 ++ c.edges) else p) else l ++ [(c.cls, c.edges)]
    if ts.any (fun t => t.band == c.band && t.tile == c.tile) then
      ts.map (fun (t : Tile) => if t.band == c.band && t.tile == c.tile then { t with classes := add t.classes } else t)
    else ts ++ [{ band := c.band, tile := c.tile, classes := [(c.cls, c.edges)] }]) ts

/-- The bands that a SECTION completes (R87). -/
def bandsBefore (j : Job) (s : Stripe) (xMin : Int) : Nat :=
  ((List.range (bandsOf s.len)).takeWhile (fun b => decide (s.x0 + 256 * (bandRows s.len b).2 ≤ xMin + j.originX))).length

/-- The reissued records of the engines are finished with this one (R495). -/
def Device.enginesRecover (d : Device) : Device := d.each (List.range 16) (fun d e => d.recovered 3 e)

/-- A record of the raster pass (R82 to R87). -/
def Device.rasterRecord (d : Device) (j : Job) (pr : PassRead) (r : LRec) (rest : List LRec) : Device :=
  let s := j.stripeAt pr.stripe
  if (d.shapesOf j s pr.layer r).any (outOfBounds r.box) then
    ({ d with csc := { d.csc with raster := some { pr with recs := [], ended := false } } }).boundsError j pr .raster r
  else
    let cs := d.contribsOf j s pr.layer false r
    let bands := match r.body with
      | .sect _ _ b => max d.csc.bands (bandsBefore j s b.x0)
      | .ends 3 => bandsOf s.len
      | _ => d.csc.bands
    let d := { d with csc := { d.csc with raster := some { pr with recs := rest }, tiles := binTiles d.csc.tiles cs, bands := bands } }
    d.enginesRecover.issueTiles

/-- A record of the tally pass (R82 to R89, R130). -/
def Device.tallyRecord (d : Device) (j : Job) (pr : PassRead) (r : LRec) (rest : List LRec) : Device :=
  let s := j.stripeAt pr.stripe
  if (d.shapesOf j s pr.layer r).any (outOfBounds r.box) then
    ({ d with csc := { d.csc with tally := some { pr with recs := [], ended := false } } }).boundsError j pr .tally r
  else
    let cs := d.contribsOf j s pr.layer true r
    (({ d with csc := { d.csc with tally := some { pr with recs := rest } } }).tallyAll j pr.layer pr.stripe cs).enginesRecover

/-- The tally records that the store holds lie at its start: module memory serves them now (R332). -/
def Device.tallyServes (d : Device) : Bool := d.regionServes (d.get36 CSC_TALLY_BASE) (ceilDiv d.tallyWords 64)

/-- The state after contributions to the tally store, or where module memory does not serve them yet, the state before (R332). -/
def Device.ifTallies (after before : Device) : Device := if after.tallyServes then after.regionUse else before

/-- A placement reads the cell library: module memory serves it now (R81, R332). -/
def Device.libraryReads (d : Device) (r : LRec) : Bool :=
  match r.body with
  | .place _ => d.regionServes (d.get36 CSC_LIB_BASE) (ceilDiv d.csc.libWords 64)
  | _ => true

/-- A cascade engine takes the next record of the raster pass, or of the tally pass where no raster record is ready
(R86). -/
def cascadeRecordEffect (e : Nat) (raster err : Bool) (d : Device) : Device :=
  let ready := fun (p : Option PassRead) => match p with | some pr => !pr.recs.isEmpty | none => false
  match d.job, (if raster then d.csc.raster else d.csc.tally) with
  | some j, some pr =>
    if !d.unitUp 2 || d.engineRetired e || !d.inJob || d.mem.libLost || (!raster && (ready d.csc.raster || !d.csc.tallyLeft.isEmpty)) then d
    else
      match pr.recs with
      | [] => d
      | r :: rest =>
        if !d.libraryReads r then d else
        let d := d.itemIn 3
        if err then
          let bs := (d.contribsOf j (j.stripeAt pr.stripe) pr.layer false r).map (fun c => c.band)
          d.cascadeError e (bs.foldl min (bs.headD d.csc.bands))
        else if raster then d.rasterRecord j pr r rest else (d.tallyRecord j pr r rest).ifTallies d
  | _, _ => d

def execCascadeRecord (engine : Fin 16) (raster : Bool) (engineError : Bool) (s : State) :=
  s.run (cascadeRecordEffect engine raster engineError)

/-- The tally pass continues from the piece that found no room (R89). -/
def tallyResumeEffect (d : Device) : Device :=
  match d.job, d.csc.tally with
  | some j, some pr =>
    if !d.unitUp 2 || d.csc.tallyLeft.isEmpty then d else (d.tallyAll j pr.layer pr.stripe d.csc.tallyLeft).ifTallies d
  | _, _ => d

def execTallyResume (s : State) := s.run tallyResumeEffect

/-- The densities of a stripe from the areas of its tally pass, with the cells that saturate (R130). -/
def Device.storeDensities (d : Device) (stripe : Nat) : Device :=
  let c2 : Rat := ((128 * d.cellPix * d.cellPix : Nat) : Int)
  let raw : List ((Int × Int) × Nat) := d.pool.acc.map (fun (a : (Int × Int) × Rat) => (a.1, (a.2 / c2).floor.toNat))
  let sat := (raw.filter (fun (a : (Int × Int) × Nat) => decide (wordMax < a.2))).length
  let d := { d with pool := { d.pool with acc := [],
                                          dens := d.pool.dens ++ raw.map (fun (a : (Int × Int) × Nat) => (stripe, a.1.1, a.1.2, min a.2 wordMax)) } }
  let d := d.when (!raw.isEmpty) Device.fillPool
  (d.bumpBy (whole POOL_DENS_SAT) sat).when (decide (0 < sat)) (fun d => d.raise 75)

/-- The tally pass of a stripe is complete: every record is taken and its slot is closed (R89, R130). -/
def tallyPassCompleteEffect (d : Device) : Device :=
  match d.job, d.csc.tally with
  | some j, some pr =>
    let slot := d.ringAt j pr.stripe
    let pool := d.pcEn && !d.pool.acc.isEmpty
    if !d.unitUp 2 || !pr.ended || !pr.recs.isEmpty || !d.csc.tallyLeft.isEmpty || (pool && !d.regionServes slot (d.stripLines j)) then d
    else
      let d := { d with csc := { d.csc with tally := none, tallyDone := d.csc.tallyDone + 1 } }
      let d := (d.putFlag fTallyRun false).when d.pcEn (fun d => d.storeDensities pr.stripe)
      let d := d.when pool (fun d => d.rewriteRegion slot (d.stripLines j))
      (d.raise 52).showPoolWeir
  | _, _ => d

def execTallyPassComplete (s : State) := s.run tallyPassCompleteEffect

/-! ## The raster pass (R89, R101) -/

/-- The first stripe from `k` on that is not TALLY_ONLY, or the number of stripes. -/
def Job.rasterFrom (j : Job) (k : Nat) : Nat :=
  (((List.range (j.stripes.length - k)).map (fun i => k + i)).find? (fun i => !(j.stripeAt i).tallyOnly)).getD j.stripes.length

/-- A raster pass may begin: the tallies of its stripe and of the pool lead are complete, and its correction (R89, R134). -/
def Device.rasterReady (d : Device) (j : Job) : Bool :=
  let k := d.csc.nextStripe
  d.csc.raster.isNone && d.csc.nextLayer < j.layers && k < j.stripes.length && d.csc.tallyLayer == d.csc.nextLayer &&
    min (k + d.poolLead j) j.lastStripe < d.csc.tallyDone &&
    (!d.pcEn || d.pool.q.any (fun p => p.1 == (d.csc.nextLayer, k))) && !d.flag fSprFailed && !d.csc.failed && !d.mem.libLost

/-- A raster pass begins (R89, R101); with PC_EN 0 the first of a stripe is its raster boundary (R138). -/
def rasterPassStartEffect (d : Device) : Device :=
  match d.job with
  | none => d
  | some j =>
    if !d.unitUp 2 || !d.inJob || !d.rasterReady j then d
    else
      let k := d.csc.nextStripe
      let layer := d.csc.nextLayer
      let d := d.when (!d.pcEn && d.csc.nextPass == 0) (fun d => d.rasterBoundary k layer)
      let d := { d with csc := { d.csc with raster := some { layer := layer, stripe := k, pass := d.csc.nextPass },
                                            bands := 0, committed := 0, tiles := [] } }
      (d.putFlag fRasterRun true).showPoolWeir

def execRasterPassStart (s : State) := s.run rasterPassStartEffect

/-! ## The Basins (R91 to R97) -/

def fBsnRetired (b : Nat) : Fld := if b < 18 then bitAt BSN_RETIRED b else bitAt (BSN_RETIRED + 4) (b - 18)
/-- The basin is in service. -/
def Device.basinIn (d : Device) (b : Nat) : Bool := !d.flag (fBsnRetired b)
/-- The lowest-numbered basin in service outside a list. -/
def Device.basinBut (d : Device) (skip : List Nat) : Option Nat := (List.range 32).find? (fun b => d.basinIn b && !skip.contains b)
/-- A tile is in the basin. -/
def Device.basinBusy (d : Device) (b : Nat) : Bool := d.csc.tiles.any (fun t => t.state == .raster && t.basin == b)

/-- The basin that a tile waits for: the lowest free one, or on a retry the one that R95 names, once it is free. -/
def Device.basinFor (d : Device) (t : Tile) : Option Nat :=
  if t.tries.isEmpty then (List.range 32).find? (fun b => d.basinIn b && !d.basinBusy b)
  else match d.basinBut t.skip with
    | some b => if d.basinBusy b then none else some b
    | none => none

/-- Store a tile. -/
def Device.setTile (d : Device) (t : Tile) : Device :=
  { d with csc := { d.csc with tiles := d.csc.tiles.map (fun x => if x.band == t.band && x.tile == t.tile then t else x) } }

/-- The tiles in band and tile order. -/
def Device.tilesInOrder (d : Device) : List Tile := sortBy (fun (t : Tile) => t.band * 128 + t.tile) d.csc.tiles

/-- The correction factors of the raster pass's stripe are there (R134, R144). -/
def Device.stripThere (d : Device) : Bool :=
  !d.pcEn || d.csc.raster.any (fun pr => d.pool.q.any (fun p => p.1 == (pr.layer, pr.stripe)))

/-- A free basin takes the first waiting tile that may use it (R95, R97). -/
def tileRasterStartEffect (b : Nat) (d : Device) : Device :=
  if !d.unitUp 3 || !d.stripThere then d
  else
    match d.tilesInOrder.find? (fun t => t.state == .issued && d.basinFor t == some b) with
    | some t => (d.setTile { t with state := .raster, basin := b }).itemIn 4
    | none => d

def execTileRasterStart (basin : Fin 32) (s : State) := s.run (tileRasterStartEffect basin)

/-- What a basin forms for a tile (R91 to R93, R135, R136). `upset`: an error of the basin, added to one coverage. -/
def Device.rasterise (d : Device) (j : Job) (pr : PassRead) (t : Tile) (b : Nat) (upset : Int) : BasinResult :=
  let s := j.stripeAt pr.stripe
  let r := tileRect s.len t.band t.tile
  let (lo, hi) := bandRows s.len t.band
  let snap := (d.pool.snaps.find? (fun p => p.layer == pr.layer && p.stripe == pr.stripe)).getD (d.poolSnap pr.stripe pr.layer)
  let q := ((d.pool.q.find? (fun p => p.1 == (pr.layer, pr.stripe))).map Prod.snd).getD []
  let off := j.gridOffset s
  let cells := d.stripeCells j pr.stripe
  let covers := t.classes.zipIdx.map (fun p => (p.1.1, (List.range (hi - lo)).map (fun (u : Nat) =>
    let row := rowCoverages p.1.2 (256 * fu * (lo + u)) r.y0
    if p.2 == 0 && u == 0 then (row.headD 0 + upset) :: row.drop 1 else row)))
  let all := covers.flatMap (fun c => c.2.flatMap id)
  let pixels := (List.range (hi - lo)).flatMap (fun (u : Nat) => (List.range 256).map (fun (v : Nat) =>
    let qp := if d.pcEn then qPixel d.cellPix cells q (off.1 + (lo + u)) (off.2 + (256 * t.tile + v)) else 65536
    doseWord snap qp (covers.map (fun c => (c.1, ((c.2.getD u []).getD v 0).toNat)))))
  { basin := b, sums := covers.map (fun c => (c.1, (c.2.flatMap id).sum)), doses := pixels.map Prod.fst,
    overlaps := (all.filter (fun a => decide (65536 < a))).length, clamps := (pixels.filter (fun p => p.2)).length,
    overflow := all.any (fun a => decide (67108863 < a)) }

/-- T and K of a class in a tally (R88). -/
def tallyClass (l : List (Nat × Int × Nat)) (c : Nat) : Int × Nat := ((l.find? (fun x => x.1 == c)).map Prod.snd).getD (0, 0)

/-- The classes of a result and a tally. -/
def classesOf (res : BasinResult) (l : List (Nat × Int × Nat)) : List Nat := (res.sums.map Prod.fst ++ l.map (fun x => x.1)).eraseDups

/-- S of a class. -/
def BasinResult.sum (res : BasinResult) (c : Nat) : Int := ((res.sums.find? (fun x => x.1 == c)).map Prod.snd).getD 0

/-- |S - T| in units of 2^-33 AU² is at most K/2 AU² for a class (R94). -/
def agrees (res : BasinResult) (l : List (Nat × Int × Nat)) (c : Nat) : Bool :=
  let (t, k) := tallyClass l c
  decide ((res.sum c * 8589934592 - t).natAbs ≤ k * 4294967296)

/-- The tile passes: every class agrees (R94). -/
def passes (res : BasinResult) (l : List (Nat × Int × Nat)) : Bool := (classesOf res l).all (agrees res l)

/-- The basins of a tile's failed attempts recover: the tile's retry ends (R495). -/
def Device.triesEnd (d : Device) (t : Tile) : Device := d.each t.tries (fun d r => d.recovered 4 r.basin)

/-- A tile is DONE with a result: its overlaps and clamps count, once a stripe with their events (R93, R136). -/
def Device.tileDone (d : Device) (pr : PassRead) (t : Tile) (res : BasinResult) : Device :=
  let key := some (pr.layer, pr.stripe)
  let d := (d.triesEnd t).setTile { t with state := .done, result := some res, tries := [] }
  let d := d.put36 BSN_OVERLAP (min (d.get36 BSN_OVERLAP + res.overlaps) (pairMod - 1))
  let d := d.put36 POOL_DOSE_CLAMP (min (d.get36 POOL_DOSE_CLAMP + res.clamps) (pairMod - 1))
  let d := if res.overlaps != 0 && d.csc.overlapSeen != key then ({ d with csc := { d.csc with overlapSeen := key } }).raise 60 else d
  if res.clamps != 0 && d.csc.clampSeen != key then ({ d with csc := { d.csc with clampSeen := key } }).raise 77 else d

/-- A tile fails: it is never done, so that nothing of its band commits, and the weirs run down. The bands before it go on (R95,
R98). -/
def Device.tileFails (d : Device) (t : Tile) : Device :=
  ((({ (d.triesEnd t) with csc := { d.csc with failed := true } }).setTile { t with state := .failed, tries := [] }).raise 59).runDry cFAULT

/-- Record a mismatch: the count, event 56, and the first one's registers, with its lowest class that disagrees (R118 to
R120). -/
def Device.mismatch (d : Device) (t : Tile) (res : BasinResult) (l : List (Nat × Int × Nat)) (attempt : Nat) : Device :=
  let d := (d.bump (whole BSN_MISMATCH_COUNT)).raise 56
  if d.flag (bitAt BSN_MM_INFO 17) then d
  else
    let c := ((classesOf res l).filter (fun c => !agrees res l c)).foldl min 63
    let (tt, k) := tallyClass l c
    let diff := (res.sum c * 8589934592 - tt).natAbs
    ((((d.setReg BSN_MM_INFO (131072 + c * 2048 + t.tile % 128 * 16 + attempt * 4)).setReg BSN_MM_BASIN res.basin).put36 BSN_MM_BAND t.band).setReg
      BSN_MM_RESID (min (ceilDiv diff 8589934592) wordMax)).setReg BSN_MM_TOL (min k wordMax)

/-- The tiles that wait for a second or third basin which R95 no longer finds in service: the second attempt gives way to
the re-tally, the third is a failure. -/
def Device.retriesSettle (d : Device) : Device :=
  d.each (d.csc.tiles.filter (fun t => t.state == .issued && !t.tries.isEmpty && (d.basinBut t.skip).isNone)) (fun d t =>
    if t.last then d.tileFails t else d.setTile { t with state := .retally })

/-- An error of a basin (R96). -/
def Device.basinError (d : Device) (b band : Nat) : Device :=
  match d.charge 4 b 0 band with
  | (.permanent, d) => (((d.putFlag (fBsnRetired b) true).raise 58).retriesSettle).when (!((List.range 32).any d.basinIn)) (fun d => d.runDry cWEIR)
  | (_, d) => d

/-- Judge a result against the tally of its tile: DONE, the next attempt, the re-tally or a failure (R94, R95). -/
def Device.judge (d : Device) (pr : PassRead) (t : Tile) (res : BasinResult) (l : List (Nat × Int × Nat)) : Device :=
  if res.overflow then d.tileFails t
  else if passes res l then d.tileDone pr t res
  else
    let d := (d.mismatch t res l (t.tries.length + 1)).basinError res.basin t.band
    let t := { t with tries := t.tries ++ [res], skip := t.skip ++ [res.basin] }
    if t.last then d.tileFails t
    else if t.tries.length == 1 && (d.basinBut t.skip).isSome then d.setTile { t with state := .issued }
    else d.setTile { t with state := .retally }

/-- A basin finishes a tile, and its sums are compared with the tally (R94); where the tally record cannot be read, the
re-tally stands for it (R337). -/
def tileCheckEffect (b : Nat) (upset : Int) (tallyErr : Bool) (d : Device) : Device :=
  match d.job, d.csc.raster with
  | some j, some pr =>
    if !d.unitUp 3 || !d.stripThere then d
    else
      match d.csc.tiles.find? (fun t => t.state == .raster && t.basin == b) with
      | none => d
      | some t =>
        if !d.tallyServes then d else
        match (if d.pcEn then d.badIn (d.stripAt j pr.stripe) (d.stripLines j) else none) with
        | some la => (d.uncorrectable la 4).poolReadError la
        | none =>
        let res := d.rasterise j pr t b upset
        if tallyErr then d.setTile { t with state := .retally, noRec := true, result := some res }
        else d.judge pr t res (d.tallyOf pr.layer pr.stripe t.band t.tile).classes
  | _, _ => d

def execTileCheck (basin : Fin 32) (upset : Int) (tallyErr : Bool) (s : State) := s.run (tileCheckEffect basin upset tallyErr)

/-- T′ and K′ of a tile from the raster pass's contours (R95). `upset`: an error of the engine, added to one area. -/
def retally (s : Stripe) (t : Tile) (upset : Int) : List (Nat × Int × Nat) :=
  let r := tileRect s.len t.band t.tile
  t.classes.zipIdx.map (fun p => (p.1.1, shoelace p.1.2 + (if p.2 == 0 then upset else 0), (p.1.2.map (rowCrossings r.x0)).sum))

/-- Take back the newest error of a basin: it is counted to the owning engine instead (step 4 of R95). -/
def Device.unchargeBasin (d : Device) (b : Nat) : Device :=
  let x := d.domain 4 b
  if x.permanent then d else d.setDomain { x with times := x.times.drop 1, recovering := false }

/-- Step 4 of R95: the owning engine is charged in place of the basins. -/
def Device.chargeOwner (d : Device) (owner band : Nat) : Device :=
  match d.charge 3 owner 0 band with
  | (.permanent, d) => ((d.putFlag (bitAt CSC_STATUS owner) true).raise 49).enginesLeft
  | (_, d) => d.recovered 3 owner

/-- A cascade engine re-tallies a tile (steps 3 to 6 of R95, R337). -/
def tileReTallyEffect (band tile : Nat) (upset : Int) (d : Device) : Device :=
  match d.job, d.csc.raster with
  | some j, some pr =>
    if !d.unitUp 2 then d
    else
      match d.csc.tiles.find? (fun t => t.state == .retally && t.band == band && t.tile == tile) with
      | none => d
      | some t =>
        let rec_ := d.tallyOf pr.layer pr.stripe band tile
        let owner := d.engineFrom rec_.owner
        if !((List.range 16).any (fun e => e != owner && !d.engineRetired e)) then d.tileFails t
        else
          let d := d.raise 57
          let l := retally (j.stripeAt pr.stripe) t upset
          match t.noRec, t.result with
          | true, some res =>
            let d := { d with csc := { d.csc with tallies := d.csc.tallies.map (fun (x : TallyRec) =>
              if x.layer == pr.layer && x.stripe == pr.stripe && x.band == band && x.tile == tile then { x with classes := l } else x) } }
            d.judge pr { t with noRec := false, result := none } res l
          | _, _ =>
            match t.tries.reverse.find? (fun r => passes r l) with
            | some res =>
              let d := d.each t.tries (fun d r => d.unchargeBasin r.basin)
              (d.chargeOwner owner band).tileDone pr t res
            | none =>
              let same := (rec_.classes.map (fun x => x.1) ++ l.map (fun x => x.1)).all (fun c => (tallyClass l c).1 == (tallyClass rec_.classes c).1)
              if same && (d.basinBut t.skip).isSome then d.setTile { t with state := .issued, last := true } else d.tileFails t
  | _, _ => d

def execTileReTally (band tile : Nat) (upset : Int) (s : State) := s.run (tileReTallyEffect band tile upset)

/-! ## Bands (R98 to R103) -/

/-- The dose words of row `u` of a band: a tile without geometry holds zeros (R98). -/
def Device.bandRow (d : Device) (j : Job) (len b u : Nat) : List Nat :=
  (List.range j.tilesAcross).flatMap (fun t =>
    match d.csc.tiles.find? (fun x => x.band == b && x.tile == t) with
    | some x => match x.result with
      | some r => (r.doses.drop (256 * (u - (bandRows len b).1))).take 256
      | none => List.replicate 256 0
    | none => List.replicate 256 0)

/-- The last raster pass of a stripe has ended: its tally records, its snapshot and its correction are freed (R89, R137);
the next raster pass is that of the next stripe, or of the next layer. -/
def Device.stripeRastered (d : Device) (j : Job) (layer k : Nat) : Device :=
  let d := { d with
    csc := { d.csc with tallies := d.csc.tallies.filter (fun r => !(r.layer == layer && r.stripe == k)), nextPass := 0 },
    pool := { d.pool with snaps := d.pool.snaps.filter (fun p => !(p.layer == layer && p.stripe == k)),
                          q := d.pool.q.filter (fun p => p.1 != (layer, k)) } }
  let next := j.rasterFrom (k + 1)
  let d := if next < j.stripes.length then { d with csc := { d.csc with nextStripe := next } }
    else { d with csc := { d.csc with nextLayer := layer + 1, nextStripe := j.rasterFrom 0 } }
  d.showTally.showPoolWeir

/-- The raster pass has committed its last band (R98, R101). -/
def Device.rasterPassEnds (d : Device) (j : Job) (pr : PassRead) : Device :=
  let d := ({ d with csc := { d.csc with raster := none, tiles := [] } }).putFlag fRasterRun false
  if d.wholeStripe j (j.stripeAt pr.stripe).len || decide (j.passes ≤ pr.pass + 1) then d.stripeRastered j pr.layer pr.stripe
  else { d with csc := { d.csc with nextPass := pr.pass + 1 } }

/-- The first band not committed is complete, its tiles are DONE, and it fits (R98, R111). -/
def Device.bandReady (d : Device) (j : Job) (pr : PassRead) : Bool :=
  let b := d.csc.committed
  decide (b < d.csc.bands) && (d.csc.tiles.filter (fun t => t.band == b)).all (fun t => t.state == .done) &&
    d.bandFits j (j.stripeAt pr.stripe).len b

/-- The conditions of bypass: the look-ahead is drained to the write front, and every row of the band is held (R103). -/
def Device.bypasses (d : Device) (j : Job) (pr : PassRead) (lo hi : Nat) : Bool :=
  d.dbLevel == 0 && pr.layer == j.layer && pr.stripe == j.stripe && (pr.pass == j.pass || d.wholeStripe j j.cur.len) &&
    (List.range (hi - lo)).all (fun i => j.holds (lo + i))

/-- Module memory takes the rows of the band that commits next, now, with their copies in the mirror in bypass (R100, R332). -/
def Device.bandServes (d : Device) (j : Job) (pr : PassRead) : Bool :=
  let (lo, hi) := bandRows (j.stripeAt pr.stripe).len d.csc.committed
  let byp := d.bypasses j pr lo hi
  (List.range (hi - lo)).all (fun i => d.memServes (d.lookAddr j (lo + i)) j.width &&
    (!byp || d.memServes (d.mirrorAddr (j.rowAddr (lo + i))) j.width))

/-- A band commits to the deep band, or by bypass to the Cistern in the same pass (R98, R100, R103). -/
def bandCommitEffect (d : Device) : Device :=
  match d.job, d.csc.raster with
  | some j, some pr =>
    if !d.unitUp 3 || !d.unitUp 4 || !d.bandReady j pr || !d.bandServes j pr then d
    else
      let len := (j.stripeAt pr.stripe).len
      let b := d.csc.committed
      let (lo, hi) := bandRows len b
      let rows := (List.range (hi - lo)).map (fun i => (lo + i, d.bandRow j len b (lo + i)))
      let byp := d.bypasses j pr lo hi
      let n := (d.csc.tiles.filter (fun t => t.band == b)).length
      let d := d.each rows (fun d r => d.putWords 5 (d.lookAddr j r.1) r.2)
      let d := { d with csc := { d.csc with committed := b + 1, tiles := d.csc.tiles.filter (fun t => t.band != b) } }
      let d := (d.count 4 4 n).showTiles
      let d := if byp then
          ((d.each rows (fun d r => d.rowIntoCistern j r.1 r.2)).when (!d.flag fBypass) (fun d => d.raise 67)).putFlag fBypass true
        else d
      -- rows that went past the look-ahead stay in it only for the later passes that read them
      let kept := !byp || d.keepsRows j
      let d := d.when kept (fun d => { d with cst := { d.cst with runs :=
        d.cst.runs ++ [({ layer := pr.layer, stripe := pr.stripe, pass := pr.pass, lo := lo, hi := hi } : DbRun)] } })
      let d := d.showCistern
      if b + 1 == bandsOf len then d.rasterPassEnds j pr else d.issueTiles
  | _, _ => d

def execBandCommit (s : State) := s.run bandCommitEffect

end Sys2Proof.Machine
end

