-- ==== Sys2Proof/Machine/Events.lean ====
section
/-! DEFINITION. The error log and the event controller (R504 to R517). -/
namespace Sys2Proof.Machine

/-- A write of SYS_ERRLOG_STATUS.CLEAR empties the log and leaves LSEQ running (R505, R521). -/
def writeErrlogClear (v : Nat) (d : Device) : Device :=
  if d.released 0 && bitOf v 17 then
    -- an entry of this clock is written after the clear
    let kept := fun (i : Nat) => d.rst.logAt.any (fun (x : Nat × Nat) => x.1 == d.clock && fseqGe (d.logLseq i) (x.2 + 1))
    let gone := (List.range 64).filter (fun i => d.logValid i && !kept i)
    let d := d.each gone Device.dropLog
    d.put fLogCount ((List.range 64).filter d.logValid).length
  else d

def execErrlogClear (value : Word) (s : State) := s.run (writeErrlogClear value.toNat)

/-- A write of EVT_DOORBELL: sources 0 to 255 as an edge; a value above raises source 30 (R510). -/
def writeDoorbell (v : Nat) (d : Device) : Device :=
  if !d.released 0 then d else if v < 256 then d.raise v else d.raise 30

def execEvtDoorbell (value : Word) (s : State) := s.run (writeDoorbell value.toNat)

/-- A source is due on the control cores: pending, with TARGET including them, and not served since it became
pending (R511). -/
def Device.dueOnCores (d : Device) (s : Nat) : Bool := d.isPending s && d.toCores s && !d.evt.coreDone.contains s

/-- The cores take the source that R511 orders first; they serve one at a time, and wait in a takeover and under
HOLD (R512, R515). -/
def coreDeliveryEffect (d : Device) : Device :=
  if !d.released 0 || d.evt.serving.isSome || d.ulp.takeover || d.flag fHold then d
  else
    match d.topSource d.dueOnCores with
    | none => d
    | some s =>
      let d := { d with evt := { d.evt with serving := some s } }
      (d.emit (.coreJump (d.reg EVT_CORE_BASE * 4096 + 16 * s))).itemOut 19

def execCoreDelivery (s : State) := s.run coreDeliveryEffect

/-- The firmware records the source and ends its service: with TARGET 0b01 the pending bit clears, otherwise the host
clears it (R504, R511, R512). -/
def serviceEndEffect (d : Device) : Device :=
  match d.evt.serving with
  | none => d
  | some s =>
    let d := { d with evt := { d.evt with serving := none } }
    let d := if d.target s == 1 then d.clearPending s
      else { d with evt := { d.evt with coreDone := d.evt.coreDone ++ [s] } }
    d.log logEvent false 0x1F s s 0

def execServiceEnd (s : State) := s.run serviceEndEffect

/-- A moderation timer that has reached MOD ends: one message for the sources then pending (R514). -/
def moderationTimerEffect (v : Nat) (d : Device) : Device :=
  match d.evt.timers.find? (fun t => t.1 == v) with
  | none => d
  | some t =>
    if d.clock < t.2 then d
    else
      let d := { d with evt := { d.evt with timers := d.evt.timers.filter (fun x => x.1 != v) } }
      if d.vectorPending v then d.issue v else d

def execModerationTimer (v : Fin 64) (s : State) := s.run (moderationTimerEffect v)

/-- A write of EVT_CTRL: HOLD; its return to 0 makes every delivery that is due (R515, R523). -/
def writeEvtCtrl (v : Nat) (d : Device) : Device :=
  if !d.released 0 then d
  else
    let d := d.putFlag fHold (bitOf v 17)
    if bitOf v 17 then d else d.issueDue

def execEvtHold (value : Word) (s : State) := s.run (writeEvtCtrl value.toNat)

/-- A W1C write of EVT_PENDINGd: each bit written 1 clears, and ends the service of its source (R509, R524). With TARGET
0b01 the end of the firmware's service alone clears it (R511). -/
def writePending (i v : Nat) (d : Device) : Device :=
  d.each (List.range 18) (fun d k =>
    d.when (bitOf v k && decide (18 * i + k < 256) && d.isPending (18 * i + k) && d.target (18 * i + k) != 1) (fun d => d.clearByHost (18 * i + k)))

/-- A write of EVT_SRCs_CFG: TARGET, PRIO and VECTOR, and OVERRUN W1C. A pending source is due on its new target; the
old vector's timer is cancelled when nothing else is pending on it (R517, R525). -/
def writeSrcCfg (s v : Nat) (d : Device) : Device :=
  let old := d.reg (EVT_SRC s)
  let oldV := d.vectorOf s
  let wasOn := d.isPending s && d.toVector s
  let d := d.setReg (EVT_SRC s) ((v &&& 0x3FFC0) ||| (old &&& 0x20) ||| (if bitOf v 4 then old &&& d.justSet (EVT_SRC s) &&& 0x10 else old &&& 0x10))
  if !d.isPending s then d
  else
    let cancel := wasOn && !d.vectorPending oldV
    let d := if cancel then { d with evt := { d.evt with timers := d.evt.timers.filter (fun t => t.1 != oldV), due := vecPut d.evt.due oldV false } } else d
    if d.toVector s && !(wasOn && d.vectorOf s == oldV) then d.vectorRise (d.vectorOf s) else d

/-- PME_Turn_Off: every running timer ends and the messages of every vector that is not masked are issued; then
PME_TO_Ack is sent, and the link leaves L0 (R516). -/
def pmeTurnOffEffect (d : Device) : Device :=
  if !d.released 21 then d
  else
    let vs := d.evt.timers.map Prod.fst
    let d := { d with evt := { d.evt with timers := [] } }
    let d := vs.foldl (fun d v => if d.vectorPending v then d.issue v else d) d
    let d := d.emit .pmeToAck
    { d with evt := { d.evt with linkL0 := false } }

def execPmeTurnOff (s : State) := s.run pmeTurnOffEffect

/-- Vectors of a set that hold a pending source are due (R516). -/
def Device.dueWhere (d : Device) (p : Nat → Bool) : Device :=
  (List.range 64).foldl (fun d v => if p v && d.vectorPending v then { d with evt := { d.evt with due := vecPut d.evt.due v true } } else d) d

/-- The host enables MSI-X and unmasks the function (none), or unmasks a vector: every message that waits on it is
issued, and a vector that has a pending source issues one when it is unmasked (R513, R514, R516). -/
def msixUnmaskEffect (what : Option (Fin 64)) (d : Device) : Device :=
  if !d.released 21 then d
  else
    match what with
    | none =>
      let was := d.evt.msixEnable
      let d := { d with evt := { d.evt with msixEnable := true } }
      (d.dueWhere (fun v => !was && !d.evt.vecMask.getLsbD v)).issueDue
    | some v =>
      let was := d.evt.vecMask.getLsbD v
      let d := { d with evt := { d.evt with vecMask := vecPut d.evt.vecMask v false } }
      (d.dueWhere (fun w => was && w == v.val)).issueDue

def execMsixUnmask (what : Option (Fin 64)) (s : State) := s.run (msixUnmaskEffect what)

/-- The PCIe link is in L0 again: every message that waited on the link is issued (R514). -/
def pcieL0EntryEffect (d : Device) : Device :=
  if !d.released 21 then d else ({ d with evt := { d.evt with linkL0 := true } }).issueDue

def execPcieL0Entry (s : State) := s.run pcieL0EntryEffect

end Sys2Proof.Machine
end

