-- ==== Sys2Proof/Machine/DmaOps.lean ====
section
/-! DEFINITION. Shared operations of the DMA channels and the check units (R353 to R371): instruction fetch, halts, the
control register, the flags, and the CRC that a unit forms. -/
namespace Sys2Proof.Machine

/-! ## Channels -/

def fDmaState (n : Nat) : Fld := { off := DMA_CH_STATE n, lo := 15, w := 3 }
def fDmaCause (n : Nat) : Fld := { off := DMA_CH_STATE n, lo := 11, w := 4 }
def fWaitLate (n : Nat) : Fld := bitAt (DMA_CH_STATE n) 10
def fPspace (n : Nat) : Fld := bitAt (DMA_CH_CTRL n) 10

/-- STATE codes of R370. -/
def dmaIDLE : Nat := 0
def dmaRUNNING : Nat := 1
def dmaWAITING : Nat := 2
def dmaPARKED : Nat := 3
def dmaHALTED : Nat := 4

/-- Halt causes of R363. -/
def haltBAD_INSTR : Nat := 1
def haltSRC_UE : Nat := 2
def haltDST_UE : Nat := 3
def haltHOST_ERR : Nat := 4
def haltREG_ERR : Nat := 5
def haltRANGE : Nat := 6
def haltCHK_BUSY : Nat := 7
def haltSTOPPED : Nat := 8

def Device.dmaState (d : Device) (n : Nat) : Nat := d.get (fDmaState n)
def Device.chan (d : Device) (n : Nat) : DmaChan := d.dma.chans.toList.getD n {}
def Device.mapChan (d : Device) (n : Nat) (f : DmaChan → DmaChan) : Device :=
  { d with dma := { d.dma with chans := d.dma.chans.set! n (f (d.chan n)) } }

/-- Set a channel's state with its bits in DMA_BUSY and DMA_HALTED (R369). -/
def Device.setDmaState (d : Device) (n s : Nat) : Device :=
  ((d.put (fDmaState n) s).putFlag (islandBit DMA_BUSY n) (s != dmaIDLE)).putFlag (islandBit DMA_HALTED n) (s == dmaHALTED)

/-- A 54-bit value in three dwords. -/
def Device.put54 (d : Device) (off v : Nat) : Device := d.setRegs off [bits v 0 18, bits v 18 18, bits v 36 18]

def Device.dmaPc (d : Device) (n : Nat) : Nat := d.get54 (DMA_CH_PC n)

/-- The length of an instruction in a program space: 18 bytes of host memory, or 2 DRAM groups (R356). -/
def instrLen (host : Bool) : Nat := if host then 18 else 2

/-- A DMA_RUN in flight ends with the channel's first park, its return to IDLE or its halt (R481). -/
def Device.dmaCommandEnds (d : Device) (n status detail : Nat) (results : List Nat) : Device :=
  d.completeWhere (fun w => w == Wait.dma n) status detail results

/-- The channel halts with a cause and the address of what failed (R363). PC holds its instruction already. -/
def Device.dmaHalt (d : Device) (n cause addr : Nat) : Device :=
  (((((d.setDmaState n dmaHALTED).put (fDmaCause n) cause).put54 (DMA_CH_FAULT_ADDR n) addr).raise (208 + n))).dmaCommandEnds n sDATA_ERROR cause []

/-- The opcode of an instruction. -/
def opOf (ws : List Nat) : Nat := bits (ws.headD 0) 14 4

/-- The encoding of an instruction is one that R356 defines: no refused opcode or field, and every undefined field 0. -/
def instrOk (ws : List Nat) : Bool :=
  let w := fun i => ws.getD i 0
  let zero := fun (l : List Nat) => l.all (fun i => w i == 0)
  match opOf ws with
  | 0 => bits (w 0) 0 12 == 0 && zero [1, 2, 3, 4, 5, 6, 7]
  | 1 => bits (w 0) 0 3 == 0 && decide (bits (w 0) 3 3 ≤ 4) && (bitOf (w 0) 7 || bits (w 0) 12 2 != 3) && (bitOf (w 0) 6 || bits (w 0) 10 2 != 3)
  | 2 => bits (w 0) 0 12 == 0 && w 2 != 0 && zero [3, 4, 5, 6, 7]
  | 3 =>
    bits (w 0) 0 12 == 0 &&
      (match bits (w 0) 12 2 with
       | 0 => decide (w 1 < 256) && zero [2, 3, 4, 5, 6, 7]
       | 1 => zero [1, 4, 5, 6, 7]
       | 2 => decide (w 1 < 16) && zero [2, 3, 4, 5, 6, 7]
       | _ => false)
  | 4 => bits (w 0) 0 12 == 0 && decide (w 1 < 256) && decide (w 2 < 16) && zero [3, 4, 5, 6, 7]
  | 5 => bits (w 0) 0 12 == 0 && decide (bits (w 0) 12 2 ≤ 1) && zero [4, 5, 6, 7]
  | _ => false

/-- Module DRAM holds 2^35 groups; host byte addresses have 54 bits (R353). -/
def dramGroups : Nat := 34359738368
def hostSpan : Nat := 18014398509481984

/-- Fetch the instruction at PC. The channel sees the program as it stands now, and decides about it when the
instruction's own command comes; a fetch that fails, a program address outside its space, or a bad encoding halts it. A fetch
from lines that the zero fill has not written waits (R332). A POKE that came while the fetch of an END waited, or in the clock in which
it completes, is kept (R361). -/
def Device.dmaFetch (d : Device) (n : Nat) : Device :=
  let c := d.chan n
  let pc := d.dmaPc n
  let d := (d.setDmaState n dmaRUNNING).mapChan n (fun c =>
    { c with instr := none, hit := false, done := 0, since := d.clock, readAt := d.clock, waits := false, staged := [], fail := none, stopping := false })
  if (if c.host then decide (hostSpan < pc + 18) else decide (dramGroups < pc + 2)) then d.dmaHalt n haltBAD_INSTR pc
  else if !c.host && !d.memServes (4 * pc) 8 then d.mapChan n (fun c => { c with waits := true })
  else if !c.host && d.readBad 8 (4 * pc) 8 then (d.readMet 8 (4 * pc) 8).dmaHalt n haltSRC_UE pc
  else
    let ws := if c.host then d.hostGroups pc 2 else d.dramWords (4 * pc) 8
    let d := if c.host then d else d.memUse (4 * pc) 8
    if instrOk ws then
      d.mapChan n (fun c => { c with instr := some ws, poke := opOf ws == 0 && (c.poke || c.pokeAt == some d.clock) })
    else d.dmaHalt n haltBAD_INSTR pc

/-- The fetches that wait for module memory are tried again. -/
def Device.dmaRetry (d : Device) : Device :=
  d.each (List.range 32) (fun d n => if (d.chan n).waits && d.dmaState n == dmaRUNNING then d.dmaFetch n else d)

/-- Continue at an address, in the program space that a LINK may have changed. -/
def Device.dmaGoto (d : Device) (n addr : Nat) : Device := (d.put54 (DMA_CH_PC n) (addr % hostSpan)).dmaFetch n

/-- Continue at the next instruction. -/
def Device.dmaNext (d : Device) (n : Nat) : Device := d.dmaGoto n (d.dmaPc n + instrLen (d.chan n).host)

/-- The instruction that the channel runs now, if its opcode is `op`. -/
def Device.dmaInstr (d : Device) (n op : Nat) : Option (List Nat) :=
  if d.unitUp 0 && d.inRun && d.dmaState n == dmaRUNNING then (d.chan n).instr.filter (fun ws => opOf ws == op) else none

/-! ## The control register (R360 to R363, R370) -/

/-- GO: in READY, WRITING and HELD an IDLE channel starts at its PC, that before a write of the same clock, with no running address, no
loaded counter and MOVED 0 (R360, R364). -/
def Device.dmaGo (d : Device) (n : Nat) : Device :=
  if d.dmaState n != dmaIDLE || !d.inRun then d
  else
    let d := match (d.chan n).pcWas with
      | some (t, pc) => if t == d.clock then d.put54 (DMA_CH_PC n) pc else d
      | none => d
    let d := ((d.putFlag (fWaitLate n) false).put (fDmaCause n) 0).put36 (DMA_CH_MOVED n) 0
    (d.mapChan n (fun c => { host := d.flag (fPspace n), pokeAt := c.pokeAt })).dmaFetch n

/-- POKE: a parked channel fetches again; one that has fetched an END, or whose fetch waits, keeps it for the park (R361). -/
def Device.dmaPoke (d : Device) (n : Nat) : Device :=
  if d.dmaState n == dmaPARKED then (if d.inRun then d.dmaFetch n else d)
  else if (d.dmaInstr n 0).isSome || (d.chan n).waits then d.mapChan n (fun c => { c with poke := true })
  else d.mapChan n (fun c => { c with pokeAt := some d.clock })

/-- CONTINUE: a halted channel retries from the failing group or the next unread one, or fetches its instruction again
(R363). -/
def Device.dmaContinue (d : Device) (n : Nat) : Device :=
  if d.dmaState n != dmaHALTED || !d.inRun then d
  else
    let d := d.put (fDmaCause n) 0
    if (d.chan n).instr.isSome then (d.setDmaState n dmaRUNNING).mapChan n (fun c => { c with readAt := d.clock }) else d.dmaFetch n

/-- The halt of a STOP. No group failed, so FAULT_ADDR stays. -/
def Device.dmaStopped (d : Device) (n : Nat) : Device :=
  (d.mapChan n (fun c => { c with stopping := false, fail := none })).dmaHalt n haltSTOPPED (d.get54 (DMA_CH_FAULT_ADDR n))

/-- STOP: a running, waiting or parked channel halts with cause STOPPED, once every group that it has read is written (R363). A STOP that
meets the completion of an END in its clock is ignored: a channel that has fetched an END halts as the clock ends (R364). -/
def Device.dmaStop (d : Device) (n : Nat) : Device :=
  let s := d.dmaState n
  if !(s == dmaRUNNING || s == dmaWAITING || s == dmaPARKED) || (d.chan n).endAt == some d.clock then d
  else if (d.chan n).staged.isEmpty && (d.dmaInstr n 0).isNone then d.dmaStopped n
  else d.mapChan n (fun c => { c with stopping := true })

/-- The clock ends: a STOP that has met no END of its channel in it takes effect (R364). -/
def Device.dmaStops (d : Device) : Device :=
  d.each (List.range 32) (fun d n =>
    if (d.chan n).stopping && (d.chan n).staged.isEmpty && d.dmaState n == dmaRUNNING then d.dmaStopped n else d)

/-- ABORT: a halted channel becomes IDLE (R363). -/
def Device.dmaAbort (d : Device) (n : Nat) : Device :=
  if d.dmaState n == dmaHALTED then ((d.setDmaState n dmaIDLE).put (fDmaCause n) 0).mapChan n (fun _ => {}) else d

/-- A write of DMA_CHn_CTRL: PRIO and PSPACE, then the actions in the order of their bits. -/
def writeDmaCtrl (n v : Nat) (d : Device) : Device :=
  if !d.unitUp 0 then d
  else
    let d := d.put { off := DMA_CH_CTRL n, lo := 10, w := 3 } (bits v 10 3)
    let d := (d.when (bitOf v 17) (fun d => d.dmaGo n)).when (bitOf v 16) (fun d => d.dmaPoke n)
    ((d.when (bitOf v 15) (fun d => d.dmaContinue n)).when (bitOf v 14) (fun d => d.dmaStop n)).when (bitOf v 13) (fun d => d.dmaAbort n)

/-! ## Flags (R359, R369) -/

def fDmaFlag (k : Nat) : Fld := bitAt DMA_FLAGS k

/-- A write of DMA_FLAG_SET: each bit written 1 sets its flag. -/
def writeDmaFlagSet (v : Nat) (d : Device) : Device :=
  if d.unitUp 0 then d.setReg DMA_FLAGS (d.reg DMA_FLAGS ||| v % 65536) else d

/-! ## Check units (R365 to R368, R371) -/

def fChkState (u : Nat) : Fld := { off := CHK_U_STATE u, lo := 15, w := 3 }
def fMismatch (u : Nat) : Fld := bitAt (CHK_U_STATE u) 14
def fOverfed (u : Nat) : Fld := bitAt (CHK_U_STATE u) 13
def fOwner (u : Nat) : Fld := { off := CHK_U_STATE u, lo := 8, w := 5 }
def fChkCause (u : Nat) : Fld := { off := CHK_U_STATE u, lo := 6, w := 2 }
def fPoly (u : Nat) : Fld := { off := CHK_U_CTRL u, lo := 13, w := 2 }
def fFold (u : Nat) : Fld := { off := CHK_U_CTRL u, lo := 10, w := 2 }

/-- STATE codes of R371. -/
def chkIDLE : Nat := 0
def chkSCANNING : Nat := 1
def chkARMED : Nat := 2
def chkFEEDING : Nat := 3
def chkDONE : Nat := 4
def chkERROR : Nat := 5

def Device.chkState (d : Device) (u : Nat) : Nat := d.get (fChkState u)

/-- The unit runs: SCANNING, ARMED or FEEDING. -/
def Device.chkBusy (d : Device) (u : Nat) : Bool := d.chkState u == chkSCANNING || d.chkState u == chkARMED || d.chkState u == chkFEEDING

/-- A CRC of R365: its width, its polynomial (bit-reversed where reflected), its initial value, reflection and the final
XOR. -/
structure CrcKind where
  width : Nat
  poly : Nat
  init : Nat
  refl : Bool
  xorOut : Nat
deriving DecidableEq, Repr

def crcKind (poly : Nat) : CrcKind :=
  match poly with
  | 0 => { width := 32, poly := 0x82F63B78, init := 0xFFFFFFFF, refl := true, xorOut := 0xFFFFFFFF }
  | 1 => { width := 32, poly := 0xEDB88320, init := 0xFFFFFFFF, refl := true, xorOut := 0xFFFFFFFF }
  | 2 => { width := 16, poly := 0x1021, init := 0xFFFF, refl := false, xorOut := 0 }
  | _ => { width := 64, poly := 0x42F0E1EBA9EA3693, init := 0, refl := false, xorOut := 0 }

/-- One bit enters a CRC. -/
def CrcKind.bit (k : CrcKind) (crc b : Nat) : Nat :=
  if k.refl then crcReflBit k.poly (crc ^^^ b) else crcBit k.width k.poly (crc ^^^ (b * 2 ^ (k.width - 1)))

/-- The bits of one word group in the order in which they enter (R366). -/
def groupBits (refl words : Bool) (ws : List Nat) : List Nat :=
  let unit := if words then 18 else 8
  let vals := if words then ws else leBytes 9 (groupVal ws)
  vals.flatMap (fun v => (List.range unit).map (fun i => bits v (if refl then i else unit - 1 - i) 1))

def Device.chkKind (d : Device) (u : Nat) : CrcKind := crcKind (d.get (fPoly u))
def Device.chkCrc (d : Device) (u : Nat) : Nat := d.dma.crcs.toList.getD u 0
def Device.setChkCrc (d : Device) (u v : Nat) : Device := { d with dma := { d.dma with crcs := d.dma.crcs.set! u v } }

/-- One group enters the unit's CRC. -/
def Device.chkEnter (d : Device) (u : Nat) (ws : List Nat) : Device :=
  let k := d.chkKind u
  d.setChkCrc u ((groupBits k.refl (d.flag (bitAt (CHK_U_CTRL u) 12)) ws).foldl k.bit (d.chkCrc u))

/-- The unit fails: ERROR with a cause and event 240 + u; its CHECK_RUN completes DATA_ERROR (R368, R481). -/
def Device.chkFail (d : Device) (u cause : Nat) : Device :=
  (((d.put (fChkState u) chkERROR).put (fChkCause u) cause).raise (240 + u)).completeWhere (fun w => w == Wait.check u) sDATA_ERROR 0 []

/-- A 64-bit value in four dwords. -/
def words64 (v : Nat) : List Nat := [bits v 0 18, bits v 18 18, bits v 36 18, bits v 54 10]

def Device.get64 (d : Device) (off : Nat) : Nat := d.get54 off + d.reg (off + 12) % 1024 * 2 ^ 54

/-- The result of a unit's CRC register. -/
def Device.chkResult (d : Device) (u : Nat) : Nat := d.chkCrc u ^^^ (d.chkKind u).xorOut

/-- The unit has taken its last group: DONE with RESULT. What follows comes as the clock ends, since an ABORT in the same clock forestalls
it (R368). -/
def Device.chkFinish (d : Device) (u : Nat) : Device :=
  let d := (d.put (fChkState u) chkDONE).setRegs (CHK_U_RESULT u) (words64 (d.chkResult u))
  { d with dma := { d.dma with ended := d.dma.ended ++ [u] } }

/-- A run that reached DONE in the clock that ends: MISMATCH, AUTO_SEQ and event 240 + u, and its CHECK_RUN completes (R367, R368, R481). -/
def Device.chkClose (d : Device) (u : Nat) : Device :=
  let result := d.chkResult u
  let wrong := d.flag (bitAt (CHK_U_CTRL u) 8) && result != d.get64 (CHK_U_EXPECT u)
  let d := d.when wrong (fun d => d.putFlag (fMismatch u) true)
  let d := d.when (d.flag (bitAt (CHK_U_CTRL u) 9)) (fun d => d.setReg (CHK_U_SEQ u) (d.reg (CHK_U_SEQ u) + 1))
  let d := (d.itemOut 16).raise (240 + u)
  if wrong then d.completeWhere (fun w => w == Wait.check u) sDATA_ERROR 0 []
  else d.completeWhere (fun w => w == Wait.check u) sOK 0 [result % 2 ^ 32, result / 2 ^ 32]

/-- The clock ends for the units that have taken their last group in it. -/
def Device.chkEnds (d : Device) : Device :=
  ({ d with dma := { d.dma with ended := [] } }).each d.dma.ended Device.chkClose

/-- The prefix group of FOLD (R367). -/
def Device.chkPrefix (d : Device) (u : Nat) : List Nat :=
  if d.get (fFold u) == 1 then [d.reg (CHK_U_START u), d.reg (CHK_U_START u + 4), d.reg (CHK_U_SEQ u), 0]
  else [d.reg (CHK_U_PFX0 u), d.reg (CHK_U_SEQ u), 0, 0]

/-- START: a scan begins, or a feed is armed; a bad configuration is an ERROR (R367, R368, R371). -/
def Device.chkStart (d : Device) (u : Nat) : Device :=
  if d.chkBusy u || !d.inRun then d
  else
    let len := d.get36 (CHK_U_LENGTH u)
    let d := (d.put36 (CHK_U_PROGRESS u) 0).put (fChkCause u) 0
    if d.get (fFold u) == 3 || len == 0 || decide (dramGroups < len) then d.chkFail u 2
    else
      let d := d.setChkCrc u (d.chkKind u).init
      let d := d.when (d.get (fFold u) != 0) (fun d => d.chkEnter u (d.chkPrefix u))
      d.put (fChkState u) (if d.flag (bitAt (CHK_U_CTRL u) 15) then chkARMED else chkSCANNING)

/-- ABORT: any state becomes IDLE, with no event, also in the clock of the last group (R368). A CHECK_RUN in flight then ends ABORTED. -/
def Device.chkAbort (d : Device) (u : Nat) : Device :=
  (({ d with dma := { d.dma with ended := d.dma.ended.filter (fun x => x != u) } }).put (fChkState u) chkIDLE).completeWhere (fun w => w == Wait.check u) sABORTED 0 []

/-- A write of CHK_Uu_CTRL: its fields where the unit does not run, then START, then ABORT. -/
def writeChkCtrl (u v : Nat) (d : Device) : Device :=
  if !d.unitUp 0 then d
  else
    let d := d.when (!d.chkBusy u) (fun d => d.put { off := CHK_U_CTRL u, lo := 8, w := 8 } (bits v 8 8))
    (d.when (bitOf v 17) (fun d => d.chkStart u)).when (bitOf v 16) (fun d => d.chkAbort u)

end Sys2Proof.Machine
end

