-- ==== Sys2Proof/Machine/Motion.lean ====
section
/-! DEFINITION. Stage set-points, the speed governor and the layer axes (R296 to R310): the servo boundary, and the
moves of the layer axes. -/
namespace Sys2Proof.Machine

/-- The plan of both axes has ended at a time: the stage's set-points rest. -/
def MotState.restAt (m : MotState) (t : Rat) : Bool :=
  (match planEnd m.planX with | some e => decide (e ≤ t) | none => m.planX.isEmpty) &&
  (match planEnd m.planY with | some e => decide (e ≤ t) | none => m.planY.isEmpty)

/-- The set-points rest now, and no motion is asked for. -/
def Device.atRest (d : Device) : Bool := d.mot.ask.isNone && d.mot.restAt d.clock

/-- The time at which the last motion ended. -/
def MotState.endTick (m : MotState) : Rat := max ((planEnd m.planX).getD 0) ((planEnd m.planY).getD 0)

/-- At rest for MOT_SETTLE µs (R301). -/
def Device.settled (d : Device) : Bool := d.atRest && decide (d.mot.endTick + (d.reg MOT_SETTLE % 65536 * 800 : Nat) ≤ d.clock)

/-- Ask for a motion: it begins at the first boundary strictly after this tick (R296). -/
def Device.askMotion (d : Device) (a : MotionAsk) : Device :=
  d.mapMot (fun m => { m with ask := some a, askTick := d.clock })

/-- Positions at a boundary, exact. -/
def MotState.xAt (m : MotState) (t : Rat) : Rat × Rat × Rat := planState m.planX m.x t
def MotState.yAt (m : MotState) (t : Rat) : Rat × Rat × Rat := planState m.planY m.y t

/-- A motion that has nowhere to go: the axis rests on, or comes to rest at once. -/
def restPlan (tb : Nat) (old : List Seg) (x : Int) (new : List Seg) : List Seg :=
  if !new.isEmpty then new
  else if old.isEmpty || (planEnd old).any (fun e => decide (e ≤ (tb : Rat))) then old
  else [{ t0 := tb, dur := some 0, x0 := x, v0 := 0, a0 := 0, jerk := 0 }]

/-- A limit of 0, or a stop limit below the matching pass limit: a move or a job completes BAD_PARAM (R301). -/
def Device.badLimits (d : Device) : Bool :=
  d.get36 MOT_ACC == 0 || d.get36 MOT_JERK == 0 || decide (d.get36 MOT_STOP_ACC < d.get36 MOT_ACC) || decide (d.get36 MOT_STOP_JERK < d.get36 MOT_JERK)

/-- MOVE ends before its motion begins, under limits that no move may have (R301). -/
def Device.moveRefused (d : Device) : Device :=
  (d.completeWhere (fun w => w == .moveEnd) sBAD_PARAM detailDerived []).mapMot (fun m => { m with ask := none, readyMove := false })

/-- Begin the motion that was asked for before this boundary (R296, R301, R305, R306). One that a limit of 0 leaves no way to make waits
for another limit. -/
def Device.beginMotion (d : Device) (tb : Nat) : Device :=
  let acc := d.limit MOT_ACC
  let jerk := d.limit MOT_JERK
  let m := d.mot
  if !(decide (m.askTick < tb)) then d
  else
    match m.ask with
    | none => d
    | some .stop =>
      let (x, vx, ax) := m.xAt tb
      let (y, vy, ay) := m.yAt tb
      let sa := d.limit MOT_STOP_ACC
      let sj := d.limit MOT_STOP_JERK
      if (vx != 0 || ax != 0 || vy != 0 || ay != 0) && (decide (sa ≤ 0) || decide (sj ≤ 0)) then d else
      let px := planStop tb x vx ax sa sj
      let py := planStop tb y vy ay sa sj
      let d := d.mapMot (fun m => { m with ask := none, planX := restPlan tb m.planX (ratRound x) px, planY := restPlan tb m.planY (ratRound y) py, x := planRest px (ratRound x),
                                           y := planRest py (ratRound y), runOut := false })
      d.put fMState (if px.isEmpty && py.isEmpty then msREST else msSTOPPING)
    | some (.move x y ready) =>
      if ready && d.badLimits then d.moveRefused
      else if (x != m.x || y != m.y) && (decide (acc ≤ 0) || decide (jerk ≤ 0)) then d
      else
      let v := d.reg MOT_VMOVE
      let d := d.mapMot (fun m => { m with ask := none, planX := restPlan tb m.planX m.x (planMove m.x x tb v acc jerk),
                                           planY := restPlan tb m.planY m.y (planMove m.y y tb v acc jerk), x := x, y := y, readyMove := ready })
      d.put fMState msMOVE
    | some .nextLayer => d
    | some (.backup x y) =>
      -- the limits that the acceptance of the resume captured (R306)
      let v := d.reg MOT_VMOVE
      let (acc, jerk) := match m.captured with
        | some (_, a, j) => (mkRat a 256, mkRat j 256)
        | none => (acc, jerk)
      if (x != m.x || y != m.y) && (decide (acc ≤ 0) || decide (jerk ≤ 0)) then d else
      let d := d.mapMot (fun m => { m with ask := none, planX := restPlan tb m.planX m.x (planMove m.x x tb v acc jerk),
                                           planY := restPlan tb m.planY m.y (planMove m.y y tb v acc jerk), x := x, y := y })
      d.put fMState msBACKUP

/-! ## The governor (R303, R304) -/

/-- The ramp of f2 and f3 between LOW and HIGH. -/
def weirFactor (level low high : Nat) (done : Bool) : Nat :=
  if done || decide (high ≤ level) then 65536 else if level ≤ low then 0 else 65536 * (level - low) / (high - low)

/-- fT of R303. -/
def tempFactor (t warn limit : Int) (floor_ : Nat) : Nat :=
  if t ≤ warn then 65536
  else max floor_ (65536 - ((65536 - floor_ : Nat) * (t - warn) / (limit - warn)).toNat)

/-- The four factors as the levels stand. -/
def Device.govFactors (d : Device) : List Nat :=
  [ weirFactor (d.get36 CST_WEIR_DB) (d.get36 MOT_GOV_DB_LOW) (d.get36 MOT_GOV_DB_HIGH) d.lastCommitted,
    weirFactor (d.reg CST_WEIR_LEAD) (d.reg MOT_GOV_CL_LOW) (d.reg MOT_GOV_CL_HIGH) d.lastHeld,
    tempFactor (sext 18 (d.reg FLS_HEAD_TEMP)) (sext 18 (d.reg FLS_TEMP_WARN)) (sext 18 (d.reg FLS_TEMP_LIMIT)) (d.reg MOT_GOV_TFLOOR % 131072),
    d.reg MOT_GOV_MESH % 131072 ]

/-- V_GOV in u12.6 AU/µs and the LIMITER code (R304). -/
def govTarget (vTop vMax vMin : Nat) (fs : List Nat) : Nat × Nat × Nat :=
  let f := fs.foldl min 65536
  let raw := vTop * f / 65536
  let capped := min vMax raw
  let v := max vMin capped
  let lim := if capped < vMin then 5 else if vMax < raw then 6 else if f < 65536 then (fs.findIdx (fun x => x == f)) + 1 else 0
  (f, v, lim)

/-- The governor at a boundary in RUN_IN and EXPOSE: factors, V_GOV, LIMITER and events 177 to 179 (R303, R304). A run
begins at V_TOP. -/
def Device.govern (d : Device) : Device :=
  match d.mot.pass with
  | none => d
  | some p =>
    let (f, v, lim) := govTarget p.vTop (d.reg MOT_VMAX) (d.reg MOT_VMIN) d.govFactors
    let was := d.mot.vGov.getD p.vTop
    let d := ((d.setReg MOT_GOV_FACTOR f).setReg MOT_GOV_VTGT v).put fLimiter lim
    let d := d.when (decide (v < p.vTop) && decide (p.vTop ≤ was)) (fun d => d.raise 177)
    let d := d.when (v == d.reg MOT_VMIN && d.mot.vGov != some v && decide (v < p.vTop)) (fun d => d.raise 178)
    let d := d.when (decide (p.vTop ≤ v) && decide (was < p.vTop)) (fun d => d.raise 179)
    d.mapMot (fun m => { m with vGov := some v })

/-- The profile pursues the V_GOV of the boundary before, in run-in as in cruise, never above V_TOP (R304). The run-in has
become a cruise once its plan has reached its speed. -/
def Device.pursue (d : Device) (tb : Nat) : Device :=
  match d.mot.pass, d.mot.vGov with
  | some p, some g =>
    let steady := d.mot.planX.getLast?.any (fun s => s.dur.isNone && decide (s.t0 ≤ (tb : Rat)))
    let d := d.when (steady && d.get fMState == msRUN_IN) (fun d => d.put fMState msCRUISE)
    let acc := d.limit MOT_ACC
    let jerk := d.limit MOT_JERK
    let dir : Rat := (d.job.elim 1 Job.dir : Int)
    let endless := d.mot.planX.getLast?.any (fun s => s.dur.isNone)
    let v := speedMs (min g p.vTop)
    let stale := planStale d.mot.planX tb v dir acc jerk d.govChanged
    d.when endless (fun d => d.mapMot (fun m =>
      { m with planX := pursuePlan m.planX m.x tb v (speedMs p.vTop) dir acc jerk d.govChanged,
               govLimits := if stale then some (d.get36 MOT_ACC, d.get36 MOT_JERK) else m.govLimits }))
  | _, _ => d

/-! ## Layer axes (R307, R308) -/

/-- The commanded position of a trapezoid after `k` servo periods: VMAX in 1/1,024, ACC in 2^-18 microsteps (R308). With either
0 it never moves. -/
def layerPos (mv : LayerMove) (k : Nat) : Rat × Bool :=
  let dist : Rat := ((mv.p1 - mv.p0).natAbs : Int)
  let s : Rat := if mv.p0 ≤ mv.p1 then 1 else -1
  let a : Rat := mkRat mv.acc 262144
  let v0 : Rat := mkRat mv.vmax 1024
  let v : Rat := if v0 * v0 ≤ dist * a then v0 else sqrtRat (dist * a)
  if v ≤ 0 || a ≤ 0 then ((mv.p0 : Rat), mv.p0 == mv.p1)
  else
    let t1 := v / a
    let tc := dist / v - t1
    let total := 2 * t1 + tc
    let t : Rat := (k : Int)
    if total ≤ t then ((mv.p1 : Rat), true)
    else if t ≤ t1 then (mv.p0 + s * (a * t * t / 2), false)
    else if t ≤ t1 + tc then (mv.p0 + s * (v * t1 / 2 + v * (t - t1)), false)
    else (mv.p1 - s * (a * (total - t) * (total - t) / 2), false)

/-- Fields of a layer axis (R320). -/
def fLaxEn (k : Nat) : Fld := bitAt (MOT_LAX_CTRL k) 17
def fLaxVerify (k : Nat) : Fld := bitAt (MOT_LAX_CTRL k) 16

/-- CTRL and CUR in force for a layer axis: its registers, or what they were when the axis last captured them (R302). -/
def Device.laxSet (d : Device) (k : Nat) : Nat × Nat := (d.mot.lax.toList.getD k none).getD (d.reg (MOT_LAX_CTRL k), d.reg (MOT_LAX_CUR k))

/-- The registers of a layer axis come into force. -/
def Device.captureLax (d : Device) (k : Nat) : Device := d.mapMot (fun m => { m with lax := m.lax.set! k none })

/-- The axis rests on its target: no move of it waits or is being sent (R308, R320). -/
def Device.laxRests (d : Device) (k : Nat) : Bool := (d.mot.layer.toList.getD k none).all (fun mv => mv.sent)

/-- A write of CTRL or CUR in a job, or while the axis moves or settles, leaves what the axis captured in force (R302). -/
def Device.laxWritten (d0 d : Device) (k : Nat) : Device :=
  if !(d0.inJob || (d0.mot.layer.toList.getD k none).any (fun mv => mv.running)) then d
  else d.mapMot (fun m => { m with lax := m.lax.set! k (some (d0.laxSet k)) })

/-- Sine-table commit status (R319). -/
def fSinePending : Fld := bitAt MOT_COMMIT_STATUS 0
def fSineTaken : Fld := bitAt MOT_COMMIT_STATUS 1
def fSineLost : Fld := bitAt MOT_COMMIT_STATUS 2

/-- A layer move starts in this tick. -/
def Device.moveNow (d : Device) : Bool := d.tbl.layerMove == some d.clock

/-- The sine table switches: the active entries take the shadow, event 188. COMMIT_TAKEN says that the commit met the start of a layer
move (R308, R310, R311). -/
def Device.switchSine (d : Device) : Device :=
  let d := d.each (List.range 256) (fun d i => d.setReg (MOT_SINE_ACT i) (d.reg (MOT_SINE i)))
  let d := d.when (d.moveNow && d.tableFresh 9) (fun d => d.putFlag fSineTaken true)
  (((d.putFlag fSinePending false).noteSwitch [9]).raise 188).tablesTaken [9] (if d.inJob then clsStripe else clsImmediate) 0 d.moveNow

/-- The layer move of an axis, stored. -/
def Device.layerMove (d : Device) (k : Nat) : Option LayerMove := (d.mot.layer.toList.getD k none)
def Device.setLayerMove (d : Device) (k : Nat) (m : Option LayerMove) : Device :=
  d.mapMot (fun s => { s with layer := s.layer.set! k m })

/-- Some layer axis moves or waits to move. -/
def Device.layerBusy (d : Device) : Bool := (List.range 2).any (fun k => (d.layerMove k).isSome)

/-- A layer move decided before this boundary starts, captures its settings, and takes a pending sine-table commit; it is refused
while its encoder is FAILED or in LOS with VERIFY 1, event 189 (R296, R302, R308). An axis that is not driven never moves
(R307). -/
def Device.startLayerMove (tb : Nat) (d : Device) (k : Nat) : Device :=
  match d.layerMove k with
  | some mv =>
    if mv.running || !decide (mv.asked < tb) then d
    else if !d.flag (fLaxEn k) then (d.setLayerMove k none).completeWhere (fun w => w == .layerGoto k) sNO_RESOURCE 0 []
    else if d.flag (fLaxVerify k) && (d.flag (fHeadFailed (4 + k)) || d.flag (fHeadLos (4 + k))) then
      let d := (d.setLayerMove k none).raise 189
      let d := if mv.goto then d else d.mapMot (fun m => { m with again := m.again ++ [(k, if mv.fresh then none else some mv.p1)] })
      let d := d.completeWhere (fun w => w == .layerGoto k) sNO_RESOURCE 0 []
      d.stopRequest cFAULT
    else
      let mv := if mv.fresh then { mv with fresh := false, p1 := s36 (w36 (d.getS36 (MOT_LAX_TARGET k) + d.getS36 (MOT_LAX_PITCH k))) } else mv
      let d := (d.captureLax k).setLayerMove k (some { mv with running := true, vmax := d.reg (MOT_LAX_VMAX k), acc := d.reg (MOT_LAX_ACC k) })
      let d := { d with tbl := { d.tbl with layerMove := some d.clock } }
      ((d.when (d.flag fSinePending) Device.switchSine).putFlag (fLaxMoving k) true).putS36 (MOT_LAX_TARGET k) mv.p1
  | none => d

/-- The set-point of a running layer move for the next boundary; the last one ends the motion (R308). -/
def Device.advanceLayer (d : Device) (k : Nat) : Device :=
  match d.layerMove k with
  | some mv =>
    if !mv.running || mv.sent then d
    else
      let (p, done) := layerPos mv (mv.period + 1)
      let d := (d.putS36 (MOT_LAX_CMD k) p.floor).setLayerMove k (some { mv with period := mv.period + 1, sent := done, ended := d.mot.nextBoundary + 800 * d.get fServo })
      if done then d.putFlag (fLaxMoving k) false else d
  | none => d

/-- Step 3 of R309: every layer move of the handshake is complete, settled and checked, and LAYER_DONE falls. -/
def Device.layersMoved (d : Device) : Device :=
  if d.mot.layerStep == 2 && !d.layerBusy && d.mot.again.isEmpty then
    (d.mapMot (fun m => { m with layerStep := 3 })).putFlag fLayerDone false
  else d

/-- T[m] of the active sine table, T[256] taken as 131,071 (R307). -/
def Device.sine (d : Device) (m : Nat) : Nat := if m == 256 then 131071 else d.reg (MOT_SINE_ACT m) % 131072

/-- The phase currents of a layer axis as s0.17 words (R307). -/
def Device.phaseCurrents (d : Device) (k : Nat) : Nat × Nat :=
  let (ctrl, cur) := d.laxSet k
  if !bitOf ctrl 17 then (0, 0)
  else
    let e := (d.getS36 (MOT_LAX_CMD k) % 1024).toNat
    let m := e % 256
    let i := if (d.layerMove k).any (fun mv => mv.running) then cur / 512 else cur % 512
    let scale := fun (t : Nat) => (2 * t * i + 512) / 1024
    let up := scale (d.sine m)
    let down := scale (d.sine (256 - m))
    let neg := fun (x : Nat) => wrap 18 (-(x : Int))
    match e / 256 with
    | 0 => (down, up)
    | 1 => (neg up, down)
    | 2 => (neg down, neg up)
    | _ => (up, neg down)

/-! ## The servo boundary -/

/-- A rational in the nearest 1/256, ties upward, as 36 bits (s28.8, R298). -/
def fix8 (r : Rat) : Nat := w36 (ratRound (r * 256))

/-- A 36-bit value as two words. -/
def two (v : Nat) : List Nat := [v % wordMod, v / wordMod]

/-- Send the frame for the next boundary (R297, R298, R317). -/
def Device.sendFrame (d : Device) (tb : Nat) : Device :=
  let m := d.mot
  let t : Rat := (tb + 800 * d.get fServo : Nat)
  let (x, vx, ax) := m.xAt t
  let (y, vy, ay) := m.yAt t
  let px := w36 (ratRound x)
  let py := w36 (ratRound y)
  let (l1a, l1b) := d.phaseCurrents 0
  let (l2a, l2b) := d.phaseCurrents 1
  let w1 := m.seq % 256 * 1024 + d.get fMState * 128 + b2n (d.inWriting && d.phase == phExpose) * 64 +
    d.get (fLaxEn 0) * 32 + d.get (fLaxEn 1) * 16
  let ws := [0x2A5C3, w1] ++ two px ++ two (fix8 vx) ++ two (fix8 ax) ++ two py ++ two (fix8 vy) ++ two (fix8 ay) ++ [l1a, l1b, l2a, l2b]
  let d := ((((d.put36 MOT_SP px).put36 (MOT_SP + 8) py).put36 (MOT_SP + 16) (fix8 vx)).put36 (MOT_SP + 24) (tb % pairMod))
  ((d.mapMot (fun m => { m with seq := (m.seq + 1) % 256 })).emit (.setPoint (ws ++ [crcSetPoint ws]))).itemIn 10

/-! ## The mesh at a servo boundary (R417 to R419) -/

/-- The conditions of a run-in that do not lie with the stage: FLUSH acknowledged, no carrying lane in CAL, no refill, and
weir 5 at min(ARRAY_DEPTH, N - n) (R221, R227, R235, R278). -/
def Device.runReady (d : Device) (j : Job) : Bool :=
  d.lne.flushes.isEmpty && !((List.range 72).any (fun n => d.laneSt n == laneCal && (d.carried n).isSome)) && d.cst.refill.isEmpty &&
    ((d.showWeir.get fWeirLevel : Nat) : Int) == min (d.get fArrayDepth : Int) ((j.nFlashes : Int) - j.nextFlash) &&
    decide (j.nextFlash < j.nFlashes) && d.get fArrayDepth != 0

/-- A run may begin: in LEAD, or in the RUN_IN that an accepted resume enters, with no stop pending. On a worker that waits
for RUN, also in HELD. -/
def Device.awaitsRun (d : Device) : Bool :=
  (d.inWriting && !d.flag fStopPending && (d.phase == phLead || (d.phase == phRunIn && d.get fMState != msRUN_IN && !d.flag fArmed))) ||
    (d.inHeld && d.msh.resuming)

/-- A worker's REPORT: its factor, READY, HELD and LIVE, and its stitch point (R418). -/
def Device.sendReport (d : Device) : Device :=
  let f := (d.govFactors.take 3).foldl min 65536
  let ready := d.awaitsRun && d.job.any d.runReady
  let stitch := match d.job with
    | some j => if d.inHeld then j.fseq j.decidedN else d.get36 FLS_STITCH_FSEQ
    | none => d.get36 FLS_STITCH_FSEQ
  d.sendMesh 0 mREPORT ([f, b2n ready * 131072 + b2n d.inHeld * 65536 + 32768] ++ body36 stitch)

/-- MOT_GOV_MESH: the least factor of the latest reports; one older than 3 servo periods counts as 0, and
one of the boundary's own tick counts from the next (R418, R425). -/
def Device.meshFactor (d : Device) (tb : Nat) : Device :=
  let fs := d.workers.map (fun c =>
    match d.msh.reports.find? (fun r => r.col == c && decide (r.tick < tb)) with
    | some r => if tb ≤ r.tick + 2400 * d.get fServo then r.factor else 0
    | none => 0)
  d.setReg MOT_GOV_MESH (fs.foldl min 65536)

/-- The manager's BEAT (R419). -/
def Device.sendBeat (d : Device) : Device :=
  let last := match d.job with
    | some j => if d.inJob && (decide (0 ≤ j.decidedN) || j.fseq0 != 0) then j.fseq j.decidedN else noFseq
    | none => noFseq
  d.sendMesh toAll mBEAT ([d.st + d.phase * 8] ++ body36 last ++ [d.reg MOT_GOV_MESH % 131072])

/-- The write of MOT_COMMIT: a commit is pending until the next layer move, or takes the one that starts in the same tick;
it switches at once outside a job, or in HELD with both axes at rest (R308, R310, R319). -/
def writeSineCommit (v : Nat) (d : Device) : Device :=
  if !(d.released 13 && bitOf v 0) then d
  else
    let d := d.when (!d.flag fSinePending) (fun d => (d.putFlag fSinePending true).pendTable 9)
    if !d.inJob || d.moveNow || (d.inHeld && !(d.flag (fLaxMoving 0) || d.flag (fLaxMoving 1))) then d.switchSine else d

def execSineTableCommit (value : Word) (s : State) := s.run (writeSineCommit value.toNat)

/-- A GOTO is taken in READY or HELD with the axis at rest and EN 1 (R320). -/
def Device.gotoTaken (d : Device) (k : Nat) : Bool :=
  d.released 13 && (d.inReady || d.inHeld) && d.laxRests k && d.flag (fLaxEn k)

/-- Start a move of a layer axis to an absolute target (R308, R320). -/
def Device.startGoto (d : Device) (k : Nat) (target : Int) : Device :=
  d.setLayerMove k (some { p0 := d.getS36 (MOT_LAX_CMD k), p1 := target, vmax := 0, acc := 0, goto := true, asked := d.clock })

/-- The write of the high dword of MOT_LAXk_GOTO; the low dword was held (R10, R320). -/
def writeGoto (k hi : Nat) (d : Device) : Device :=
  let lo := (cellFind d.heldWrites (MOT_LAX_GOTO k)).elim 0 (fun w => w.toNat)
  let d1 := { d with heldWrites := cellErase d.heldWrites (MOT_LAX_GOTO k) }
  if d.gotoTaken k then d1.startGoto k (s36 (pairVal lo hi)) else d1

def execLayerAxisGoto (k : Fin 2) (value : Word) (s : State) := s.run (writeGoto k value.toNat)

/-- A non-exposing move has settled for MOT_SETTLE: MOVE and MOTION_STOP complete in READY (R301, R481), and a job
waits at its weirs in LEAD. -/
def moveSettledEffect (d : Device) : Device :=
  if !(d.released 13 && d.settled) then d
  else
    let d := d.when d.mot.readyMove (fun d =>
      let stopped := d.someWaits (fun w => w == .motionStop)
      let d := d.completeWhere (fun w => w == .moveEnd) (if stopped then sABORTED else sOK) 0 []
      (d.completeWhere (fun w => w == .motionStop) sOK 0 []).mapMot (fun m => { m with readyMove := false }))
    d.when (d.inWriting && d.phase == phStep) (fun d => d.setPhase phLead)

def execMoveSettled (s : State) := s.run moveSettledEffect

end Sys2Proof.Machine
end

