-- ==== Sys2Proof/Machine/Power.lean ====
section
/-! DEFINITION. Frost and Thaw (R527 to R535), the supply and temperature monitoring (R557 to R559) and the SMBus
(R560). Frost entry by its ULP command stands with the commands. -/
namespace Sys2Proof.Machine

/-- FSTATE codes (R542). -/
def fsRUN : Nat := 0
def fsENTERING : Nat := 1
def fsFROST : Nat := 2
def fsTHAWING : Nat := 3

/-- Every channel enters or leaves self-refresh (R328). -/
def Device.selfRefreshAll (d : Device) (b : Bool) : Device :=
  d.each (List.range 4) (fun d c => d.putFlag (bitAt (MEM_CH_STATE c) 4) b)

/-- The commit clock of Frost entry: lanes are down, channels in self-refresh, islands stopped, STATE FROST (R528). -/
def frostCommitEffect (d : Device) : Device :=
  if d.get fFState != fsENTERING || d.pwr.undoing then d
  else
    let d := d.each (List.range 72) (fun d n => d.when (d.laneSt n != laneRetired) (fun d => d.setLaneSt n laneDown))
    let d := (d.selfRefreshAll true).putFlag fEthKept (d.flag (bitAt PWR_CFG 17))
    let d := { d with pwr := { d.pwr with countWas := d.reg PWR_FROST_COUNT } }
    let d := (((d.setState stFrost).put fFState fsFROST).bump (whole PWR_FROST_COUNT))
    -- without ETH_KEEP the links and PTP go with island 20; the time of day runs on at the last rate
    let d := if d.flag fEthKept then d
      else { (d.put { off := PTP_STATUS, lo := 15, w := 3 } 0).put { off := ETH_STATUS, lo := 14, w := 4 } 0 with ptp := {}, eth := {} }
    { d with pwr := { d.pwr with commitAt := some d.clock }, lne := { d.lne with frames := [], flushes := [], line := [], handover := [], moves := [], calDue := [], rx := [], fresh := List.range 8 } }

def execFrostCommit (s : State) := s.run frostCommitEffect

/-- A wake in the commit clock wins over the entry: it does not count (R533). -/
def Device.undoCommit (d : Device) : Device :=
  ({ d with pwr := { d.pwr with commitAt := none } }.setReg PWR_FROST_COUNT d.pwr.countWas).setState stReady

/-- The wake with a set of causes: in FROST it begins Thaw, during entry it undoes the entry (R531, R533, R534). Causes
of one clock are all recorded (R535). Lanes train again under R228. -/
def Device.wakeBy (d : Device) (causes : Nat) : Device :=
  let fs := if d.get fFState == fsFROST && d.pwr.commitAt == some d.clock then fsENTERING else d.get fFState
  if fs == fsFROST || (fs == fsENTERING && !d.pwr.undoing) then
    let d := d.when (d.get fFState == fsFROST && fs == fsENTERING) Device.undoCommit
    let d := ((d.setReg PWR_WAKE_CAUSE causes).put fFState fsTHAWING).selfRefreshAll false
    let d := { d with pwr := { d.pwr with undoing := fs == fsENTERING, wakeAt := d.clock } }
    d.each (List.range 72) (fun d n => d.when (d.laneSt n == laneDown) (fun d => d.trainLane n))
  else if fs == fsTHAWING && d.pwr.wakeAt == d.clock then d.setReg PWR_WAKE_CAUSE (d.reg PWR_WAKE_CAUSE ||| causes)
  else d

/-- PWR_WAKE_EN as it was before a write of this clock (R535). -/
def Device.wakeEn (d : Device) : Nat := match d.pwr.enWas with | some x => if x.1 == d.clock then x.2 else d.reg PWR_WAKE_EN | none => d.reg PWR_WAKE_EN

/-- A caught edge sets its latch, and wakes the module where PWR_WAKE_EN has its bit. -/
def Device.latchWake (d : Device) (src : Nat) : Device :=
  let d := d.when (decide (src < 7)) (fun d => d.putFlag (bitAt PWR_LATCH src) true)
  if bitOf d.wakeEn src then d.wakeBy (2 ^ src) else d

/-- The acceptance clock of Frost: the latches are cleared and armed, and the edges of this clock are caught (R528, R532, R533). -/
def Device.frostEntry (d : Device) : Device :=
  let now := (d.pwr.edges.filter (fun x => x.2 == d.clock)).map Prod.fst
  ((d.setReg PWR_LATCH 0).put fFState fsENTERING).each now.reverse Device.latchWake

/-- A wake source fires: its latch is set when an edge of at least 2 ns comes while the latches are armed, and it ends
Frost when its PWR_WAKE_EN bit is 1 (R531, R532, R535). A shorter edge may be caught or missed. -/
def wakeEffect (src width : Nat) (d : Device) : Device :=
  let taken := src == 7 || 2 ≤ width || Config.pulseTaken d.freeCtr
  let d := if src != 7 && width < 2 then d.nextFree else d
  if !taken then d
  else if d.get fFState == fsRUN then { d with pwr := { d.pwr with edges := (src, d.clock) :: d.pwr.edges.filter (fun x => x.2 == d.clock) } }
  else d.latchWake src

def execWake (source : Fin 8) (widthNs : Nat) (s : State) := s.run (wakeEffect source widthNs)

/-- A write of PWR_CTRL.THAW ends Frost whatever PWR_WAKE_EN holds (R531, R543). -/
def writeThaw (v : Nat) (d : Device) : Device := if d.released 0 && bitOf v 17 then d.wakeBy 256 else d

def execThaw (value : Word) (s : State) := s.run (writeThaw value.toNat)

/-- Some lane is training (R228). -/
def Device.lanesTraining (d : Device) : Bool := (List.range 72).any (fun n => d.laneSt n == laneTraining)

/-- Thaw finishes, once the training of every lane has ended: READY, the latches clear, the Frost time is written, and the FROST command
completes (R534). -/
def thawCompleteEffect (d : Device) : Device :=
  if d.get fFState != fsTHAWING || d.lanesTraining then d
  else
    let ms := match d.pwr.commitAt with
      | some t => (d.clock - t) / 800000 % pairMod
      | none => 0
    let undone := d.pwr.undoing
    let d := (d.assignLanes.setState stReady).put fFState fsRUN
    let d := (d.setReg PWR_LATCH 0).put36 PWR_FROST_TIME ms
    let d := { d with pwr := { d.pwr with commitAt := none, undoing := false } }
    let d := d.when (d.released 20 && !d.flag fEthKept && d.get { off := PTP_STATUS, lo := 15, w := 3 } == 0) (fun d =>
      d.put { off := PTP_STATUS, lo := 15, w := 3 } (b2n (d.flag (bitAt PTP_CFG 17))))
    let t := d.get36 PWR_FROST_TIME
    d.completeWhere (fun w => w == .frost) (if undone then sWOKEN else sOK) 0 [d.reg PWR_WAKE_CAUSE, t % 2 ^ 32, t / 2 ^ 32]

def execThawComplete (s : State) := s.run thawCompleteEffect

/-! ## Supply and temperature monitoring -/

/-- A condition with hysteresis: it sets at its threshold, and clears below its clear level (R558). -/
def condNow (was set clear : Bool) : Bool := if was then !clear else set

/-- s10.8 °C from whole degrees. -/
def degC (n : Int) : Int := n * 256

/-- A register as it was before the writes of this tick. -/
def Device.beforeTick (d : Device) (kept : Option (Nat × Nat)) (a : Nat) : Nat :=
  match kept with
  | some (t, v) => if t == d.clock then v else d.reg a
  | none => d.reg a

/-- SMB_ALERT_L is low: one of the conditions of sources 11 to 15 holds (R558). -/
def Device.smbAlertLow (d : Device) : Bool := [13, 14, 15, 16, 17].any (fun i => d.flag (bitAt SYS_HW_STATUS i))

/-- One sample of the supply and temperatures (R557 to R559, R561 to R565). The thresholds are the values before any
write of the same tick. -/
def hwSampleCore (r : HwReading) (d : Device) : Device :=
  let ts := r.temps.toList.map (fun w => w.toNat)
  let t := fun (i : Nat) => sext 18 (ts.getD i 0)
  let d := ((d.setReg SYS_VIN r.vin.toNat).setReg SYS_IIN r.iin.toNat).setReg SYS_PIN r.pin.toNat
  let d := (d.setReg SYS_RAIL_STATUS r.rails.toNat).setRegs (SYS_TEMP 0) ts
  let hot := (List.range 13).foldl (fun b i => if t b < t i then i else b) 0
  let die := t hot
  let plate := t 13
  let dw := sext 18 (d.beforeTick d.pwr.dieWas SYS_DIE_WARN)
  let pw := sext 18 (d.beforeTick d.pwr.plateWas SYS_PLATE_WARN)
  let v := r.vin.toNat
  let was := fun i => d.flag (bitAt SYS_HW_STATUS i)
  -- 42.0 to 58.0 V in u8.10; cleared 0.5 V inside the band
  let vin := condNow (was 17) (decide (v < 43008) || decide (59392 < v)) (decide (43520 ≤ v) && decide (v ≤ 58880))
  let rail := r.rails.toNat != 0
  let dwarn := condNow (was 15) (decide (dw ≤ die)) (decide (die ≤ dw - degC 5))
  let pwarn := condNow (was 14) (decide (pw ≤ plate)) (decide (plate ≤ pw - degC 5))
  let crit := condNow (was 13) (decide (degC 110 ≤ die) || decide (degC 65 ≤ plate))
    (decide (die ≤ degC 105) && decide (plate ≤ degC 60))
  d.setReg SYS_HW_STATUS (b2n vin * 131072 + b2n rail * 65536 + b2n dwarn * 32768 + b2n pwarn * 16384 + b2n crit * 8192 + hot)

/-! ## SMBus -/

/-- IDENTIFY: the three identity registers, four bytes each, little-endian (R560). -/
def smbusIdentifyEffect (pecOk : Bool) (d : Device) : Device :=
  if !pecOk then d.emit .smbusNak
  else d.emit (.smbus ((leBytes 4 (d.reg SYS_DEVICE_ID)) ++ leBytes 4 (d.reg SYS_SILICON_REL) ++ leBytes 4 (d.reg SYS_FIRMWARE_REL)))

def execSmbusIdentify (pecOk : Bool) (s : State) := s.run (smbusIdentifyEffect pecOk)

end Sys2Proof.Machine
end

