-- ==== Sys2Proof/Machine/Position.lean ====
section
/-! DEFINITION. The position inputs (R251 to R269): encoder edges, latches, heads and compares, and what the island does in
every tick. -/
namespace Sys2Proof.Machine

/-- The filtered level of an input after `n` consecutive samples, the last in the present tick, that show `raw`: it follows the
third (R252). -/
def filtered (old raw : Bool) (n : Nat) : Bool := if 3 ≤ n then raw else old

/-- SPEED of a channel from its counted edges, newest first: POS change over tick change of the last
2^SPEED_LOG2 + 1 edges within 65,536 ticks, towards zero, s4.14 (R260). -/
def speedOf (now log2 : Nat) (edges : List (Nat × Int)) : Nat :=
  let es := (edges.filter (fun e => decide (now < e.1 + 65536))).take (2 ^ log2 + 1)
  match es.head?, es.getLast? with
  | some (t1, p1), some (t0, p0) => if t0 < t1 then wrap 18 (Int.tdiv ((p1 - p0) * 16384) (t1 - t0 : Nat)) else 0
  | _, _ => 0

/-- The direction flag and its extreme after a change of COUNT (R255). -/
def dirStep (hyst : Nat) (dir : Bool) (extreme count : Int) : Bool × Int :=
  if dir then
    if count ≤ extreme then (true, count) else if extreme + hyst < count then (false, count) else (true, extreme)
  else
    if extreme ≤ count then (false, count) else if count < extreme - hyst then (true, count) else (false, extreme)

/-- SPEED of a channel as the registers show it (R260, R288). -/
def Device.chSpeed (d : Device) (c : Nat) : Nat := speedOf d.clock (d.get fSpeedLog2) (d.head c).edges

/-- A counted step of a channel: COUNT, DIR and the edges that SPEED is formed from (R253, R255, R260). -/
def Device.countStep (d : Device) (c : Nat) (plus : Bool) : Device :=
  let up := plus != d.flag (bitAt (POS_CH_CTRL c) 17)
  let count := s36 (w36 (d.getS36 (POS_CH_COUNT c) + (if up then 1 else -1)))
  let h := d.head c
  let (dir, ext) := dirStep (d.get fDirHyst) (d.flag (fChDir c)) h.extreme count
  let d := (d.putS36 (POS_CH_COUNT c) count).putFlag (fChDir c) dir
  let es := ((d.clock, d.posOf c) :: h.edges).take 65
  d.setHead c { h with extreme := ext, edges := es }

/-- An illegal transition: QUAD_ERR, the window count, event 144 + c, and failure at QUAD_RUN (R254, R264). Each error keeps
the mean of D before it, so that M is that of the first of the run. -/
def Device.illegalStep (d : Device) (c : Nat) : Device :=
  let d := d.setHead c { d.head c with illegal := (d.clock, d.meanD (c / 2)) :: d.errorRun c }
  let d := (d.bump (whole (POS_CH_QUAD_ERR c))).raise (144 + c)
  if d.get fQuadRun ≤ (d.errorRun c).length then d.failHead c 1 else d

/-- What follows a change of a position: POS, the history of D, compares, REVERSAL, Y_DEV and the flash compare
(R256 to R259, R266, R269, R270). -/
def Device.moved (d : Device) (c : Nat) (turned : Bool) : Device :=
  let d := d.showPos.trackD.positionCompares
  let away := d.flag (fChDir c) != d.reversePass
  let d := d.when (turned && c == d.sourceOf 0 && d.inWriting && d.phase == phExpose && away)
    (fun d => (d.raise 164).stopRequest cREVERSAL)
  (d.yDeviation).flashCompare

/-- LEVELS of a head (R288). -/
def Head.levels (h : Head) : Nat := b2n h.a * 4 + b2n h.b * 2 + b2n h.z

/-- A and B of a channel have shown levels for some samples: the filtered levels, and the step between them (R252 to R254). -/
def encoderEdgeEffect (c : Nat) (a b : Bool) (na nb : Nat) (d : Device) : Device :=
  if !d.released 13 then d
  else
    let h := d.head c
    let h' := { h with a := filtered h.a a na, b := filtered h.b b nb }
    let step := (h'.q + 4 - h.q) % 4
    let d := (d.setHead c h').put (fChLevels c) h'.levels
    let dir := d.flag (fChDir c)
    if step == 0 then d
    else if step == 2 then (d.illegalStep c).moved c false
    else
      let d := d.countStep c (step == 1)
      d.moved c (d.flag (fChDir c) != dir)

def execEncoderEdge (ch : Fin 6) (a b : InputLevel) (s : State) := s.run (encoderEdgeEffect ch a.level b.level a.samples b.samples)

/-- Z of a channel has shown a level for some samples; a filtered rise latches COUNT (R252, R261). -/
def indexLatchEffect (c : Nat) (level : Bool) (n : Nat) (d : Device) : Device :=
  let h := d.head c
  let h' := { h with z := filtered h.z level n }
  if !d.released 13 || h' == h then d
  else if !h'.z then (d.setHead c h').put (fChLevels c) h'.levels
  else
    let d := (d.setHead c h').put (fChLevels c) h'.levels
    let d := (d.put36 (POS_CH_INDEX c) (d.get36 (POS_CH_COUNT c))).putFlag (fIndexValid c) true
    let d := { d with pos := { d.pos with indexAt := (c, d.clock) :: d.pos.indexAt.filter (fun p => p.1 != c) } }
    d.when (d.flag (bitAt (POS_CH_CTRL c) 16)) (fun d => d.raise 155)

def execIndexLatch (z : ZLevel) (s : State) := s.run (indexLatchEffect z.ch z.level z.samples)

/-- An always-on wake latch catches a filtered edge while it is armed, from the acceptance of Frost to the end of Thaw, and wakes the module
where PWR_WAKE_EN has its bit (R531, R532). -/
def Device.wakeLatch (d : Device) (i : Nat) : Device := d.when (d.get fFState != fsRUN) (fun d => d.latchWake i)

/-- A probe has shown a level for some samples: the filtered edge that EDGE selects latches, or sets OVERRUN while VALID is 1 (R252,
R262). -/
def probeLatchEffect (p : Nat) (level : Bool) (n : Nat) (d : Device) : Device :=
  let old := d.pos.probes.toList.getD p false
  let rising := filtered old level n
  if !d.released 13 || rising == old then d
  else
    let d := ({ d with pos := { d.pos with probes := d.pos.probes.set! p rising } }).wakeLatch (1 + p)
    let edge := bits (d.reg (POS_PRB_CTRL p)) 14 2
    if !(edge == 3 || (edge == 1 && rising) || (edge == 2 && !rising)) then d
    else if d.flag (bitAt (POS_PRB_CTRL p) 17) then d.putFlag (bitAt (POS_PRB_CTRL p) 16) true
    else
      let d := (d.put36 (POS_PRB_TICK p) d.tick).latchPos p
      let d := { d with pos := { d.pos with probeAt := (p, d.clock) :: d.pos.probeAt.filter (fun x => x.1 != p) } }
      (d.putFlag (bitAt (POS_PRB_CTRL p) 17) true).raise (153 + p)

def execProbeLatch (p : Fin 2) (input : InputLevel) (s : State) := s.run (probeLatchEffect p input.level input.samples)

/-- LOS on a channel: source 152 and the failure of the head (R264). -/
def headLosEffect (c : Nat) (d : Device) : Device :=
  if !d.released 13 then d else (d.setLos c true).failHead c 2

def execHeadLos (ch : Fin 6) (s : State) := s.run (headLosEffect ch)

/-- LOS of a channel ends; the head stays FAILED until it is restored (R264, R265). -/
def headLosClearEffect (c : Nat) (d : Device) : Device := if !d.released 13 then d else d.setLos c false

def execHeadLosClear (ch : Fin 6) (s : State) := s.run (headLosClearEffect ch)

/-- The present tick is the CHK_TICKS-th in which the running check sees the heads of an axis apart, or a later one (R263). -/
def Device.diverged (d : Device) (a : Nat) : Bool := d.checkRuns a && d.beyond a && decide (d.get fXchkTicks ≤ (d.axis a).apart + 1)

/-- The heads of an axis have diverged for CHK_TICKS ticks, which no earlier command has met (R263). -/
def headDivergenceEffect (yAxis : Bool) (d : Device) : Device :=
  let a := b2n yAxis
  if !(d.released 13 && d.diverged a && !d.flag (fDiv a)) then d
  else
    let e0 := d.qerrWin (2 * a) != 0
    let e1 := d.qerrWin (2 * a + 1) != 0
    let d := d.putFlag (fDiv a) true
    if e0 && !e1 then d.failHead (2 * a) 3
    else if e1 && !e0 then d.failHead (2 * a + 1) 3
    else (d.raise 151).stopRequest cHEAD

def execHeadDivergence (yAxis : Bool) (s : State) := s.run (headDivergenceEffect yAxis)

/-- A head is restored: FAILED and QERR_WIN clear, and OFFSET makes its POS equal POS_X or POS_Y (R265). The layer
channels have no axis position, so their OFFSET stays. -/
def Device.restoreHead (d : Device) (c : Nat) : Device :=
  let d := (d.setFailed c false).setHead c { (d.head c) with illegal := [] }
  if 4 ≤ c then d
  else
    let p := d.getS36 (posReg (c / 2))
    (d.putS36 (POS_CH_OFFSET c) (d.getS36 (POS_CH_OFFSET c) + p - d.posOf c)).showPos.trackD

/-- A RESTORE of the channel is taken: READY or HELD, and LOS clear (R265). -/
def Device.restoreTaken (d : Device) (c : Nat) : Bool := (d.inReady || d.inHeld) && !d.flag (fHeadLos c)

/-- The write of POS_HEAD_CTRL (R264, R265, R287): FAIL bits, then RESTORE bits. -/
def writeHeadCtrl (v : Nat) (d : Device) : Device :=
  if !d.released 13 then d
  else
    let d := d.each (List.range 6) (fun d c => d.when (bitOf v c) (fun d => d.failHead c 4))
    d.each (List.range 6) (fun d c => d.when (bitOf v (6 + c) && d.restoreTaken c) (fun d => d.restoreHead c))

def execHeadFail (value : Word) (s : State) := s.run (writeHeadCtrl (value.toNat % 64))
def execRestore (value : Word) (s : State) := s.run (writeHeadCtrl (value.toNat / 64 % 64 * 64))

/-- δ of R267: POS_TICK - T as a signed 36-bit value. -/
def Device.delta (d : Device) (t : Nat) : Int := s36 (w36 ((d.tick : Int) - t))

/-- Write the control of a compare: W1C bits, the direction and channel, and ARM (R268, R269, R289). -/
def armWrite (ctrl : Nat) (keep : Nat) (behind : Device → Bool) (v : Nat) (d : Device) : Device :=
  if !d.released 13 then d
  else
    let old := d.reg ctrl
    let flags := bits old 15 2 &&& ((3 - bits v 15 2) ||| bits (d.justSet ctrl) 15 2)
    let d := d.setReg ctrl (flags * 32768 + (v &&& keep))
    if !bitOf v 17 then d
    else if behind d then (d.putFlag (bitAt ctrl 16) true).raise 158
    else d.putFlag (bitAt ctrl 17) true

/-- A time compare is behind unless its TARGET lies ahead (R268). -/
def writeTimeCompare (k v : Nat) (d : Device) : Device :=
  armWrite (POS_TCMP_CTRL k) 0 (fun d => decide (0 ≤ d.delta (d.get36 (POS_TCMP_TARGET k)))) v d

def execTimeCompareArm (k : Fin 4) (value : Word) (s : State) := s.run (writeTimeCompare k value.toNat)

/-- A position compare is behind unless the position lies short of TARGET (R269). -/
def writePositionCompare (k v : Nat) (d : Device) : Device :=
  let d := armWrite (POS_PCMP_CTRL k) 0x7800 (fun d => d.reached k) v d
  d.when (d.released 13 && bitOf v 17) (fun d =>
    { d with pos := { d.pos with armedAt := (k, d.clock) :: d.pos.armedAt.filter (fun p => p.1 != k) } })

def execPositionCompareArm (k : Fin 4) (value : Word) (s : State) := s.run (writePositionCompare k value.toNat)

/-- An armed time compare with δ ≥ 0 fires: FIRED, disarmed, event 157; time compare 0 is a wake source (R268, R531). -/
def timeCompareFireEffect (k : Nat) (d : Device) : Device :=
  if d.released 13 && d.flag (bitAt (POS_TCMP_CTRL k) 17) && decide (0 ≤ d.delta (d.get36 (POS_TCMP_TARGET k))) then
    let d := ((d.putFlag (bitAt (POS_TCMP_CTRL k) 17) false).putFlag (bitAt (POS_TCMP_CTRL k) 15) true |>.itemIn 9).raise 157
    d.when (k == 0) (wakeEffect 7 0)
  else d

def execTimeCompareFire (k : Fin 4) (s : State) := s.run (timeCompareFireEffect k)

/-! ## Every tick -/

/-- The tick that ends: the cross-checks that have seen their heads apart through it (R263). -/
def Device.countApart (d : Device) : Device :=
  d.each [0, 1] (fun d a => d.setAxis a { d.axis a with apart := if d.checkRuns a && d.beyond a then (d.axis a).apart + 1 else 0 })

/-- The tick that begins: failovers decided in the one before take place; then the compares, the stop conditions that are
levels, and the flash compare are judged on the positions as they stand (R264, R266, R269, R270, R276, R279). -/
def Device.positionTick (d : Device) : Device :=
  let d := ((d.each [0, 1] Device.failover).trackD).positionCompares
  let d := d.when (d.inWriting && d.flag fTempLimit && !d.flag fStopPending) (fun d => d.stopRequest cTEMP)
  (d.yDeviation).flashCompare

end Sys2Proof.Machine
end

