-- ==== Sys2Proof/Machine/PassportOps.lean ====
section
/-! DEFINITION. The aperture-plate passport (R238 to R242): its commands, the checks of a response, and the usage
deltas. -/
namespace Sys2Proof.Machine

/-- PP_ERR codes (R244). -/
def ppNoDevice : Nat := 1
def ppFrameCrc : Nat := 2
def ppAnchor : Nat := 3
def ppCert : Nat := 4
def ppSig : Nat := 5
def ppCounter : Nat := 6
def ppTimeout : Nat := 7

/-- A transaction: CMD, LEN, the payload and the CRC, low byte first (R238). -/
def ppFrame (cmd : Nat) (payload : List Nat) : List Nat :=
  let body := [cmd] ++ leBytes 2 payload.length ++ payload
  body ++ leBytes 2 (crc16 body)

/-- Update the passport controller. -/
def Device.mapPp (d : Device) (f : PassportState → PassportState) : Device :=
  { d with lne := { d.lne with pp := f d.lne.pp } }

/-- A fresh 32-byte random nonce (R240): free values. -/
def Device.freshNonce (d : Device) : List Nat := (List.range 4).flatMap (fun i => leBytes 8 (Config.nonce d.freeCtr i).toNat)

/-- Send a command on the passport bus. -/
def Device.ppSend (d : Device) (cmd : Nat) (payload : List Nat) : Device :=
  (d.mapPp (fun p => { p with cmd := cmd, since := d.clock })).emit (.passport (ppFrame cmd payload))

/-- Pairs of counts as bytes: FLASHES then CODES of each beam group, 8 bytes each (R239). -/
def countBytes (l : List (Nat × Nat)) : List Nat :=
  (List.range 64).flatMap (fun g => let p := l.getD g (0, 0); leBytes 8 p.1 ++ leBytes 8 p.2)

/-- Pairs of counts from bytes. -/
def countPairs (bs : List Nat) : List (Nat × Nat) :=
  (List.range 64).map (fun g => (leNat ((bs.drop (16 * g)).take 8), leNat ((bs.drop (16 * g + 8)).take 8)))

/-- Add counts of each beam group, modulo 2^64. -/
def addCounts (a b : List (Nat × Nat)) : List (Nat × Nat) :=
  (List.range 64).map (fun g =>
    let x := a.getD g (0, 0)
    let y := b.getD g (0, 0)
    ((x.1 + y.1) % 2 ^ 64, (x.2 + y.2) % 2 ^ 64))

/-- Subtract counts of each beam group. -/
def subCounts (a b : List (Nat × Nat)) : List (Nat × Nat) :=
  (List.range 64).map (fun g => ((a.getD g (0, 0)).1 - (b.getD g (0, 0)).1, (a.getD g (0, 0)).2 - (b.getD g (0, 0)).2))

/-- Begin the challenge of a job start with IDENTIFY (R240). -/
def Device.ppStart (d : Device) : Device :=
  (d.mapPp (fun p => { p with use := .start, tries := 0 })).ppSend 1 []

/-- Send ADD_USAGE with a fresh nonce and the deltas so far (R241). -/
def Device.ppAddUsage (d : Device) : Device :=
  let n := d.freshNonce
  let p := d.lne.pp
  ((d.nextFree).mapPp (fun p => { p with use := .writeback, nonce := n, sentDeltas := p.deltas, retryAt := none })).ppSend 3
    (n ++ leBytes 8 p.writes ++ countBytes p.deltas)

/-- A write-back falls due (R241): it begins, or follows the transaction that runs. -/
def Device.writeback (d : Device) : Device :=
  if d.lne.pp.cmd != 0 || d.lne.pp.retryAt.isSome then d.mapPp (fun p => { p with wanted := true })
  else (d.mapPp (fun p => { p with tries := 0, wanted := false })).ppAddUsage

/-- The usage of a fired strobe: FLASHES counts groups with a nonzero code, CODES sums their codes; a write-back
follows every 2^20 fired strobes of the job, which FLS_FIRED counts (R241). -/
def Device.countUsage (d : Device) (fseq : Nat) : Device :=
  let add := (List.range 64).map (fun g =>
    let s := ((d.lne.frames.find? (fun f => f.group == g && f.fseq == fseq)).elim 0 (fun f => f.sum))
    (if s == 0 then 0 else 1, s))
  let d := d.mapPp (fun p => { p with deltas := addCounts p.deltas add })
  if d.get36 FLS_FIRED % 1048576 == 0 then d.writeback else d

/-- A failed try: PP_ERR, LNE_PP_FAILS and event 115 (R240, R243, R249). -/
def Device.ppFailed (d : Device) (cause : Nat) : Device :=
  (((d.mapPp (fun p => { p with cmd := 0 })).put fPpErr cause).bump (whole LNE_PP_FAILS))

/-- A failed write-back: two more tries 10 ms apart; after the third the deltas stay pending and are journalled,
event 115 is raised, and with the strict-integrity lock the job is stopped (R242). The one try
for a resume is decided by that resume. A write-back that fell due in the meantime
follows (R241). -/
def Device.writebackFailed (d : Device) (cause : Nat) : Device :=
  let d := (d.ppFailed cause).mapPp (fun p => { p with tries := p.tries + 1 })
  if d.lne.pp.forResume then
    (d.raise 115).when d.lne.pp.wanted Device.writeback
  else if d.lne.pp.tries < 3 then d.mapPp (fun p => { p with retryAt := some (d.clock + 8000000) })
  else
    let d := (d.putFlag fPpPending true).journal .passportDelta (d.lne.pp.deltas.flatMap (fun p => [p.1, p.2]))
    let d := (d.mapPp (fun p => { p with retryAt := none, tries := 0 })).raise 115
    let d := if d.strict then (d.mapPp (fun p => { p with blocked := true })).stopRequest cFAULT else d
    d.when d.lne.pp.wanted Device.writeback

/-- The status, payload and CRC of a response (R238). -/
def ppPayload (bs : List Nat) (len : Nat) : Option (List Nat) :=
  let n := leNat ((bs.drop 1).take 2)
  if bs.length == n + 5 && n == len && bs.head? == some 0 && crc16 (bs.take (n + 3)) == leNat (bs.drop (n + 3))
  then some ((bs.drop 3).take n) else none

/-- The message that SIG covers: NONCE, SERIAL, WRITES, TOTALS (R239). -/
def sigMessage (p : PassportState) (payload : List Nat) : List Nat := p.nonce ++ p.serial ++ payload.take 1032

/-- The trust anchor in force, as 32 digest bytes (R249, R452). -/
def Device.anchorBytes (d : Device) : List Nat :=
  leBytes 32 ((List.range 15).foldl (fun acc i => acc + d.reg (LNE_PP_ANCHOR + 4 * i) * 2 ^ (18 * i)) 0)

/-- The checks of R240 on the CHALLENGE response, in order: the first that fails. -/
def Device.ppChallengeFault (d : Device) (payload : List Nat) : Option Nat :=
  let p := d.lne.pp
  let anchor := d.anchorBytes
  if anchor.all (fun b => b == 0) || sha256 p.makerKey != anchor then some ppAnchor
  else if !ecdsaVerify p.makerKey (p.serial ++ p.devKey) p.cert then some ppCert
  else if !ecdsaVerify p.devKey (sigMessage p payload) (payload.drop 1032) then some ppSig
  else none

/-- LNE_PP_WRITES: the last verified WRITES (R249). -/
def Device.showWrites (d : Device) (w : Nat) : Device :=
  d.setRegs LNE_PP_WRITES [bits w 0 18, bits w 18 18, bits w 36 18, bits w 54 10]

/-- Take verified counts. -/
def Device.ppVerified (d : Device) (payload : List Nat) : Device :=
  let w := leNat (payload.take 8)
  (d.mapPp (fun p => { p with cmd := 0, writes := w, totals := countPairs ((payload.drop 8).take 1024) })).showWrites w

/-- The checks of R241 on the ADD_USAGE response. -/
def Device.ppUsageFault (d : Device) (payload : List Nat) : Option Nat :=
  let p := d.lne.pp
  if !ecdsaVerify p.devKey (sigMessage p payload) (payload.drop 1032) then some ppSig
  else if leNat (payload.take 8) != (p.writes + 1) % 2 ^ 64 ||
      countPairs ((payload.drop 8).take 1024) != addCounts p.totals p.sentDeltas then some ppCounter
  else none

/-- A verified write-back: the sent deltas are no longer pending (R242). -/
def Device.writebackPassed (d : Device) (payload : List Nat) : Device :=
  let d := (d.ppVerified payload).mapPp (fun p =>
    { p with deltas := subCounts p.deltas p.sentDeltas, sentDeltas := [], tries := 0, blocked := false })
  let d := d.when (d.flag fPpPending) (fun d => (d.putFlag fPpPending false).journal .passportDelta [])
  d.when d.lne.pp.wanted Device.writeback

end Sys2Proof.Machine
end

