-- ==== Sys2Proof/Machine/Lanes.lean ====
section
/-! DEFINITION. The beam lanes (R205 to R237): frames, echoes, replay, FLUSH, status, loss of signal, training,
loopback and calibration. -/
namespace Sys2Proof.Machine

/-- CODE_BITS of RIL_CFG: 0 9-bit, 1 6-bit, 2 4-bit codes (R191). -/
def fCodeBits : Fld := { off := RIL_CFG, lo := 16, w := 2 }

/-- The codes of a beam group for an FSEQ, with its pass and flash, when its four slot buffers hold the flash (R159, R205,
R220). -/
def Device.groupCodes (d : Device) (g fseq : Nat) : Option (Job × Nat × List Nat) :=
  match d.job.bind (fun j => j.atFseq fseq) with
  | none => none
  | some (j, n) =>
    let fs := (List.range 4).filterMap (fun k =>
      match d.slotBuf.find? (fun x => x.slot == 4 * g + k && x.fseq == fseq) with
      | some x => some x.codes
      | none => if d.slotZero j (4 * g + k) then some (List.replicate 1024 0) else none)
    if fs.length == 4 then some (j, n, fs.flatMap id) else none

/-- The FSEQ a group sends next: after its last frame, or after the last fired flash (R220). -/
def Device.nextSend (d : Device) (g : Nat) : Nat :=
  match (d.lne.frames.filter (fun f => f.group == g)).getLast? with
  | some f => (f.fseq + 1) % pairMod
  | none => d.nextFire

/-- Put a frame on a lane: its CRC with the lane's array port, its words in FRAME blocks, and the tick at which its last block ends
(R212, R213, R215, R224). -/
def Device.transmit (d : Device) (f : Frame) (n : Nat) : Device × Frame :=
  let hdr := frameHeader f.head f.fseq f.payload.length
  let crc := frameCrc (d.arrayPort n) f.group f.fseq hdr f.payload
  let bodies := frameBodies (frameBlocks (bits f.head 10 2)) (hdr ++ f.payload ++ frameTrailer crc f.fseq)
  let (d, endTick) := d.putOnLine n btFRAME bodies (some (f.group, f.fseq))
  (d.itemIn 8, { f with lane := n, crc := crc, endTick := endTick, state := .awaiting })

/-- A new frame may start: the codes, a credit and the lane are there, and nothing of the lane waits (R220). -/
def frameSendEffect (n : Nat) (d : Device) : Device :=
  match d.carried n with
  | some g =>
    let fs := d.nextSend g
    match d.groupCodes g fs with
    | some (j, k, codes) =>
      let ok := d.unitUp 18 && d.dataRuns && d.laneSt n == laneActive && d.laneFree n &&
        decide (d.creditsUsed g < d.get fArrayDepth) && !(d.lne.frames.any (fun f => f.lane == n && f.state == .replay))
      if !ok then d
      else
        let cb := d.get fCodeBits
        let head := g * 4096 + cb * 1024 + b2n j.reverse * 256 + j.pass * 32
        let f : Frame := { group := g, n := k, fseq := fs, head := head, payload := packCodes cb codes, sum := codes.foldl (· + ·) 0,
                           lane := n, crc := 0, endTick := 0, state := .awaiting }
        let (d, f) := d.transmit f n
        let d := { d with slotBuf := d.slotBuf.filter (fun x => !(x.fseq == fs && x.slot / 4 == g)) }
        d.setFrames (d.lne.frames ++ [f])
    | none => d
  | none => d

def execFrameSend (lane : Fin 72) (s : State) := s.run (frameSendEffect lane)

/-- Whether an echo that arrives now commits the flash in time: strobe n - 2 has not fired and does not fire in this
tick; for the first two flashes of a run, the run has not begun (R221). -/
def Device.echoInTime (d : Device) (f : Frame) : Bool :=
  match d.job with
  | none => false
  | some j =>
    let started := d.flag fArmed || !d.fls.firstOfRun
    if !fseqGe (j.fseq (j.nFlashes - 1)) f.fseq then true
    else if d.flag fArmed && d.fls.firstOfRun && fseqGe (j.fseq (d.getS36 FLS_NEXT_N + 1)) f.fseq then false
    else if !started then true
    else
      let dueFseq := (f.fseq + pairMod - 2) % pairMod
      let fired := d.get36 FLS_FIRED != 0 && fseqGe (d.get36 FLS_LAST_FSEQ) dueFseq
      let now := d.fls.decided.any (fun x => x.fseq == dueFseq && decide (x.rise ≤ d.clock))
      !(fired || now)

/-- The frame that an ACK entry names on a lane, if it awaits echo there (R217). -/
def Device.ackFrame (d : Device) (n : Nat) (e : AckEntry) : Option Frame :=
  d.lne.frames.find? (fun f => f.group == e.group && f.fseq % wordMod == e.fseqLo && f.lane == n && f.state == .awaiting)

/-- Change the state of one frame; a frame to be replayed goes to the lane that carries its group (R224). -/
def Device.markFrame (d : Device) (g fseq : Nat) (st : FrameState) : Device :=
  d.setFrames (d.lne.frames.map (fun f =>
    if f.group == g && f.fseq == fseq then
      { f with state := st, lane := if st == .replay then (d.carryingLane g).getD f.lane else f.lane } else f))

/-- One ACK entry: FLUSH acknowledged, frame committed, or an error: its cause, group and FSEQ (R217). -/
def Device.ackEntry (d : Device) (n : Nat) (e : AckEntry) : Option (Nat × Nat × Nat) × Device :=
  if e.flush then
    if d.lne.flushes.any (fun x => x.group == e.group && x.next % wordMod == e.fseqLo) then
      (none, { d with lne := { d.lne with flushes := d.lne.flushes.filter (fun x => x.group != e.group) } })
    else (none, d.bump (whole LNE_STRAY_COUNT))
  else
    match d.ackFrame n e with
    | none => (none, d.bump (whole LNE_STRAY_COUNT))
    | some f =>
      if e.nack then (some (1, f.group, f.fseq), d.markFrame f.group f.fseq .replay)
      else if e.echo != f.crc then (some (3, f.group, f.fseq), d.markFrame f.group f.fseq .replay)
      else (none, (d.markFrame f.group f.fseq (.committed (d.echoInTime f))).itemOut 8)

/-- A lane hears its back channel when it is trained and not in loopback, while its beam group has still to move away from it, and in
the very tick in which it goes out of use or the group moves, so that a FLUSH acknowledgement that meets a takeover counts (R237). -/
def Device.laneHears (d : Device) (n : Nat) : Bool :=
  d.unitUp 18 && (d.laneSt n == laneActive || d.laneSt n == laneSpare || d.laneSt n == laneCal || d.lne.lost.any (fun p => p == (n, d.clock)) ||
    d.lne.moves.any (fun p => d.carryingLane p.1 == some n))

/-- The entries of an ACK block in order: the first error among them, for those of one block count once (R217, R497). -/
def Device.takeAcks (d : Device) (n : Nat) (es : List AckEntry) : Option (Nat × Nat × Nat) × Device :=
  es.foldl (fun (acc : Option (Nat × Nat × Nat) × Device) e =>
    let (x, d) := acc.2.ackEntry n e
    (acc.1.or x, d)) (none, d)

/-- A frame with no echo within LNE_ACK_TIMEOUT of its last block counts one error and is replayed (R217). An echo that comes in the
last tick of that time is taken, so the timeout comes after it (R237). -/
def ackTimeoutEffect (g fseq : Nat) (d : Device) : Device :=
  match d.lne.frames.find? (fun f => f.group == g && f.fseq == fseq && f.state == .awaiting) with
  | some f =>
    if d.unitUp 18 && decide (f.endTick + 8 * (d.reg LNE_ACK_TIMEOUT % 2048) < d.clock) then
      (((d.markFrame g fseq .replay).laneError f.lane 2 g fseq).handoverDone).showWeir
    else d
  | none => d

def execAckTimeout (group : Fin 64) (fseq : BitVec 36) (s : State) := s.run (ackTimeoutEffect group fseq.toNat)

/-- The frame of lowest FSEQ that a lane must replay (R224). -/
def Device.replayNext (d : Device) (n : Nat) : Option Frame :=
  (d.lne.frames.filter (fun f => f.lane == n && f.state == .replay)).foldl (fun best f =>
    match best with
    | none => some f
    | some b => if fseqGe f.fseq b.fseq then some b else some f) none

/-- Resend a frame that waits for replay, with REPLAY 1 (R224). -/
def replaySendEffect (n : Nat) (d : Device) : Device :=
  match d.replayNext n with
  | some f =>
    if d.unitUp 18 && d.laneSt n == laneActive && d.laneFree n then
      let (d, f') := d.transmit { f with head := setBits f.head 9 1 1 } n
      (d.setFrames (d.lne.frames.map (fun x => if x.group == f.group && x.fseq == f.fseq then f' else x))).bump (whole LNE_REPLAY_COUNT)
    else d
  | none => d

def execReplaySend (lane : Fin 72) (s : State) := s.run (replaySendEffect lane)

/-- A FLUSH with no acknowledgement within 100 µs counts one ACK_TIMEOUT error and is sent again on the lane that
carries the group (R227). -/
def flushTimeoutEffect (g : Nat) (d : Device) : Device :=
  match d.lne.flushes.find? (fun x => x.group == g) with
  | some x =>
    if d.unitUp 18 && x.tick.any (fun t => decide (t + 80000 < d.clock)) then
      match d.carryingLane g with
      | none => d
      | some n => ((d.laneError n 2 g noFseq).flushGroup g x.next x.all).showWeir
    else d
  | none => d

def execFlushTimeout (group : Fin 64) (s : State) := s.run (flushTimeoutEffect group)

/-! ## Losses of a lane, and STATUS -/

/-- Queue a lane for calibration (R234). -/
def Device.queueCal (d : Device) (n : Nat) : Device :=
  if d.lne.calQueue.contains n then d else { d with lne := { d.lne with calQueue := d.lne.calQueue ++ [n] } }

/-- The eye trigger of R234. -/
def Device.eyeTrigger (d : Device) (n : Nat) : Device :=
  let m := d.get fEyeMin
  let low := decide (d.reg (LNE_LANE_EYE_FAR n) / 512 < m) || decide (d.reg (LNE_LANE_EYE_NEAR n) / 512 < m)
  d.when (d.flag fAutoCal && m != 0 && low && (d.laneSt n == laneActive || d.laneSt n == laneSpare)) (fun d => d.queueCal n)

/-- A lane that has lost its signal: its group moves, and it re-trains and recovers until it has, unless it is retired (R225, R233). -/
def Device.laneDrops (d : Device) (n : Nat) (los : Bool) : Device :=
  let d := d.putFlag (if los then fLaneLos n else fLaneLol n) true
  if d.laneSt n == laneRetired then d
  else
    let d := { d with lne := { d.lne with retrying := (n, d.clock) :: d.lne.retrying.filter (fun p => p.1 != n) } }
    ((d.laneOut n laneDown).trainLane n).laneSettle n

/-- LOS or LOL of a lane counts one error in its domain (R233). -/
def Device.laneLost (d : Device) (n cause : Nat) (los : Bool) : Device :=
  (d.laneError n cause ((d.carried n).getD 0) noFseq).laneDrops n los

/-- A lane in use: trained, and neither in loopback nor retired. -/
def Device.laneLive (d : Device) (n : Nat) : Bool :=
  d.laneSt n == laneActive || d.laneSt n == laneSpare || d.laneSt n == laneCal

/-- LOS or LOL is present on a lane: one in use loses its signal; another one shows it, and has nothing to lose: a failed attempt at
its training is no error (R233, R250). -/
def lossEffect (n cause : Nat) (los : Bool) (d : Device) : Device :=
  if !d.unitUp 18 then d
  else if d.laneLive n then d.laneLost n cause los
  else d.putFlag (if los then fLaneLos n else fLaneLol n) true

def execLos (lane : Fin 72) (s : State) := s.run (lossEffect lane 7 true)
def execLol (lane : Fin 72) (s : State) := s.run (lossEffect lane 8 false)

/-- FIRED_FSEQ matches a strobe of the last 16 µs, or the last strobe of the job (R219). -/
def Device.firedMatches (d : Device) (v : Nat) : Bool :=
  d.fls.recent.any (fun p => p.2 == v && decide (d.clock ≤ p.1 + 12800)) ||
  (if d.get36 FLS_FIRED == 0 then v == noFseq else v == d.get36 FLS_LAST_FSEQ)

/-- A STATUS block that passes its CRC (R218, R219). R166 follows in the rill family. -/
def statusBlockCore (n : Nat) (st : StatusInfo) (d : Device) : Device :=
  let zones := st.zones
  let d := d.setRegs (LNE_ZONE_TEMP 0) zones
  let d := { (d.setReg LNE_ZONE_STATUS 0) with lne := { d.lne with lastStatus := d.clock } }
  let top := zones.foldl (fun (m : Int) z => max m (sext 18 z)) (sext 18 (zones.headD 0))
  let d := (d.setReg FLS_HEAD_TEMP (wrap 18 top)).headTemp
  let d := ((d.setReg (LNE_LANE_EYE_FAR n) st.farEye).bumpBy (whole (LNE_LANE_FEC_CORR n)) st.farCorr).bumpBy
    (whole (LNE_LANE_FEC_UNCORR n)) st.farUncorr
  let d := d.eyeTrigger n
  let d := { d with lne := { d.lne with arrayFault := st.arrayFault } }
  let d := d.when st.arrayFault (fun d => ((d.laneErrInfo 0xB 0 0x7F noFseq).raise 127).stopRequest cFAULT)
  let bad := d.inJob && !d.firedMatches st.firedFseq
  let d := { d with lne := { d.lne with mismatch := bad } }
  let d := d.when bad (fun d => ((d.laneErrInfo 0xA 0 0x7F noFseq).raise 123).stopRequest cFAULT)
  d.when (st.farLos && d.laneSt n != laneRetired) (fun d => d.laneLost n 9 true)

/-- No STATUS has passed for 1 ms: STALE, source 119 follows, and the head temperature is as at LIMIT (R219, R279). -/
def statusStaleEffect (d : Device) : Device :=
  if d.unitUp 18 && decide (d.lne.lastStatus + 800000 ≤ d.clock) && !d.flag fStale then (d.putFlag fStale true).headTemp else d

def execStatusStale (s : State) := s.run statusStaleEffect

/-! ## Training, loopback, calibration -/

/-- 100 ms after the attempt before, a lane that lost its signal tries its training again (R233). -/
def laneRetrainAttemptEffect (n : Nat) (d : Device) : Device :=
  match d.lne.retrying.find? (fun p => p.1 == n) with
  | some (_, t) =>
    if d.unitUp 18 && decide (t + 80000000 ≤ d.clock) && d.laneSt n == laneDown then
      { (d.trainLane n) with lne := { d.lne with retrying := (n, d.clock) :: d.lne.retrying.filter (fun p => p.1 != n) } }
    else d
  | none => d

def execLaneRetrainAttempt (lane : Fin 72) (s : State) := s.run (laneRetrainAttemptEffect lane)

/-- Training fails: the cause is recorded, the lane is DOWN, or stays RETIRED, and a command that waits for it ends (R231, R233,
R481). -/
def Device.trainFail (d : Device) (n cause : Nat) : Device :=
  let st := if d.isPermanent 8 n then laneRetired else laneDown
  let d := { d with lne := { d.lne with ports := d.lne.ports.filter (fun p => p.lane != n) } }
  ((d.put (fTrainCause n) cause).laneOut n st).completeWhere (fun w => w == .laneRetrain n) sDATA_ERROR cause []

/-- The ports that training recorded for a lane group, its lane k = 4 apart, whose identity and reversal are one. -/
def Device.groupPorts (d : Device) (g : Nat) : List LanePort := d.lne.ports.filter (fun p => laneGroup p.lane == g && p.lane % 9 != 4)

/-- A port is the identity of its lane. -/
def LanePort.straight (p : LanePort) : Bool := p.port == p.lane

/-- The mapping of a lane group: identity or reversal, and the same for every lane of it that trains (R229). -/
def Device.portFault (d : Device) (n port : Nat) : Bool :=
  let g := laneGroup n
  let ident := port == n
  let rev := port == 9 * g + 8 - n % 9
  !(ident || rev) || (n % 9 != 4 && (d.groupPorts g).any (fun p => p.lane != n && p.straight != ident))

/-- The eye test of R236. -/
def Device.eyesPass (d : Device) (far near : Nat) : Bool :=
  d.get fEyeMin == 0 || (decide (d.get fEyeMin ≤ far / 512) && decide (d.get fEyeMin ≤ near / 512))

/-- A calibration has passed: its count, its time and die temperature, and event 114 + 4·g (R236). -/
def Device.calPassed (d : Device) (n : Nat) : Device :=
  let g := laneGroup n
  let d := (d.bump (whole (LNE_LANE_CAL_COUNT n))).setRegs (LNE_LANE_CAL_TOD n)
    [bits d.todSecs 0 18, bits d.todSecs 18 18, bits d.todSecs 36 12, bits d.todNs 0 18, bits d.todNs 18 14]
  (d.setReg (LNE_LANE_CAL_TEMP n) (d.reg (SYS_TEMP g))).raise (114 + 4 * g)

/-- The taps of a lane's transmitter, c-2, c-1, c+1 and c+2. -/
def Device.tapsOf (d : Device) (n : Nat) : List Int := ((d.lne.taps.find? (fun p => p.1 == n)).map Prod.snd).getD [0, 0, 0, 0]

/-- The tap search: each tap, in order, takes the best of its present value - 4 to + 4 (R236). -/
def Device.searchTaps (d : Device) (n : Nat) (scan : TapScan) : Device :=
  let high := fun (i : Nat) => Config.freeNat (d.freeCtr + i) % 2 == 1
  let steps := scan.toList.zipIdx.map (fun p => tapStep (p.1.toList.map (fun w => w.toNat)) (high p.2))
  let taps := (d.tapsOf n).zipWith (fun t (k : Nat) => t + (k : Int) - 4) steps
  { d with lne := { d.lne with taps := (n, taps) :: d.lne.taps.filter (fun p => p.1 != n) }, freeCtr := d.freeCtr + 4 }

/-- Step 6 of training: the lane is ACTIVE for a beam group of its lane group that waits, else SPARE. While its lane group is yet
to be given lanes it is SPARE (R228, R231). -/
def Device.trainedState (d : Device) (n : Nat) : Device :=
  let g := laneGroup n
  let waiting := if d.lne.fresh.contains g then none else (List.range 8).find? (fun k => d.carryingLane (8 * g + k) == none)
  match waiting with
  | some k => d.takeGroup n (8 * g + k)
  | none => d.setLaneSt n laneSpare

/-- A lane has trained: a RETIRED lane's domain starts anew (R498), and a lane that lost its signal stops recovering; but outside READY
a lane whose domain is permanent stays RETIRED (R226, R228, R233). -/
def Device.trainPass (d : Device) (n : Nat) : Device :=
  let d := { d with lne := { d.lne with retrying := d.lne.retrying.filter (fun p => p.1 != n), rx := d.lne.rx.filter (fun x => x.lane != n) } }
  let d := (((d.putFlag (fLaneLos n) false).putFlag (fLaneLol n) false).put (fTrainCause n) 0).calPassed n
  let d := if !d.isPermanent 8 n then (d.recovered 8 n).trainedState n
    else if d.inReady then (d.dropDomain 8 n).trainedState n
    else d.setLaneSt n laneRetired
  d.showSpares.completeWhere (fun w => w == .laneRetrain n) sOK 0 []

/-- A lane group none of whose lanes trains any more is given its lanes, outside start-up and Frost, which do so at their end
(R231). -/
def Device.groupTrained (d : Device) (g : Nat) : Device :=
  if d.lne.fresh.contains g && !d.inBoot && d.get fFState == 0 && (lanesOf g).all (fun n => d.laneSt n != laneTraining)
  then (d.assignGroup g).showSpares else d

/-- The lanes of a group that training has found, or that train. -/
def Device.liveLanes (d : Device) (g : Nat) : List Nat :=
  (lanesOf g).filter (fun m => d.laneSt m == laneTraining || d.laneSt m == laneActive || d.laneSt m == laneSpare || d.laneSt m == laneCal)

/-- REVERSED of every lane of a group whose port is recorded (R229). -/
def Device.showReversed (d : Device) (g : Nat) : Device :=
  let rev := (d.groupPorts g).any (fun p => !p.straight)
  d.each ((d.lne.ports.map LanePort.lane).filter (fun m => laneGroup m == g)) (fun d m => d.putFlag (fLaneRev m) rev)

/-- The delay of each lane's transmitter: its port's arrival time taken from the latest one. A lane that needs more than 1,023
symbols fails with SKEW (R230). -/
def Device.alignLanes (d : Device) : Device :=
  let latest := d.lne.ports.foldl (fun m p => max m p.arrival) 0
  d.each d.lne.ports (fun d p =>
    if 1023 < latest - p.arrival then d.trainFail p.lane 3 else d.put (fTrainSkew p.lane) (latest - p.arrival))

/-- The TRAIN exchange (R228 step 4): the port's mapping, the depth and the skew. A wrong mapping fails every lane of the group; a
depth outside 4 to 16, or other than that of another lane, fails those lanes (R229, R230). -/
def Device.trainExchange (d : Device) (n : Nat) (r : LaneTraining) : Device :=
  let g := laneGroup n
  let others := (d.lne.ports.filter (fun p => p.lane != n && p.depth != r.depth)).map LanePort.lane
  if d.portFault n r.port then d.each (d.liveLanes g) (fun d m => d.trainFail m 2)
  else if r.depth < 4 || 16 < r.depth then d.trainFail n 5
  else if !others.isEmpty then d.each (n :: others) (fun d m => d.trainFail m 5)
  else
    let p : LanePort := { lane := n, port := r.port, depth := r.depth, arrival := r.arrival }
    (({ d with lne := { d.lne with ports := p :: d.lne.ports.filter (fun q => q.lane != n) } }).showReversed g).alignLanes

/-- A lane in training has come to its end (R228 to R231): ARRAY_DEPTH is shown once a lane has trained (R246). -/
def Device.trainEnds (d : Device) (n : Nat) (r : LaneTraining) : Device :=
  if !(d.unitUp 18 && d.laneSt n == laneTraining) then d
  else
    let trained :=
      if !r.locked then d.trainFail n 1
      else
        let d := ((d.putFlag (fLanePolRx n) r.invertRx).putFlag (fLanePolTx n) r.invertTx).trainExchange n r
        if d.laneSt n != laneTraining then d
        else
          let d := ((d.searchTaps n r.scan).setReg (LNE_LANE_EYE_FAR n) r.eyeFar.toNat).setReg (LNE_LANE_EYE_NEAR n) r.eyeNear.toNat
          if d.eyesPass r.eyeFar.toNat r.eyeNear.toNat then (d.put fArrayDepth r.depth).trainPass n else d.trainFail n 4
    trained.groupTrained (laneGroup n)

/-- The end of a lane's training. A LOOP write of this clock that turned the lane is ignored where the lane becomes ACTIVE in it, and
acts on the trained lane where it does not (R237). -/
def laneTrainingDoneEffect (n : Nat) (r : LaneTraining) (d : Device) : Device :=
  match d.turned n with
  | some x =>
    let e := (d.unturn n).trainEnds n r
    if x.2.2.1 == laneTraining && e.laneSt n == laneActive then e else d
  | none => d.trainEnds n r

def execLaneTrainingDone (lane : Fin 72) (result : LaneTraining) (s : State) := s.run (laneTrainingDoneEffect lane result)

/-- RETRAIN is taken on a DOWN lane, or a RETIRED lane in READY (R250). -/
def Device.retrainTaken (d : Device) (n : Nat) : Bool :=
  d.laneSt n == laneDown || (d.laneSt n == laneRetired && d.inReady)

/-- The write of RETRAIN (R250). -/
def laneRetrainWrite (n : Nat) (d : Device) : Device := if d.unitUp 18 && d.retrainTaken n then d.trainLane n else d

def execRetrain (lane : Fin 72) (s : State) := s.run (laneRetrainWrite lane)

/-- The write of CAL_NOW (R234). -/
def calNowWrite (n : Nat) (d : Device) : Device := if d.unitUp 18 then d.queueCal n else d

def execCalNow (lane : Fin 72) (s : State) := s.run (calNowWrite lane)

/-- A loopback may be entered: SPARE, DOWN or RETIRED, or READY (R232), but not in the clock in which the lane becomes ACTIVE (R237).
A lane in LOOPBACK may change or leave it. -/
def Device.loopTaken (d : Device) (n : Nat) : Bool :=
  !(d.released 13 && d.lne.became.contains (n, d.clock)) &&
    (d.laneSt n == laneSpare || d.laneSt n == laneDown || d.laneSt n == laneRetired || d.laneSt n == laneLoopback || d.inReady)

/-- The state of a lane before a write of LOOP is kept for this clock. -/
def Device.noteTurn (d : Device) (n : Nat) : Device :=
  if (d.turned n).isSome then d
  else { d with lne := { d.lne with looped := (n, d.clock, d.laneSt n, d.get (fLaneLoop n)) :: d.lne.looped.filter (fun x => x.1 != n) } }

/-- The write of LOOP: into loopback, or out of it with a re-training; the far-end loop is requested in TRAIN word 1 [16] (R232). -/
def loopWrite (n v : Nat) (d : Device) : Device :=
  if !(d.unitUp 18 && d.loopTaken n) then d
  else
    let d := (d.noteTurn n).put (fLaneLoop n) v
    if v == 0 then (if d.laneSt n == laneLoopback then (d.setPrbs n (prbsStart, prbsStart)).trainLane n else d)
    else
      let d := ((if d.laneSt n == laneLoopback then d else d.laneOut n laneLoopback).groupTrained (laneGroup n)).setPrbs n (prbsStart, prbsStart)
      d.when (v == 3) (fun d => (d.putOnLine n btTRAIN [[n, 65536]] none).1)

def execLoop (lane : Fin 72) (value : Word) (s : State) := s.run (loopWrite lane (bits value.toNat 16 2))

/-- The spare of a lane group takes a beam group from the first flash whose frame its lane has not begun; frames of it that wait for
replay go with it (R235). -/
def Device.handOver (d : Device) (n sp group : Nat) : Device :=
  let h := d.nextSend group
  let d := (d.carry sp group).replayOn sp (fun f => f.group == group && f.state == .replay)
  let d := { d with lne := { d.lne with handover := d.lne.handover ++ [(n, group, h)] } }
  (d.handoverDone.laneSettle n).showSpares

/-- A queued lane may begin calibration: it is ACTIVE or SPARE, and no lane of its group calibrates or is about to (R234). -/
def Device.calMay (d : Device) (n : Nat) : Bool :=
  let busy := (lanesOf (laneGroup n)).any (fun m => d.laneSt m == laneCal || d.lne.handover.any (fun h => h.1 == m) || (m != n && d.lne.calDue.contains m))
  d.unitUp 18 && d.lne.calQueue.contains n && !busy && (d.laneSt n == laneActive || d.laneSt n == laneSpare)

/-- A queued lane hands its beam group in WRITING to the spare of its lane group, unless a permanent error of the lane group has
taken that one, or is about to (R235, R237). -/
def Device.calHandover (d : Device) (n : Nat) : Device :=
  let g := laneGroup n
  match d.carried n, d.spareOf g with
  | some group, some sp =>
    if !(d.calMay n && d.inWriting) || d.lne.moves.any (fun p => p.1 / 8 == g) then d
    else ({ d with lne := { d.lne with calQueue := d.lne.calQueue.filter (fun m => m != n) } }).handOver n sp group
  | _, _ => d

/-- The clock's handovers for calibration, which errors in it have forestalled or not. -/
def Device.calHandovers (d : Device) : Device :=
  ({ d with lne := { d.lne with calDue := [] } }).each d.lne.calDue Device.calHandover

/-- A queued lane begins calibration: one lane of a group at a time; a lane that carries a group in WRITING hands it
to the spare first, once this clock has shown no permanent error that takes the spare (R234, R235, R237). -/
def calibrationStartEffect (n : Nat) (d : Device) : Device :=
  if !d.calMay n then d
  else if (d.carried n).isSome && d.inWriting then
    if !d.released 13 then d.calHandover n
    else if d.lne.calDue.contains n then d
    else { d with lne := { d.lne with calDue := d.lne.calDue ++ [n] } }
  else (({ d with lne := { d.lne with calQueue := d.lne.calQueue.filter (fun m => m != n) } }).setLaneSt n laneCal).showSpares

def execCalibrationStart (lane : Fin 72) (s : State) := s.run (calibrationStartEffect lane)

/-- The end of a calibration: the taps take the values that the search found; the lane passes when both eyes reach EYE_MIN, else it
counts a CAL_FAIL error (R236). -/
def calibrationCompleteEffect (n : Nat) (scan : TapScan) (far near : Nat) (d : Device) : Device :=
  if !(d.unitUp 18 && d.laneSt n == laneCal) then d
  else
    let d := ((d.searchTaps n scan).setReg (LNE_LANE_EYE_FAR n) far).setReg (LNE_LANE_EYE_NEAR n) near
    if d.eyesPass far near then
      let d := (if (d.carried n).isSome then d.activate n else d.setLaneSt n laneSpare).calPassed n
      d.showSpares.completeWhere (fun w => w == .laneCal n) sOK 0 []
    else
      let d := d.laneError n 0xC ((d.carried n).getD 0) noFseq
      let d := if d.laneSt n == laneRetired then d else (d.laneOut n laneDown).laneSettle n
      (d.raise (114 + 4 * laneGroup n)).completeWhere (fun w => w == .laneCal n) sDATA_ERROR 0 []

def execCalibrationComplete (lane : Fin 72) (scan : TapScan) (eyes : EyePair) (s : State) :=
  s.run (calibrationCompleteEffect lane scan eyes.far.toNat eyes.near.toNat)

/-- The temperature trigger of R234: the die temperature of the lane group against each lane's CAL_TEMP. -/
def Device.calByTemp (d : Device) : Device :=
  let delta := (d.get fCalDelta : Int) * 256
  if !(d.flag fAutoCal && delta != 0 && d.unitUp 18) then d
  else d.each (List.range 72) (fun d n =>
    let diff := sext 18 (d.reg (SYS_TEMP (laneGroup n))) - sext 18 (d.reg (LNE_LANE_CAL_TEMP n))
    d.when ((d.laneSt n == laneActive || d.laneSt n == laneSpare) && decide (delta ≤ diff.natAbs)) (fun d => d.queueCal n))

end Sys2Proof.Machine
end

