-- ==== Sys2Proof/Machine/RillOps.lean ====
section
/-! DEFINITION. Shared operations of the rills (R158 to R188): the beam table and its shares, the code of a beam, the checks
of the rill tables, the switch of tables at a rill boundary, and spare switching. -/
namespace Sys2Proof.Machine

/-! ## The beam table (R160, R161) -/

/-- What an unlisted word of a beam table reads as. -/
def btReset (w : Nat) : Word := if w % 2 == 0 then 0 else 0x20100

/-- A word of a beam table. -/
def btWord (bt : List (Nat × Word)) (w : Nat) : Nat := (cellGet (btReset w) bt w).toNat

/-- Write a word of a beam table. -/
def setBt (bt : List (Nat × Word)) (w v : Nat) : List (Nat × Word) := cellSet (btReset w) bt w (BitVec.ofNat 18 v)

def btDx (bt : List (Nat × Word)) (b : Nat) : Int := sext 9 (bits (btWord bt (2 * b)) 9 9)
def btDy (bt : List (Nat × Word)) (b : Nat) : Int := sext 9 (bits (btWord bt (2 * b)) 0 9)
def btGain (bt : List (Nat × Word)) (b : Nat) : Nat := bits (btWord bt (2 * b + 1)) 9 9
def btShare (bt : List (Nat × Word)) (b : Nat) : Nat := bits (btWord bt (2 * b + 1)) 2 7

/-! ## Shares (R162, R163) -/

/-- WEAK_WEIGHT of RIL_CFG (R191). -/
def fWeakWeight : Fld := { off := RIL_CFG, lo := 9, w := 7 }

/-- The capacity of a beam. -/
def capacity (weak : Nat) (st : Nat) : Nat := if st == 0 then 64 else if st == 1 then weak else 0

/-- The active rows of the landing set of residue c (R162). -/
def Job.setRows (j : Job) (c : Nat) : List Nat := (List.range j.expo).map (fun k => c + k * (j.byy * j.adv))

/-- The capacities of a landing set: column `col`, residue `c`. -/
def setCaps (weak : Nat) (bt : List (Nat × Word)) (j : Job) (col c : Nat) : List (Nat × Nat) :=
  (j.setRows c).map (fun i => (512 * i + col, capacity weak (beamState bt (512 * i + col))))

/-- The shares of a landing set, by beam (R163). -/
def setShares (weak : Nat) (bt : List (Nat × Word)) (j : Job) (col c : Nat) : List (Nat × Nat) :=
  let caps := setCaps weak bt j col c
  let total := (caps.map Prod.snd).sum
  let q := fun (cap : Nat) => 64 * j.expo * cap / total
  let rho := 64 * j.expo - (caps.map (fun p => q p.2)).sum
  let extra := ((caps.filter (fun p => decide (0 < p.2))).take rho).map Prod.fst
  caps.map (fun p => (p.1, q p.2 + (if extra.contains p.1 then 1 else 0)))

/-- The landing sets with a beam that is not GOOD, as (column, residue): every other set has all shares 64. -/
def markedSets (bt : List (Nat × Word)) (j : Job) : List (Nat × Nat) :=
  let bs := (bt.filter (fun p => p.1 % 2 == 1 && p.2.toNat % 4 != 0)).map (fun p => p.1 / 2)
  let sets := (bs.filter (fun b => decide (b / 512 < j.rows))).map (fun b => (b % 512, b / 512 % (j.byy * j.adv)))
  sortBy (fun s => s.1 * 512 + s.2) sets.eraseDups

/-- A beam table with the SHARE of every beam set: 64, or the share of its landing set where the job gives one. -/
def withShares (weak : Nat) (bt : List (Nat × Word)) (job : Option Job) : List (Nat × Word) :=
  let plain := bt.foldl (fun acc p => if p.1 % 2 == 1 then setBt acc p.1 (setBits p.2.toNat 2 7 64) else acc) bt
  match job with
  | none => plain
  | some j => (markedSets bt j).foldl (fun acc s => (setShares weak bt j s.1 s.2).foldl (fun acc p =>
      setBt acc (2 * p.1 + 1) (setBits (btWord acc (2 * p.1 + 1)) 2 7 p.2)) acc) plain

/-! ## The code of a beam (R168 to R174) -/

/-- The landing pixel of a beam at flash n (R15, R20, R21). -/
def Job.landing (j : Job) (i col : Nat) (n : Int) : Int × Int :=
  (if j.reverse then (j.cur.len : Int) - 1 + ((j.rows : Int) - 1 - i) * j.bx - n * j.adv else n * j.adv - i * j.bx, col * j.byy + i % j.byy)

/-- tx and ty of a beam under a direction offset (R168). -/
def landOffset (bt : List (Nat × Word)) (o b : Nat) : Int × Int := (btDx bt b + sext 9 (bits o 9 9), btDy bt b + sext 9 (bits o 0 9))

/-- The offsets of a beam: tx and ty, with the offset registers of the two directions (R168). -/
def Device.offsets (d : Device) (bt : List (Nat × Word)) (fwd rev : Nat) (reverse : Bool) (b : Nat) : Int × Int :=
  landOffset bt (d.reg (if reverse then rev else fwd)) b

/-- The direction offset, the mask entry and CODE_SCALE that apply to a pass. -/
def Device.dirOffset (d : Device) (j : Job) : Nat :=
  match d.oldTables j with
  | some t => if j.reverse then t.rev else t.fwd
  | none => d.reg (RIL_OFFS_ACT (b2n j.reverse))
def Device.maskOf (d : Device) (j : Job) (phi : Nat) : Nat :=
  (d.oldTables j).elim (d.reg (RIL_MASK_ACT (256 * j.pass + phi))) (fun t => t.masks.getD (256 * j.pass + phi) 0) % 512
def Device.scaleOf (d : Device) (j : Job) : Nat := (d.oldTables j).elim (d.reg RIL_CODE_SCALE_ACT) RillTables.scale % 65536

/-- The active rill tables and flash delays as they stand. -/
def Device.rillTables (d : Device) : RillTables :=
  { beams := d.ril.active, fwd := d.reg (RIL_OFFS_ACT 0), rev := d.reg (RIL_OFFS_ACT 1),
    masks := (List.range 2048).map (fun i => d.reg (RIL_MASK_ACT i)), scale := d.reg RIL_CODE_SCALE_ACT,
    delayFwd := d.reg (FLS_DELAY_ACT 0), delayRev := d.reg (FLS_DELAY_ACT 1) }

/-- The four pixels of a beam's sample, and their weights (R168). -/
def samplePoints (u v tx ty : Int) : List ((Int × Int) × Int) :=
  let ox := tx / 64
  let oy := ty / 64
  let fx := tx - 64 * ox
  let fy := ty - 64 * oy
  [((u + ox, v + oy), (64 - fx) * (64 - fy)), ((u + ox + 1, v + oy), fx * (64 - fy)),
   ((u + ox, v + oy + 1), (64 - fx) * fy), ((u + ox + 1, v + oy + 1), fx * fy)]

/-- The Cistern word address of a pixel; none outside the stripe (R104, R169). -/
def Job.pixelAddr (j : Job) (p : Int × Int) : Option Nat :=
  if decide (0 ≤ p.1) && decide (p.1 < j.cur.len) && decide (0 ≤ p.2) && decide (p.2 < j.width) then
    some (j.rowAddr p.1.toNat + p.2.toNat) else none

/-- A beam has a code to compute at flash n: its row is active, its landing lies in the stripe and it is alive (R173). -/
def Device.beamLands (d : Device) (j : Job) (n : Int) (b : Nat) : Bool :=
  let u := (j.landing (b / 512) (b % 512) n).1
  decide (b / 512 < j.rows) && decide (0 ≤ u) && decide (u < j.cur.len) && decide (beamState (d.beamsOf j) b < 2)

/-- The sample points of a beam at flash n. -/
def Device.beamPoints (d : Device) (j : Job) (n : Int) (b : Nat) : List ((Int × Int) × Int) :=
  let (u, v) := j.landing (b / 512) (b % 512) n
  let (tx, ty) := landOffset (d.beamsOf j) (d.dirOffset j) b
  samplePoints u v tx ty

/-- The weighted sum of the four dose words of a beam's sample; a pixel outside the stripe counts 0 (R168, R169). -/
def Device.beamSum (d : Device) (j : Job) (n : Int) (b : Nat) : Int :=
  ((d.beamPoints j n b).map (fun p =>
    match j.pixelAddr p.1 with
    | some a => p.2 * (d.cisternWord a : Int)
    | none => 0)).sum

/-- GAIN × SHARE × M × CODE_SCALE of a beam at a flash (R172). -/
def Device.beamFactor (d : Device) (j : Job) (n : Int) (b : Nat) : Nat :=
  let (u, v) := j.landing (b / 512) (b % 512) n
  btGain (d.beamsOf j) b * btShare (d.beamsOf j) b * d.maskOf j (16 * (u % 16) + v % 16).toNat * d.scaleOf j

/-- The three results of R172 as a rill forms them from the sum, the factor, the exposure index and E, each with what an
error adds to it. -/
structure CodeResults where
  s : Int
  big : Int
  c : Int
deriving DecidableEq, Repr

/-- Steps 1 to 3 of R172; `e` is the error of each result. -/
def codeResults (sum factor k expo : Int) (e : CodeStep → Int) : CodeResults :=
  let s := rndDiv sum 4096 + e .sample
  let big := s * factor + e .product
  { s := s, big := big, c := (big + k * 2 ^ 38) / (2 ^ 38 * expo) + e .code }

/-- The three identities of R177, modulo 511. -/
def residuesHold (sum factor k expo : Int) (x : CodeResults) : Bool :=
  let r := (sum + 2048) % 4096
  let r' := (x.big + k * 2 ^ 38) % (2 ^ 38 * expo)
  (sum + 2048 - (4096 * x.s + r)) % 511 == 0 && (x.big - x.s * factor) % 511 == 0 &&
    (x.big + k * 2 ^ 38 - (x.c * 2 ^ 38 * expo + r')) % 511 == 0

/-- The exposure index of a beam (R162). -/
def Job.expoIndex (j : Job) (b : Nat) : Nat := b / 512 / (j.byy * j.adv)

/-- The results of a beam at a flash. -/
def Device.beamResults (d : Device) (j : Job) (n : Int) (b : Nat) (e : CodeStep → Int) : CodeResults :=
  codeResults (d.beamSum j n b) (d.beamFactor j n b) (j.expoIndex b) j.expo e

/-- The code of a beam at flash n, and whether step 4 clamped it, with an error in its results (R172, R173). -/
def Device.beamCodeWith (d : Device) (j : Job) (n : Int) (b : Nat) (e : CodeStep → Int) : Nat × Bool :=
  if !d.beamLands j n b then (0, false)
  else
    let c := (d.beamResults j n b e).c
    let top : Nat := 2 ^ (if d.get fCodeBits == 0 then 9 else if d.get fCodeBits == 1 then 6 else 4) - 1
    ((min c top).toNat, decide ((top : Int) < c))

/-- The code of a beam at flash n, and whether step 4 clamped it (R168, R171, R172, R173). -/
def Device.beamCode (d : Device) (j : Job) (n : Int) (b : Nat) : Nat × Bool := d.beamCodeWith j n b (fun _ => 0)

/-- The error that a fault puts on a beam's results. -/
def faultError (f : RillFault) (b : Nat) (t : CodeStep) : Int :=
  match f with
  | .parity _ => 0
  | .result x u e => if x.toNat == b && u == t then e else 0

/-- The beam at which the checks of R177 stop a flash: the one whose entry is read with a parity error, or the one whose
results break an identity. An error that is no multiple of 511 is always detected. -/
def Device.faultBeam (d : Device) (j : Job) (slot : Nat) (n : Int) (f : RillFault) : Option Nat :=
  match f with
  | .parity b => if b.toNat / 1024 == slot then some b.toNat else none
  | .result x _ e =>
    let b := x.toNat
    let holds := residuesHold (d.beamSum j n b) (d.beamFactor j n b) (j.expoIndex b) j.expo (d.beamResults j n b (faultError f b))
    if b / 1024 == slot && d.beamLands j n b && (e % 511 != 0 || !holds) then some b else none

/-- The beams of a slot, in increasing beam index (R158, R159). -/
def slotBeams (slot : Nat) : List Nat := (List.range 1024).map (fun i => 1024 * slot + i)

/-- The Cistern lines that a slot reads for flash n. -/
def Device.slotLines (d : Device) (j : Job) (slot : Nat) (n : Int) : List Nat :=
  (((slotBeams slot).filter (d.beamLands j n)).flatMap (fun b => (d.beamPoints j n b).filterMap (fun p => (j.pixelAddr p.1).map (fun a => a / 64)))).eraseDups

/-! ## Checks of the rill tables (R164, R165, R170, R171, R180, R186) -/

def ckSHARE : Nat := 1
def ckSTUCK : Nat := 2
def ckOFFSET : Nat := 3
def ckMASK_RANGE : Nat := 4
def ckMASK_SUM : Nat := 5
def ckUNSERVED : Nat := 6

/-- The first landing set that cannot be used: the beam of its lowest active row (R164). -/
def shareFail (weak : Nat) (bt : List (Nat × Word)) (j : Job) : Option Nat :=
  ((markedSets bt j).find? (fun s =>
    ((setCaps weak bt j s.1 s.2).map Prod.snd).sum == 0 || (setShares weak bt j s.1 s.2).any (fun p => decide (127 < p.2)))).map
    (fun s => 512 * s.2 + s.1)

/-- The beams of the active rows. -/
def Job.beams (j : Job) : List Nat := List.range (512 * j.rows)

/-- STUCK_OPEN beams on active rows. -/
def stuckBeams (bt : List (Nat × Word)) (j : Job) : List Nat :=
  ((bt.filter (fun p => p.1 % 2 == 1 && p.2.toNat % 4 == 3)).map (fun p => p.1 / 2)).filter (fun b => decide (b / 512 < j.rows))

/-- tx keeps within R170 in a pass direction. -/
def txOk (bx : Nat) (reverse : Bool) (tx : Int) : Bool :=
  if reverse then decide (-512 ≤ tx) && decide (tx ≤ 64 * ((bx : Int) - 1) - 1) else decide (-64 * ((bx : Int) - 1) ≤ tx) && decide (tx ≤ 511)

/-- The first beam outside the limits of R170, in the directions that the job uses. Beams whose word 0 is not listed have
offset 0: of them the first active one stands for all. -/
def Device.offsetFail (d : Device) (bt : List (Nat × Word)) (fwd rev : Nat) (j : Job) : Option Nat :=
  let bad := fun (b : Nat) => !txOk j.bx false (d.offsets bt fwd rev false b).1 ||
    (j.bidir && decide (2 ≤ j.passes) && !txOk j.bx true (d.offsets bt fwd rev true b).1)
  let listed := (bt.filter (fun p => p.1 % 2 == 0 && decide (p.1 / 2 < 512 * j.rows))).map (fun p => p.1 / 2)
  let plain := (List.range (listed.length + 1)).find? (fun b => !listed.contains b && decide (b < 512 * j.rows))
  (sortBy id ((listed ++ plain.toList).filter bad)).head?

/-- The first pass mask entry above 256 (R171). -/
def Device.maskRange (d : Device) (mask : Nat → Nat) : Option Nat := (List.range 2048).find? (fun i => decide (256 < d.reg (mask i) % 512))

/-- The first φ whose masks do not sum to 256 (R171). -/
def Device.maskSum (d : Device) (mask : Nat → Nat) (passes : Nat) : Option Nat :=
  (List.range 256).find? (fun f => ((List.range passes).map (fun p => d.reg (mask (256 * p + f)) % 512)).sum != 256)

/-- The first slot with an active row that no rill serves, unless every beam of those rows is DEAD (R180). -/
def Device.slotFail (d : Device) (bt : List (Nat × Word)) (j : Job) : Option Nat :=
  (List.range 256).find? (fun s => d.reg (RIL_GRP_SLOT s) % 64 == 63 && !(j.slotRows s).isEmpty &&
    !((j.slotRows s).all (fun i => (List.range 512).all (fun k => beamState bt (512 * i + k) == 2))))

/-- The first failure of the tables that would be active: the shadow of each table of a set, the active copy of every
other (R186). The answer is the cause and the item of R196. -/
def Device.rillCheck (d : Device) (j : Job) (ts : Nat → Bool) : Option (Nat × Nat) :=
  let bt := if ts 0 then d.ril.shadow else d.ril.active
  let mask := if ts 1 then RIL_MASK else RIL_MASK_ACT
  let offs := if ts 2 then RIL_OFFS else RIL_OFFS_ACT
  match shareFail (d.get fWeakWeight) bt j with
  | some b => some (ckSHARE, b)
  | none =>
    match (if d.strict then (sortBy id (stuckBeams bt j)).head? else none) with
    | some b => some (ckSTUCK, b)
    | none =>
      match d.offsetFail bt (offs 0) (offs 1) j with
      | some b => some (ckOFFSET, b)
      | none =>
        match d.maskRange mask with
        | some i => some (ckMASK_RANGE, i)
        | none =>
          match d.maskSum mask j.passes with
          | some f => some (ckMASK_SUM, f)
          | none => (d.slotFail bt j).map (fun s => (ckUNSERVED, 1024 * s))

/-- Record a check failure, with event 87 (R186, R196). -/
def Device.checkFailed (d : Device) (cause item : Nat) : Device :=
  (if d.flag (bitAt RIL_CHECK_INFO 17) then d
   else (d.setReg RIL_CHECK_INFO (131072 + cause * 16384)).setReg RIL_CHECK_ITEM item).raise 87

/-- The status with which a failed check completes a command (R186). -/
def checkStatus (cause : Nat) : Nat := if cause == ckSTUCK then sREFUSED_STRICT else if cause == ckUNSERVED then sNO_RESOURCE else sBAD_PARAM

/-! ## Switches (R161, R185, R186, R273) -/

def fRilPending (t : Nat) : Fld := bitAt RIL_COMMIT_STATUS t
def fRilRefused (t : Nat) : Fld := bitAt RIL_COMMIT_STATUS (12 + t)
def fCheckRun : Fld := bitAt RIL_STATUS 14
def fStuckHold : Fld := bitAt RIL_STATUS 15
def fRilUnserved : Fld := bitAt RIL_STATUS 16
def fFlsPending : Fld := bitAt FLS_COMMIT_STATUS 0
def fRilTaken (t : Nat) : Fld := bitAt RIL_COMMIT_STATUS (4 + t)
def fFlsTaken : Fld := bitAt FLS_COMMIT_STATUS 1

/-- Copy a rill table's shadow into its active copy. A switch of the beam table ends its acknowledgement (R165). -/
def Device.copyRill (d : Device) (t : Nat) : Device :=
  match t with
  | 0 => { d with ril := { d.ril with active := withShares (d.get fWeakWeight) d.ril.shadow (if d.inJob then d.job else none), acked := false } }
  | 1 => d.each (List.range 2048) (fun d i => d.setReg (RIL_MASK_ACT i) (d.reg (RIL_MASK i)))
  | 2 => d.each [0, 1] (fun d i => d.setReg (RIL_OFFS_ACT i) (d.reg (RIL_OFFS i)))
  | _ => d.setReg RIL_CODE_SCALE_ACT (d.reg RIL_CODE_SCALE)

/-- The pending rill tables switch (R186); outside a job the active SHAREs become 64 and the place reads 0x3_FFFF
(R161, R187). -/
def Device.switchRill (d : Device) (stripe layer applied : Nat) : Device :=
  let ts := (List.range 4).filter (fun t => d.flag (fRilPending t))
  if ts.isEmpty then d
  else
    let d := d.each ts (fun d t =>
      ((((d.copyRill t).when (applied == clsStripe && d.tableFresh (4 + t)) (fun d => d.putFlag (fRilTaken t) true)).putFlag (fRilPending t) false).setReg (RIL_SWITCH_STRIPE t) stripe).setReg (RIL_SWITCH_LAYER t) layer)
    let d := if d.inJob then d else { d with ril := { d.ril with active := withShares 64 d.ril.active none } }
    ((d.noteSwitch (ts.map (fun t => t + 4))).raise 83).tablesTaken (ts.map (fun t => t + 4)) applied (if applied == clsStripe then stripe else 0)
      (applied == clsStripe)

/-- The flash delays switch (R273), with event 173. -/
def Device.switchFls (d : Device) (applied detail : Nat) : Device :=
  if !d.flag fFlsPending then d
  else
    let d := d.each [0, 1] (fun d i => d.setReg (FLS_DELAY_ACT i) (d.reg (FLS_DELAY i)))
    let d := d.when (applied == clsStripe && d.tableFresh 8) (fun d => d.putFlag fFlsTaken true)
    (((d.putFlag fFlsPending false).noteSwitch [8]).raise 173).tablesTaken [8] applied detail (applied == clsStripe)

/-! ## The rill weir (R179, R198) -/

/-- The level of a slot. -/
def Device.slotLevel (d : Device) (s : Nat) : Nat := (d.slotBuf.filter (fun x => x.slot == s)).length

/-- The slots that a rill serves. -/
def Device.allServed (d : Device) : List Nat := (List.range 256).filter (fun s => d.reg (RIL_GRP_SLOT s) % 64 != 63)

/-- The served slots that are not idle. -/
def Device.servedSlots (d : Device) (j : Job) : List Nat := d.allServed.filter (fun s => !(j.slotRows s).isEmpty)

/-- RIL_WEIR as it stands: the lowest level over the served slots, those that a job leaves idle apart, and the slot of lowest
number that has it. Where no job runs, or every served slot is idle, each served slot stands at level 0. -/
def Device.rillWeir (d : Device) : Nat :=
  let busy := d.job.elim [] d.servedSlots
  let levels := (if busy.isEmpty then d.allServed else busy).map (fun s => (d.slotLevel s, s))
  match levels.find? (fun p => levels.all (fun q => decide (p.1 ≤ q.1))) with
  | some (l, s) => s * 16 + min l 8
  | none => 0

/-! ## Faults and spares (R178, R180 to R183) -/

def fFreeRill (g : Nat) : Fld := { off := RIL_GRP_MAP g, lo := 0, w := 6 }
def fRillRetired (g k : Nat) : Fld := if k < 18 then bitAt (RIL_GRP_RETIRED g) k else bitAt (RIL_GRP_RETIRED g + 4) (k - 18)

/-- Record a rill fault: the first since VALID was cleared (R200). -/
def Device.rillInfo (d : Device) (cause rill : Nat) (flash : Int) (beam : Nat) : Device :=
  if d.flag (bitAt RIL_FAULT_INFO 17) then d
  else ((d.setReg RIL_FAULT_INFO (131072 + cause * 32768 + rill % 512)).putS36 RIL_FAULT_FLASH flash).setReg RIL_FAULT_BEAM beam

/-- Show the unserved slots of a group (R190, R202). -/
def Device.showUnserved (d : Device) (g : Nat) : Device :=
  let us := (List.range 32).filter (fun p => d.reg (RIL_GRP_SLOT (32 * g + p)) % 64 == 63)
  let d := (d.put { off := RIL_GRP_MAP g, lo := 7, w := 5 } (us.headD 0)).putFlag (bitAt (RIL_GRP_MAP g) 6) (!us.isEmpty)
  d.putFlag fRilUnserved ((List.range 8).any (fun h => d.flag (bitAt (RIL_GRP_MAP h) 6)))

/-- A slot's switch is over. -/
def Device.endSwitch (d : Device) (slot : Nat) : Device :=
  { d with ril := { d.ril with loading := d.ril.loading.filter (fun s => s != slot), switching := d.ril.switching.filter (fun s => s != slot) } }

/-- Connect the free rill of a group to a slot; `left`: the rill that is free then, 0x3F none (R182, R183). -/
def Device.switchIn (d : Device) (slot left : Nat) : Device :=
  let g := slot / 32
  let d := ((d.endSwitch slot).setReg (RIL_GRP_SLOT slot) (d.get (fFreeRill g))).put (fFreeRill g) left
  ({ d with ril := { d.ril with loading := d.ril.loading ++ [slot], switching := d.ril.switching ++ [slot] } }).raise (81 + 4 * g)

/-- A slot that lost its rill while its group had no free one (R180, R200): `flash` and `beam` of the fault that it follows. -/
def Device.slotLost (d : Device) (slot rill : Nat) (flash : Int) (beam : Nat) : Device :=
  let g := slot / 32
  let d := ((((d.endSwitch slot).setReg (RIL_GRP_SLOT slot) 63).showUnserved g).raise (82 + 4 * g)).rillInfo 2 rill flash beam
  let d := { d with ril := { d.ril with forced := d.ril.forced.filter (fun s => s != slot) } }
  d.completeWhere (fun w => w == Wait.rillForce slot) sNO_RESOURCE 0 []

/-- The FSEQ of the next flash that a slot has not begun (R179). -/
def Device.nextRill (d : Device) (j : Job) (slot : Nat) : Nat :=
  ((d.ril.begun.find? (fun p => p.1 == slot)).map (fun p => (p.2 + 1) % pairMod)).getD (j.fseq (j.firedN + 1))

/-- The data of a pass end, at a barred flash (R108) or at the next flash of a slot that no rill serves (R180), before the flashes that
weir 5 must hold when a run starts (R278), or those of a beam group that no lane carries (R226): no run of the pass can start. -/
def Device.endsShort (d : Device) (j : Job) : Bool :=
  let need := min (d.get fArrayDepth : Int) ((j.nFlashes : Int) - j.nextFlash)
  let short := fun (fs : Nat) => !fseqGe fs (j.fseq (j.nextFlash + need))
  d.ril.barred.any short ||
    (List.range 256).any (fun s => d.reg (RIL_GRP_SLOT s) % 64 == 63 && !d.slotZero j s && short (d.nextRill j s)) ||
    (List.range 64).any (fun g => d.carryingLane g == none && decide ((d.groupLevel g (j.fseq j.nextFlash) : Int) < need))

/-- The data of the pass that comes next, or of the one in progress, end so early. -/
def Device.endsEarly (d : Device) : Bool :=
  d.job.any (fun j => d.endsShort (if d.phase == phLayer then j.ahead.getD j else j))

/-- With no pass in progress and data that end too early for a run, the stop begins at once (R108, R180, R226). -/
def Device.stopEarly (d : Device) : Device := d.when d.endsEarly (fun d => d.stopIdle cFAULT)

/-- A rill retires: the free rill takes its slot, or the slot is unserved (R180, R181). -/
def Device.retireRill (d : Device) (slot : Nat) (n : Int) : Device :=
  let g := slot / 32
  let k := d.reg (RIL_GRP_SLOT slot) % 64
  let d := d.putFlag (fRillRetired g k) true
  if d.get (fFreeRill g) != 63 then d.switchIn slot 63
  else
    (d.slotLost slot (33 * g + k) n wordMax).stopEarly

/-- A residue or parity fault at a beam, of the rill that computes flash n of a slot; a rill that is being switched in
retires with it (R178, R182). -/
def Device.rillFault (d : Device) (j : Job) (slot : Nat) (n : Int) (beam : Nat) : Device :=
  let g := slot / 32
  let rill := 33 * g + d.reg (RIL_GRP_SLOT slot) % 64
  let d := ((d.bump (whole RIL_RESIDUE_COUNT)).rillInfo 0 rill n beam).raise (80 + 4 * g)
  let d := d.when (d.ril.switching.contains slot) (fun d => d.setDomain { d.domain 7 rill with recovering := true })
  match d.charge 7 rill 0 (j.fseq n) with
  | (.permanent, d) => d.retireRill slot n
  | (_, d) => d

/-- A stuck-open stop: the hold, its record and event 91 (R165, R166). -/
def Device.stuckStop (d : Device) (beam : Nat) (flash : Int) : Device :=
  (((d.rillInfo 1 0x1FF flash beam).putFlag fStuckHold true).raise 91).stopRequest cFAULT

end Sys2Proof.Machine
end

