-- ==== Sys2Proof/Machine/RegOps.lean ====
section
/-! DEFINITION. The write of a register by its field access codes (R7, R10, R11): which writes a chapter ignores, what
else a write clears or changes, and the shadows that a pending commit locks. -/
namespace Sys2Proof.Machine

/-- Where a write comes from, as far as a register's rule depends on it (R544). -/
inductive WriteFrom where
  | host
  | monitor
  | dma
deriving DecidableEq, Repr

/-! ## Fields by access code -/

/-- The value of a dword after a write: RW, RWS and SH bits take the written value, W1C bits written 1 clear but those of `fresh`, which
the module sets in the clock of the write, and every other bit stays (R11). -/
def fieldWrite (m : Dw) (old fresh v : Nat) : Nat :=
  let take := m.rw ||| m.rws ||| m.sh
  let keep := old - (old &&& take)
  let clear := keep &&& (v &&& m.w1c)
  (keep - (clear - (clear &&& fresh))) ||| (v &&& take)

/-- A dword written 1 in its first-error bit: what is cleared with it, as offsets beside its own (R73, R119, R125, R196,
R200, R247, R295, R347, R430). -/
def clearedWith (base : Nat) : List Nat :=
  if base = SPR_ERR_CODE then [SPR_ERR_CODE, SPR_ERR_STREAM, SPR_ERR_SEQ, SPR_ERR_WORD]
  else if base = BSN_MM_INFO then [BSN_MM_INFO, BSN_MM_BASIN, BSN_MM_BAND, BSN_MM_RESID, BSN_MM_RESID + 4, BSN_MM_TOL]
  else if base = CST_UNWR_INFO then [CST_UNWR_INFO, CST_UNWR_ROW, CST_UNWR_ROW + 4, CST_UNWR_LINE]
  else if base = RIL_CHECK_INFO then [RIL_CHECK_INFO, RIL_CHECK_ITEM]
  else if base = RIL_FAULT_INFO then [RIL_FAULT_INFO, RIL_FAULT_FLASH, RIL_FAULT_FLASH + 4, RIL_FAULT_BEAM]
  else if base = LNE_ERR_INFO then [LNE_ERR_INFO, LNE_ERR_FSEQ, LNE_ERR_FSEQ + 4]
  else if base = FLS_PERMIT_CUT then [FLS_PERMIT_CUT, FLS_PERMIT_FSEQ, FLS_PERMIT_FSEQ + 4]
  else if base = MEM_UE_INFO then [MEM_UE_INFO, MEM_UE_LINE, MEM_UE_LINE + 4]
  else if base = MSH_STOP_INFO then [MSH_STOP_S, MSH_STOP_S + 4]
  else []

/-! ## Writes that a chapter ignores -/

/-- The motion settings whose ignored writes raise event 182 (R302). -/
def motionRow (base : Nat) : Bool :=
  base = MOT_VMAX || base = MOT_VMIN || base = MOT_VMOVE || base = MOT_ACC || base = MOT_JERK || base = MOT_STOP_ACC ||
    base = MOT_STOP_JERK || base = MOT_GOV_DB_LOW || base = MOT_GOV_DB_HIGH || base = MOT_GOV_CL_LOW || base = MOT_GOV_CL_HIGH

/-- The module takes a write that gives the dwords of an element the values `nv`. -/
def Device.takesWrite (d : Device) (base elem : Nat) (nv : List Nat) : Bool :=
  let v := nv.headD 0
  let v36 := pairVal v (nv.getD 1 0)
  if base = SYS_FLT_CFG then bits v 16 2 != 0 && bits v 8 8 != 0
  else if base = SYS_DIE_WARN then decide (sext 18 v < 110 * 256)
  else if base = SYS_PLATE_WARN then decide (sext 18 v < 65 * 256)
  else if base = ULP_SQ_BASE 0 || base = ULP_SQ_SIZE 0 || base = ULP_CQ_BASE 0 || base = ULP_CQ_SIZE 0 then
    !d.flag (fEn elem) && !d.flag (fDraining elem)
  else if base = SPR_SPILL_BASE 0 || base = SPR_SPILL_LINES 0 then !d.flag (fSpillUsed elem)
  else if base = LNE_ACK_TIMEOUT then v % 2048 != 0
  else if base = FLS_TEMP_WARN then decide (sext 18 v < sext 18 (d.reg FLS_TEMP_LIMIT))
  else if base = FLS_TEMP_LIMIT then decide (sext 18 (d.reg FLS_TEMP_WARN) < sext 18 v)
  else if base = MOT_VMAX then v != 0 && decide (d.reg MOT_VMIN ≤ v)
  else if base = MOT_VMIN then decide (v ≤ d.reg MOT_VMAX)
  else if base = MOT_VMOVE then v != 0
  else if base = MOT_ACC then decide (v36 ≤ d.get36 MOT_STOP_ACC)
  else if base = MOT_JERK then decide (v36 ≤ d.get36 MOT_STOP_JERK)
  else if base = MOT_STOP_ACC then decide (d.get36 MOT_ACC ≤ v36)
  else if base = MOT_STOP_JERK then decide (d.get36 MOT_JERK ≤ v36)
  else if base = MOT_GOV_DB_LOW then decide (v36 < d.get36 MOT_GOV_DB_HIGH)
  else if base = MOT_GOV_DB_HIGH then decide (d.get36 MOT_GOV_DB_LOW < v36)
  else if base = MOT_GOV_CL_LOW then decide (v < d.reg MOT_GOV_CL_HIGH)
  else if base = MOT_GOV_CL_HIGH then decide (d.reg MOT_GOV_CL_LOW < v)
  else if base = MOT_GOV_TFLOOR then decide (v ≤ 65536)
  else if base = MEM_CFG then bits v 2 8 != 0
  else if base = DMA_CH_PC 0 then bits (d.reg (DMA_CH_STATE elem)) 15 3 == 0 || bits (d.reg (DMA_CH_STATE elem)) 15 3 == 4
  else if base = CHK_U_START 0 || base = CHK_U_LENGTH 0 || base = CHK_U_SEQ 0 || base = CHK_U_PFX0 0 || base = CHK_U_EXPECT 0 then
    !d.chkBusy elem
  else if base = ETH_CFG then decide (1 ≤ bits v 13 5) && decide (bits v 13 5 ≤ 16) && bits v 11 2 != 3 && bits v 7 4 != 0
  else if base = ETH_NDF_TMO then bits v 9 9 != 0 && bits v 0 9 != 0
  else if base = ETH_NDF_PORT then v != 0
  else if base = ETH_SRV_CTRL 0 || base = ETH_SRV_ADDR 0 || base = ETH_SRV_UDP 0 then
    !(d.spr.slots.toList.any (fun s => s.isOpen && s.source == .ndf elem))
  else if base = PTP_STEP_LIMIT || base = PTP_LOCK_THR || base = PTP_HOLD_TMO then v != 0
  else if base = PMC_C_CFG 0 0 then decide (v % 256 ≤ 8)
  else if base = PMC_PSB_CTRL then decide (bits v 11 5 ≤ 20)
  else true

/-! ## What follows a write -/

/-- The effects of a register's new value on the state that follows it. -/
def Device.afterWrite (d0 d : Device) (base elem : Nat) : Device :=
  if base = POS_CH_SCALE 0 || base = POS_CH_OFFSET 0 then (d.showPos.trackD).positionCompares
  else if base = FLS_TEMP_WARN || base = FLS_TEMP_LIMIT then d.headTemp
  else if base = MOT_CFG then
    -- the grid goes on from the last boundary with the new period (R296), unless a boundary falls in this tick (R310)
    d.when (decide (d.mot.lastBoundary < d.clock) && decide (d.clock < d.mot.nextBoundary)) (fun d =>
      d.mapMot (fun m => { m with nextBoundary := m.lastBoundary + 800 * d.get fServo }))
  else if base = MOT_LAX_CTRL 0 || base = MOT_LAX_CUR 0 then Device.laxWritten d0 d elem
  else if base = MSH_CFG then
    let d := d.showRole
    if d.isManager then d else d.setReg MOT_GOV_MESH 65536
  else if base = PMC_C_COUNT 0 0 then { d with pmc := { d.pmcNow with wrote := elem :: d.pmcNow.wrote } }
  else if base = PWR_WAKE_EN then
    if d.pwr.enWas.any (fun x => x.1 == d.clock) then d else { d with pwr := { d.pwr with enWas := some (d.clock, d0.reg PWR_WAKE_EN) } }
  else if base = SYS_DIE_WARN then
    if d.pwr.dieWas.any (fun x => x.1 == d.clock) then d else { d with pwr := { d.pwr with dieWas := some (d.clock, d0.reg SYS_DIE_WARN) } }
  else if base = SYS_PLATE_WARN then
    if d.pwr.plateWas.any (fun x => x.1 == d.clock) then d else { d with pwr := { d.pwr with plateWas := some (d.clock, d0.reg SYS_PLATE_WARN) } }
  else if base = DMA_CH_PC 0 then
    d.mapChan elem (fun c => { c with instr := none, pcWas := if c.pcWas.any (fun x => x.1 == d.clock) then c.pcWas else some (d.clock, d0.dmaPc elem) })
  else if base = POOL_CLASS 0 then d.put { off := POOL_CLASS_ACT elem + 4, lo := 9, w := 9 } (bits (d.reg (POOL_CLASS elem + 4)) 9 9)
  else d

/-! ## Shadows (R143, R188, R273, R310) -/

/-- The table of a shadow register, under its number of R487. -/
def shadowTable (base : Nat) : Option Nat :=
  if base = POOL_CLASS 0 then some 0 else if base = POOL_DFT 0 then some 1 else if base = POOL_LAYER 0 then some 2
  else if base = POOL_DOSE_MAX then some 3 else if base = RIL_BT 0 then some 4 else if base = RIL_MASK 0 then some 5
  else if base = RIL_OFFS 0 then some 6 else if base = RIL_CODE_SCALE then some 7 else if base = FLS_DELAY 0 then some 8
  else if base = MOT_SINE 0 then some 9 else none

/-- A commit of the table is pending, or the running check reads its shadow (R143, R188). -/
def Device.tableBusy (d : Device) (t : Nat) : Bool :=
  if t < 4 then d.flag (fPoolPending t)
  else if t < 8 then d.flag (fRilPending (t - 4)) || d.ril.check.any (fun m => bitOf m (t - 4))
  else if t == 8 then d.flag fFlsPending
  else d.flag fSinePending

/-- A shadow write is lost: WRITE_LOST, and its event where the commit is pending or under check; a write that meets the
switch of its table has WRITE_LOST alone, but for the sine table (R143, R188, R273, R310). -/
def Device.writeLost (d : Device) (t : Nat) : Device :=
  let ev := fun (d : Device) (s : Nat) => d.when (d.tableBusy t) (fun d => d.raise s)
  if t < 4 then ev (d.putFlag (bitAt POOL_COMMIT_STATUS (8 + t)) true) 74
  else if t < 8 then ev (d.putFlag (bitAt RIL_COMMIT_STATUS (8 + t - 4)) true) 83
  else if t == 8 then ev (d.putFlag (bitAt FLS_COMMIT_STATUS 2) true) 173
  else (d.putFlag fSineLost true).raise 188

/-- The shadow of a table takes no write now. -/
def Device.shadowLocked (d : Device) (t : Nat) : Bool := d.tableBusy t || d.switchedNow t

/-! ## The write -/

/-- The masks under which a dword takes a write now: a PWEIGHT outside READY (R155) and the unlock bits of a write that
does not come over PCIe or REG_WRITE (R544) stay. -/
def Device.writeMasks (d : Device) (src : WriteFrom) (base : Nat) (m : Dw) : Dw :=
  if base = POOL_CLASS 0 && !d.inReady then { m with rw := 0 }
  else if base = SYS_MON_CFG && src != .host then { m with rw := 0, rws := m.rws - (m.rws &&& 0x20000) }
  else m

/-- A setting of the motion block that a servo boundary takes (R310). -/
def motionSetting (off : Nat) : Bool :=
  (decide (MOT_CFG ≤ off) && decide (off < MOT_GOV_VTGT)) || (decide (MOT_LAX_CTRL 0 ≤ off) && decide (off < MOT_LAX_CTRL 2))

/-- Keep what a motion setting was before the writes of this tick. -/
def Device.noteSetting (d : Device) (off old : Nat) : Device :=
  if !motionSetting off then d
  else d.mapMot (fun m => { m with wrote := (d.clock, if m.wrote.1 != d.clock then [(off, old)]
                                                      else if m.wrote.2.any (fun p => p.1 == off) then m.wrote.2 else (off, old) :: m.wrote.2) })

/-- Store the dwords of an element from an offset on, and journal each RWS field that changes (R448). -/
def Device.storeDwords (d : Device) (off : Nat) : List Dw → List Nat → Device
  | m :: ms, v :: vs =>
    let old := d.reg off
    let new := fieldWrite m old (d.justSet off) v
    let d := (d.setReg off new).when ((m.rw ||| m.rws) != 0) (fun d => d.noteSetting off old)
    (d.when ((old &&& m.rws) != (new &&& m.rws)) (fun d => d.journalReg off)).storeDwords (off + 4) ms vs
  | _, _ => d

/-- The values of the held lower dwords: what was written, or the present value (R10). -/
def Device.heldLows (d : Device) (off n : Nat) : List Nat :=
  (List.range n).map (fun i => (cellFind d.heldWrites (off + 4 * i)).elim (d.reg (off + 4 * i)) (fun w => w.toNat))

/-- A write of a register that has no row of its own in the table of operations. -/
def Device.plainWrite (d : Device) (src : WriteFrom) (off v : Nat) : Device :=
  match locate off with
  | none => d
  | some l =>
    let n := l.row.dws.length
    let first := off - 4 * l.dw
    if l.row.guard == .ready && !d.inReady then d
    else if l.row.hold && decide (l.dw + 1 < n) then
      -- a low dword written while the chapter ignores writes is ignored too
      if !d.takesWrite l.row.base l.elem ((List.range n).map (fun i => d.reg (first + 4 * i))) then d
      else { d with heldWrites := cellInsert (cellErase d.heldWrites off) off (BitVec.ofNat 18 v) }
    else
      let at_ := if l.row.hold then first else off
      let ms := (if l.row.hold then l.row.dws else [l.masks]).map (d.writeMasks src l.row.base)
      let vs := if l.row.hold then d.heldLows first (n - 1) ++ [v] else [v]
      let d := if l.row.hold then { d with heldWrites := (List.range n).foldl (fun h i => cellErase h (first + 4 * i)) d.heldWrites } else d
      let nv := (ms.zip vs).zipIdx.map (fun p => fieldWrite p.1.1 (d.reg (at_ + 4 * p.2)) (d.justSet (at_ + 4 * p.2)) p.1.2)
      match shadowTable l.row.base with
      | some t => if d.shadowLocked t then d.writeLost t else Device.afterWrite d (d.storeDwords at_ ms vs) l.row.base l.elem
      | none =>
        if !d.takesWrite l.row.base l.elem nv then (if motionRow l.row.base then d.raise 182 else d)
        else if bitOf v 17 && !bitOf (d.justSet off) 17 && !(clearedWith l.row.base).isEmpty then
          (d.storeDwords at_ ms vs).each (clearedWith l.row.base) (fun d o => d.setReg o 0)
        else Device.afterWrite d (d.storeDwords at_ ms vs) l.row.base l.elem

/-- The beam-table window (R161, R197): the page's shadow takes the write; a write while the active copy shows is discarded
with event source 0. -/
def Device.beamWindow (d : Device) (off v : Nat) : Device :=
  if d.flag (bitAt RIL_BT_PAGE 17) then d.raise 0
  else if d.shadowLocked 4 then d.writeLost 4
  else
    let w := 131072 * (d.reg RIL_BT_PAGE % 4) + (off - RIL_BT 0) / 4
    { d with ril := { d.ril with shadow := setBt d.ril.shadow w v } }

/-- What a deferred write stores: of a pool class's CTRL, PWEIGHT alone is of class JOB (R155, R480). -/
def Device.deferredValue (d : Device) (off v : Nat) : Nat :=
  if (locate off).any (fun l => l.row.base == POOL_CLASS 0 && l.dw == 1) then (v &&& 0x3FE00) ||| (d.reg off &&& 0x1FF) else v

/-- Take the deferred JOB-class writes, in submission order, as the module enters READY; event 22 follows (R480). They meet no switch of
that clock: of a table they change PWEIGHT alone, which is no part of it. -/
def Device.takeDeferred (d : Device) : Device :=
  let ws := d.ulp.deferred
  if ws.isEmpty then d
  else
    let now := d.tbl
    let d := ({ d with ulp := { d.ulp with deferred := [] }, tbl := {} }).put fDeferWrites 0
    ({ (d.each ws (fun d w => d.plainWrite .host w.1 (d.deferredValue w.1 w.2))) with tbl := now }).raise 22

end Sys2Proof.Machine
end

