-- ==== Sys2Proof/Machine/Pool.lean ====
section
/-! DEFINITION. The pool filter and the pool tables (R134, R140 to R144). -/
namespace Sys2Proof.Machine

/-- The correction of a stripe begins at its raster boundary (R134, R141); one that is made again has passed it (R144). -/
def poolCorrectionStartEffect (d : Device) : Device :=
  match d.job with
  | none => d
  | some j =>
    if !d.unitUp 3 || !d.inJob || !d.pcEn || d.pool.corr.isSome || d.flag fPoolFailed then d
    else
      match d.correctionNext j with
      | none => d
      | some k =>
        let d := ({ d with pool := { d.pool with corr := some (d.csc.nextLayer, k) } }).putFlag fCorrRun true
        let lead := d.poolLead j
        if d.pool.snaps.any (fun x => x.layer == d.csc.nextLayer && x.stripe == k) then d.itemIn 5
        else
          let d := { d with pool := { d.pool with dens := d.pool.dens.filter (fun e => decide (k - lead ≤ e.1)) } }
          (d.rasterBoundary k d.csc.nextLayer).itemIn 5

def execPoolCorrectionStart (s : State) := s.run poolCorrectionStartEffect

/-- A line of the ring that a correction reads, the stripes of its lead on either side, is bad (R129, R144). -/
def Device.ringBad (d : Device) (j : Job) (k : Nat) : Option Nat :=
  let lead := d.poolLead j
  ((List.range j.stripes.length).filter (fun i => decide (k ≤ i + lead) && decide (i ≤ k + lead))).findSome? (fun i =>
    d.badIn (d.ringAt j i) (d.stripLines j))

/-- A correction completes (R134), or meets an uncorrectable read of a strip or of the ring (R144). It writes its strip and its x-pass
results afresh before it reads them. -/
def poolCorrectionCompleteEffect (ringError stripError : Bool) (d : Device) : Device :=
  match d.job, d.pool.corr with
  | some j, some (layer, k) =>
    let bad := d.ringBad j k
    if !d.unitUp 3 || !d.regionServes (d.get36 POOL_REGION_BASE) (d.poolNeed j) then d
    else if ringError || bad.isSome then (((bad.elim d (fun la => d.uncorrectable la 4)).charge 6 0 1 k).2).poolFails (some (layer, k))
    else if stripError then
      match d.charge 6 0 0 k with
      | (.ignored, d) => d.poolFails (some (layer, k))
      | (_, d) => d
    else
      let fs := d.filtered j k
      let clamps := (fs.filter (fun f => decide (f.2 < 0) || decide (131071 < f.2))).length
      let dft := (((d.pool.snaps.find? (fun x => x.layer == layer && x.stripe == k)).getD (d.poolSnap k layer)).dft)
      let q := fs.map (fun f => (f.1, factorOf dft (max 0 (min f.2 131071)).toNat))
      let d := (d.bumpBy (whole POOL_F_CLAMP) clamps).when (decide (0 < clamps)) (fun d => d.raise 76)
      let d := { d with pool := { d.pool with corr := none, q := d.pool.q ++ [((layer, k), q)] } }
      let d := d.fillPool.rewriteRegion (d.stripAt j k) (d.stripLines j)
      let d := d.rewriteRegion (d.get36 POOL_REGION_BASE + d.ringLines j + 2 * d.stripLines j) (d.poolNeed j - d.ringLines j - 2 * d.stripLines j)
      ((((d.putFlag fCorrRun false).recovered 6 0).itemOut 5).raise 72).showPoolWeir
  | _, _ => d

def execPoolCorrectionComplete (ringError stripError : Bool) (s : State) :=
  s.run (poolCorrectionCompleteEffect ringError stripError)

/-- A write of POOL_COMMIT: each bit written 1 commits its table: in a job at the next raster boundary, or at the one that
falls in the same clock; otherwise at once (R140, R142, R143, R151). -/
def writePoolCommit (v : Nat) (d : Device) : Device :=
  let d := d.each (List.range 4) (fun d t =>
    d.when (bitOf v t && !d.flag (fPoolPending t)) (fun d => (d.putFlag (fPoolPending t) true).pendTable t))
  if !d.inJob then d.switchPool wordMax wordMax clsImmediate
  else match d.boundaryNow d.tbl.raster with
    | some (stripe, layer) => d.switchRaster stripe layer
    | none => d

def execPoolCommit (value : Word) (s : State) :=
  s.run (fun d => if d.unitUp 3 then writePoolCommit value.toNat d else d)

end Sys2Proof.Machine
end

