-- ==== Sys2Proof/Machine/Rills.lean ====
section
/-! DEFINITION. The rills (R158 to R204): flashes, the rill boundary, commits and their checks, spares and stuck-open
beams. -/
namespace Sys2Proof.Machine

/-- The rows that R108 requires for flash n of a pass are in the Cistern: those up to u_lead(n) + 8 in the direction of the
pass; of a pass that is not yet in progress, all of them from its first row on. -/
def Device.rowsFor (d : Device) (k : Job) (n : Int) : Bool :=
  let u := k.leadRow n
  let last := if k.reverse then max 0 (u - 8) else min ((k.cur.len : Int) - 1) (u + 8)
  let count := ((if k.reverse then (k.cur.len : Int) - 1 - last else last) + 1).toNat
  let all := (List.range count).all (fun (i : Nat) => d.inCistern k (if k.reverse then k.cur.len - 1 - i else i))
  decide (last < 0) || decide ((k.cur.len : Int) ≤ last) || d.inCistern k last.toNat && (d.job.any k.samePass || all)

/-- The rill tables for the stripe of a pass are in place: its rill boundary has passed (R179, R185). -/
def Device.tablesPlaced (d : Device) (k : Job) : Bool := d.ril.boundary == some k.key || (d.ril.old.isSome && d.job.any k.samePass)

/-- A served slot with an active row whose rill computes nothing and has room in its buffer (R159, R179, R180). -/
def Device.rillFree (d : Device) (k : Job) (slot : Nat) : Bool :=
  d.unitUp (5 + slot / 32) && d.dataRuns && !(k.slotRows slot).isEmpty && d.reg (RIL_GRP_SLOT slot) % 64 != 63 &&
    !(d.ril.jobs.any (fun x => x.slot == slot)) && decide (d.slotLevel slot < 8)

/-- A rill may start a flash of a slot: flash n of the pass `k` (R108, R179, R186). -/
def Device.rillReady (d : Device) (k : Job) (slot : Nat) (n : Int) : Bool :=
  d.rillFree k slot && d.rowsFor k n && d.cst.first.isEmpty && d.tablesPlaced k && d.ril.barred.all (fun m => !fseqGe (k.fseq n) m)

/-- The rill of a slot reads what a flash needs: the Cistern errors that its reads meet are handled (R109). -/
def Device.rillReads (d : Device) (rill : Nat) (lines : List Nat) (cells : List CellError) : Device :=
  (d.itemIn 7).each (cells.filter (fun e => lines.contains e.line)) (fun d e => d.cellError e rill)

/-- A rill has met an unwritten line: its flash is discarded, and no strobe fires from that flash on: its compare is refused, and the
stitch point is the flash before it. Where it lies so near that no run of its pass can start, the stop is made at once (R108). -/
def Device.barFlash (d : Device) (rill line fseq : Nat) : Device :=
  let d := (d.recordUnwritten false rill line).raise 66
  let first := match d.ril.barred with
    | some m => if fseqGe fseq m then m else fseq
    | none => fseq
  ({ d with ril := { d.ril with barred := some first } }).stopEarly

/-- A rill computes a flash of a slot (R159); `f` is an error that its checks have not shown. -/
def Device.rillComputes (d : Device) (k : Job) (slot rill : Nat) (n : Nat) (f : Option RillFault) : Device :=
  let codes := (slotBeams slot).map (fun b => d.beamCodeWith k n b (fun t => f.elim 0 (fun f => faultError f b t)))
  { d with ril := { d.ril with
      jobs := d.ril.jobs ++ [{ slot := slot, rill := rill, n := n, fseq := k.fseq n, codes := codes.map Prod.fst,
                               clamps := (codes.filter (fun c => c.2)).length }],
      begun := (slot, k.fseq n) :: d.ril.begun.filter (fun p => p.1 != slot) } }

/-- A rill begins a flash, of the pass in progress or of the pass after it (R159, R179, R185). A fault that its checks show
discards it (R177, R178); while the rill still loads, a fault retires it (R182). -/
def rillFlashStartEffect (slot : Nat) (cells : List CellError) (fault : Option RillFault) (d : Device) : Device :=
  match d.job.bind (fun j => j.atFseq (d.nextRill j slot)) with
  | none => d
  | some (k, n) =>
    let rill := 33 * (slot / 32) + d.reg (RIL_GRP_SLOT slot) % 64
    if d.ril.loading.contains slot then
      match fault.bind (d.faultBeam k slot n) with
      | some b => if d.unitUp (5 + slot / 32) then d.rillFault k slot n b else d
      | none => d
    else if !d.rillReady k slot n then d
    else
      let lines := d.slotLines k slot n
      let d := d.rillReads rill lines cells
      match lines.find? (fun l => !d.lineWritten l) with
      | some l => d.barFlash rill l (k.fseq n)
      | none =>
        match fault.bind (d.faultBeam k slot n) with
        | some b => d.rillFault k slot n b
        | none => d.rillComputes k slot rill n fault

def execRillFlashStart (slot : Fin 256) (cells : List CellError) (fault : Option RillFault) (s : State) :=
  s.run (rillFlashStartEffect slot cells fault)

/-- The rill that switches in has loaded the slot's entries (R182). Outside a job no flash follows, and the switch is
complete. -/
def spareLoadDoneEffect (g : Nat) (d : Device) : Device :=
  if !d.unitUp (5 + g) then d
  else
    let others := fun (l : List Nat) => l.filter (fun s => s / 32 != g)
    { d with ril := { d.ril with loading := others d.ril.loading, switching := if d.inJob then d.ril.switching else others d.ril.switching } }

def execSpareLoadDone (g : Fin 8) (s : State) := s.run (spareLoadDoneEffect g)

/-- Count the clamped codes of a flash; the first clamp in a stripe raises event 95 (R172). -/
def Device.countClamps (d : Device) (key : Option (Nat × Nat)) (clamps : Nat) : Device :=
  let d := d.put36 RIL_CLAMP_COUNT (min (d.get36 RIL_CLAMP_COUNT + clamps) (pairMod - 1))
  if clamps != 0 && !key.any d.ril.clampSeen.contains then
    ({ d with ril := { d.ril with clampSeen := d.ril.clampSeen ++ key.toList } }).raise 95
  else d

/-- The checked codes of a flash enter the slot buffer (R159, R172); a switch is complete with its first flash (R182,
R183). -/
def rillFlashDoneEffect (slot : Nat) (d : Device) : Device :=
  match d.job, d.ril.jobs.find? (fun x => x.slot == slot) with
  | some j, some x =>
    if !d.unitUp (5 + slot / 32) then d
    else
      let d := { d with ril := { d.ril with jobs := d.ril.jobs.filter (fun y => y.slot != slot) },
                        slotBuf := d.slotBuf ++ [({ slot := slot, n := x.n, fseq := x.fseq, codes := x.codes } : SlotFlash)] }
      let d := (d.recovered 7 x.rill).itemOut 7
      let d := d.countClamps ((j.atFseq x.fseq).map (fun p => p.1.key)) x.clamps
      if d.ril.switching.contains slot && x.rill == 33 * (slot / 32) + d.reg (RIL_GRP_SLOT slot) % 64 then
        let d := d.endSwitch slot
        ({ d with ril := { d.ril with forced := d.ril.forced.filter (fun s => s != slot) } }).completeWhere (fun w => w == Wait.rillForce slot) sOK 0 []
      else d
  | _, _ => d

def execRillFlashDone (slot : Fin 256) (s : State) := s.run (rillFlashDoneEffect slot)

/-- The stripe whose rill boundary falls now: some rill can begin flash 0 of its pass 0, having begun every flash of the
stripe before, and no boundary of it has passed (R185). -/
def Device.boundaryDue (d : Device) : Option Job :=
  (List.range 256).findSome? (fun s =>
    match d.job.bind (fun j => j.atFseq (d.nextRill j s)) with
    | some (k, n) =>
      if n == 0 && k.pass == 0 && d.ril.boundary != some k.key && d.rillFree k s && !d.ril.loading.contains s && d.rowsFor k 0 then some k else none
    | none => none)

/-- The rill boundary of a stripe (R185): pending rill tables and flash delays switch. Rills that still compute the stripe
before go on with the tables as they were. -/
def rillBoundaryEffect (d : Device) : Device :=
  match d.boundaryDue with
  | none => d
  | some k =>
    let d := { d with ril := { d.ril with boundary := some k.key, old := if d.job.any k.samePass then none else some d.rillTables },
                      tbl := { d.tbl with rill := some (d.clock, k.stripe, k.layer) } }
    let d := (d.setReg RIL_BOUNDARY k.stripe).setReg (RIL_BOUNDARY + 4) k.layer
    (d.switchRill k.stripe k.layer clsStripe).switchFls clsStripe k.stripe

def execRillBoundary (s : State) := s.run rillBoundaryEffect

/-- The tables of a mask. -/
def maskBit (m t : Nat) : Bool := bitOf m t

/-- Start a commit check of tables (R186). -/
def Device.startCheck (d : Device) (m : Nat) : Device :=
  ({ d with ril := { d.ril with check := some m } }).putFlag fCheckRun true

/-- Checked commits of tables become pending (R186). -/
def Device.pendRill (d : Device) (ts : List Nat) : Device :=
  d.each ts (fun d t => (d.putFlag (fRilPending t) true).pendTable (4 + t))

/-- Pending rill tables that meet a rill boundary of the same clock switch at it (R188). -/
def Device.rillMeets (d : Device) : Device :=
  match d.boundaryNow d.tbl.rill with
  | some (stripe, layer) => d.switchRill stripe layer clsStripe
  | none => d

/-- A write of RIL_COMMIT. Outside a job the tables switch at once after the check of MASK_RANGE (R187); in a job a check
starts, or the tables are held for the next one; table 3 alone needs no check (R186). -/
def writeRilCommit (v : Nat) (d : Device) : Device :=
  let m := v % 16
  if m == 0 then d
  else if !d.inJob then
    match (if maskBit m 1 then d.maskRange RIL_MASK else none) with
    | some i => (d.each (List.range 4) (fun d t => d.when (maskBit m t) (fun d => d.putFlag (fRilRefused t) true))).checkFailed ckMASK_RANGE i
    | none =>
      let d := d.each (List.range 4) (fun d t => d.when (maskBit m t) (fun d => (d.putFlag (fRilRefused t) false).putFlag (fRilPending t) true))
      d.switchRill wordMax wordMax clsImmediate
  else
    let busy := fun t => d.flag (fRilPending t) || (d.ril.check.any (fun c => maskBit c t))
    let new := ((List.range 4).filter (fun t => maskBit m t && !busy t)).foldl (fun a t => a + 2 ^ t) 0
    if new == 0 then d
    else if d.ril.check.isSome then { d with ril := { d.ril with held := d.ril.held ||| new } }
    else if new == 8 then ((d.putFlag (fRilRefused 3) false).pendRill [3]).rillMeets
    else d.startCheck new

def execRilCommit (value : Word) (s : State) :=
  s.run (fun d => if d.unitUp 5 then writeRilCommit value.toNat d else d)

/-- A write of FLS_COMMIT: in a job the delays switch at the next rill boundary, or at the one in the same clock;
otherwise at once (R273, R293). -/
def writeFlsCommit (v : Nat) (d : Device) : Device :=
  if !bitOf v 0 then d
  else
    let d := d.when (!d.flag fFlsPending) (fun d => (d.putFlag fFlsPending true).pendTable 8)
    if !d.inJob then d.switchFls clsImmediate 0
    else match d.boundaryNow d.tbl.rill with
      | some (stripe, _) => d.switchFls clsStripe stripe
      | none => d

/-- Commit the tables of a command that are not rill tables (R479). -/
def Device.commitOthers (d : Device) (ts : List Nat) : Device :=
  let d := d.when (ts.any (fun t => decide (t < 4))) (fun d => writePoolCommit ((ts.filter (fun t => decide (t < 4))).foldl (fun a t => a + 2 ^ t) 0) d)
  let d := d.when (ts.contains 8) (writeFlsCommit 1)
  d.when (ts.contains 9) (fun d => writeSineCommit 1 d)

/-- The commands whose rill tables are in a check: they end with a failed check, complete DEFERRED, or wait for their
switches, once their other tables are committed too (R186, R478, R479). -/
def Device.checkEnds (d : Device) (m : Nat) (failure : Option Nat) : Device :=
  d.each d.ulp.flights (fun d f =>
    match f.wait with
    | .tables ts true deferred =>
      if !(ts.any (fun t => decide (4 ≤ t) && decide (t < 8) && maskBit m (t - 4))) then d
      else
        match failure with
        | some cause => d.complete f (checkStatus cause) (if checkStatus cause == sBAD_PARAM then detailDerived else 0) []
        | none =>
          if deferred then
            let d := { d with ulp := { d.ulp with deferredTables := d.ulp.deferredTables ++ ts } }
            (d.complete f sDEFERRED 0 [] clsStripe).commitOthers ts
          else (d.await f (.tables ts false false)).commitOthers ts
    | _ => d)

/-- The running commit check ends (R186). -/
def commitCheckDoneEffect (d : Device) : Device :=
  match d.ril.check with
  | none => d
  | some m =>
    if !d.unitUp 5 then d
    else
      let ts := fun t => maskBit m t || d.flag (fRilPending t)
      let mine := (List.range 4).filter (fun t => maskBit m t)
      let d := ({ d with ril := { d.ril with check := none } }).putFlag fCheckRun false
      let ranges := if ts 1 then (d.maskRange RIL_MASK).map (fun i => (ckMASK_RANGE, i)) else none
      let fail := match d.job with
        | some j => if d.inJob then d.rillCheck j ts else ranges
        | none => ranges
      let d := match fail with
        | some (cause, item) =>
          ((d.each mine (fun d t => d.putFlag (fRilRefused t) true)).checkFailed cause item).checkEnds m (some cause)
        | none =>
          let d := ((d.each mine (fun d t => d.putFlag (fRilRefused t) false)).pendRill mine).checkEnds m none
          if d.inJob then d.rillMeets else d.switchRill wordMax wordMax clsJob
      if d.ril.held == 0 then d
      else
        let h := d.ril.held
        ({ d with ril := { d.ril with held := 0 } }).startCheck h

def execCommitCheckDone (s : State) := s.run commitCheckDoneEffect

/-- The forced switch is taken (R183). -/
def Device.forceTaken (d : Device) (g v : Nat) : Bool :=
  let slot := 32 * g + v % 32
  bitOf v 17 && d.get (fFreeRill g) != 63 && !(d.ril.switching.any (fun s => s / 32 == g)) && d.reg (RIL_GRP_SLOT slot) % 64 != 63 &&
    d.job.all (fun j => !(j.slotRows slot).isEmpty)

/-- A write of RIL_GRPg_FORCE moves a slot to the group's free rill (R183). -/
def writeRilForce (g v : Nat) (d : Device) : Device :=
  if !d.forceTaken g v then d
  else
    let slot := 32 * g + v % 32
    let d := d.switchIn slot (d.reg (RIL_GRP_SLOT slot) % 64)
    { d with ril := { d.ril with forced := d.ril.forced ++ [slot] } }

def execRilGrpForce (g : Fin 8) (value : Word) (s : State) :=
  s.run (fun d => if d.unitUp (5 + g.val) then writeRilForce g value.toNat d else d)

/-- An acknowledgement is taken in HELD with STUCK_HOLD 1 (R165, R188). -/
def Device.ackTaken (d : Device) : Bool := d.inHeld && d.flag fStuckHold

/-- A write of RIL_STUCK_ACK (R165, R201). -/
def writeStuckAck (v : Nat) (d : Device) : Device :=
  if bitOf v 0 && d.ackTaken then ({ d with ril := { d.ril with acked := true } }).putFlag fStuckHold false else d

def execRilStuckAck (value : Word) (s : State) :=
  s.run (fun d => if d.unitUp 5 then writeStuckAck value.toNat d else d)

end Sys2Proof.Machine
end

