-- ==== Sys2Proof/Machine/Spring.lean ====
section
/-! DEFINITION. The Spring (R40 to R79): stream slots, blocks, decompressors, release, and the compression engines. -/
namespace Sys2Proof.Machine

/-- The layer and the stripe whose tally pass begins next, where it may (R89, R90): one at a time, at most Lp + 1 stripes
ahead, and every stripe of a layer before the next layer, which is tallied afresh once the raster passes have reached it. -/
def Device.tallyNext (d : Device) (j : Job) : Option (Nat × Nat) :=
  let k := d.csc.tallyDone
  let c := d.csc
  if c.tally.isSome then none
  else if k < j.stripes.length then
    if decide (c.tallyLayer < c.nextLayer) || decide (k ≤ c.nextStripe + d.poolLead j + 1) then some (c.tallyLayer, k) else none
  else if decide (c.tallyLayer < c.nextLayer) && decide (c.nextLayer < j.layers) then some (c.tallyLayer + 1, 0) else none

/-- A reading of a stripe's stream begins and opens a slot: of the next tally pass, or of the raster pass that has
begun (R90). -/
def streamOpenEffect (n : Nat) (raster : Bool) (d : Device) : Device :=
  match d.job with
  | none => d
  | some j =>
    if !d.unitUp 1 || (d.slot n).isOpen || !d.inJob || d.flag fSprFailed || d.csc.failed || d.mem.libLost then d
    else if raster then
      match d.csc.raster with
      | some pr =>
        if pr.slot.isSome || pr.ended then d
        else
          let s := j.stripeAt pr.stripe
          ({ d with csc := { d.csc with raster := some { pr with slot := some n } } }).openSlot n .raster s.source s.streamId pr.stripe none
      | none => d
    else
      match d.tallyNext j with
      | some (layer, k) =>
        let s := j.stripeAt k
        let d := { d with csc := { d.csc with tally := some { layer := layer, stripe := k, pass := 0, slot := some n }, tallyLayer := layer,
                                              tallyDone := k },
                          pool := { d.pool with acc := [], dens := if layer == d.csc.tallyLayer then d.pool.dens else [] } }
        (d.putFlag (bitAt CSC_STATUS 17) true).openSlot n .tally s.source s.streamId k none
      | none => d

def execStreamOpen (slot : Fin 16) (raster : Bool) (s : State) := s.run (streamOpenEffect slot raster)

/-- The SEQ after `q` (R42). -/
def seqAfter (q : Nat) : Nat := (q + 1) % wordMod

/-- A transport error (R59): the block is discarded and fetched again, or the stream fails. -/
def Device.transportError (d : Device) (n : Nat) (e : NdsErr) : Device :=
  let s := d.slot n
  let d := { d with spr := { d.spr with ndf := d.spr.ndf.filter (fun x => !(x.1 == n && x.2.1 == s.next)) } }
  match d.charge 1 n e.code s.next with
  | (.permanent, d) => d.streamError n e s.next true s.blocks
  | (_, d) =>
    ((d.setSlot n { s with refetch := true, attempt := (s.attempt + 1) % 256 }).bump (whole SPR_REFETCH_COUNT)).raise 32

/-- A stored block arrives (R58, R571). -/
def blockFetchedEffect (n : Nat) (srcErr : Bool) (d : Device) : Device :=
  let s := d.slot n
  if !d.unitUp 1 || !s.isOpen || s.failed || s.lastSeen || s.use == .recode then d
  else
    match d.nextBlock n srcErr with
    | none => d
    | some (.error e) =>
      let d := (d.sourceMet n).itemIn 1
      (if e.code == eSTREAM_END then d.streamError n e s.next false s.blocks else d.transportError n e).showBufs
    | some (.ok ws) =>
      let d := (d.sourceMet n).itemIn 1
      let d := { d with spr := { d.spr with ndf := d.spr.ndf.filter (fun x => !(x.1 == n && x.2.1 == s.next)) } }
      let d := (d.when s.refetch (fun d => d.recovered 1 n)).showBufs
      match headerErr ws with
      | some e => (d.setSlot n { s with refetch := false }).streamError n e s.next false s.blocks
      | none =>
        let b : Block := { seq := s.next, words := ws, last := hLast (ws.getD 1 0), tick := d.clock, stage := .stored [] }
        d.setSlot n { s with next := seqAfter s.next, pos := s.pos + ws.length / 4, refetch := false, attempt := 0,
                             lastSeen := b.last, blocks := s.blocks ++ [b] }

def execBlockFetched (slot : Fin 16) (srcErr : Bool) (s : State) := s.run (blockFetchedEffect slot srcErr)

/-- A decompressor may take a block: one that it discarded last goes to another, while another is in service (R66). -/
def Device.mayDecode (d : Device) (dec : Nat) (avoid : List Nat) : Bool :=
  avoid.head? != some dec || (List.range 8).all (fun k => k == dec || d.flag (fDecRetired k))

/-- A free decompressor takes the next stored block of a slot, in SEQ order (R65, R66). -/
def decodeStartEffect (n dec : Nat) (d : Device) : Device :=
  let s := d.slot n
  if !d.unitUp 1 || !s.isOpen || d.flag (fDecRetired dec) || (d.decoding dec).isSome then d
  else
    match s.blocks.find? (fun b => match b.stage with | .stored _ => true | _ => false) with
    | none => d
    | some b =>
      match b.stage with
      | .stored avoid => if d.mayDecode dec avoid then d.setSlot n (s.stage b.seq (.decoding dec avoid)) else d
      | _ => d

def execDecodeStart (slot : Fin 16) (dec : Fin 8) (s : State) := s.run (decodeStartEffect slot dec)

/-- A decompressor finishes a block, or discards it on a parity error of its window memory (R65, R66). -/
def blockDecodedEffect (dec : Nat) (parity : Bool) (d : Device) : Device :=
  if !d.unitUp 1 then d
  else
    match d.decoding dec with
    | none => d
    | some (n, b) =>
      let s := d.slot n
      if parity then
        let d := d.setSlot n (s.stage b.seq (.stored (dec :: b.avoid.filter (fun k => k != dec))))
        match d.charge 2 dec 0 b.seq with
        | (.permanent, d) =>
          let d := (d.putFlag (fDecRetired dec) true).raise 34
          d.when d.noDecoder (fun d => d.runDry cWEIR)
        | (_, d) => d
      else
        let d := d.decoderEnds b
        match decodeBlock b.words with
        | .error e => d.streamError n e b.seq false (s.blocks.takeWhile (fun x => x.seq != b.seq))
        | .ok ws => (d.setSlot n (s.stage b.seq (.decoded ws))).parseReady n (s.blocks.length + 1)

def execBlockDecoded (dec : Fin 8) (parityError : Bool) (s : State) := s.run (blockDecodedEffect dec parityError)

/-- The words of a record (R49). -/
def NdsRec.words : NdsRec → Nat
  | .sect _ _ _ => 11
  | .cellDef _ => 3
  | .place _ => 13
  | .prim (.rect _ _ _ _) => 10
  | .prim (.trap _ _ _ _ _ _ _) => 14
  | .prim (.poly vs) => 3 + 4 * vs.length
  | .prim (.curve _ segs) => 7 + (segs.map (fun g => if g.1.isSome then 13 else 5)).sum
  | .doseClass _ => 2
  | .layer _ _ => 4
  | .ends _ => 2

/-- Enter released records of a library stream in the cell library (R81). -/
def addCells (lib : List Cell) : List LRec → List Cell
  | [] => lib
  | r :: rest =>
    match r.body with
    | .cellDef id => addCells (lib ++ [{ id := id, items := [] }]) rest
    | .prim _ | .place _ =>
      addCells (match lib.getLast? with | some c => lib.dropLast ++ [{ c with items := c.items ++ [r] }] | none => lib) rest
    | _ => addCells lib rest

/-- The words that the library takes in its region. -/
def libSize (lib : List Cell) : Nat := (lib.map (fun c => Config.cellWords ((c.items.map (fun r => r.body.words)).sum))).sum

/-- Released records of a library stream: the library grows, until it does not fit its region (R62, R81). -/
def Device.releaseLibrary (d : Device) (n : Nat) (recs : List LRec) (last : Bool) : Device :=
  let lib := addCells d.csc.lib recs
  if 64 * d.get36 CSC_LIB_LINES < libSize lib then
    ((d.closeSlot n).clearLibrary).completeWhere (fun w => w == .library) sNO_RESOURCE 0 []
  else
    let d := { d with csc := { d.csc with lib := lib, libWords := libSize lib } }
    let d := d.when (!recs.isEmpty) (fun d => (d.fillRegion (d.get36 CSC_LIB_BASE) (d.get36 CSC_LIB_LINES)).regionUse)
    if !last then d
    else
      let d := (d.closeSlot n).setReg CSC_LIB_CELLS (131072 + lib.length)
      (d.raise 51).completeWhere (fun w => w == .library) sOK 0 [d.reg CSC_LIB_CELLS]

/-- Released records of a stripe's stream go to the pass that reads it (R61, R86); a raster pass marks records
(R541). -/
def Device.releaseGeometry (d : Device) (n : Nat) (s : Slot) (recs : List LRec) (last : Bool) : Device :=
  let d := match s.use, d.job, d.csc.raster, d.csc.tally with
    | .raster, some j, some pr, _ =>
      let d := d.each recs (fun d r => d.markRecord j pr s.streamId r)
      { d with csc := { d.csc with raster := some { pr with recs := pr.recs ++ recs, ended := pr.ended || last } } }
    | .tally, _, _, some pr => { d with csc := { d.csc with tally := some { pr with recs := pr.recs ++ recs, ended := pr.ended || last } } }
    | _, _, _, _ => d
  d.when last (fun d => d.closeSlot n)

/-- Module memory serves the records that a block gives the cell library (R81, R332). -/
def Device.libraryServes (d : Device) (s : Slot) (recs : List LRec) : Bool :=
  s.use != .library || d.regionServes (d.get36 CSC_LIB_BASE) (min (d.get36 CSC_LIB_LINES) (ceilDiv (libSize (addCells d.csc.lib recs)) 64))

/-- The first block of a slot is released, once it is parsed (R61, R65); the release of the stream's END closes the slot
(R90). -/
def blockReleaseEffect (n : Nat) (d : Device) : Device :=
  let s := d.slot n
  if !d.unitUp 1 || !s.isOpen then d
  else
    match s.blocks with
    | [] => d
    | b :: rest =>
      match b.stage with
      | .parsed ws recs =>
        if !d.libraryServes s recs then d else
        let d := d.setSlot n { s with blocks := rest }
        let d := (d.setReg (SPR_SLOT n + 12) (seqAfter (d.reg (SPR_SLOT n + 12)))).itemOut 1
        let d := d.capturePoint (fun x => x.point == 0 && x.slot == n) ws (fun _ => b.last)
        let d := d.when b.last (fun d => d.raise 35)
        if s.use == .library then d.releaseLibrary n recs b.last else d.releaseGeometry n s recs b.last
      | _ => d

def execBlockRelease (slot : Fin 16) (s : State) := s.run (blockReleaseEffect slot)

/-- An engine in RECODE mode codes its next input block; an input error ends its command (R67, R337). -/
def Device.recodeBlock (d : Device) (e : Nat) (srcErr : Bool) : Device :=
  let x := d.engine e
  let s := d.slot x.slot
  let fail := fun (d : Device) (check : Bool) =>
    (d.setEngine e { x with outcome := some sDATA_ERROR }).when check (fun d => d.raise 45)
  match d.nextBlock x.slot srcErr with
  | none => d
  | some (.error er) => fail (d.sourceMet x.slot) (er.code != eSHORT)
  | some (.ok ws) =>
    let d := d.sourceMet x.slot
    let h := fun i => ws.getD i 0
    match headerErr ws, decodeBlock ws with
    | some _, _ => fail d true
    | none, .error _ => fail d true
    | none, .ok out =>
      let last := hLast (h 1)
      let d := { d with spr := { d.spr with ndf := d.spr.ndf.filter (fun y => !(y.1 == x.slot && y.2.1 == s.next)) } }
      let d := d.setSlot x.slot { s with next := seqAfter s.next, pos := s.pos + ws.length / 4, lastSeen := last }
      let d := (d.showBufs).put36 (SPR_CMP_IN e) (d.get36 (SPR_CMP_IN e) + ws.length / 4)
      let d := ({ d with freeCtr := d.freeCtr + 1 }).setEngine e { x with inputDone := last }
      let d := d.placeGroups e 17 (storeBlock d.freeCtr last false (hPad (h 1)) (h 2) (h 3) (h 6) out)
      if (d.engine e).hold.isEmpty then d.when last (fun d => d.setEngine e { d.engine e with outcome := some sOK })
      else d.raise 44

/-- An engine in CAPTURE mode writes its next block, once 16,384 groups wait or the input is done (R67, R69). -/
def Device.captureBlock (d : Device) (e : Nat) : Device :=
  let x := d.engine e
  if x.inputDone && x.words.isEmpty then d.setEngine e { x with outcome := some sOK }
  else if !x.inputDone && x.words.length ≤ 65536 then d
  else
    let now := x.words.take 65536
    let rest := x.words.drop 65536
    let last := x.inputDone && rest.isEmpty
    let pad := (4 - now.length % 4) % 4
    let block := storeBlock d.freeCtr last true pad (Config.captureStream d.freeCtr).toNat x.outSeq 0 (padGroups now)
    let d1 := (d.nextFree.setEngine e { x with words := rest, outSeq := seqAfter x.outSeq }).placeGroups e 17 block
    let y := d1.engine e
    if y.hold.isEmpty then d1.when last (fun d => d.setEngine e { d.engine e with outcome := some sOK })
    else
      -- no buffer is eligible: the output ends with the last whole block
      let d1 := (d1.setEngine e { y with stored := x.stored, hold := [], outcome := some sNO_RESOURCE }).put36 (SPR_CMP_OUT e) (d.get36 (SPR_CMP_OUT e))
      (d1.each y.chain (fun d1 k => d1.put36 (SPR_SPILL_FILL k) (if x.chain.contains k then d.get36 (SPR_SPILL_FILL k) else 0))).raise 44

/-- A compression engine writes its next block (R67 to R69). -/
def compressBlockEffect (e : Nat) (srcErr : Bool) (d : Device) : Device :=
  let x := d.engine e
  if !d.unitUp 1 || !x.running || x.outcome.isSome || !x.hold.isEmpty || !d.outServes x then d
  else if x.capture then d.captureBlock e
  else if x.inputDone then d else d.recodeBlock e srcErr

def execCompressBlock (e : Fin 2) (srcErr : Bool) (s : State) := s.run (compressBlockEffect e srcErr)

/-- A HOLDING engine continues when a buffer is eligible (R69). -/
def engineContinueEffect (e : Nat) (d : Device) : Device :=
  let x := d.engine e
  match d.eligible with
  | none => d
  | some k =>
    if !d.unitUp 1 || !x.running || x.hold.isEmpty || x.outcome.isSome || !d.outServes x then d
    else
      let d := (d.takeBuffer e k).placeGroups e 17 x.hold
      let x := d.engine e
      if x.hold.isEmpty then d.when x.inputDone (fun d => d.setEngine e { x with outcome := some sOK }) else d.raise 44

def execEngineContinue (e : Fin 2) (s : State) := s.run (engineContinueEffect e)

/-- End an engine's command: its input slot closes, and the command completes with SPR_CMPe_OUT and the spillway buffers
used, with event 40 or 41 (R71, R488). -/
def Device.endEngine (d : Device) (e status : Nat) : Device :=
  let x := d.engine e
  let d := d.when (!x.capture) (fun d => d.closeSlot x.slot)
  let d := d.setEngine e { x with running := false, hold := [], words := [], outcome := none }
  (d.completeWhere (fun w => w == .compress e) status 0
    [d.reg (SPR_CMP_OUT e), d.reg (SPR_CMP_OUT e + 4), x.chain.length]).raise (40 + e)

/-- An engine's command completes (R488). -/
def compressCompleteEffect (e : Nat) (d : Device) : Device :=
  let x := d.engine e
  match x.outcome with
  | some st => if !d.unitUp 1 || !x.running then d else d.endEngine e st
  | none => d

def execCompressComplete (e : Fin 2) (s : State) := s.run (compressCompleteEffect e)

/-- A write of SPR_SPILLn_STATE: writing 1 to USED releases the buffer, unless its owner's command runs (R70). -/
def writeSpillState (n v : Nat) (d : Device) : Device :=
  let owner := d.engine (b2n (d.flag (bitAt (SPR_SPILL_STATE n) 16)))
  if !bitOf v 17 || !d.flag (fSpillUsed n) || (owner.running && owner.chain.contains n) then d
  else d.putFlag (fSpillUsed n) false

def execSpillUsedRelease (n : Fin 16) (value : Word) (s : State) :=
  s.run (fun d => if d.unitUp 1 then writeSpillState n value.toNat d else d)

end Sys2Proof.Machine
end

