-- ==== Sys2Proof/Machine/FlowOps.lean ====
section
/-! DEFINITION. The flow of a job (R24 to R30, R270, R300, R309): the set-up of a pass, the end of a pass, stripe, layer
and job, the layer handshake, the entry to HELD and to READY, and the start of a run. -/
namespace Sys2Proof.Machine

/-! ## A failed data path (R33, R63, R95, R144, R337) -/

/-- The cause of the stop that a failed data path makes. -/
def Device.pathStop (d : Device) : Option Nat :=
  if d.csc.failed || d.flag fPoolFailed || d.mem.libLost || d.mem.bandLost then some cFAULT else if d.flag fSprFailed then some cWEIR else none

/-- Every unit of a kind that a band needs is retired: decompressors, Cascade engines or Basins (R66, R96). -/
def Device.pathDead (d : Device) : Bool :=
  d.noDecoder || (List.range 16).all d.engineRetired || (List.range 32).all (fun b => !d.basinIn b)

/-- The cause of the stop where the next pass misses data: a lost row of the deep band, data that end before a run could start (R108,
R180), or a failure before its last row was committed, that of every unit of a kind among them. -/
def Device.dryCause (d : Device) : Option Nat :=
  if d.mem.bandLost || d.endsEarly then some cFAULT else if d.nextWhole then none
  else match d.pathStop with
    | some c => some c
    | none => if d.pathDead then some cWEIR else none

/-- With no pass in progress, a data path that failed earlier stops the job before the stage moves (R63). -/
def Device.dryStop (d : Device) : Device :=
  match d.dryCause with
  | some c => d.stopRequest c
  | none => d

/-! ## The plan of a pass (R300) -/

/-- V_TOP in u12.6 AU/µs. -/
def Device.vTop (d : Device) (j : Job) : Nat :=
  let p := d.get fMinPeriod
  if p == 0 then d.reg MOT_VMAX else min (d.reg MOT_VMAX) (256 * j.adv * 800 * 64 / p)

/-- The distance of a run-in: D(V_TOP) and the margin. -/
def Device.runInDist (d : Device) (v : Nat) : Int :=
  stopDistance (speedMs v) (d.limit MOT_ACC) (d.limit MOT_JERK) + (d.get36 MOT_MARGIN : Nat)

/-- The values that a pass captures, its run-in start and its end target. -/
def Device.passPlan (d : Device) (j : Job) : PassPlan :=
  let v := d.vTop j
  let dist := j.dir * d.runInDist v
  { vTop := v, acc := d.get36 MOT_ACC, jerk := d.get36 MOT_JERK,
    start := j.flashPos 0 - dist, target := j.flashPos ((j.nFlashes : Int) - 1) + dist }

/-! ## The set-up of a pass -/

/-- Set up the pass in progress of the job: its plan and a move to its run-in start (R300, R301), unless the data path has
failed short of it. The rows that the reader brought in ahead become its rows; those of the pass before stay where the pass
reads the same stripe again in whole-stripe mode. What the rills have computed ahead stays (R185). A worker has no stage
to move (R407). -/
def Device.enterPass (d : Device) (phase : Nat) : Device :=
  match d.job with
  | none => d
  | some j =>
    let p := d.passPlan j
    let d := d.mapJob (fun j => { j with decidedN := -1, firedN := -1 })
    let d := if j.pass != 0 && d.wholeStripe j j.cur.len then d.takeAhead.releaseRows.freeHeld j else (d.releaseWhere (fun _ => false)).takeAhead
    let d := { d with ril := { d.ril with old := if d.ril.boundary == some j.key then none else d.ril.old },
                      fls := { d.fls with decided := none, firstOfRun := true } }
    let d := (d.putFlag fArmed false).mapMot (fun m => { m with pass := some p, captured := none, runOut := false })
    let d := (d.setReg MOT_V_TOP p.vTop).putS36 MOT_END_X p.target
    let d := if d.isWorker then d.setPhase phLead else (d.setPhase phase).askMotion (.move p.start j.ySet false)
    (((d.showJob).showCistern).showWeir).dryStop

/-! ## HELD and READY -/

/-- A pause that was pending has taken effect: the module is in HELD, and the pause command completes (R29). A write-back
follows (R241). -/
def Device.pauseHeld (d : Device) : Device :=
  let d := ((d.setState stHeld).setPhase phIdle).put fHeldCause 1
  let d := (d.mapMot (fun m => { m with ask := none })).mapJob (fun j => { j with pausing := false })
  (d.completeWhere (fun w => w == .pause) sOK 0 []).writeback

/-- The pending tables of every kind switch as READY is entered (R143, R188, R310). -/
def Device.switchAll (d : Device) : Device :=
  let d := ((d.switchPool wordMax wordMax clsJob).switchRill wordMax wordMax clsJob).switchFls clsJob 0
  d.when (d.flag fSinePending) Device.switchSine

/-- READY is entered from a job: the geometry and boundary registers read 0, pending tables switch and deferred writes
take effect (R34, R143, R153, R157, R188, R195, R480). -/
def Device.enterReady (d : Device) : Device :=
  let d := { d with job := none, slotBuf := [], start := none, lastCommitted := false, lastHeld := false }
  let d := ((d.setReg SYS_STATE stReady).clearGeometry).clearTaps
  let d := d.each [POOL_BOUNDARY, POOL_BOUNDARY + 4, RIL_BOUNDARY, RIL_BOUNDARY + 4] (fun d o => d.setReg o 0)
  let places := [SYS_JOB_STRIPE, SYS_JOB_LAYER, POOL_BOUNDARY + 4, RIL_BOUNDARY + 4]
  let d := { d with capture := d.capture.filter (fun p => !places.contains p.1), tbl := {} }
  let d := ((d.putFlag (bitAt POOL_STATUS 16) false).put36 POOL_NEED_LINES 0).putFlag fPpAuth false
  let d := d.completeWhere Wait.isForce sABORTED 0 []
  let d := { d with ril := { d.ril with switching := d.ril.loading, jobs := [], begun := [], forced := [], boundary := none, old := none, barred := none, reported := [],
                                        stuckStrict := false },
                    fls := { d.fls with decided := none, stopArmed := false, flushDue := false, resumed := false },
                    msh := { d.msh with stopSent := false, rest := false, resuming := false, asking := false, deferred := false,
                                        joins := [], acks := [] } }
  let d := ((d.putFlag fArmed false).putFlag fStopPending false).putFlag fStuckHold false
  let d := d.each [MSH_DIGEST, MSH_DIGEST + 4] (fun d o => d.setReg o 0)
  let d := (d.putFlag fJoined false).each d.workers (fun d c => d.putFlag (fColJoined c) false)
  let d := d.mapMot (fun m => { m with pass := none, captured := none, backupDue := false, again := [], layerStep := 0, runOut := false })
  let d := ((d.putFlag fLayerDone false).putFlag fReadySeen false).showCistern
  let d := ((d.setReg CSC_WEIR_POOL 0).switchAll).each [0, 1] Device.captureLax
  d.takeDeferred

/-- The results of the job-start command (R484). -/
def Device.jobResults (d : Device) (j : Job) : List Nat :=
  let f := d.get36 FLS_FIRED
  [f % 4294967296, f / 4294967296, j.stripesDone, j.layersDone, j.pixelPm]

/-- The job's data in the data path is discarded, its slots close, and the failures that only an abort clears are cleared
(R30, R63, R95, R107, R144, R337). A library that was not
lost and DOSE_MAX stay. -/
def Device.clearPath (d : Device) : Device :=
  let d := d.each (List.range 16) (fun d n => if (d.slot n).use == .tally || (d.slot n).use == .raster then d.closeSlot n else d)
  let lost := d.mem.libLost
  let d := { d with csc := { lib := if lost then [] else d.csc.lib, libWords := if lost then 0 else d.csc.libWords }, pool := { doseMax := d.pool.doseMax }, marks := [],
                    mem := { d.mem with libLost := false, bandLost := false } }
  let d := (((d.putFlag fTallyRun false).putFlag fRasterRun false).putFlag fSprFailed false).putFlag fCorrRun false
  ((d.putFlag fPoolFailed false).showTally.showTiles).clearCistern

/-- The job ends: the manager sends END, READY is entered, and a pause that was pending completes ABORTED (R27, R29, R416,
R484). -/
def Device.jobDone (d : Device) : Device :=
  match d.job with
  | none => d
  | some j =>
    let d := (d.when d.isManager (fun d => d.sendMesh toAll mEND [])).clearPath.enterReady
    let d := d.completeWhere (fun w => w == .pause) sABORTED 0 []
    d.completeWhere (fun w => w == .job) sOK 0 (d.jobResults j)

/-! ## The layer handshake (R26, R309) -/

/-- Step 1: LAYER_DONE rises, and the moves of the driven axes are due at the next servo boundary. -/
def Device.layerDone (d : Device) : Device :=
  let d := (((d.putFlag fLayerDone true).raise 183).setPhase phLayer).mapMot (fun m => { m with layerStep := 2 })
  d.each [0, 1] (fun d k =>
    if d.flag (fLaxEn k) then
      d.setLayerMove k (some { p0 := d.getS36 (MOT_LAX_CMD k), p1 := 0, vmax := 0, acc := 0, goto := false, asked := d.clock, fresh := true })
    else d)

/-- Step 5: the next layer begins with its first stripe. -/
def Device.nextLayer (d : Device) : Device :=
  let d := d.mapJob (fun j => { j with fseq0 := (j.fseq0 + j.nFlashes) % pairMod, layer := j.layer + 1, stripe := j.firstStripe, pass := 0 })
  ((d.putFlag fReadySeen false).mapMot (fun m => { m with layerStep := 0 })).enterPass phStep

/-- Step 5 follows at the next boundary, where its moves begin (R296, R309). -/
def Device.askNextLayer (d : Device) : Device := d.mapMot (fun m => { m with ask := some .nextLayer, askTick := d.clock })

/-- Step 4: the go of the handshake, once LAYER_DONE has fallen. In HELD, or with a stop pending, it is recorded. -/
def Device.layerGo (d : Device) : Device :=
  if d.mot.layerStep != 3 || d.flag fReadySeen || !d.inJob then d
  else
    let d := (d.raise 187).putFlag fReadySeen true
    if d.inWriting && !d.flag fStopPending then d.askNextLayer else d

/-- LAYER_READY rose in the tick in which LAYER_DONE falls: the edge is accepted (R310). -/
def Device.readyMet (d : Device) : Device :=
  if d.mot.readyRise == some d.clock && d.flag fLayerReady && !d.flag fGoSrc then d.layerGo else d

/-! ## The end of a pass (R24 to R26, R29, R300) -/

/-- A pending pause takes effect now, unless a stop governs (R29). -/
def Device.pauseIf (d : Device) : Device := if d.job.any (fun j => j.pausing) && !d.flag fStopPending then d.pauseHeld else d

/-- The pass in progress is complete: the next pass, stripe or layer is set up, or the job ends. A stripe's last pass is
followed by a write-back (R241). A worker has no layer handshake of its own, and its job ends with END (R407, R416). -/
def Device.passDone (d : Device) : Device :=
  match d.job with
  | none => d
  | some j =>
    let seq := (j.fseq0 + j.nFlashes) % pairMod
    let next := fun (d : Device) (f : Job → Job) => (d.mapJob (fun j => f { j with fseq0 := seq })).enterPass phStep
    match j.after with
    | .pass => (next d (fun j => { j with pass := j.pass + 1 })).pauseIf
    | .stripe k => (next d.writeback (fun j => { j with stripe := k, pass := 0, stripesDone := j.stripesDone + 1 })).pauseIf
    | .layer =>
      let d := d.writeback.mapJob (fun j => { j with stripesDone := j.stripesDone + 1, layersDone := j.layersDone + 1 })
      if d.isWorker then d.nextLayer.pauseIf
      else if j.pausing then (d.mapMot (fun m => { m with layerStep := 1 })).pauseHeld
      else d.layerDone.dryStop
    | .jobEnd =>
      let d := d.writeback.mapJob (fun j => { j with stripesDone := j.stripesDone + 1, layersDone := j.layersDone + 1 })
      if d.isWorker then d.setPhase phIdle else d.jobDone

/-! ## The start of a run (R270, R278) -/

/-- Arm the first compare of a run, or stop where it lies at or behind POS_X (R270). -/
def Device.armRun (d : Device) (j : Job) : Device :=
  let n := j.nextFlash
  if !d.shortOf j n then d.armBehind
  else
    let d := { d with fls := { d.fls with firstOfRun := true, armedAt := some d.clock } }
    ((d.armFlash n).setPhase phRunIn).raise 176

/-- The unacknowledged STUCK_OPEN beams on active rows, lowest first (R165). -/
def Device.unackedStuck (d : Device) (j : Job) : List Nat := if d.ril.acked then [] else sortBy id (stuckBeams d.ril.active j)

/-- Every worker is LIVE and has reported READY (R417). -/
def Device.workersReady (d : Device) : Bool := d.workers.all (fun c => d.colLive c && d.flag (fColReady c))

/-- What may hold or stop the run in this column before it starts: a critical supply or temperature condition (R558), a
stuck-open hold (R165) or a failed data path. The first answer: the run may not start. -/
def Device.runHeld (d : Device) (j : Job) : Bool × Device :=
  if d.flag (bitAt SYS_HW_STATUS 13) then (true, d.stopRequest cFAULT)
  else
    match (if j.nextFlash == 0 then d.unackedStuck j else []) with
    | b :: _ => (true, d.stuckStop b (-1))
    | [] =>
      if d.runReady j then (false, d)
      else match d.dryCause with
        | some c => (true, d.stopRequest c)
        | none => (true, d)

/-- The captured V_TOP, A and J of a run (R300, R306). -/
def Device.runLimits (d : Device) : Nat × Nat × Nat :=
  match d.mot.captured, d.mot.pass with
  | some c, _ => c
  | none, some p => (p.vTop, p.acc, p.jerk)
  | none, none => (0, 0, 0)

/-- A run can accelerate: neither limit that it captured is 0 (R301). -/
def Device.canRun (d : Device) : Bool := d.runLimits.2.1 != 0 && d.runLimits.2.2 != 0

/-- The x profile of a run-in or re-acceleration from rest at a boundary, under the captured values (R300, R306). -/
def Device.planRun (d : Device) (j : Job) (tb : Nat) : Device :=
  let (v, a, jk) := d.runLimits
  (d.mapMot (fun m => { m with planX := planRunIn m.x tb j.dir (speedMs v) (mkRat a 256) (mkRat jk 256), vGov := none, govLimits := none, runOut := false })).put fMState msRUN_IN

/-- Every condition of a run holds: the module decides to start it (R165, R270, R278, R301, R417, R558). -/
def Device.runDue (d : Device) : Bool :=
  !d.isWorker && d.inWriting && d.awaitsRun && !d.mot.backupDue && d.settled && d.canRun && !d.flag (bitAt SYS_HW_STATUS 13) &&
    d.job.any (fun j => (j.nextFlash != 0 || (d.unackedStuck j).isEmpty) && d.runReady j) && (!d.isManager || d.workersReady)

/-- Keep the tick since which a run is due. -/
def Device.noteRun (d : Device) : Device :=
  d.mapMot (fun m => { m with runSince := if d.runDue then some (m.runSince.getD d.clock) else none })

/-- RUN_IN_START: at a servo boundary that has fallen due, with the stage settled and, after a resume, at its back-up
point, the run begins that was due in a tick before it; the manager sends RUN (R270, R278, R296, R301, R417). -/
def runInStartEffect (d : Device) : Device :=
  match d.job with
  | none => d
  | some j =>
    if !d.released 13 || !decide (d.mot.nextBoundary ≤ d.clock) || d.isWorker || !d.inWriting || !d.awaitsRun || d.mot.backupDue || !d.settled || !d.canRun then d
    else
      let (held, d) := d.runHeld j
      if held || (d.isManager && !d.workersReady) || !d.mot.runSince.any (fun t => decide (t < d.mot.nextBoundary)) then d
      else
        let d := d.armRun j
        if d.flag fStopPending then d
        else
          let d := d.planRun j d.mot.nextBoundary
          d.when d.isManager (fun d => d.sendMesh toAll mRUN ([j.pass * 2 + b2n j.reverse] ++ body36 (j.fseq j.nextFlash)))

end Sys2Proof.Machine
end

