-- ==== Sys2Proof/Machine/ResumeOps.lean ====
section
/-! DEFINITION. Resume, stop and abort of a job (R29, R30, R275 to R278, R305, R306, R420 to R422, R485). -/
namespace Sys2Proof.Machine

/-! ## The conditions of a resume (R277) -/

/-- The head temperature is below WARN, and not STALE. -/
def Device.resumeCool (d : Device) : Bool := decide (sext 18 (d.reg FLS_HEAD_TEMP) < sext 18 (d.reg FLS_TEMP_WARN)) && !d.flag fStale

/-- An axis has no healthy head (R277). -/
def Device.headless (d : Device) (a : Nat) : Bool := !d.healthy (2 * a) && !d.healthy (2 * a + 1)

/-- A layer axis's encoder holds back the move that a resume makes again (R308). -/
def Device.layerBlocked (d : Device) : Bool :=
  d.mot.again.any (fun p => d.flag (fLaxVerify p.1) && (d.flag (fHeadFailed (4 + p.1)) || d.flag (fHeadLos (4 + p.1))))

/-- The status of the first condition that fails, apart from the head temperature and the write-back of R242. -/
def Device.resumeFault (d : Device) : Option Nat :=
  match d.job with
  | none => some sBUSY_JOB
  | some j =>
    if !d.flag fPermit then some sBUSY_JOB
    else if d.headless 0 || d.headless 1 then some sNO_RESOURCE
    else if [0, 1].any (fun a => d.flag (fDiv a) && d.beyond a) then some sDATA_ERROR
    else if d.pathStop.isSome || d.lne.arrayFault || d.lne.mismatch then some sDATA_ERROR
    else if d.unserved || (d.slotFail d.ril.active j).isSome || d.layerBlocked then some sNO_RESOURCE
    else if d.ril.stuckStrict then some sREFUSED_STRICT
    else if d.flag fStuckHold then some sBUSY_JOB
    else none

/-- The refill before a resume: every held line whose written bit is clear. The rills wait for it (R108). -/
def Device.beginRefill (d : Device) : Device :=
  match d.job with
  | none => d
  | some j =>
    let lines := ((d.cst.rows ++ d.cst.ahead).flatMap j.rowLines).filter (fun l => !d.lineWritten l && !(d.cst.refill.any (fun r => r.1 == l)))
    let d := { d with cst := { d.cst with refill := d.cst.refill ++ lines.map (fun l => (l, 1024)) }, ril := { d.ril with barred := none } }
    let d := { d with cst := { d.cst with first := d.cst.refill.map Prod.fst } }
    d.putFlag fRefill (!d.cst.refill.isEmpty)

/-- BEAM_PERMIT has not fallen since a resume is accepted. -/
def Device.permitHolds (d : Device) : Device := { d with fls := { d.fls with fell := false } }

/-- What an accepted resume clears (R277, R280): of a worker that waits for RUN, no latch that has set since it accepted. -/
def Device.clearStop (d : Device) : Device :=
  let d := ((d.setReg FLS_STOP_CAUSES 0).putFlag fBlanked (d.flag fBlanked && d.fls.fell)).put fHeldCause 0
  { d with fls := { d.fls with stopArmed := false, resumed := true, firstOfRun := true },
           msh := { d.msh with stopSent := false, rest := false, resuming := false, deferred := false, asking := false, acks := [] } }

/-- The move to a back-up point, with the values it captures (R306). -/
def Device.backUp (d : Device) (j : Job) (b : Int) : Device :=
  let d := d.mapMot (fun m => { m with captured := some (d.vTop j, d.get36 MOT_ACC, d.get36 MOT_JERK), backupDue := true })
  ((d.setPhase phRunIn).putS36 MOT_BACKUP_X b).askMotion (.backup b j.ySet)

/-- The layer moves that a resume makes again (R308). -/
def Device.layerAgain (d : Device) : Device :=
  let l := d.mot.again
  let d := (d.mapMot (fun m => { m with again := [] })).setPhase phLayer
  d.each l (fun d p => d.setLayerMove p.1 (some { p0 := d.getS36 (MOT_LAX_CMD p.1), p1 := p.2.getD 0, vmax := 0, acc := 0, goto := false, asked := d.clock,
                                                  fresh := p.2.isNone }))

/-- A resume is accepted: WRITING, RUN_IN, and the back-up to B; `smin`: the lowest stitch point over the columns (R277,
R278, R306, R308, R309, R422). -/
def Device.resumeAccept (d : Device) (smin : Option Nat) : Device :=
  let d := (((d.permitHolds.clearStop).beginRefill).setState stWriting).setPhase phRunIn
  if d.mot.layerStep == 1 then d.layerDone
  else if d.mot.layerStep == 2 then d.layerAgain
  else if d.mot.layerStep == 3 then (d.setPhase phLayer).when (d.flag fReadySeen) Device.askNextLayer
  else
    match d.job with
    | none => d
    | some j =>
      let own := j.nextFlash
      let low : Int := match smin with
        | some s => min own (((s + pairMod - j.fseq0 + 1) % pairMod : Nat) : Int)
        | none => own
      if low < j.nFlashes then d.backUp j (j.flashPos low - j.dir * d.runInDist (d.vTop j))
      else
        -- s is the last flash of its pass: B is the run-in start of the next pass
        let d := d.passDone
        match d.job, d.mot.pass with
        | some j, some p => if d.phase == phStep then d.backUp j p.start else d
        | _, _ => d

/-- A worker accepts RESUME: its data path prepares, and it stays HELD until RUN. With s the last flash of its pass it goes
on to the next one (R278, R422). -/
def Device.resumeWorker (d : Device) : Device :=
  let d := d.permitHolds.beginRefill
  let d := { d with msh := { d.msh with resuming := true, deferred := false }, fls := { d.fls with firstOfRun := true } }
  if d.job.any (fun j => decide ((j.nFlashes : Int) ≤ j.nextFlash)) then
    let d := d.passDone
    { d with msh := { d.msh with resuming := true } }
  else d

/-! ## RESUME_ACK at the manager (R422) -/

/-- Record a refusal: the first since VALID was cleared (R430). -/
def Device.refusal (d : Device) (resume : Bool) (col status : Nat) : Device :=
  if d.flag (bitAt MSH_REFUSE_INFO 17) then d
  else d.setReg MSH_REFUSE_INFO (131072 + b2n resume * 65536 + col % 16 * 4096 + status % 16 * 256)

/-- The lowest stitch point over the columns (R422): FSEQ are compared within half of their range. -/
def Device.lowestStitch (d : Device) (own : Nat) : Nat :=
  d.workers.foldl (fun m c => let s := d.get36 (MSH_COL_STITCH c); if fseqGe s m then m else s) own

/-- The status of this column's checks, once a write-back that R242 asks for has been tried. -/
def Device.resumeStatus (d : Device) : Nat :=
  match d.resumeFault with
  | some s => s
  | none => if d.lne.pp.blocked then sAUTH_FAIL else if d.resumeCool then sOK else sDEFERRED

/-- The status of every column's checks, the manager's first: none while an answer is missing. -/
def Device.meshAnswers (d : Device) : Option (List (Nat × Nat)) :=
  let own := d.resumeStatus
  if d.workers.all (fun c => d.msh.acks.any (fun a => a.1 == c)) then
    some ((0, own) :: d.workers.map (fun c => (c, ((d.msh.acks.find? (fun a => a.1 == c)).map Prod.snd).getD 0)))
  else none

/-- A pending resume is over: it proceeded or is cancelled (R485). -/
def Device.resumeSettled (d : Device) : Device :=
  ({ d with msh := { d.msh with asking := false } }.putFlag fDeferResume false).raise 22

/-- A resume of the machine is refused for a column: MSH_REFUSE_INFO names it, and the command, or the resume that was pending,
ends (R422, R430, R485). -/
def Device.meshRefused (d : Device) (c st : Nat) : Device :=
  let d := (d.refusal true c st)
  let d := { d with msh := { d.msh with asking := false } }
  match d.ulp.flights.find? (fun f => f.wait == .resume) with
  | some f => d.complete f st 0 []
  | none => d.resumeSettled

/-- The manager accepts the resume. -/
def Device.meshResumeNow (d : Device) : Device :=
  let own := d.job.elim 0 (fun j => j.fseq j.decidedN)
  d.resumeAccept (some (d.lowestStitch own))

/-- The manager decides its resume once every column has answered, and it has tried its own write-back: DEFERRED from any column
makes it DEFERRED, where that is allowed (R422, R485). -/
def Device.meshDecide (d : Device) : Device :=
  if !d.msh.asking || d.lne.pp.forResume then d
  else
    match d.meshAnswers with
    | none => d
    | some l =>
      let deferred := l.any (fun p => p.2 == sDEFERRED)
      match d.ulp.flights.find? (fun f => f.wait == .resume), l.find? (fun p => p.2 != sOK) with
      | some f, none => ({ d with msh := { d.msh with asking := false } }.complete f sOK 0 []).meshResumeNow
      | none, none => d.resumeSettled.meshResumeNow
      | some f, some (c, st) =>
        if deferred && f.deferOk then (d.complete f sDEFERRED 0 []).putFlag fDeferResume true
        else d.meshRefused c (if st == sDEFERRED then sBUSY_JOB else st)
      | none, some (c, st) => if deferred then d else d.meshRefused c st

/-- Try the write-back of the pending deltas for a resume; one that runs already is that try (R242). -/
def Device.resumeWriteback (d : Device) : Device :=
  let runs := d.lne.pp.cmd != 0
  (d.mapPp (fun p => { p with forResume := true, tries := 0, retryAt := none })).when (!runs) Device.ppAddUsage

/-- A worker answers RESUME with the status of its checks (R422, R425). -/
def Device.answerNow (d : Device) : Device :=
  let st := if !d.inHeld || d.msh.reqTick == some d.clock then sBUSY_JOB else d.resumeStatus
  let d := if st == sOK then { d.resumeWorker with msh := { d.resumeWorker.msh with ackTick := some d.clock } } else { d with msh := { d.msh with resuming := false, deferred := st == sDEFERRED } }
  d.sendMesh 0 mRESUME_ACK [st]

/-- A worker makes the checks of R277 and answers; with deltas that hold the job, it tries their write-back first (R242, R422). -/
def Device.answerResume (d : Device) : Device :=
  if d.inHeld && d.lne.pp.blocked && d.resumeFault.isNone then
    ({ d with msh := { d.msh with deferred := false } }).when (!d.lne.pp.forResume) Device.resumeWriteback
  else d.answerNow

/-! ## The RESUME command (R277, R422, R485) -/

/-- The manager sends RESUME and waits for the answers. -/
def Device.askColumns (d : Device) : Device :=
  ({ d with msh := { d.msh with asking := true, acks := [] } }).sendMesh toAll mRESUME []

/-- The first worker that is not LIVE, so that a resume has no resource (R414). -/
def Device.columnLost (d : Device) : Option Nat := if d.isManager then d.workers.find? (fun c => !d.colLive c) else none

/-- Decide the resume of a single module whose command is `f`, and whose write-back of R242, if it needs one, has been tried. -/
def Device.decideResume (d : Device) (f : Flight) : Device :=
  let st := d.resumeStatus
  if st == sOK then (d.complete f sOK 0 []).resumeAccept none
  else if st != sDEFERRED then d.complete f st 0 []
  else if f.deferOk then (d.complete f sDEFERRED 0 []).putFlag fDeferResume true
  else d.complete f sBUSY_JOB 0 []

/-- The write-back for a resume has ended (R242): a worker answers, a manager decides with its workers' answers, and a single module
decides. -/
def Device.resumeTried (d : Device) : Device :=
  let d := d.mapPp (fun p => { p with forResume := false })
  if d.isWorker then d.answerNow
  else if d.isManager then d.meshDecide
  else (d.ulp.flights.find? (fun f => f.wait == Wait.resume)).elim d (fun f => d.decideResume f)

/-- RESUME. The manager asks every column, whatever its own checks give (R422); with pending deltas that hold the job, a write-back is
tried first (R242). -/
def Device.resumeCommand (d : Device) (f : Flight) : Device :=
  if !d.inHeld || d.isWorker || d.job.any (fun j => j.aborting) || d.flag fDeferResume || d.msh.asking || d.lne.pp.forResume then d.complete f sBUSY_JOB 0 []
  else if let some c := d.columnLost then (d.refusal true c sNO_RESOURCE).complete f sNO_RESOURCE 0 []
  else
    let tries := d.lne.pp.blocked && d.resumeFault.isNone
    let d1 := if d.isManager then (d.await f .resume).askColumns else if tries then d.await f .resume else d
    if tries then d1.resumeWriteback else if d.isManager then d1 else d.decideResume f

/-- A pending resume as the head temperature falls below WARN with STALE clear: it proceeds, or is cancelled where another
condition fails (R485). A worker whose answer was DEFERRED answers again. -/
def Device.pendingResume (d : Device) : Device :=
  if !d.resumeCool || !d.inHeld then d
  else if d.msh.deferred then d.answerResume
  else if !d.flag fDeferResume then d
  else if d.isManager then d.meshDecide
  else if d.resumeFault.isSome || d.lne.pp.blocked then d.resumeSettled
  else d.resumeSettled.resumeAccept none

/-! ## The entry to HELD (R275, R305, R421) -/

/-- SPEED of the X source has read 0 for MOT_SETTLE µs (R260, R414). -/
def Device.speedRests (d : Device) : Bool :=
  let t := d.clock - d.reg MOT_SETTLE % 65536 * 800
  let es := (d.head (d.sourceOf 0)).edges
  es.all (fun e => decide (e.1 ≤ t)) && speedOf t (d.get fSpeedLog2) es == 0

/-- The stage of the machine is at rest: on a worker, as REST or its own encoder says (R414, R421). -/
def Device.stopRests (d : Device) : Bool :=
  d.atRest && d.fls.decided.isNone && d.fls.high.isNone && !(d.mot.layer.toList.any (fun m => m.any (fun (v : LayerMove) => v.running && !v.goto))) &&
    (!d.isWorker || d.msh.rest || (d.msh.cut && d.speedRests))

/-- The flashes after the stitch point, given as an FSEQ, are discarded (R176). -/
def Device.discardAfter (d : Device) (s : Nat) : Device :=
  { d with slotBuf := d.slotBuf.filter (fun x => fseqGe s x.fseq),
           ril := { d.ril with jobs := [], begun := (List.range 256).map (fun k => (k, s)) } }

/-- A stitch stop is complete: HELD, event 161, the rest point, a write-back, and a pause that was pending completes OK
(R27, R29, R275, R305). The manager sends REST (R421). -/
def stitchStopHeldEffect (d : Device) : Device :=
  match d.job with
  | none => d
  | some j =>
    if !(d.released 13 && d.inWriting && d.flag fStopPending && !j.aborting && d.stopRests) then d
    else
      let d := (((d.setState stHeld).setPhase phIdle).putFlag fStopPending false).putFlag fArmed false
      let d := ((d.raise 161).putS36 MOT_REST_X d.mot.x).discardAfter (j.fseq j.decidedN)
      let d := { d with fls := { d.fls with flushDue := false, stopArmed := false } }
      let d := (d.completeWhere (fun w => w == .pause) sOK 0 []).mapJob (fun j => { j with pausing := false })
      ((d.when d.isManager (fun d => d.sendMesh toAll mREST [])).writeback).showWeir

def execStitchStopHeld (s : State) := s.run stitchStopHeldEffect

/-! ## Abort (R30) -/

/-- An abort begins: it is a stop request in WRITING, with FLUSH of every frame, at once where a stop has begun before, and with a
write-back; a pending resume is cancelled (R30, R227, R241, R485). The column that begins it tells every other one (R416). -/
def Device.beginAbort (d : Device) : Device :=
  let d := d.mapJob (fun j => { j with aborting := true })
  let stopped := !d.inWriting || d.flag fStopPending
  let d := if d.inWriting then d.stopForAbort else { d with msh := { d.msh with resuming := false, deferred := false } }
  let d := match d.job with
    | some j => d.when (stopped && d.fls.decided.isNone) (fun d => d.stopFlush (j.fseq (j.decidedN + 1)))
    | none => d
  let d := d.when (d.flag fDeferResume) Device.resumeSettled
  let d := ({ d with msh := { d.msh with asking := false } }).mapPp (fun p => { p with forResume := false })
  ((d.completeWhere (fun w => w == .resume) sABORTED 0 []).putFlag fLayerDone false).writeback

/-- The abort is complete with the stage at rest: the job's data is discarded, every stream slot closes and with it the
compression engines end, and READY is entered (R30, R63, R107, R188, R488). -/
def abortCompleteEffect (d : Device) : Device :=
  match d.job with
  | none => d
  | some j =>
    let rests := d.atRest && d.fls.decided.isNone && d.fls.high.isNone && !(d.mot.layer.toList.any (fun m => m.any (fun (v : LayerMove) => v.running)))
    if !(d.released 13 && d.inJob && j.aborting && rests) then d
    else
      let d := d.when d.inWriting (fun d => d.putS36 MOT_REST_X d.mot.x)
      let d := if d.flag fStopPending || d.inHeld then d.setFrames [] else d
      let d := d.each [0, 1] (fun d e => if (d.engine e).running then d.endEngine e sABORTED else d)
      let d := d.each (List.range 16) Device.closeSlot
      let d := ({ (d.clearPath) with mot := { d.mot with layer := Vector.replicate 2 none } }).enterReady
      let d := d.completeWhere (fun w => w == .abort) sOK 0 []
      let d := d.completeWhere (fun w => w == .pause) sABORTED 0 []
      d.completeWhere (fun w => w == .job) sABORTED 0 (d.jobResults j)

def execAbortComplete (s : State) := s.run abortCompleteEffect

end Sys2Proof.Machine
end

