-- ==== Sys2Proof/Machine/Servo.lean ====
section
/-! DEFINITION. The servo boundary (R296, R298, R302 to R304, R308 to R310, R417 to R419). -/
namespace Sys2Proof.Machine

/-- The set-points start from the position that the heads show: in BOOT at every boundary, and last at the first one after it
(R298). -/
def Device.motionFirst (d : Device) : Device :=
  if d.mot.first then d.mapMot (fun m => { m with first := d.st == stBoot, x := d.posX, y := d.posY }) else d

/-- Act under the settings as they stood before the writes of this tick, which apply from the following boundary (R310). -/
def Device.asBefore (d : Device) (f : Device → Device) : Device :=
  let (t, old) := d.mot.wrote
  if t != d.clock || old.isEmpty then f d
  else
    let new := old.map (fun p => (p.1, d.reg p.1))
    let d1 := f (d.each old (fun d p => d.setReg p.1 p.2))
    (d1.each new (fun d p => d.setReg p.1 p.2)).each [0, 1] (fun d k => Device.laxWritten d1 d k)

/-- Step 5 of the layer handshake at a boundary after its go: the first stripe of the next layer begins, and its return and
step moves begin at this boundary (R296, R309). -/
def Device.layerNext (d : Device) (tb : Nat) : Device :=
  if !(d.mot.ask == some .nextLayer && decide (d.mot.askTick < tb)) then d
  else
    let t := d.mot.askTick
    let d := (d.mapMot (fun m => { m with ask := none })).nextLayer
    d.when (!d.flag fStopPending) (fun d => d.mapMot (fun m => { m with askTick := t }))

/-- What the motion block does at boundary `tb`: motions asked for begin, the governor acts in RUN_IN and EXPOSE, layer moves
start and advance, and a frame is sent. A worker sends no set-points (R407) as it moves in READY, but a REPORT; the manager
sends BEAT (R418, R419). -/
def Device.boundary (tb : Nat) (d : Device) : Device :=
  if d.isWorker then
    (((d.motionFirst).when d.inReady (fun d => d.beginMotion tb)).sendReport).mapMot (fun m => { m with nextBoundary := tb + 800 * d.get fServo, lastBoundary := tb })
  else
    let d := ((d.motionFirst).layerNext tb).beginMotion tb
    let d := d.when d.isManager (fun d => d.meshFactor tb)
    let d := if d.inWriting && (d.phase == phRunIn || d.phase == phExpose) && !d.flag fStopPending then (d.pursue tb).govern else d
    let d := d.each [0, 1] (Device.startLayerMove tb)
    let d := ((d.each [0, 1] Device.advanceLayer).layersMoved).readyMet
    let d := if d.mot.restAt tb && d.get fMState != msREST then d.put fMState msREST else d
    let d := d.sendFrame tb
    let d := d.when d.isManager Device.sendBeat
    d.mapMot (fun m => { m with nextBoundary := tb + 800 * d.get fServo, lastBoundary := tb })

/-- A servo boundary that has fallen due (R296). -/
def servoBoundaryEffect (d : Device) : Device :=
  if !(d.released 13 && decide (d.mot.nextBoundary ≤ d.clock)) then d else d.asBefore (Device.boundary d.mot.nextBoundary)

def execServoBoundary (s : State) := s.run servoBoundaryEffect

end Sys2Proof.Machine
end

