-- ==== Sys2Proof/Machine/Flash.lean ====
section
/-! DEFINITION. The flash sequencer and the flow of a job (R270 to R281, R300, R306, R308, R309): strobes, BEAM_PERMIT,
STATUS blocks, run starts, pass ends and the layer handshake. -/
namespace Sys2Proof.Machine

/-! ## Strobes (R272) -/

/-- The strobe of the decided flash rises: the flash counts as fired, its credit returns, its rows release their slots,
usage is counted, and a FLUSH that waited for it is sent (R106, R220, R227, R241, R272). -/
def strobeRiseEffect (d : Device) : Device :=
  match d.fls.decided, d.job with
  | some x, some _ =>
    if d.clock < x.rise || d.strobeGated then d
    else
      let d := { d with fls := { d.fls with decided := none, flash := true, high := some (x.fseq, d.clock, d.clock + d.get fWindow),
                                            recent := (d.clock, x.fseq) :: d.fls.recent.filter (fun p => decide (d.clock ≤ p.1 + 12800)) } }
      let d := (d.put36 FLS_FIRED ((d.get36 FLS_FIRED + 1) % pairMod)).put36 FLS_LAST_FSEQ x.fseq
      let d := (d.countUsage x.fseq).mapJob (fun j => { j with firedN := x.n })
      let d := d.setFrames (d.lne.frames.filter (fun f => f.fseq != x.fseq))
      let d := ((d.itemOut 9).releaseRows).showCistern
      let d := d.each (List.range 72) Device.laneSettle
      if d.fls.flushDue then d.stopFlush ((x.fseq + 1) % pairMod) else d.showWeir
  | _, _ => d

def execStrobeRise (s : State) := s.run strobeRiseEffect

/-- FLASH0 and FLASH1 fall at the end of the window (R272). -/
def strobeFallEffect (d : Device) : Device :=
  match d.fls.high with
  | some (_, _, t) => if d.clock < t then d else { d with fls := { d.fls with flash := false, high := none } }
  | none => d

def execStrobeFall (s : State) := s.run strobeFallEffect

/-! ## BEAM_PERMIT (R280, R281) -/

/-- A decided flash whose strobe has not risen does not fire: the stitch point is the flash before it, and a FLUSH that
waited for it is sent now (R275, R281). -/
def Device.undecide (d : Device) : Device :=
  match d.fls.decided, d.job with
  | some x, some _ =>
    let d := { d with fls := { d.fls with decided := none } }.mapJob (fun j => { j with decidedN := x.n - 1 })
    match d.job with
    | some j =>
      if d.flag fStopPending then
        let d := (d.putS36 FLS_STITCH_N (x.n - 1)).put36 FLS_STITCH_FSEQ (j.fseq (x.n - 1))
        if d.fls.flushDue then d.stopFlush x.fseq else d
      else d
    | none => d
  | _, _ => d

/-- A strobe that was high is cut: its FSEQ and the whole ticks it was high, event 170. The outputs are low within 60 ns of
the fall of BEAM_PERMIT, so up to 48 ticks after it: a free value (R280, R281). -/
def Device.cutStrobe (d : Device) : Device :=
  match d.fls.high with
  | some (fs, t0, t1) =>
    let ticks := min (d.clock - t0 + Config.freeNat d.freeCtr % 49) (t1 - t0)
    let d := { (d.nextFree) with fls := { d.fls with high := none, flash := false } }
    ((d.setReg FLS_PERMIT_CUT (131072 + ticks % 512)).put36 FLS_PERMIT_FSEQ fs).raise 170
  | none => d

/-- BEAM_PERMIT falls: a low of 10 ns or more sets the latch, a shorter one may (R280). In WRITING the latch is a stop
request with cause PERMIT (R281). -/
def beamPermitFallEffect (lowNs : Nat) (d : Device) : Device :=
  let taken := decide (10 ≤ lowNs) || Config.pulseTaken d.freeCtr
  let d := { (if lowNs < 10 then d.nextFree else d) with fls := { d.fls with permit := false } }
  let d := d.putFlag fPermit (d.fls.permit && d.released 13)
  let d := d.when taken (fun d => { d with fls := { d.fls with fell := true } })
  if !taken || d.flag fBlanked then d
  else
    let d := (d.putFlag fBlanked true).raise 168
    let d := d.undecide
    (d.stopRequest cPERMIT).cutStrobe

def execBeamPermitFall (lowNs : Nat) (s : State) := s.run (beamPermitFallEffect lowNs)

/-- BEAM_PERMIT rises: event 169; the latch stays (R280, R281). -/
def beamPermitRiseEffect (d : Device) : Device :=
  let d := { d with fls := { d.fls with permit := true } }
  if d.released 13 then (d.putFlag fPermit true).raise 169 else d

def execBeamPermitRise (s : State) := s.run beamPermitRiseEffect

def execFlsCommit (value : Word) (s : State) := s.run (fun d => if d.released 13 then writeFlsCommit value.toNat d else d)

/-! ## STATUS blocks (R218, R219) -/

/-- What a STATUS block says. A beam that the array reports stuck open stops a job, once for each beam (R166); a pending resume
proceeds with the temperature (R485). -/
def Device.takeStatus (d : Device) (n : Nat) (st : StatusInfo) : Device :=
  let d := statusBlockCore n st d
  let d := match d.job with
    | some j =>
      let b := st.stuckBeam
      if st.stuck && d.inJob && !d.ril.reported.contains b then
        let d := { d with ril := { d.ril with reported := d.ril.reported ++ [b], stuckStrict := d.ril.stuckStrict || d.strict } }
        d.stuckStop b (if j.firedN < 0 then -1 else j.firedN)
      else d
    | none => d
  d.pendingResume

/-! ## The back channel (R210, R211, R216 to R219, R225, R232, R233) -/

/-- The receiver of a lane. -/
def Device.rxOf (d : Device) (n : Nat) : LaneRx := (d.lne.rx.find? (fun x => x.lane == n)).getD { lane := n }
def Device.setRx (d : Device) (n : Nat) (x : LaneRx) : Device :=
  { d with lne := { d.lne with rx := { x with lane := n } :: d.lne.rx.filter (fun y => y.lane != n) } }

/-- One error of a lane's back channel, or none; then LOL where lock is lost, in the same clock and so no error of its own
(R225, R233, R497). -/
def Device.rxEnd (d : Device) (n : Nat) (err : Option (Nat × Nat × Nat)) : Device :=
  let lost := (d.rxOf n).lost && (d.laneSt n == laneActive || d.laneSt n == laneSpare || d.laneSt n == laneCal)
  let d := match err with
    | some (c, g, fs) => d.laneError n c g fs
    | none => if lost then d.laneError n 8 ((d.carried n).getD 0) noFseq else d.laneSettle n
  ((d.when lost (fun d => d.laneDrops n false)).handoverDone).showWeir

/-- The content of a block that the receiver takes: the first error in it. -/
def Device.takeBlock (d : Device) (n m : Nat) : Option (Nat × Nat × Nat) × Device :=
  if msgType m == btACK then d.takeAcks n (ackEntries m)
  else if msgType m == btSTATUS then (none, d.takeStatus n (statusOf m))
  else if msgType m == btMARKER then
    (none, { d with lne := { d.lne with markers := (n, msgWord m 1 + msgWord m 2 * wordMod) :: d.lne.markers.filter (fun p => p.1 != n) } })
  else (none, d)

/-- A block in loopback: a body that differs from the PRBS31 sent counts in LB_ERR; the near-end parallel loop lies before the
code, so that no codeword is there to fail (R232). -/
def Device.takeLooped (d : Device) (n : Nat) (b : RxBlock) : Device :=
  let (g, c) := d.prbsOf n
  let c := (List.range b.idles).foldl (fun s _ => (prbsBody s).2) c
  let (body, c') := prbsBody c
  let d' := d.setPrbs n (g, c')
  match b.codeword with
  | .message m =>
    if msgType m.toNat == btMARKER then d.setPrbs n (g, c)
    else d'.when (msgBody m.toNat != body) (fun d => d.bump (whole (LNE_LANE_LB_ERR n)))
  | .uncorrectable => if d.get (fLaneLoop n) == 2 then d else d'.bump (whole (LNE_LANE_LB_ERR n))

/-- A block of a lane's back channel, after blocks in good order that ask nothing. A codeword that could not be corrected counts one
error, and so does a block that is discarded, or whose BSEQ does not follow; the errors of one block count once. -/
def Device.receiveBlock (d : Device) (n : Nat) (b : RxBlock) : Device :=
  if d.unitUp 18 && d.laneSt n == laneLoopback then d.takeLooped n b
  else if !d.laneHears n then d
  else
    let group := (d.carried n).getD 0
    let x := (d.rxOf n).skip b.idles
    match b.codeword with
    | .uncorrectable =>
      let y := x.skip 1
      ((d.bump (whole (LNE_LANE_FEC_UNCORR n))).setRx n { y with bad := x.bad + 1 }).rxEnd n (some (4, group, noFseq))
    | .message w =>
      let m := w.toNat
      if !blockClean (d.arrayPort n) m then (d.setRx n (x.skip 1)).rxEnd n (some (5, group, noFseq))
      else
        let (err, d) := (d.setRx n (x.take m)).takeBlock n m
        d.rxEnd n (if x.gap m then some (6, group, noFseq) else err)

def execAckBlock (lane : Fin 72) (block : RxBlock) (s : State) := s.run (fun d => d.receiveBlock lane block)
def execStatusBlock (lane : Fin 72) (block : RxBlock) (s : State) := s.run (fun d => d.receiveBlock lane block)
def execMarker (lane : Fin 72) (idles : Nat) (codeword : Codeword) (s : State) :=
  s.run (fun d => d.receiveBlock lane { idles := idles, codeword := codeword })
def execBlockCrcError (lane : Fin 72) (block : RxBlock) (s : State) := s.run (fun d => d.receiveBlock lane block)

/-! ## Runs and passes -/

def execRunInStart (s : State) := s.run runInStartEffect

/-- The stage settles at the back-up point of a resume, event 181 (R306). -/
def backupCompleteEffect (d : Device) : Device :=
  if d.released 13 && d.inWriting && d.mot.backupDue && d.settled && !d.flag fStopPending then
    (d.mapMot (fun m => { m with backupDue := false })).raise 181
  else d

def execBackupComplete (s : State) := s.run backupCompleteEffect

/-- The stage has reached the end target of the pass, event 180 (R300). A worker sees no stage: its pass ends with its last
strobe (R407). -/
def passEndEffect (d : Device) : Device :=
  match d.job with
  | none => d
  | some j =>
    let fired := decide ((j.nFlashes : Int) ≤ j.firedN + 1) && d.fls.high.isNone
    let here := d.phase == phRunOut && (d.isWorker || (d.mot.runOut && d.atRest))
    if !(d.released 13 && d.inWriting && !d.flag fStopPending && fired && here) then d
    else (d.raise 180).passDone

def execPassEnd (s : State) := s.run passEndEffect

/-! ## The layer handshake (R308, R309) -/

/-- LAYER_READY has been stable at a level: the filtered level follows after 800 ticks, and its rise is the go (R309, R312). -/
def layerReadyEffect (level : Bool) (ticks : Nat) (d : Device) : Device :=
  if !d.released 13 || decide (ticks < 800) || level == d.flag fLayerReady then d
  else
    let d := d.putFlag fLayerReady level
    if !level then d
    else
      let d := d.mapMot (fun m => { m with readyRise := some d.clock })
      if d.flag fGoSrc then d else d.layerGo

def execLayerReady (s : State) (input : InputLevel := { level := true, samples := 800 }) := s.run (layerReadyEffect input.level input.samples)

/-- A write of MOT_LAYER: GO takes the place of the edge when GO_SRC is 1 (R309, R318). -/
def writeMotLayer (v : Nat) (d : Device) : Device :=
  if d.released 13 && bitOf v 17 && d.flag fGoSrc then d.layerGo else d

def execMotLayerGo (value : Word) (s : State) := s.run (writeMotLayer value.toNat)

/-- A layer move has rested for MOT_SETTLE: with VERIFY 1 its position is checked (R308). -/
def layerMoveCompleteEffect (k : Nat) (d : Device) : Device :=
  match d.layerMove k with
  | none => d
  | some mv =>
    if !(d.released 13 && mv.sent && decide (mv.ended + d.reg MOT_SETTLE % 65536 * 800 ≤ d.clock)) then d
    else
      let diff := (d.getS36 (POS_CH_POS (4 + k)) - d.getS36 (MOT_LAX_CMD k)).natAbs
      let ctrl := (d.laxSet k).1
      let ok := !bitOf ctrl 16 || decide (diff ≤ bits ctrl 8 8)
      let d := (d.setLayerMove k none).when (!d.inJob) (fun d => d.captureLax k)
      if ok then
        let d := ((d.raise (184 + k)).itemOut 10).completeWhere (fun w => w == .layerGoto k) sOK 0 []
        d.layersMoved.readyMet
      else
        let d := (d.raise 186).completeWhere (fun w => w == .layerGoto k) sDATA_ERROR 0 []
        let d := if mv.goto then d else d.mapMot (fun m => { m with again := m.again ++ [(k, some mv.p1)] })
        d.stopRequest cFAULT

def execLayerMoveComplete (k : Fin 2) (s : State) := s.run (layerMoveCompleteEffect k)

end Sys2Proof.Machine
end

