-- ==== Sys2Proof/Machine/Memory.lean ====
section
/-! DEFINITION. Module memory (R321 to R352): requests, recovery, refresh, training, retuning, the zero fill and the
patrol scrub. -/
namespace Sys2Proof.Machine

/-- The words of a line as a read delivers them; the words of codewords beyond the guarantee are free, and those of another
codeword differ as its symbols do. -/
def Device.lineWords (d : Device) (la : Nat) (wild aliased : List Nat) (errors : List SymbolError) : List Nat :=
  (d.dramWords (64 * la) 64).zipIdx.map (fun p =>
    if wild.contains (p.2 / 8) then (Config.badWord (d.freeCtr + p.2)).toNat
    else if aliased.contains (p.2 / 8) then p.1 ^^^ symbolWord (errorSymbols errors (p.2 / 8)) (p.2 % 8) else p.1)

/-- The cell library is lost with an uncorrectable read: in a job the weirs run down (R33, R337). -/
def Device.loseLibrary (d : Device) : Device :=
  let d := d.putFlag (bitAt CSC_LIB_CELLS 17) false
  if d.inJob then ({ d with mem := { d.mem with libLost := true } }).runDry cFAULT
  else { d with csc := { d.csc with lib := [], libWords := 0 } }

/-- The response of the requester that R337 gives. The tally store's reader meets the error in its own command; the others
that move data meet it when they read the line. -/
def Device.readFailed (d : Device) (req : Requester) (la : Nat) : Device :=
  let d := d.emit (.dramError (reqCode req) la)
  match req with
  | .cellLibrary => d.loseLibrary
  | .poolRegion => d.poolReadError la
  | .spool | .compression | .deepBand | .mirror | .dma | .checkUnit =>
    { d with mem := { d.mem with failed := (reqCode req, la) :: d.mem.failed.filter (fun p => p != (reqCode req, la)) } }
  | .tallyStore | .basinWrite | .patrolScrub | .zeroFill => d

/-- A read of the codewords of a line, with what the controller does about errors; the answer is the words, or none
where the read is uncorrectable (R333, R336). -/
def Device.readCodewords (d : Device) (req : Nat) (la : Nat) (errors : List SymbolError) (cws : List Nat) : Option (List Nat) × Device :=
  match d.decodeLine la errors cws with
  | .good devs => (some (d.lineWords la [] [] []), d.corrected la req devs)
  | .bad => (none, d.nextFree.uncorrectable la req)
  | .wrong wild other devs =>
    (some (d.lineWords la wild other errors), ({ d with freeCtr := d.freeCtr + 65 }).corrected la req devs)

/-- Serve one request (R326, R333, R336). -/
def Device.serve (d : Device) (r : MemReq) : Device :=
  let c := chanOf r.la
  let code := reqCode r.req
  let d := (d.putFlag (fSelfRefresh c) false).touchRow r.la
  match r.access with
  | .read =>
    let (ws, d) := (d.itemIn (11 + c)).readCodewords code r.la r.errors (List.range 8)
    match ws with
    | some ws => d.emit (.dram code r.la ws)
    | none => d.readFailed r.req r.la
  | .writeLine ws => (d.writeLine r.la (ws.toList.map (fun w => w.toNat))).itemOut (11 + c)
  | .writeWords ws =>
    if d.get (fChState c) == chDOWN then d
    else
      let cws := (ws.map (fun p => p.1.val / 8)).eraseDups
      let (got, d) := d.readCodewords code r.la r.errors cws
      match got with
      | some _ => (d.each ws (fun d p => d.setDramWord (64 * r.la + p.1.val) p.2.toNat)).itemOut (11 + c)
      | none => d.readFailed r.req r.la

/-! ## The queues (R326) -/

/-- The class of a requester. -/
def reqClass : Requester → Nat
  | .deepBand | .mirror => 0
  | .basinWrite | .tallyStore | .poolRegion | .cellLibrary => 1
  | .spool | .compression | .dma | .checkUnit => 2
  | .patrolScrub | .zeroFill => 3

/-- The class of a waiting request: 0 once it has waited 64 × MAX_WAIT controller clocks, two of which are a tick. -/
def Device.classNow (d : Device) (r : MemReq) : Nat :=
  if 64 * bits (d.reg MEM_CFG) 2 8 ≤ 2 * (d.clock - r.tick) then 0 else reqClass r.req

/-- A queued request may be served: its channel takes requests, the fill has written its line, no recovery holds it, and no
request to the line came before it (R326, R330, R332, R333). -/
def Device.mayServe (d : Device) (i : Nat) (r : MemReq) : Bool :=
  d.chanServes (chanOf r.la) && d.lineFilled r.la && !(d.mem.recovering.any (fun p => p.1 == r.la)) &&
    !((d.mem.held.take i).any (fun q => q.la == r.la))

/-- The place in the queues of the request that channel `c` serves next: the highest class, then a row hit, then the
oldest. -/
def Device.nextRequest (d : Device) (c : Nat) : Option Nat :=
  let key := fun (r : MemReq) => 2 * d.classNow r + (if d.rowHit r.la then 0 else 1)
  let may := (d.mem.held.zipIdx).filter (fun p => chanOf p.1.la == c && d.mayServe p.2 p.1)
  (may.foldl (fun (best : Option (MemReq × Nat)) p =>
    match best with
    | some b => if key p.1 < key b.1 then some p else best
    | none => some p) none).map Prod.snd

/-- A channel serves its queue until nothing in it may be served. -/
def Device.drainChan (d : Device) (c : Nat) : Nat → Device
  | 0 => d
  | fuel + 1 =>
    match d.nextRequest c with
    | none => d
    | some i =>
      match d.mem.held[i]? with
      | none => d
      | some r => (({ d with mem := { d.mem with held := d.mem.held.eraseIdx i } }).serve r).drainChan c fuel

/-- Every channel serves its queue. -/
def Device.drain (d : Device) : Device := d.each (List.range 4) (fun d c => d.drainChan c d.mem.held.length)

/-! ## The zero fill (R331, R332) -/

/-- The lowest line from the fill front on that the fill writes: DOWN channels are not filled. -/
def Device.fillNext (d : Device) : Nat :=
  let f := d.get36 MEM_FILL_FRONT
  (((List.range 17).map (fun i => f + i)).find? (fun la => d.get (fChState (chanOf la)) != chDOWN)).getD f

/-- The fill reaches the last line. -/
def Device.fillDone (d : Device) : Device :=
  ((((d.putFlag fFillRun false).putFlag fFilled true).put36 MEM_FILL_FRONT memLines).raise 199).drain

/-- The fill writes its next line, which nothing has written before, and the requests that wait for it follow. -/
def Device.fillLine (d : Device) (la : Nat) : Device :=
  if !d.flag fFillRun || d.inFrost || la != d.fillNext || !d.chanServes (chanOf la) then d
  else
    let d := (d.putFlag (fSelfRefresh (chanOf la)) false).put36 MEM_FILL_FRONT (la + 1)
    if memLines ≤ d.fillNext then d.fillDone else d.drain

/-- A request comes to its channel's queue. The zero fill writes its lines in order (R331). -/
def dramRequestEffect (r : MemReq) (d : Device) : Device :=
  if r.req == .zeroFill then d.fillLine r.la
  else ({ d.closeRows with mem := { d.closeRows.mem with held := d.mem.held ++ [{ r with tick := d.clock }] } }).drainChan (chanOf r.la) (d.mem.held.length + 1)

def execDramRequest (req : Requester) (la : BitVec 31) (access : DramAccess) (errors : List SymbolError) (s : State) :=
  s.run (dramRequestEffect { req := req, la := la.toNat, access := access, errors := errors })

/-- A hard line takes a remap entry, or with the table full its page becomes a retirement candidate (R335, R338). -/
def Device.hardLine (d : Device) (la req : Nat) (devs : List Nat) : Device :=
  let c := chanOf la
  let k := if devs.length == 1 then devs.headD 31 else 31
  let d := ((d.bump (whole (MEM_CH_HARD c))).memLog mkHARD k la req).memErrorLog mkHARD k la
  match d.freeRemap c with
  | some e => (d.setRemap c e rmREMAPPED la).raise 193
  | none =>
    let d := d.raise 194
    if d.flag fCand then d else ((d.put36 MEM_CANDIDATE (la / 1024)).putFlag fCand true).raise 198

/-- The write-back and the re-read of a line end (R333). A line whose wrong devices are all marked by now is not
remapped. -/
def lineRecoveryDoneEffect (la : Nat) (stillBad : Bool) (d : Device) : Device :=
  match d.mem.recovering.find? (fun p => p.1 == la) with
  | none => d
  | some (_, req, devs) =>
    let c := chanOf la
    let d := { d with mem := { d.mem with recovering := d.mem.recovering.filter (fun p => p.1 != la) } }
    let left := devs.filter (fun k => some k != d.marked c)
    let d := d.when (stillBad && !left.isEmpty && d.remapOf la == none) (fun d => d.hardLine la req left)
    let d := d.each devs (fun d k =>
      d.when (!(d.mem.recovering.any (fun p => chanOf p.1 == c && p.2.2.contains k))) (fun d => d.recovered 9 (21 * c + k)))
    d.drainChan c d.mem.held.length

def execLineRecoveryDone (la : BitVec 31) (stillBad : Bool) (s : State) := s.run (lineRecoveryDoneEffect la.toNat stillBad)

/-- A same-bank refresh: it closes the rows of its bank in every bank group, and the next bank follows (R327, R328). A
channel in self-refresh refreshes itself. -/
def refreshEffect (c : Nat) (d : Device) : Device :=
  if !d.chanRuns c || d.flag (fSelfRefresh c) || !d.chanUp c then d
  else
    let b := d.mem.refBank.toList.getD c 0
    { d with mem := { d.mem with rows := d.mem.rows.filter (fun r => !(r.1 == c && r.2.1 % 4 == b)),
                                 refBank := d.mem.refBank.set! c ((b + 1) % 4) } }

def execRefresh (ch : Fin 4) (s : State) := s.run (refreshEffect ch)

/-- MR4 is read: the higher refresh rate, with event 203 on entry (R328). -/
def mr4Effect (c : Nat) (hot : Bool) (d : Device) : Device :=
  if !d.chanRuns c || !d.chanUp c then d
  else (d.putFlag (fRefresh2x c) hot).when (hot && !d.flag (fRefresh2x c)) (fun d => d.raise 203)

def execMr4Read (ch : Fin 4) (hot : Bool) (s : State) := s.run (mr4Effect ch hot)

/-- Automatic self-refresh of a channel with no queued request for MEM_SR_IDLE µs, in READY and HELD (R328); the zero fill always has a
next request. -/
def selfRefreshEffect (c : Nat) (d : Device) : Device :=
  let idle := d.reg MEM_SR_IDLE % 65536
  if d.chanRuns c && d.chanUp c && (d.inReady || d.inHeld) && idle != 0 && !d.flag fFillRun &&
      decide (d.mem.lastReq.toList.getD c 0 + 800 * idle ≤ d.clock) && !(d.mem.held.any (fun r => chanOf r.la == c))
  then { (d.putFlag (fSelfRefresh c) true) with mem := { d.mem with rows := d.mem.rows.filter (fun r => r.1 != c) } }
  else d

def execSelfRefreshEntry (ch : Fin 4) (s : State) := s.run (selfRefreshEffect ch)

/-- Start-up goes on to the self-test once no channel trains (R454). -/
def Device.selfTestPhase (d : Device) : Device :=
  d.when (d.inBoot && d.get fBootPhase == 5 && (List.range 4).all (fun c => d.get (fChState c) != chTRAINING)) (fun d => d.put fBootPhase 6)

/-- A channel ends its training (R329): NORMAL, ERASURE with one failed device, or DOWN; a restored mark counts as a
failed device (R339). The zero fill of its lines begins (R331). -/
def channelTrainingDoneEffect (c : Nat) (r : ChannelTraining) (d : Device) : Device :=
  if !d.chanRuns c || d.get (fChState c) != chTRAINING then d
  else
    let kept := d.get (fFailedDev c)
    let failed := (r.failed.map (fun k => k.val)).eraseDups
    let devs := (failed ++ (if kept < 21 then [kept] else [])).eraseDups
    let d := d.put (fChTrainCause c) (if r.commandFail then 1 else if failed.isEmpty then 0 else r.cause.val)
    if r.commandFail || decide (2 ≤ devs.length) then (((d.put (fChState c) chDOWN).showChannels).raise 202).selfTestPhase
    else
      let d := match devs.head? with
        | none => d.put (fChState c) chNORMAL
        | some k =>
          let d := (d.put (fChState c) chERASURE).put (fFailedDev c) k
          let d := d.when (failed.contains k || kept != k) (fun d => d.raise 195)
          d.when (kept != k) (fun d => d.journal (.reg (MEM_CH_STATE c)) [k * 2048])
      let d := { d with mem := { d.mem with lastReq := d.mem.lastReq.set! c d.clock } }
      ((d.showChannels).when (!d.flag fFilled) (fun d => d.putFlag fFillRun true)).selfTestPhase

def execChannelTrainingDone (ch : Fin 4) (result : ChannelTraining) (s : State) := s.run (channelTrainingDoneEffect ch result)

/-- Start a retune, one channel at a time (R330). -/
def Device.startRetune (d : Device) (c : Nat) : Device :=
  if (List.range 4).any (fun k => d.flag (fRetuning k)) then
    (if d.flag (fRetuning c) || d.mem.retuneWant.contains c then d
     else { d with mem := { d.mem with retuneWant := d.mem.retuneWant ++ [c] } })
  else d.putFlag (fRetuning c) true

/-- The die temperature of channel `c`: the reading of its own die sensor (R330, R557). -/
def Device.dieTemp (d : Device) (c : Nat) : Int := sext 18 (d.reg (SYS_TEMP (8 + c)))

/-- The temperature trigger of a retune (R330). -/
def Device.retuneByTemp (d : Device) (c : Nat) : Bool :=
  let delta := bits (d.reg MEM_RETUNE) 4 6
  delta != 0 && d.chanRuns c && d.chanUp c && decide (256 * delta ≤ (d.dieTemp c - sext 18 (d.reg (MEM_CH_RETUNE_TEMP c))).natAbs)

/-- The oscillators are read (R330); the drift is in 1/64 UI. -/
def retuneCheckEffect (c drift : Nat) (d : Device) : Device :=
  if d.chanRuns c && d.chanUp c && ((bits (d.reg MEM_RETUNE) 10 8 != 0 && decide (1 ≤ drift)) || d.retuneByTemp c) then d.startRetune c else d

def execRetuneCheck (ch : Fin 4) (drift64 : Nat) (s : State) := s.run (retuneCheckEffect ch drift64)

/-- The time of day as the five dwords of a stamp. -/
def Device.stamp (d : Device) : List Nat :=
  [bits d.todSecs 0 18, bits d.todSecs 18 18, bits d.todSecs 36 12, bits d.todNs 0 18, bits d.todNs 18 14]

/-- A retune ends: the count, the time of day and the die temperature, event 201 (R330). -/
def retuneDoneEffect (c : Nat) (d : Device) : Device :=
  if !d.flag (fRetuning c) then d
  else
    let d := ((d.putFlag (fRetuning c) false).bump (whole (MEM_CH_RETUNE_COUNT c))).setRegs (MEM_CH_RETUNE_TOD c) d.stamp
    let d := (d.setReg (MEM_CH_RETUNE_TEMP c) (wrap 18 (d.dieTemp c))).raise 201
    let d := match d.mem.retuneWant with
      | [] => d
      | k :: rest => ({ d with mem := { d.mem with retuneWant := rest } }).startRetune k
    d.drainChan c d.mem.held.length

def execRetuneDone (ch : Fin 4) (s : State) := s.run (retuneDoneEffect ch)

/-- The zero fill reaches the last line (R331). A word that nothing has written reads 0 already. -/
def fillCompleteEffect (d : Device) : Device :=
  if d.flag fFillRun && (List.range 4).all (fun c => d.get (fChState c) != chTRAINING) && !d.inFrost then d.fillDone else d

def execFillComplete (s : State) := s.run fillCompleteEffect

/-- The patrol scrub reads its next line; it skips lines beyond the fill front, lines in remap entries and DOWN channels (R340). A line in
recovery it waits for (R333). -/
def patrolScrubEffect (errors : List SymbolError) (d : Device) : Device :=
  let la := d.get36 MEM_SCRUB_FRONT
  let c := chanOf la
  let skip := decide (d.get36 MEM_FILL_FRONT ≤ la) || (d.remapOf la).isSome || d.get (fChState c) == chDOWN
  if d.reg MEM_SCRUB % 256 == 0 || !d.chanServes c || (!skip && !d.lineClear la) then d
  else
    let d := if skip then d else ((d.putFlag (fSelfRefresh c) false).touchRow la |>.readCodewords (reqCode .patrolScrub) la errors (List.range 8)).2
    if la + 1 == memLines then ((d.put36 MEM_SCRUB_FRONT 0).bump (whole MEM_SCRUB_PASSES)).raise 200
    else d.put36 MEM_SCRUB_FRONT (la + 1)

def execPatrolScrub (errors : List SymbolError) (s : State) := s.run (patrolScrubEffect errors)

/-- A write of MEM_LOG_STATUS: CLEAR empties the log (R348). -/
def writeMemLogStatus (v : Nat) (d : Device) : Device :=
  if bitOf v 17 then
    (d.each (List.range 16) (fun d i => d.setRegs (MEM_LOG i) [0, 0, 0])).setReg MEM_LOG_STATUS 0
  else d

def execMemLogClear (value : Word) (s : State) :=
  s.run (fun d => if d.regUp MEM_LOG_STATUS then writeMemLogStatus value.toNat d else d)

/-- The memory-mark clear (R339): every device mark and every remap entry. A REMAPPED line's words stay, since DRAM
takes them back. -/
def Device.clearMarks (d : Device) : Device :=
  let d := d.each (List.range 4) (fun d c =>
    let d := d.each (List.range 32) (fun d e => if d.remapState c e == rmFREE then d else d.setRemap c e rmFREE 0)
    let d := d.when (d.get (fFailedDev c) != 31) (fun d => d.journal (.reg (MEM_CH_STATE c)) [31 * 2048])
    let d := d.put (fFailedDev c) 31
    let d := d.each (List.range 21) (fun d k => d.dropDomain 9 (21 * c + k))
    if d.get (fChState c) == chERASURE then d.put (fChState c) chNORMAL else d)
  d.showChannels

end Sys2Proof.Machine
end

