-- ==== Sys2Proof/Machine/JobFlow.lean ====
section
/-! DEFINITION. The start of a job (R13 to R26, R415, R416, R482 to R484): its parameters, the stripe list, the checks in
their order, the passport, the join and the acceptance. -/
namespace Sys2Proof.Machine

/-- A parameter dword. -/
def Flight.p (f : Flight) (i : Nat) : Nat := f.params.getD i 0

/-- A 64-bit host address whose bits [63:54] are 0 (R471). -/
def hostAddr (lo hi : Nat) : Nat := lo + hi * 4294967296
def addrOk (lo hi : Nat) : Bool := decide (hostAddr lo hi < 18014398509481984)

/-- A 36-bit signed value in two dwords, the upper one's bits [31:4] being 0. -/
def wide36 (lo hi : Nat) : Int := s36 (lo + hi % 16 * 4294967296)

/-! ## Stripe lists and stream descriptors (R483) -/

/-- The extents of a host source: `n` entries of 4 dwords. None where one is refused. -/
def Device.readExtents (d : Device) (a n : Nat) : Option (List (Nat × Nat)) :=
  let es := (List.range n).map (fun i => d.hostDwords (a + 16 * i) 4)
  if es.all (fun e => addrOk (e.getD 0 0) (e.getD 1 0) && e.getD 2 0 != 0 && e.getD 3 0 == 0) then
    some (es.map (fun e => (hostAddr (e.getD 0 0) (e.getD 1 0), e.getD 2 0)))
  else none

/-- A line number lies in the spool region (R76). -/
def Device.inSpool (d : Device) (line : Nat) : Bool :=
  decide (d.get36 SPR_SPOOL_BASE ≤ line) && decide (line < d.get36 SPR_SPOOL_BASE + d.get36 SPR_SPOOL_LINES)

/-- The source is an NDF server. -/
def Source.isNdf : Source → Bool
  | .ndf _ => true
  | _ => false

/-- None of the islands that a command needs is in a block reset (R456). -/
def Device.needs (d : Device) (ks : List Nat) : Bool := ks.all (fun k => !d.rst.blocks.contains k && !d.rst.held.contains k)

/-- A server entry that a stream may name (R402). -/
def Device.serverOk (d : Device) (s : Nat) : Bool := d.flag (fSrvValid s) && d.reg (ETH_SRV_UDP s) % 65536 != 0

/-- What a stream descriptor E5 to E7 names. None where a rule of R483 fails. -/
def Device.readSource (d : Device) (e5 e6 e7 : Nat) : Option Source :=
  let src := e5 / 1073741824
  let extents := bits e5 24 6
  let server := bits e5 20 3
  if bitOf e5 23 || bits e5 18 2 != 0 then none
  else if src == 0 then
    if server != 0 || !addrOk e6 e7 then none else (d.readExtents (hostAddr e6 e7) (extents + 1)).map Source.host
  else if src == 1 then
    let line := e6 + e7 * 4294967296
    if server != 0 || extents != 0 || decide (16 ≤ e7) || !d.inSpool line then none else some (.spool line)
  else if src == 2 then
    if extents != 0 || e6 != 0 || e7 != 0 || !d.serverOk server then none else some (.ndf server)
  else none

/-- A stripe entry of 8 dwords (R13, R22, R25, R483); `prevY`: Y0 of the entry before. -/
def Device.readStripe (d : Device) (a adv width : Nat) (prevY : Option Int) : Option Stripe :=
  let e := fun i => d.hostDword (a + 4 * i)
  let x0 := wide36 (e 0) (e 1)
  let y0 := wide36 (e 2) (e 3)
  let len := e 4 % 268435456
  if decide (16 ≤ e 1) || decide (16 ≤ e 3) || x0 % 256 != 0 || y0 % 256 != 0 || bits (e 4) 28 3 != 0 then none
  else if len % adv != 0 || decide (len < 256) || decide (134217728 < len) then none
  else if prevY.any (fun y => decide (y0 ≠ y + 256 * width)) then none
  else (d.readSource (e 5) (e 6) (e 7)).map (fun s =>
    { x0 := x0, y0 := y0, len := len, tallyOnly := bitOf (e 4) 31, source := s, streamId := e 5 % wordMod })

/-- The entries of a stripe list from an address. -/
def Device.readStripes (d : Device) (adv width : Nat) : Nat → Nat → Option Int → Option (List Stripe)
  | 0, _, _ => some []
  | n + 1, a, prev =>
    match d.readStripe a adv width prev with
    | none => none
    | some s => (d.readStripes adv width n (a + 32) (some s.y0)).map (fun l => s :: l)

/-! ## Geometry (R16 to R18) -/

/-- R of R16. -/
def activeRows (byy a limit : Nat) : Nat := byy * a * (min (min 512 (64 * byy * a)) limit / (byy * a))

/-- The job that a JOB_START describes, before its stripes. -/
def Flight.geometry (f : Flight) : Job :=
  let g := f.p 0
  let bx := g % 64 + 1
  let byy := bits g 6 6 + 1
  let a := 2 ^ bits g 12 2
  let rows := activeRows byy a (f.p 1)
  let width := 512 * byy
  { bx := bx, byy := byy, adv := a, rows := rows, expo := rows / (byy * a), width := width, window := rows * bx,
    lead := cisternWords / width - rows * bx, passes := bits g 14 3 + 1, bidir := bitOf g 17, pixelPm := f.p 2, layers := f.p 3,
    originX := wide36 (f.p 4) (f.p 5), originY := wide36 (f.p 6) (f.p 7), stripes := [], tag := some f.tag }

/-- The first parameter dword that R482 refuses. -/
def Flight.jobFault (f : Flight) : Option Nat :=
  if decide (wordMod ≤ f.p 0) || bits (f.p 0) 12 2 == 3 then some 0
  else if f.p 1 == 0 || decide (512 < f.p 1) then some 1
  else if decide (f.p 2 < 1000) || decide (4000000 < f.p 2) then some 2
  else if f.p 3 == 0 || decide (wordMod ≤ f.p 3) then some 3
  else if 16 ≤ f.p 5 then some 5
  else if 16 ≤ f.p 7 then some 7
  else if f.p 8 == 0 || decide (wordMod ≤ f.p 8) then some 8
  else if f.p 11 != 0 then some 11
  else none

/-- The JOB-class encodings that step 2 of R484 refuses. -/
def Device.settingsRefused (d : Device) : Bool :=
  let k := d.cellLog
  let servo := d.get fServo
  decide (k < 4) || decide (8 < k) || (d.pcEn && (List.range d.nGauss).any (fun m => d.reg (POOL_G_SIGMA m) == 0)) ||
    d.get fCodeBits == 3 || d.get fWeakWeight == 0 || decide (64 < d.get fWeakWeight) ||
    d.get fQuadRun == 0 || d.get fSpeedLog2 == 7 || decide (d.get fWindow < 16) || decide (d.get fMinPeriod < 400) ||
    decide (servo < 10) || decide (100 < servo) ||
    d.badLimits ||
    (List.range 2).any (fun a => d.reg (MOT_LAX_VMAX a) == 0 || decide (131072 < d.reg (MOT_LAX_VMAX a)) || d.reg (MOT_LAX_ACC a) == 0) ||
    decide (d.get fStopLead < 8) || d.badColumn

/-- A coordinate in the range of R14. -/
def inFrame (v : Int) : Bool := decide (-34359738368 ≤ v) && decide (v ≤ 34359738367)

/-- Every coordinate that a stripe reaches in one pass lies in range: run-in, run-out, the stripe and its offsets (R14). -/
def Device.passInFrame (d : Device) (j : Job) (k pass : Nat) : Bool :=
  let j := { j with stripe := k, pass := pass }
  let p := d.passPlan j
  let s := j.cur
  let o := d.reg (RIL_OFFS_ACT (b2n j.reverse))
  let ox := 4 * sext 9 (bits o 9 9)
  let oy := 4 * sext 9 (bits o 0 9)
  [p.start, p.target, s.x0, s.x0 + 256 * s.len - 1, s.x0 + ox, s.x0 + 256 * s.len - 1 + ox, s.y0, s.y0 + 256 * j.width - 1, s.y0 + oy,
    s.y0 + 256 * j.width - 1 + oy].all inFrame

/-- R14 for a whole job. -/
def Device.jobInFrame (d : Device) (j : Job) : Bool :=
  (List.range j.stripes.length).all (fun k => (j.stripeAt k).tallyOnly || (List.range j.passes).all (d.passInFrame j k))

/-- The regions of R102, as a first line and a length. -/
def Device.regions (d : Device) : List (Nat × Nat) :=
  [ (d.get36 CST_DB_BASE, d.get36 CST_DB_LINES + 1572864), (d.get36 CSC_TALLY_BASE, d.get36 CSC_TALLY_LINES),
    (d.get36 CSC_LIB_BASE, d.get36 CSC_LIB_LINES), (d.get36 SPR_SPOOL_BASE, d.get36 SPR_SPOOL_LINES) ]

/-- With the pool region where it is checked (R139). -/
def Device.allRegions (d : Device) : List (Nat × Nat) :=
  d.regions ++ (if d.pcEn then [(d.get36 POOL_REGION_BASE, d.get36 POOL_REGION_LINES)] else [])

/-- Two regions have a line in common. -/
def overlaps (a b : Nat × Nat) : Bool := decide (a.1 < b.1 + b.2) && decide (b.1 < a.1 + a.2) && a.2 != 0 && b.2 != 0

/-- Some two regions of a list overlap. -/
def anyOverlap : List (Nat × Nat) → Bool
  | [] => false
  | r :: rest => rest.any (overlaps r) || anyOverlap rest

/-- A retired page as a region (R338). -/
def Device.retiredPages (d : Device) : List (Nat × Nat) :=
  ((List.range 256).filter (fun i => d.flag (bitAt (MEM_RETIRE i + 4) 17))).map (fun i =>
    (1024 * (d.reg (MEM_RETIRE i) + d.reg (MEM_RETIRE i + 4) % 8 * wordMod), 1024))

/-- Every region lies in module DRAM, none overlaps another, and none holds a retired page (R102, R139, R338). -/
def Device.regionsOk (d : Device) : Bool :=
  let rs := d.allRegions
  rs.all (fun r => r.2 == 0 || decide (r.1 + r.2 ≤ memLines)) && !anyOverlap rs && !(rs.any (fun r => d.retiredPages.any (overlaps r)))

/-- Step 3 of R484 passes. -/
def Device.derivedOk (d : Device) (j : Job) : Bool :=
  decide (j.byy * j.adv ≤ j.rows) && (j.adv == 1 || (j.bx % 2 == 1 && j.byy % 2 == 1)) &&
    decide (j.window + 1024 ≤ cisternWords / j.width) && d.jobInFrame j &&
    (!j.bidir || j.stripes.all (fun s => s.tallyOnly || d.wholeStripe j s.len)) &&
    decide (1048576 ≤ d.get36 CST_DB_LINES) && d.regionsOk && (!d.pcEn || decide (d.poolNeed j ≤ d.get36 POOL_REGION_LINES)) &&
    decide (d.get fWindow + 16 ≤ d.get fMinPeriod)

/-! ## The flash-plan digest (R415) -/

/-- The groups of one pass. -/
def passGroups (j : Job) : List Nat :=
  let f0 := w36 (j.flashPos 0)
  [j.nFlashes % wordMod, j.nFlashes / wordMod, f0 % wordMod, f0 / wordMod, b2n j.reverse, Nat.log2 j.adv, 0, 0]

/-- The digest of a column. -/
def Device.digest (d : Device) (j : Job) : Nat :=
  let layer := (List.range j.stripes.length).flatMap (fun k =>
    if (j.stripeAt k).tallyOnly then [] else (List.range j.passes).flatMap (fun p => passGroups { j with stripe := k, pass := p }))
  crcGroups ((List.range j.layers).flatMap (fun _ => layer) ++ [d.get fServo, d.get fMinPeriod, d.get fStopLead, d.get fColumns])

/-! ## Acceptance -/

/-- The job is accepted: WRITING, LEAD, event 23; FLUSH with ALL 1, the geometry registers, the shares, the kernel taps and an
empty data path (R34 to R38, R107, R157, R163, R187, R227, R280, R484). -/
def Device.acceptJob (d : Device) (j : Job) : Device :=
  let j := { j with stripe := j.firstStripe }
  let d := { (d.clearPath) with job := some j, start := none }
  let d := (((d.setReg SYS_STATE (stWriting + 8 * phLead)).raise 23).putFlag fBlanked false).putFlag fPpAuth true
  let d := (d.setReg SYS_GEOM_PITCH (b2n j.bidir * 131072 + (j.passes - 1) * 16384 + Nat.log2 j.adv * 4096 + (j.byy - 1) * 64 + (j.bx - 1))).setReg
    SYS_GEOM_ROWS (j.expo * 1024 + j.rows)
  let d := ((d.setReg SYS_GEOM_WIDTH j.width).setReg SYS_GEOM_LEAD j.lead).put36 FLS_FIRED 0
  let d := (d.putFlag (bitAt POOL_STATUS 16) d.pcEn).put36 POOL_NEED_LINES (if d.pcEn then d.poolNeed j else 0)
  let d := { d with ril := { d.ril with active := withShares (d.get fWeakWeight) d.ril.active (some j), boundary := none, old := none, barred := none,
                                        reported := [], stuckStrict := false, clampSeen := [] },
                    csc := { d.csc with nextStripe := j.rasterFrom 0 },
                    fls := { d.fls with resumed := false, stopArmed := false, lastDecision := none },
                    msh := { d.msh with stopSent := false, rest := false, resuming := false, deferred := false } }
  let d := d.sendFlush 0 true
  let g := d.digest j
  let d := (d.setReg MSH_DIGEST (g % wordMod)).setReg (MSH_DIGEST + 4) (g / wordMod)
  (d.loadTaps.enterPass phLead).showPoolWeir

/-- The start ends before acceptance, and nothing moves (R19, R240, R416). -/
def Device.failStart (d : Device) (status detail : Nat) : Device :=
  ({ d with start := none, msh := { d.msh with joins := [] } }).completeWhere (fun w => w == Wait.job) status detail []

/-- The manager's join has failed: MSH_REFUSE_INFO names the column, and ABORT is sent (R416). -/
def Device.joinFails (d : Device) (col status detail : Nat) : Device :=
  (((d.refusal false col status).failStart status detail)).sendMesh toAll mABORT []

/-- The manager holds the JOINs it waits for: a wrong digest refuses the job; with all of them it sends START (R416). -/
def Device.joinCheck (d : Device) : Device :=
  match d.start with
  | some (.join, j) =>
    let mine := d.digest j
    match d.workers.find? (fun c => d.msh.joins.any (fun x => x.1 == c && x.2 != mine)) with
    | some c => d.joinFails c sBAD_PARAM detailDerived
    | none =>
      let d := d.each d.workers (fun d c => d.putFlag (fColJoined c) (d.msh.joins.any (fun x => x.1 == c)))
      if d.workers.all (fun c => d.msh.joins.any (fun x => x.1 == c)) then
        if !d.flag fPermit then (d.failStart sBUSY_JOB 0).sendMesh toAll mABORT []
        else ((({ d with msh := { d.msh with joins := [] } }).putFlag fJoined true).sendMesh toAll mSTART []).acceptJob j
      else d
  | _ => d

/-- Step 7 of R484, once the passport has passed: a single module starts, a worker starts and sends JOIN, and the manager
waits for JOINs (R416). The permit must still be high (R489). -/
def Device.afterPassport (d : Device) (j : Job) : Device :=
  if !d.flag fPermit then d.failStart sBUSY_JOB 0
  else if d.isManager then ({ d with start := some (.join, j), msh := { d.msh with joinSince := d.clock } }).joinCheck
  else
    let d := d.acceptJob j
    let g := d.digest j
    d.when d.isWorker (fun d => (d.putFlag fJoined false).sendMesh 0 mJOIN [g % wordMod, g / wordMod])

/-- Begin the passport, or wait for the transaction that runs (R240). -/
def Device.beginPassport (d : Device) (j : Job) : Device :=
  let d := { d with start := some (.passport, j) }
  if d.lne.pp.cmd != 0 || d.lne.pp.retryAt.isSome then d else d.ppStart

/-- JOB_START: the checks of R484 in their order. -/
def Device.jobStart (d : Device) (f : Flight) (hostErr : Bool) : Device :=
  let j := f.geometry
  if d.start.isSome then d.complete f sBUSY_JOB 0 []
  else
    match f.jobFault with
    | some i => if d.flag fPermit then d.complete f sBAD_PARAM i [] else d.complete f sBUSY_JOB 0 []
    | none =>
      if !d.flag fPermit then d.complete f sBUSY_JOB 0 []
      else if hostErr then d.complete f sDATA_ERROR 0 []
      else
        match d.readStripes j.adv j.width (f.p 8) (hostAddr (f.p 9) (f.p 10)) none with
        | none => d.complete f sBAD_PARAM 9 []
        | some l =>
          let j := { j with stripes := l }
          if l.all (fun s => s.tallyOnly) then d.complete f sBAD_PARAM 9 []
          else if l.any (fun s => s.source.isNdf) && !d.needs [20] then d.complete f sBUSY_JOB 0 []
          else if d.settingsRefused || !d.derivedOk j then d.complete f sBAD_PARAM detailDerived []
          else
            match d.rillCheck j (fun _ => false) with
            | some (cause, item) =>
              (d.checkFailed cause item).complete f (checkStatus cause) (if checkStatus cause == sBAD_PARAM then detailDerived else 0) []
            | none =>
              if (List.range 4).any (fun c => d.get (fChState c) == chDOWN) || d.flag fSelftestFail || d.unserved then d.complete f sNO_RESOURCE 0 []
              else (d.await f .job).beginPassport j

/-- The wait for JOINs has lasted 10 s (R416). -/
def joinTimeoutEffect (d : Device) : Device :=
  match d.start with
  | some (.join, _) =>
    if d.clock < d.msh.joinSince + 8000000000 then d
    else match d.workers.find? (fun c => !(d.msh.joins.any (fun x => x.1 == c))) with
      | some c => d.joinFails c sTIMEOUT 0
      | none => d
  | _ => d

def execJoinTimeout (s : State) := s.run joinTimeoutEffect

end Sys2Proof.Machine
end

