-- ==== Sys2Proof/Machine/PortOps.lean ====
section
/-! DEFINITION. The state of a mesh port, and the beginning of its training (R413, R426, R431, R454). -/
namespace Sys2Proof.Machine

/-- The other port of a port's ring, which carries the wrap (R413). -/
def ringMate (p : Nat) : Nat := if p % 2 == 0 then p + 1 else p - 1

/-- WRAP of each port, and the rings as this column sees them (R413, R427). -/
def Device.showRings (d : Device) : Device :=
  let up := d.portIsUp
  let ring := fun p => if up p && up (p + 1) then 1 else if up p || up (p + 1) then 2 else 0
  let d := ((List.range 4).foldl (fun d p => d.putFlag (fWrap p) (up p && !up (ringMate p))) d)
  (d.put (fRing false) (ring 0)).put (fRing true) (ring 2)

/-- Set a port's state; a change raises event 252 (R426). What waits for a port that is not UP is lost (R425). -/
def Device.setPort (d : Device) (p s : Nat) : Device :=
  (((d.when (d.portSt p != s) (fun d => d.raise 252)).put (fPortState p) s).when (s != portUP) (fun d =>
    ({ d with msh := { d.msh with line := d.msh.line.filter (fun x => x.port != p) } }).put (fPeer p) 0)).showRings

/-- A training of the port begins now. -/
def Device.portTrain (d : Device) (p : Nat) : Device :=
  let waits := p :: d.msh.locking.filter (fun m => m != p)
  ({ d with msh := { d.msh with tried := d.msh.tried.set! p (some d.clock), locking := waits } }.setPort p portTRAINING).put (fPortCause p) 0

/-- Every mesh port that is not RETIRED begins its training (R451, R454). -/
def Device.trainPorts (d : Device) : Device := d.each (List.range 4) (fun d p => d.when (d.portSt p != portRETIRED) (fun d => d.portTrain p))

end Sys2Proof.Machine
end

