-- ==== Sys2Proof/Machine/Mesh.lean ====
section
/-! DEFINITION. The mesh of a multi-column machine: the receipt of messages, its ports and its watches (R406 to R425). -/
namespace Sys2Proof.Machine

/-! ## The line (R410) -/

/-- The message of the block that a port sends in slot `k`: a MARKER, a MESSAGE of the first 17 messages that wait, or IDLE. -/
def Device.meshBlock (d : Device) (p k : Nat) (waiting : List MeshSlot) : Nat :=
  let sender := d.column * 4 + p
  if markerSlot k then slotBlock sender k btMARKER (markerBody sender k)
  else if waiting.isEmpty then slotBlock sender k btIDLE []
  else slotBlock sender k btMESSAGE ((waiting.take 17).flatMap (fun (x : MeshSlot) => x.leave d.clock))

/-- The slot of a port in training, as a lane in training sends it (R228, R410): PRBS13 until clock and data recovery have locked,
which a free value tells, then MARKER blocks, and TRAIN blocks with the column and the port. -/
def Device.sendPortTraining (d : Device) (k p : Nat) : Device :=
  let sender := d.column * 4 + p
  if d.msh.locking.contains p then
    let d := d.when (Config.freeNat d.freeCtr % 2 == 1) (fun d => { d with msh := { d.msh with locking := d.msh.locking.filter (fun m => m != p) } })
    (d.nextFree).emit (.meshPrbs13 p)
  else d.emit (.meshBlock p (if markerSlot k then slotBlock sender k btMARKER (markerBody sender k) else slotBlock sender k btTRAIN [sender, 0]))

/-- A port that is UP, or in training, sends the block of a slot. -/
def Device.sendMeshSlot (k : Nat) (d : Device) (p : Nat) : Device :=
  if d.portSt p == portTRAINING then d.sendPortTraining k p
  else if !d.portIsUp p then d
  else
    let waiting := d.msh.line.filter (fun (x : MeshSlot) => x.port == p)
    let later := if markerSlot k then waiting else waiting.drop 17
    ({ d with msh := { d.msh with line := d.msh.line.filter (fun (x : MeshSlot) => x.port != p) ++ later } }).emit (.meshBlock p (d.meshBlock p k waiting))

/-- The mesh blocks of the slot that begins in this tick leave. -/
def Device.meshTick (d : Device) : Device :=
  let k := slotAt d.clock
  if slotStart k != d.clock || !d.unitUp 19 then d else d.each [0, 1, 2, 3] (Device.sendMeshSlot k)

/-! ## Receipt (R411) -/

/-- The next column of a ring (R409). -/
def Device.nextColumn (d : Device) (ring : Bool) : Nat :=
  if ring then (d.column + d.columns - 1) % d.columns else (d.column + 1) % d.columns

/-- The words of a message's body. -/
def bodyWords (m : MeshMsg) : List Nat := m.body.toList.map (fun (w : Word) => w.toNat)

/-- The slot of a message, as it goes on. -/
def slotOf (m : MeshMsg) (ty : Nat) : List Nat := slotWords ty m.src m.dst (b2n m.ring) m.mseq.toNat (bodyWords m)

/-- A message in the idle direction of its ring is traffic that a column beyond turned back: it passes through, but where this
column's end of the ring is open it comes in as if it had crossed the break (R409, R413). -/
def Device.transit (d : Device) (m : MeshMsg) : Bool := m.port.val == ringOut m.ring && d.portIsUp (ringIn m.ring)

/-- A message of this mesh, on a port of its ring that is UP. -/
def Device.hears (d : Device) (m : MeshMsg) : Bool :=
  d.meshOn && d.portIsUp m.port && (m.port.val == ringIn m.ring || m.port.val == ringOut m.ring) && decide (m.src.val < d.columns)

/-- A message of another column that comes in here. -/
def Device.hearsFrom (d : Device) (m : MeshMsg) : Bool := d.hears m && !d.transit m && m.src.val != d.column

/-- A good block ends a run of faulty ones (R413). -/
def Device.goodBlock (d : Device) (p : Nat) : Device :=
  { d with msh := { d.msh with crcRun := d.msh.crcRun.set! p 0, fecRun := d.msh.fecRun.set! p 0 } }

/-- A message goes on round its ring, unless the next column is its sender (R411). -/
def Device.relay (d : Device) (m : MeshMsg) (ty : Nat) : Device :=
  let d := d.goodBlock m.port
  if d.nextColumn m.ring == m.src.val then d else d.sendOn m.ring (slotOf m ty)

/-- The message has been taken, and its copy from the other ring may still come. What a broken ring lost is forgotten before its
number comes again (R411). -/
def Device.firstCopy (d : Device) (m : MeshMsg) : Device :=
  let q := m.mseq.toNat
  let recent := d.msh.seen.filter (fun x => x.1 != m.src.val || decide ((q + wordMod - x.2) % wordMod < wordMod / 2))
  { d.itemIn 18 with msh := { d.msh with seen := recent ++ [(m.src.val, q)] } }

/-- A message of the manager has come: the column is not cut off (R414). -/
def Device.hearsManager (d : Device) (m : MeshMsg) : Device :=
  if m.src.val == 0 then { d with msh := { d.msh with heard := d.clock, cut := false } } else d

/-- A message is for this column. -/
def Device.forMe (d : Device) (m : MeshMsg) : Bool := m.dst.val == toAll || m.dst.val == d.column

/-- A copy of a message comes in: it is forwarded on its ring, unless its source comes next, and the first copy is taken
(R411, R414). -/
def Device.receive (d : Device) (m : MeshMsg) (ty : Nat) (act : Device → Device) : Device :=
  if d.hears m && d.transit m then (d.goodBlock m.port).queueSlot (ringIn m.ring) (slotOf m ty)
  else if !d.hearsFrom m then d
  else
    let d := (d.relay m ty).hearsManager m
    let key := (m.src.val, m.mseq.toNat)
    if d.msh.seen.contains key then { d with msh := { d.msh with seen := d.msh.seen.filter (fun x => x != key) } }
    else
      let d := d.firstCopy m
      if d.forMe m then act d else d

/-- Act as a manager, or as a worker, alone. -/
def Device.asManager (d : Device) (f : Device → Device) : Device := if d.isManager then f d else d
def Device.asWorker (d : Device) (f : Device → Device) : Device := if d.isWorker then f d else d

/-! ## Joining (R416) -/

/-- JOIN: the manager keeps the digest, before or after its own start. -/
def takeJoin (m : MeshMsg) (d : Device) : Device :=
  d.receive m mJOIN (fun d => d.asManager (fun d =>
    if d.inJob then d
    else ({ d with msh := { d.msh with joins := d.msh.joins.filter (fun (x : Nat × Nat) => x.1 != m.src.val) ++
                                        [(m.src.val, bodyAt36 (bodyWords m) 0 % 4294967296)] } }).joinCheck))

def execJoin (origin : Fin 4 × MeshRoute) (words : MeshWords) (s : State) :=
  s.run (takeJoin (.of origin.1 origin.2 words.mseq words.body))

/-- START: the worker has joined. -/
def takeStart (m : MeshMsg) (d : Device) : Device :=
  d.receive m mSTART (fun d => d.asWorker (fun d => if d.inJob then d.putFlag fJoined true else d))

def execStart (msg : MeshMsg) (s : State) := s.run (takeStart msg)

/-! ## Runs (R417, R418) -/

/-- The REPORTs of a worker that the manager keeps: this one, and the last of an earlier tick (R418, R425). -/
def Device.keepReport (d : Device) (c f : Nat) : Device :=
  let before := (d.msh.reports.filter (fun r => r.col == c && decide (r.tick < d.clock))).take 1
  { d with msh := { d.msh with reports := { col := c, tick := d.clock, factor := f } :: before ++ d.msh.reports.filter (fun r => r.col != c),
                               lost := d.msh.lost.filter (fun x => x != c) } }

/-- REPORT: the column's registers, and the tick of its report (R418, R432). -/
def takeReport (m : MeshMsg) (d : Device) : Device :=
  let c := m.src.val
  let (f, flags) := ((bodyWords m).getD 0 0 % 131072, (bodyWords m).getD 1 0)
  d.receive m mREPORT (fun d => d.asManager (fun d =>
    let d := (d.putFlag (fColReady c) (bitOf flags 17)).putFlag (fColHeld c) (bitOf flags 16)
    ((d.setReg (MSH_COL_FACTOR c) f).put36 (MSH_COL_STITCH c) (bodyAt36 (bodyWords m) 2)).keepReport c f))

def execReport (origin : Fin 4 × MeshRoute) (words : MeshWords) (s : State) :=
  s.run (takeReport (.of origin.1 origin.2 words.mseq words.body))

/-- A worker follows RUN. The run of its own pass from its own first flash arms its compare; in a run of another pass or from
another flash it takes its own next flash, which lies ahead (R417, R422). A worker held for a resume is in WRITING again. -/
def Device.followRun (d : Device) : Device :=
  match d.job with
  | none => d
  | some j =>
    if !d.awaitsRun || !d.flag fJoined then d
    else
      let (held, d) := d.runHeld j
      if held then d
      else
        let d := if d.inHeld then d.clearStop.setState stWriting else d
        d.armRun j

/-- RUN: a worker whose pass is another one waits for its own in LEAD. -/
def takeRun (m : MeshMsg) (d : Device) : Device :=
  let run := (bodyWords m).getD 0 0
  d.receive m mRUN (fun d => d.asWorker (fun d =>
    if d.job.any (fun j => j.pass == run / 2 && j.reverse == bitOf run 0) then d.followRun
    else if d.inHeld && d.msh.resuming then (d.clearStop.setState stWriting).setPhase phLead else d))

def execRun (port : Fin 4) (route : MeshRoute) (mseq : Word) (body : Vector Word 14) (s : State) :=
  s.run (takeRun (.of port route mseq body))

/-! ## Global stops (R282, R420, R421) -/

/-- A column acts on S: it decides flashes up to S, and refuses S + 1; where no compare is armed the stop begins now, and
beyond S at the next compare. A column whose own request came first keeps its own stitch point. -/
def Device.stopAt (d : Device) (s : Nat) : Device :=
  if !d.inWriting || d.flag fStopPending then d
  else if d.noPass then { d.stopRequest cMESH with msh := { d.msh with stopTick := d.clock } }
  else
    let d := { d with fls := { d.fls with stopArmed := true } }
    match d.job with
    | some j => d.when (decide (0 ≤ j.decidedN) && fseqGe (j.fseq j.decidedN) ((s + 1) % pairMod)) (fun d => (d.putFlag fStopLate true).raise 172)
    | none => d

/-- A STOP of this tick names a lower column as the initiating one: in the message, and in the record where it is of this tick too
(R425, R430). -/
def Device.lowerInit (d : Device) (init : Nat) : Device :=
  let isStop := fun (x : MeshSlot) => x.tick == d.clock && bits (x.words.headD 0) 12 6 == mSTOP && bits (x.words.headD 0) 8 4 == d.column
  let low := fun (x : MeshSlot) => isStop x && decide (init < x.words.getD 4 0)
  let info := fun (v : Nat) => bitOf v 17 && decide (init < bits v 12 4) && !bitOf (d.tickReg MSH_STOP_INFO) 17
  let d := { d with msh := { d.msh with line := d.msh.line.map (fun x => if low x then { x with words := x.words.set 4 init } else x) } }
  d.when (info (d.reg MSH_STOP_INFO)) (fun d => d.put { off := MSH_STOP_INFO, lo := 12, w := 4 } init)

/-- The manager issues a global stop for a column, once per stop; of two requests in one tick, INIT names the lower column
(R420, R425). -/
def Device.globalStop (d : Device) (init : Nat) : Device :=
  if !d.inWriting then d
  else if d.msh.stopSent then
    d.when (d.msh.stopTick == d.clock) (fun d => d.lowerInit init)
  else
    let (d, s) := d.sendStop init
    d.stopAt s

/-- STOP_REQ. -/
def takeStopReq (m : MeshMsg) (d : Device) : Device :=
  d.receive m mSTOP_REQ (fun d => d.asManager (fun d => (d.put36 (MSH_COL_STITCH m.src) (bodyAt36 (bodyWords m) 1)).globalStop m.src))

def execStopReq (port : Fin 4) (route : MeshRoute) (words : MeshWords) (s : State) :=
  s.run (takeStopReq (.of port route words.mseq words.body))

/-- STOP: S goes to FLS_STOP_AT, with event 253. -/
def takeStop (m : MeshMsg) (d : Device) : Device :=
  let s := bodyAt36 (bodyWords m) 0
  d.receive m mSTOP (fun d => d.asWorker (fun d => (d.recordStop false ((bodyWords m).getD 2 0 % 16) s).stopAt s))

def execStop (port : Fin 4) (route : MeshRoute) (words : MeshWords) (s : State) :=
  s.run (takeStop (.of port route words.mseq words.body))

/-- REST: the stage is at rest. A column whose compares up to S were not met stops on its last decided flash (R421). -/
def takeRest (m : MeshMsg) (d : Device) : Device :=
  d.receive m mREST (fun d => d.asWorker (fun d =>
    if !d.inWriting then d
    else
      let d := d.when (!d.flag fStopPending) (fun d => d.stopRequest cMESH)
      { d with msh := { d.msh with rest := true } }))

def execRest (msg : MeshMsg) (s : State) := s.run (takeRest msg)

/-! ## Resume, abort, end and pause (R416, R422) -/

/-- RESUME: a worker makes its checks and answers. -/
def takeMeshResume (m : MeshMsg) (d : Device) : Device := d.receive m mRESUME (fun d => d.asWorker Device.answerResume)

def execMeshResume (msg : MeshMsg) (s : State) := s.run (takeMeshResume msg)

/-- RESUME_ACK: the manager decides once it has the last answer. -/
def takeResumeAck (m : MeshMsg) (d : Device) : Device :=
  d.receive m mRESUME_ACK (fun d => d.asManager (fun d =>
    ({ d with msh := { d.msh with acks := d.msh.acks.filter (fun (x : Nat × Nat) => x.1 != m.src.val) ++
                                       [(m.src.val, (bodyWords m).getD 0 0)] } }).meshDecide))

def execResumeAck (origin : Fin 4 × MeshRoute) (words : MeshWords) (s : State) :=
  s.run (takeResumeAck (.of origin.1 origin.2 words.mseq words.body))

/-- ABORT: a job in progress is aborted, and a start that is under way ends ABORTED (R30, R416). -/
def Device.meshAborted (d : Device) : Device :=
  let d := { d with msh := { d.msh with joins := [] } }
  if d.start.isSome then d.failStart sABORTED 0 else if d.inJob then d.beginAbort else d

def takeMeshAbort (m : MeshMsg) (d : Device) : Device := d.receive m mABORT Device.meshAborted

def execMeshAbort (msg : MeshMsg) (s : State) := s.run (takeMeshAbort msg)

/-- END: the worker's job is complete (R416). -/
def takeMeshEnd (m : MeshMsg) (d : Device) : Device :=
  d.receive m mEND (fun d => d.asWorker (fun d => if d.inJob then d.jobDone else d))

def execMeshEnd (msg : MeshMsg) (s : State) := s.run (takeMeshEnd msg)

/-- PAUSE acts in every column under R29 (R422). -/
def takeMeshPause (m : MeshMsg) (d : Device) : Device :=
  d.receive m mPAUSE (fun d => d.asWorker (fun d => if d.inWriting then d.mapJob (fun j => { j with pausing := true }) else d))

def execMeshPause (msg : MeshMsg) (s : State) := s.run (takeMeshPause msg)

/-! ## Time over the mesh (R423) -/

/-- A change of the ring from which the worker takes TIME is a change of master (R392, R423). -/
def Device.takeRing (d : Device) (ring : Bool) : Device :=
  if d.msh.timeRing == some ring then d
  else
    let d := { d with msh := { d.msh with timeRing := some ring } }
    (((d.mapPtp (fun p => { p with sync := none, down := none, up := none, request := none, run := 0, syncAt := d.clock })).put fPtpPort 0).setPtpState
      ptpUNCALIBRATED).raise 251

/-- TIME: it stands for Sync, and the worker answers with TIME_REQ. -/
def takeTime (m : MeshMsg) (d : Device) : Device :=
  d.receive m mTIME (fun d => if !d.meshTimed then d else
    let d := ({ d with msh := { d.msh with traced := bitOf ((bodyWords m).getD 7 0) 0 } }).takeRing m.ring
    let d := d.syncComplete ((d.tod : Int) - timeAt (bodyWords m) - corrAt (bodyWords m))
    (d.mapPtp (fun p => { p with request := some (0, (d.tod : Int)) })).sendMesh 0 mTIME_REQ (timeWords d.tod ++ [0]))

def execTime (port : Fin 4) (route : MeshRoute) (mseq : Word) (body : Vector Word 14) (s : State) :=
  s.run (takeTime (.of port route mseq body))

/-- The manager sends TIME every 1 ms, with its TOD and whether that is traced to PTP. -/
def timeSendEffect (d : Device) : Device :=
  if !d.meshOn || !d.isManager || d.msh.timeSent.any (fun t => decide (d.clock < t + 800000)) then d
  else ({ d with msh := { d.msh with timeSent := some d.clock } }).sendMesh toAll mTIME (timeWords d.tod ++ [0, b2n (d.get fTodSrc == 2)])

def execTimeSend (s : State) := s.run timeSendEffect

/-- TIME_REQ: the manager answers with the time of its receipt, and the correction that the request came with. -/
def takeTimeReq (m : MeshMsg) (d : Device) : Device :=
  d.receive m mTIME_REQ (fun d => d.asManager (fun d => d.sendMesh m.src mTIME_RESP (timeWords d.tod ++ [(bodyWords m).getD corrWord 0])))

def execTimeReq (msg : MeshMsg) (s : State) := s.run (takeTimeReq msg)

/-- TIME_RESP stands for Delay_Resp. -/
def takeTimeResp (m : MeshMsg) (d : Device) : Device :=
  d.receive m mTIME_RESP (fun d => if !d.meshTimed then d else
    match d.ptp.request with
    | some (_, t3) =>
      let sm := timeAt (bodyWords m) - t3 - corrAt (bodyWords m)
      let d := d.mapPtp (fun p => { p with up := some sm, request := none })
      d.ptp.down.elim d (fun ms => d.showPath ms sm)
    | none => d)

def execTimeResp (port : Fin 4) (route : MeshRoute) (words : MeshWords) (s : State) :=
  s.run (takeTimeResp (.of port route words.mseq words.body))

/-! ## Forwarded events and BEAT (R419, R424) -/

/-- EVT: the pair joins the queue of 64 with event 254; with the queue full it is counted as lost. -/
def takeEvt (m : MeshMsg) (d : Device) : Device :=
  d.receive m mEVT (fun d => d.asManager (fun d =>
    if 64 ≤ d.msh.fwd.length then d.bump (whole MSH_FWD_LOST)
    else ({ d with msh := { d.msh with fwd := d.msh.fwd ++ [(m.src.val, (bodyWords m).getD 0 0 % 256)] } }).raise 254))

def execEvt (origin : Fin 4 × MeshRoute) (words : MeshWords) (s : State) :=
  s.run (takeEvt (.of origin.1 origin.2 words.mseq words.body))

/-- BEAT: its receipt alone counts, for the watch of R414. -/
def takeBeat (m : MeshMsg) (d : Device) : Device := d.receive m mBEAT (fun d => d)

def execBeat (msg : MeshMsg) (s : State) := s.run (takeBeat msg)

/-! ## Watches (R414) -/

/-- A worker has heard nothing from the manager for 1 ms. -/
def cutOffEffect (d : Device) : Device :=
  if !d.isWorker || d.msh.cut || decide (d.clock < d.msh.heard + 800000) then d
  else (({ d with msh := { d.msh with cut := true } }).raise 252).stopRequest cMESH

def execCutOff (s : State) := s.run cutOffEffect

/-- The manager has had no REPORT from a worker for 1 ms: it is LOST, a global stop follows, and a
resume that waits for it has no resource. -/
def workerLostEffect (c : Nat) (d : Device) : Device :=
  if !(d.isManager && d.workers.contains c) || d.msh.lost.contains c || d.colLive c || decide (d.clock < 800000) then d
  else ((({ d with msh := { d.msh with lost := d.msh.lost ++ [c] } }).raise 252).globalStop c).when d.msh.asking (fun d => d.meshRefused c sNO_RESOURCE)

def execWorkerLost (c : Fin 16) (s : State) := s.run (workerLostEffect c)

/-! ## Ports and rings (R409, R413) -/

/-- CAUSE codes of R431. -/
def pcNO_LOCK : Nat := 1
def pcMAP : Nat := 2
def pcLOS : Nat := 3
def pcLOL : Nat := 4
def pcBLOCK_CRC : Nat := 5

/-- A MESH_RETRAIN of the port ends (R481). -/
def Device.retrainEnds (d : Device) (p status detail : Nat) : Device := d.completeWhere (fun w => w == Wait.meshRetrain p) status detail []

/-- A port that was UP goes DOWN with a cause: one error of its domain, which may retire it (R413). -/
def Device.portDown (d : Device) (p cause : Nat) : Device :=
  if d.portSt p != portUP then d
  else
    let d := d.put (fPortCause p) cause
    let d := { (d.goodBlock p) with msh := { (d.goodBlock p).msh with tried := d.msh.tried.set! p none } }
    let (v, d) := d.charge 10 p cause 0
    d.setPort p (if v == .transient then portDOWN else portRETIRED)

/-- LOS, LOL or failed block CRCs. -/
def meshPortDownEffect (p c : Nat) (d : Device) : Device := if d.unitUp 19 then d.portDown p (pcLOS + c) else d

def execMeshPortDown (p : Fin 4) (cause : Fin 3) (s : State) := s.run (meshPortDownEffect p cause)

/-- A training has failed with a cause: the port is DOWN again, or RETIRED where its domain is permanent. -/
def Device.portFails (d : Device) (p cause : Nat) : Device :=
  ((d.setPort p (if d.isPermanent 10 p then portRETIRED else portDOWN)).put (fPortCause p) cause).retrainEnds p sDATA_ERROR cause

/-- A DOWN port re-trains every 100 ms; a training that has not ended by then has found no lock (R413). -/
def portTimerEffect (p : Nat) (d : Device) : Device :=
  let due := (d.msh.tried.toList.getD p none).all (fun t => decide (t + 80000000 ≤ d.clock))
  if !d.unitUp 19 || !due then d
  else
    let d := if d.portSt p == portTRAINING then d.portFails p pcNO_LOCK else d
    if d.portSt p == portDOWN then d.portTrain p else d

def execMeshPortRetrainTimer (p : Fin 4) (s : State) := s.run (portTimerEffect p)

/-- The column that a port must find at its other end: ports 0 and 2 the next one, ports 1 and 3 the one before (R409). -/
def Device.peerOf (d : Device) (p : Nat) : Nat := if p % 2 == 0 then (d.column + 1) % d.columns else (d.column + d.columns - 1) % d.columns

/-- A training ends, and the other end reports its column (R410, R413). With the mesh off, R409 requires none. -/
def portUpEffect (p peer : Nat) (d : Device) : Device :=
  if !d.unitUp 19 || d.portSt p != portTRAINING then d
  else if d.meshOn && peer != d.peerOf p then d.portFails p pcMAP
  else
    let d := if d.isPermanent 10 p then d.dropDomain 10 p else d.recovered 10 p
    ((d.setPort p portUP).put (fPeer p) peer).retrainEnds p sOK 0

def execMeshPortUp (p : Fin 4) (peer : Fin 16) (s : State) := s.run (portUpEffect p peer)

/-- RETRAIN is taken on a DOWN port, or a RETIRED port in READY (R431). -/
def Device.portRetrainTaken (d : Device) (p : Nat) : Bool :=
  d.unitUp 19 && (d.portSt p == portDOWN || (d.portSt p == portRETIRED && d.inReady))

/-- A write of MSH_PORTp_CTRL. -/
def writePortRetrain (p v : Nat) (d : Device) : Device := if bitOf v 17 && d.portRetrainTaken p then d.portTrain p else d

def execMshPortRetrain (p : Fin 4) (value : Word) (s : State) := s.run (writePortRetrain p value.toNat)

/-- A block that a mesh port may take: IDLE, MARKER, TRAIN or MESSAGE, with no reserved field set, words 272 to 281 of a MESSAGE 0, and a
block CRC that passes for the sender at the other end (R210, R211, R410). -/
def Device.meshBlockClean (d : Device) (p m : Nat) : Bool :=
  let t := msgType m
  (t == btIDLE || t == btMARKER || t == btTRAIN || t == btMESSAGE) && bits m 0 16 == 0 && crcPasses (d.get (fPeer p) * 4 + ringMate p) m &&
    (t != btMESSAGE || (List.range 10).all (fun i => msgWord m (272 + i) == 0))

/-- The slots of a MESSAGE block whose TYPE is unknown (R411). -/
def unknownSlots (m : Nat) : Nat :=
  if msgType m != btMESSAGE then 0
  else ((List.range 17).filter (fun i => msgWord m (16 * i) != 0 && !(decide (1 ≤ bits (msgWord m (16 * i)) 12 6) &&
    decide (bits (msgWord m (16 * i)) 12 6 ≤ mBEAT)))).length

/-- One more of a port's consecutive faulty blocks of a kind; the third takes the port DOWN. -/
def Device.faultyRun (d : Device) (p cause n : Nat) : Device := if 3 ≤ n then d.portDown p cause else d

/-- A block that cannot be taken is discarded and counted, and so is each message of an unknown type in one that can; three failed
blocks in a row take the port DOWN, and three uncorrectable codewords in a row are LOL (R233, R411, R413). -/
def meshBlockErrEffect (p : Nat) (w : Codeword) (d : Device) : Device :=
  if !d.unitUp 19 || d.portSt p != portUP then d
  else match w with
  | .uncorrectable =>
    let n := d.msh.fecRun.toList.getD p 0 + 1
    ({ d with msh := { d.msh with fecRun := d.msh.fecRun.set! p n } }.bump (whole (MSH_PORT_BLOCK_ERR p))).faultyRun p pcLOL n
  | .message b =>
    if d.meshBlockClean p b.toNat then (d.goodBlock p).bumpBy (whole (MSH_PORT_BLOCK_ERR p)) (unknownSlots b.toNat)
    else
      let n := d.msh.crcRun.toList.getD p 0 + 1
      ({ d with msh := { d.msh with crcRun := d.msh.crcRun.set! p n, fecRun := d.msh.fecRun.set! p 0 } }.bump (whole (MSH_PORT_BLOCK_ERR p))).faultyRun p
        pcBLOCK_CRC n

def execMeshBlockErr (p : Fin 4) (codeword : Codeword) (s : State) := s.run (meshBlockErrEffect p codeword)

end Sys2Proof.Machine
end

