-- ==== Sys2Proof/Machine/Pmc.lean ====
section
/-! DEFINITION. The control registers of the performance counters (R538 to R540, R545) and of the record samples (R541,
R547). -/
namespace Sys2Proof.Machine

/-- Every counter, block by block. -/
def pmcAll : List (Nat × Nat) := (List.range 20).flatMap (fun b => (List.range 8).map (fun k => (b, k)))

/-- The value of a counter that a snapshot takes: with a clear in the same clock, the value before it (R540). -/
def Device.snapValue (d : Device) (b k : Nat) : Nat :=
  (d.get36 (PMC_C_COUNT b k) + (d.pmcNow.cleared.elim 0 (fun l => l.getD (8 * b + k) 0))) % pairMod

/-- A snapshot: every COUNT goes to its SNAP, and PMC_SNAP_TICK takes the tick; nothing is cleared (R539). -/
def Device.snapshot (d : Device) : Device :=
  let d := (d.each pmcAll (fun d (x : Nat × Nat) => d.put36 (PMC_C_SNAP x.1 x.2) (d.snapValue x.1 x.2))).put36 PMC_SNAP_TICK d.tick
  { d with pmc := { d.pmcNow with snapped := true } }

/-- Every COUNT becomes 0 (R545). -/
def Device.clearCounts (d : Device) : Device :=
  let old := pmcAll.map (fun (x : Nat × Nat) => d.snapValue x.1 x.2)
  let d := d.each pmcAll (fun d (x : Nat × Nat) => d.put36 (PMC_C_COUNT x.1 x.2) 0)
  { d with pmc := { d.pmcNow with cleared := some old, counted := d.pmcNow.counted.map (fun x => (x.1, 0)) } }

/-- FREEZE: what the counters have counted in this clock is lost (R540). -/
def Device.freeze (d : Device) : Device :=
  d.each (d.pmcNow.counted.filter (fun x => !d.pmcNow.wrote.contains x.1)) (fun d (x : Nat × Nat) => d.put36 (PMC_C_COUNT (x.1 / 8) (x.1 % 8)) x.2)

/-- A write of PMC_CTRL: the snapshot takes the values before the clear (R540, R545). -/
def writePmcCtrl (v : Nat) (d : Device) : Device :=
  if !d.unitUp 0 then d
  else
    let d := (d.when (bitOf v 17) Device.snapshot).when (bitOf v 16) Device.clearCounts
    (d.when (bitOf v 15 && !d.flag (bitAt PMC_CTRL 15)) Device.freeze).putFlag (bitAt PMC_CTRL 15) (bitOf v 15)

def execPmcSnap (value : Word) (s : State) := s.run (writePmcCtrl (value.toNat ||| 0x20000))
def execPmcClear (value : Word) (s : State) := s.run (writePmcCtrl (value.toNat ||| 0x10000))
def execPmcFreeze (value : Word) (s : State) := s.run (writePmcCtrl value.toNat)

/-- A write of PMC_PSB_CTRL: one with INTERVAL_LOG2 above 20 is ignored; CLEAR empties the buffer and clears FULL
(R547). -/
def writePsbCtrl (v : Nat) (d : Device) : Device :=
  if !d.unitUp 0 || decide (20 < bits v 11 5) then d
  else
    let d := d.put { off := PMC_PSB_CTRL, lo := 11, w := 7 } (bits v 11 7)
    if bitOf v 9 then ((d.putFlag (bitAt PMC_PSB_CTRL 10) false).setReg PMC_PSB_COUNT 0).setReg PMC_PSB_NEXT 0 else d

def execPsbClear (value : Word) (s : State) := s.run (writePsbCtrl (value.toNat ||| 0x200))

end Sys2Proof.Machine
end

