-- ==== Sys2Proof/Machine/Reset.lean ====
section
/-! DEFINITION. Resets, option load and the release of islands (R434 to R456), and the control pairs (R500 to
R503). -/
namespace Sys2Proof.Machine

/-- Cause bits of RST_CAUSE (R459). -/
def rcPOR : Nat := 17
def rcPIN : Nat := 16
def rcSOFT : Nat := 15
def rcWATCHDOG : Nat := 14
def rcCLK : Nat := 13
def rcPERST : Nat := 12
def rcBLOCK : Nat := 11

/-! ## Clocks (R435, R436) -/

/-- The clock of an island and its reference, in kHz (R434, R435). -/
def islandKHz (k : Nat) : Nat :=
  if k ≤ 1 || k == 21 then 1000000 else if k ≤ 3 || (decide (14 ≤ k) && decide (k ≤ 17)) then 1600000
  else if k == 13 then 800000 else if decide (18 ≤ k) then 1328125 else 1200000
def refKHz (k : Nat) : Nat := if k == 20 then 156250 else if k == 21 then 100000 else 200000

/-- The clocks of an island in a window of 256 reference cycles. -/
def windowClocks (k : Nat) : Nat := 256 * islandKHz k / refKHz k

/-- A count lies within 1 part in `n` of nominal. -/
def countNear (k n c : Nat) : Bool := decide ((max c (windowClocks k) - min c (windowClocks k)) * n ≤ windowClocks k)

/-- CLK_GOOD rises: the PLL is locked, and each of the last 16 windows is within 0.5 % (R436). -/
def clockRises (k : Nat) (v : ClockView) : Bool := v.locked && decide (16 ≤ v.counts.length) && (v.counts.take 16).all (countNear k 200)

/-- CLK_GOOD falls: the PLL loses lock, or the last 2 windows are outside 2 % (R436). -/
def clockFalls (k : Nat) (v : ClockView) : Bool :=
  !v.locked || (decide (2 ≤ v.counts.length) && (v.counts.take 2).all (fun c => !countNear k 50 c))

/-- REFCLK is not good (R436). -/
def refFails (v : ClockView) : Bool := decide (v.counts.headD 0 < 1500) || decide (2800 < v.counts.headD 0)

/-- CLK_GOOD of an island rises as its monitor shows, but of no island fed from REFCLK while that is not good. The tick of a rise is
kept (R436, R456). -/
def Device.seeClock (d : Device) (k : Nat) (v : ClockView) : Device :=
  if !d.clkGood k && clockRises k v && !(d.rst.refBad && decide (k < 20)) then
    ({ d with rst := { d.rst with goodAt := if d.released 13 then (k, d.clock) :: d.rst.goodAt.filter (fun x => x.1 != k) else d.rst.goodAt } }).setClkGood k true
  else d

/-- CLK_GOOD of an island has been 1 since before this tick (R437). -/
def Device.clkGoodBefore (d : Device) (k : Nat) : Bool := d.clkGood k && !(d.released 13 && d.rst.goodAt.contains (k, d.clock))

/-- What a module reset leaves (R440): every register at its reset value but RST_CAUSE, the DRAM lost, every command
in flight ended without a completion; the non-volatile stores, the pins and host memory stay. A reset that comes in option load counts
as a restart (R445). -/
def Device.afterReset (d : Device) : Device :=
  { powered := d.powered, hostMem := d.hostMem, freeCtr := d.freeCtr,
    regs := d.regs.filter (fun p => p.1 == RST_CAUSE),
    fls := { permit := d.fls.permit },
    rst := { journalA := d.rst.journalA, journalB := d.rst.journalB, slots := d.rst.slots, resetLow := d.rst.resetLow,
             perstLow := d.rst.perstLow, refBad := d.rst.refBad, pinsFused := d.rst.pinsFused,
             olRestarts := if d.rst.loading then min (d.rst.olRestarts + 1) 15 else if d.rst.wait.isSome then d.rst.olRestarts else 0 } }

/-- Registers keep the values that they had in `was`. -/
def Device.keep (was d : Device) (offs : List Nat) : Device := d.each offs (fun d off => d.setReg off (was.reg off))

/-- The active pool tables as they were in `was` (R143). PWEIGHT is no part of the copies (R155). -/
def Device.keepPool (was d : Device) : Device :=
  let d := was.keep d ((List.range 64).map POOL_CLASS_ACT ++ (List.range 1024).map POOL_DFT_ACT ++ (List.range 256).map POOL_LAYER_ACT)
  let d := d.each (List.range 64) (fun d c => d.putFlag (bitAt (POOL_CLASS_ACT c + 4) 8) (was.flag (bitAt (POOL_CLASS_ACT c + 4) 8)))
  { d with pool := { d.pool with doseMax := was.pool.doseMax } }

/-- The active rill tables as they were in `was` (R188). -/
def Device.keepRill (was d : Device) : Device :=
  let d := was.keep d (RIL_CODE_SCALE_ACT :: (List.range 2).map RIL_OFFS_ACT ++ (List.range 2048).map RIL_MASK_ACT)
  { d with ril := { d.ril with active := was.ril.active } }

/-- The active copies that a module reset leaves: those of a block in which a commit is pending, or a rill check runs
(R143, R188, R273). All others take their reset values (R440). DEDUCED: log entry 80. -/
def Device.keepActive (was d : Device) : Device :=
  let d := d.when ((List.range 4).any (fun t => was.flag (fPoolPending t))) was.keepPool
  let d := d.when ((List.range 4).any (fun t => was.flag (fRilPending t)) || was.ril.check.isSome) was.keepRill
  d.when (was.flag fFlsPending) (fun d => was.keep d ((List.range 2).map FLS_DELAY_ACT))

/-- A module reset: it adds its cause to RST_CAUSE (R439, R440). -/
def Device.moduleReset (d : Device) (cause : Nat) : Device := (d.journalCut.keepActive d.journalCut.afterReset).putFlag (bitAt RST_CAUSE cause) true

/-! ## Retained state (R447 to R449) and fuse slots (R452) -/

/-- The records of a list whose CRC holds and whose SEQ follows the one before, up to the first that fails (R449). -/
def consistent (copy seq : Nat) : List JRec → List JRec
  | [] => []
  | r :: rest => if r.crc == r.crcIn copy && r.seq == (seq + 1) % pairMod then r :: consistent copy r.seq rest else []

/-- A copy cut to its consistent prefix, where `n` of its records read back. -/
def JCopy.cut (c : JCopy) (copy n : Nat) : JCopy := { c with records := consistent copy c.snapSeq (c.records.take n) }

/-- The SEQ at which a copy ends. -/
def JCopy.lastSeq (c : JCopy) : Nat := (c.records.getLast?).elim c.snapSeq (fun r => r.seq)

/-- The retained items of a copy. -/
def JCopy.items (c : JCopy) : List (JItem × List Nat) := foldRecords c.snapshot c.records

/-- A copy written afresh with the content of another, its CRCs its own (R449). -/
def JCopy.rewrite (c : JCopy) (copy : Nat) (was : JCopy) : JCopy :=
  { c with records := c.records.map (fun r => { r with crc := r.crcIn copy }), halfB := was.halfB, erases0 := was.erases0, erases1 := was.erases1 }

/-- Apply a restored item: the RWS fields of a register, or a dword of the memory state of R339, a log entry with RESTORED 1 (R506), or the pending passport deltas. A retired
pair is tested again whatever was retained (R506). -/
def Device.restoreItem (d : Device) (it : JItem × List Nat) : Device :=
  match it.1 with
  | .reg off =>
    let m := rwsBits off
    let v := it.2.headD 0
    d.resetDword off (if m == 0 then v else (d.reg off - (d.reg off &&& m)) ||| (v &&& m))
  | .passportDelta =>
    if it.2.isEmpty then d
    else (d.mapPp (fun p => { p with deltas := (chunks 2 64 it.2).map (fun c => (c.getD 0 0, c.getD 1 0)) })).putFlag fPpPending true
  | .logEntry lseq =>
    if it.2.isEmpty then d
    else match (List.range 64).find? (fun i => !d.logValid i) with
    | some i =>
      let d := (d.setRegs (SYS_EL i) it.2).putFlag (bitAt (SYS_EL i) 13) true
      (d.put fLogCount (d.get fLogCount + 1)).put36 SYS_ERRLOG_LSEQ (max lseq (d.get36 SYS_ERRLOG_LSEQ))
    | none => d
  | .pairRetired _ => d

/-- The restore of option load (R449): the copy whose prefix ends at the higher SEQ, copy A when equal; a lower or
failed copy is rewritten from it with event 2; without a valid snapshot the fused defaults stand with event 1. -/
def Device.restore (d : Device) (va vb : Option Nat) : Device :=
  let a := d.rst.journalA.cut 0 (va.getD 0)
  let b := d.rst.journalB.cut 1 (vb.getD 0)
  let ea := va.map (fun _ => a.lastSeq)
  let eb := vb.map (fun _ => b.lastSeq)
  let d := (d.putFlag (bitAt RST_JOURNAL 17) va.isSome).putFlag (bitAt RST_JOURNAL 16) vb.isSome
  let finish := fun (d : Device) (a b : JCopy) (items : List (JItem × List Nat)) (seq : Nat) =>
    let d := { d with rst := { d.rst with journalA := a, journalB := b } }
    let d := (d.put36 RST_JOURNAL_SEQ seq).setReg RST_JOURNAL_ERASES d.eraseCount
    let d := (d.putFlag (bitAt RST_JOURNAL 14) a.halfB).putFlag (bitAt RST_JOURNAL 13) b.halfB
    ((sortBy (fun it => match it.1 with | .logEntry l => l | _ => 0) items).foldl Device.restoreItem d).showChannels
  match va, vb with
  | none, none =>
    let fresh := fun (c : JCopy) => ({ erases0 := c.erases0, erases1 := c.erases1, halfB := c.halfB } : JCopy)
    ((finish d (fresh a) (fresh b) [] 0).putFlag fJournalDefault true).raise 1
  | _, _ =>
    let useA := match ea, eb with
      | some x, some y => decide (y ≤ x)
      | some _, none => true
      | _, _ => false
    let c := if useA then a else b
    let rebuilt := !(ea == eb)
    let a' := if rebuilt && !useA then c.rewrite 0 d.rst.journalA else a
    let b' := if rebuilt && useA then c.rewrite 1 d.rst.journalB else b
    let d := finish d a' b' c.items c.lastSeq
    if rebuilt then (d.putFlag (bitAt RST_JOURNAL 15) true).raise 2 else d

/-- The value in force of a limited-change setting: its highest-numbered VALID slot (R452). -/
def Device.inForce (d : Device) (lo hi : Nat) : Option FuseSlot :=
  (List.range (hi + 1 - lo)).foldl (fun best i =>
    match d.rst.slots.toList[lo + i]? with
    | some s => if s.valid then some s else best
    | none => best) none

/-- Show the fuse slots (R464). -/
def Device.showSlots (d : Device) : Device :=
  d.each (List.range 21) (fun d i =>
    let s := d.rst.slots.toList.getD i {}
    d.setRegs (RST_LCS i) [b2n s.used * 131072 + b2n s.valid * 65536 + s.todSrc % 4 * 16384 + (if i < 16 then s.value % 16 else 0),
      bits s.secs 0 18, bits s.secs 18 18, bits s.secs 36 12])

/-- The captured words of the fuse slots' times as option load leaves them (R10). -/
def Device.captureSlots (d : Device) : Device :=
  d.each (List.range 21) (fun d i => d.resetDwords (RST_LCS i + 4) ((List.range 3).map (fun k => d.reg (RST_LCS i + 4 + 4 * k))))

/-- The limited-change settings come into force: column identity, anchor and strict lock (R452). -/
def Device.enforceSlots (d : Device) : Device :=
  let col := (d.inForce 0 15).elim 0 (fun s => s.value)
  let anchor := (d.inForce 16 19).elim 0 (fun s => s.value)
  let d := d.put { off := MSH_COLUMN, lo := 0, w := 4 } col
  let d := d.resetDwords LNE_PP_ANCHOR ((List.range 15).map (fun i => bits anchor (18 * i) 18))
  { d with rst := { d.rst with strict := (d.inForce 20 20).isSome } }

/-- A slot whose programming was interrupted is USED and not VALID (R453). -/
def Device.tearSlot (d : Device) (i : Nat) : Device :=
  if (d.rst.slots.toList.getD i {}).used then d else { d with rst := { d.rst with slots := d.rst.slots.set! i { used := true } } }

/-! ## Option load (R444) -/

/-- The default MAC addresses of the fuse map, the first octet highest (R399, R446). -/
def Device.fusedMacs (d : Device) : Device :=
  d.each [0, 1] (fun d p => d.resetDwords (ETH_P_MAC p) ((List.range 3).map (fun i => bits (Config.macAddress p).toNat (16 * (2 - i)) 16)))

/-- REFCLK and every core PLL are good, and RESET_L does not hold the reset (R438, R443, R444). -/
def Device.coreClocksGood (d : Device) : Bool := !d.rst.refBad && !d.rst.resetLow && (List.range 19).all d.clkGood

/-- Steps 3 and 4 of option load, once step 2 has its clocks: island 0 is released, the firmware is verified, and the retained state is
restored. A failed signature leaves the module in BOOT. -/
def Device.loadFirmware (d : Device) (ol : OptionLoad) : Device :=
  let d := ({ d with rst := { d.rst with wait := none } }.setReleased 0 true).put fBootPhase 3
  if !ol.fwOk then d.putFlag fFwErr true
  else
    let d := (d.setReg SYS_FIRMWARE_REL 0xA2).setReg EVT_CORE_BASE 0x100
    (d.put fBootPhase 4).restore ol.validA ol.validB

/-- Step 2 waits for REFCLK and the core PLLs, without a time-out (R444). -/
def Device.stepTwo (d : Device) : Device :=
  match d.rst.wait with
  | some (false, ol) => if d.coreClocksGood then d.loadFirmware ol else d
  | _ => d

/-- Option load from step 1: the fuse map is read in up to 4 pairs, pins take their fused states, and step 2 looks at the clocks;
the release of the other islands is step 5 (R441). A failed fuse read leaves the module in BOOT. -/
def Device.optionLoad (d : Device) (ol : OptionLoad) : Device :=
  let d := { d with rst := { d.rst with loading := true, olMicros := ol.micros, wait := none } }
  let d := ((d.setState stBoot).put fBootPhase 1).put fOlRestarts d.rst.olRestarts
  if !(ol.fusePairs.take 4).any id then d.putFlag fFuseErr true
  else
    let d := (((ol.tornSlot.elim d (fun i => d.tearSlot i)).enforceSlots).fusedMacs).put fBootPhase 2
    let d := { d with rst := { d.rst with pinsFused := true, refBad := refFails ol.ref, wait := some (false, ol) } }
    (d.each ol.clocks (fun d x => d.seeClock x.1 x.2)).stepTwo

/-- A wait for clocks ends once they are good: that of a clock-loss reset before step 1, or that of step 2 (R438, R439, R444). -/
def Device.loadOn (d : Device) : Device :=
  match d.rst.wait with
  | some (true, ol) => if d.coreClocksGood then d.optionLoad { ol with ref := { locked := true, counts := [2000] }, clocks := [] } else d
  | _ => d.stepTwo

/-- Option load may go on: no fuse or firmware error (R444). -/
def Device.loadOk (d : Device) : Bool := !d.flag fFuseErr && !d.flag fFwErr

/-- Island 0 runs, and with it the paths by which a register is written (R444). -/
def Device.coresRun (d : Device) : Bool := d.released 0 && d.loadOk

/-- The order of R441 in which an island is released. -/
def releaseOrder (k : Nat) : Nat :=
  if k == 0 then 1 else if decide (14 ≤ k) && decide (k ≤ 17) then 2 else if k ≤ 12 then 3
  else if k == 18 || k == 19 then 4 else if k == 13 then 5 else if k == 20 then 6 else 7

/-- In option load, every core island of an earlier order is released; afterwards an island waits for its own conditions alone
(R441). -/
def Device.orderMet (d : Device) (k : Nat) : Bool :=
  !d.rst.loading || (d.rst.wait.isNone && (List.range 20).all (fun j => decide (releaseOrder k ≤ releaseOrder j) || d.released j))

/-- Training of the lanes begins (R228, R454). -/
def Device.trainLanes (d : Device) : Device := d.lanesFresh.each (List.range 72) (fun d n => d.trainLane n)

/-- Option load completes with the release of island 13: POS_TICK, the fault clock and the time of day start from 0,
and the lanes and the mesh ports begin training (R441, R445, R454). -/
def Device.optionLoadDone (d : Device) : Device :=
  let n := d.rst.olRestarts
  let d := { d with clock := 0, atTick := d.regs, tod := 0, todRem := 0, pwr := { d.pwr with monAt := 0 }, rst := { d.rst with loading := false, olRestarts := 0 } }
  let d := ((d.setReg RST_OL_TIME (min d.rst.olMicros wordMax)).put fOlRestarts n).put fBootPhase 5
  let d := d.showSlots.captureSlots.when (decide (0 < n)) (fun d => d.raise 6)
  ((d.putFlag fPermit d.fls.permit).trainLanes).trainPorts

/-- Release an island whose clock is good (R437, R441), with what its release starts. The status is stale until the first STATUS, which
sets TEMP_LIMIT (R219, R291). -/
def Device.releaseIsland (d : Device) (k : Nat) : Device :=
  let d := d.setReleased k true
  if k == 13 then (if d.rst.loading then d.optionLoadDone else d.putFlag fPermit d.fls.permit).headTemp
  else if k == 18 && !d.rst.loading then d.trainLanes
  else if k == 19 && !d.rst.loading then d.trainPorts
  else if k == 20 then d.put { off := PTP_STATUS, lo := 15, w := 3 } (b2n (d.flag (bitAt PTP_CFG 17)))
  else d

/-- The sequencer may release an island: it is in reset, nothing holds it, and its order and own condition hold
(R441). -/
def Device.mayRelease (d : Device) (k : Nat) : Bool :=
  !d.released k && d.loadOk && !d.rst.resetLow && !d.rst.held.contains k && !d.rst.blocks.contains k &&
  d.orderMet k && (k != 21 || !d.rst.perstLow)

/-- The islands that are released together with one: in option load, 1 to 12 (R441). -/
def Device.releaseGroup (d : Device) (k : Nat) : List Nat :=
  if d.rst.loading && decide (1 ≤ k) && decide (k ≤ 12) then (List.range 12).map (fun i => i + 1) else [k]

/-- The release of an island falls due: it is released where its clock, and that of every island released with it, was good for the
whole clock before (R437, R441). -/
def Device.releaseDue (d : Device) (k : Nat) : Device :=
  let g := d.releaseGroup k
  if g.all (fun i => d.clkGoodBefore i && d.mayRelease i) then d.each g Device.releaseIsland else d

/-- Power-good rises from OFF: a power-on reset sets POR alone, and option load runs (R27, R439, R440, R552). -/
def powerOn (ol : OptionLoad) (d : Device) : Device :=
  let d0 := { d.afterReset with powered := true, regs := [], freeCtr := d.freeCtr }
  let d0 := { d0 with rst := { d0.rst with olRestarts := 0, resetLow := false, pinsFused := false } }
  { (d0.optionLoad ol) with out := [] }

/-- Power-good: VIN_POS within 40.0 to 60.0 V for 20 ms and every internal rail within tolerance (R552). -/
def powerIsGood (v : SupplyView) : Bool := decide (40000 ≤ v.lowMv) && decide (v.highMv ≤ 60000) && decide (20000 ≤ v.us) && v.rails

/-- POWER_GOOD acts in OFF alone, on a supply that is good (R27, R552). -/
def execPowerGood (power : PowerUp) (s : State) : Host.Outcome State Fault Refusal :=
  .next { s with dev := if s.dev.powered || !powerIsGood power.supply then { s.dev with out := [] } else (powerOn power.load s.dev).settle }

/-- VIN_POS has stayed outside its range for 20 µs whatever the thresholds' tolerance. -/
def inputIsOut (v : SupplyView) : Bool := decide (20 ≤ v.us) && (decide (v.highMv < 38500) || decide (61500 < v.lowMv))

/-- VIN_POS has stayed for 20 µs where the tolerance of a threshold decides. -/
def inputMayBeOut (v : SupplyView) : Bool := decide (20 ≤ v.us) && (decide (v.highMv < 39500) || decide (60500 < v.lowMv))

/-- OFF: the always-on gate holds the strobes low. The non-volatile stores stay (R27, R552). -/
def powerOff (d : Device) : Device :=
  let d := d.journalCut.afterReset
  { d with powered := false, regs := [], rst := { d.rst with pinsFused := false } }

/-- The input leaves its range: below 39.0 V ± 0.5 V, or above 61.0 V ± 0.5 V, for 20 µs. Within the tolerance a free value decides
(R552). -/
def inputOutOfRangeEffect (v : SupplyView) (d : Device) : Device :=
  if inputIsOut v then powerOff d
  else if inputMayBeOut v then if Config.supplyPast d.freeCtr then powerOff d.nextFree else d.nextFree
  else d

def execInputOutOfRange (s : State) (supply : SupplyView := { lowMv := 0, highMv := 0, us := 20, rails := false }) :=
  s.run (inputOutOfRangeEffect supply)

/-- A software reset is taken in BOOT after option load, in READY and in FROST (R439). -/
def Device.softTaken (d : Device) : Bool :=
  d.inReady || d.inFrost || (d.inBoot && !d.rst.loading && d.rst.wait.isNone && d.loadOk && d.released 13)

/-- RESET_L sampled low on 150 consecutive samples is taken, in every state (R443). -/
def resetLEffect (n : Nat) (d : Device) : Device :=
  if n < 150 then d
  else
    let met := d.softTaken
    let d := d.moduleReset rcPIN
    { d with rst := { d.rst with resetLow := true, softMet := met } }

def execResetL (lowSamples : Nat) (s : State) := s.run (resetLEffect lowSamples)

/-- RESET_L sampled high on 150 consecutive samples: release begins with option load (R443, R444). -/
def resetLReleaseEffect (n : Nat) (ol : OptionLoad) (d : Device) : Device :=
  if d.rst.resetLow && decide (150 ≤ n) then ({ d with rst := { d.rst with resetLow := false, softMet := false } }).optionLoad ol else d

def execResetLRelease (rise : ResetRise) (s : State) := s.run (resetLReleaseEffect rise.samples rise.load)

/-- The software reset with its option load. -/
def Device.softReset (d : Device) (ol : OptionLoad) : Device := (d.moduleReset rcSOFT).optionLoad ol

/-- A write of RST_SOFT: the value 0x1_5A5A in an accepting state (R439, R463). One that meets RESET_L adds its cause to the one
module reset (R456): no write reaches a module in reset. -/
def writeRstSoft (v : Nat) (ol : OptionLoad) (d : Device) : Device :=
  if v != 0x15A5A then d
  else if d.rst.resetLow && d.rst.softMet then { d.putFlag (bitAt RST_CAUSE rcSOFT) true with rst := { d.rst with softMet := false } }
  else if d.softTaken then d.softReset ol else d

def execRstSoft (value : Word) (ol : OptionLoad) (s : State) := s.run (writeRstSoft value.toNat ol)

/-! ## PERST_L -/

/-- The `sq` of a command whose queue PERST_L has reset: it runs on without a completion. -/
def goneSq (sq : Nat) : Nat := 4 + sq % 4

/-- Every queue register takes its reset value, completions not yet written are discarded, commands in flight run on
without a completion, and the MSI-X table and PBA reset (R439, R440, R470, R516). -/
def Device.perstReset (d : Device) : Device :=
  let offs := (List.range 4).flatMap (fun q => (List.range 14).map (fun i => ULP_SQ_BASE q + 4 * i))
  let d := d.each offs (fun d o => d.setReg o 0)
  let d := { d with capture := d.capture.filter (fun p => !offs.contains p.1),
                    heldWrites := d.heldWrites.filter (fun p => !offs.contains p.1) }
  { d with ulp := { d.ulp with waiting := [], resetTag := none, flights := d.ulp.flights.map (fun f => { f with sq := goneSq f.sq }) },
           evt := { d.evt with vecMask := BitVec.allOnes 64, msixEnable := false, pba := 0, linkL0 := false } }

/-- PERST_L falls (R439). -/
def perstLEffect (d : Device) : Device :=
  let d := { d with rst := { d.rst with perstLow := true } }
  ((d.putFlag (bitAt RST_CAUSE rcPERST) true).setReleased 21 false).perstReset

def execPerstL (s : State) := s.run perstLEffect

/-! ## Control pairs (R500 to R503) -/

/-- State codes of R520. -/
def pairACTIVE : Nat := 0
def pairSTANDBY : Nat := 1
def pairRETESTING : Nat := 2
def pairRETIRED : Nat := 3

/-- The passport transaction restarts from its first command with a fresh nonce (R501). -/
def Device.ppRestart (d : Device) : Device :=
  if d.lne.pp.cmd == 0 then d else if d.lne.pp.use == .start then d.ppStart else d.ppAddUsage

/-- An error of a control pair: a takeover by the standby, or the watchdog reset when none is left (R501 to R503). -/
def Device.pairError (d : Device) (p cause : Nat) (ol : OptionLoad) : Device :=
  if d.get (fPairState p) == pairRETIRED then d
  else
    let active := d.get fActivePair == p
    let other := 1 - p
    if active && d.get (fPairState other) != pairSTANDBY then
      let d := { d with fls := { d.fls with gate := true, flash := false } }
      (((d.raise 24).charge 0x0B p cause 0).2.moduleReset rcWATCHDOG).optionLoad ol
    else
      let d := d.raise 24
      let (v, d) := d.charge 0x0B p cause 0
      let perm := v == .permanent
      let d := d.put (fPairState p) (if perm then pairRETIRED else pairRETESTING)
      let d := d.when perm (fun d => (d.raise 25).journal (.pairRetired p) [1])
      let d := { d with rst := { d.rst with retested := d.rst.retested.filter (fun x => x != p) } }
      if active then
        let d := ((d.put (fPairState other) pairACTIVE).put fActivePair other).bump fFailovers
        ({ d with ulp := { d.ulp with takeover := true } }).ppRestart
      else d

/-- A mismatch is seen in a pair that runs: ACTIVE or STANDBY, or in re-test (R497). -/
def execLockstepMismatch (pair : Fin 2) (ol : OptionLoad) (s : State) :=
  s.run (fun d => if d.coresRun then d.pairError pair 1 ol else d)

/-- A missed watchdog service counts as a mismatch of the active pair (R503). -/
def execWatchdogExpiry (ol : OptionLoad) (s : State) :=
  s.run (fun d => if d.coresRun then d.pairError (d.get fActivePair) 2 ol else d)

/-- The takeover ends: deliveries and fetching resume (R501). -/
def execTakeoverComplete (s : State) := s.run (fun d => { d with ulp := { d.ulp with takeover := false } })

/-- An error while a pair recovers retires it, event 25 (R502). -/
def Device.pairFails (d : Device) (p : Nat) : Device :=
  let d := (d.charge 0x0B p 3 0).2
  let d := { d with rst := { d.rst with retested := d.rst.retested.filter (fun x => x != p) } }
  ((d.put (fPairState p) pairRETIRED).raise 25).journal (.pairRetired p) [1]

/-- The built-in test of a failed pair ends (R502). -/
def retestCompleteEffect (p : Nat) (passed : Bool) (d : Device) : Device :=
  if d.get (fPairState p) != pairRETESTING || d.rst.retested.contains p then d
  else if passed then { d with rst := { d.rst with retested := d.rst.retested ++ [p] } }
  else d.pairFails p

def execRetestComplete (pair : Fin 2) (passed : Bool) (s : State) := s.run (retestCompleteEffect pair passed)

/-- The load of the active pair's state ends: the pair is STANDBY with event 26, and its domain no longer recovers
(R502). -/
def standbyLoadDoneEffect (p : Nat) (loaded : Bool) (d : Device) : Device :=
  if d.get (fPairState p) != pairRETESTING || !d.rst.retested.contains p then d
  else if loaded then
    let d := { d with rst := { d.rst with retested := d.rst.retested.filter (fun x => x != p) } }
    ((d.put (fPairState p) pairSTANDBY).raise 26).recovered 0x0B p
  else d.pairFails p

def execStandbyLoadDone (pair : Fin 2) (loaded : Bool) (s : State) := s.run (standbyLoadDoneEffect pair loaded)

/-! ## Configurable pins (R446, R550) -/

/-- What a pin does: one of the states of R446, or its function. -/
inductive PinState where
  | hiZ
  | pullUp
  | pullDown
  | drive0
  | drive1
  | function
deriving DecidableEq, Repr

/-- The state of a fused encoding (R446). -/
def fusedState (e : Nat) : PinState :=
  if e == 1 then .pullUp else if e == 2 then .pullDown else if e == 3 then .drive0 else if e == 4 then .drive1 else .hiZ

/-- The island of a configurable pin: the passport bus, the pluggables' pins, SP_CLK and MON_TXD. SMB_ALERT_L and JTAG_TDO belong to the
always-on island (DEDUCED, log entry 82). -/
def pinIsland (i : Nat) : Option Nat :=
  if i ≤ 1 then some 18 else if decide (3 ≤ i) && decide (i ≤ 8) then some 20 else if i == 9 then some 13 else if i == 10 then some 0 else none

/-- A configurable pin: hi-Z until the fuse map has been read, then its fused state until its island is released (R446). -/
def Device.pin (d : Device) (i : Nat) : PinState :=
  if !d.powered || !d.rst.pinsFused || decide (12 ≤ i) then .hiZ
  else if (pinIsland i).all d.released then .function
  else fusedState (pinFuse i)

end Sys2Proof.Machine
end

