-- ==== Sys2Proof/Machine/Queues.lean ====
section
/-! DEFINITION. The queue pairs of the command engine: setting up, doorbells, the fetch of a packet with its first checks,
and the writing of completions (R466 to R476, R489). -/
namespace Sys2Proof.Machine

/-- A size and a base that EN 1 takes: 2 to 4,096 entries, aligned to the entry (R466, R467). -/
def queueOk (size base entry : Nat) : Bool := decide (2 ≤ size) && decide (size ≤ 4096) && base % entry == 0

/-- A doorbell of this clock is ignored as EN 0 meets it (R489). -/
def Device.undoTail (d : Device) (q : Nat) : Device :=
  match d.ulp.tails.find? (fun (x : Nat × Nat × Nat) => x.1 == q && x.2.1 == d.clock) with
  | some x => d.setReg (ULP_SQ_TAIL q) x.2.2
  | none => d

/-- A write of ULP_Qq_CTRL (R467, R470, R494). -/
def writeQCtrl (q v : Nat) (d : Device) : Device :=
  if !d.unitUp 0 then d
  else if bitOf v 17 then
    if d.flag (fEn q) then d
    else if queueOk (d.reg (ULP_SQ_SIZE q)) (d.get54 (ULP_SQ_BASE q)) 64 && queueOk (d.reg (ULP_CQ_SIZE q)) (d.get54 (ULP_CQ_BASE q)) 32 then
      let d := ((d.setReg (ULP_SQ_HEAD q) 0).setReg (ULP_SQ_TAIL q) 0).setReg (ULP_CQ_HEAD q) 0
      (d.setReg (ULP_CQ_TAIL q) 4096).putFlag (fEn q) true
    else d.raise 20
  else if d.flag (fEn q) then (((d.undoTail q).putFlag (fEn q) false).putFlag (fDraining q) true).drainCheck
  else d

def execQueueEnable (q : Fin 4) (s : State) := s.run (writeQCtrl q 0x20000)
def execQueueDisable (q : Fin 4) (s : State) := s.run (writeQCtrl q 0)

/-- A doorbell: TAIL is taken while the pair is enabled; a value of SIZE or more is ignored with event 20 (R468, R489). -/
def writeSqTail (q v : Nat) (d : Device) : Device :=
  let t := v % 4096
  if !d.unitUp 0 || !d.flag (fEn q) then d
  else if decide (d.reg (ULP_SQ_SIZE q) ≤ t) then d.raise 20
  else
    let was := ((d.ulp.tails.find? (fun (x : Nat × Nat × Nat) => x.1 == q && x.2.1 == d.clock)).map (fun x => x.2.2)).getD (d.reg (ULP_SQ_TAIL q))
    { d.setReg (ULP_SQ_TAIL q) t with ulp := { d.ulp with tails := (q, d.clock, was) :: d.ulp.tails.filter (fun x => x.1 != q) } }

def execSqTail (q : Fin 4) (value : Word) (s : State) := s.run (writeSqTail q value.toNat)

/-- CQ HEAD frees entries; a value of SIZE or more is ignored (R469, R493). -/
def writeCqHead (q v : Nat) (d : Device) : Device :=
  let h := v % 4096
  if !d.unitUp 0 || decide (d.reg (ULP_CQ_SIZE q) ≤ h) then d else d.setReg (ULP_CQ_HEAD q) h

def execCqHead (q : Fin 4) (value : Word) (s : State) := s.run (writeCqHead q value.toNat)

/-! ## Packets -/

/-- PLEN as R481 gives it, for an opcode of the table; none for any other opcode. -/
def plenOk (op plen : Nat) : Option Bool :=
  if op ∈ [0x000, 0x001, 0x003, 0x010, 0x101, 0x102, 0x103, 0x303, 0x402, 0x500, 0x601] then some (plen == 0)
  else if op ∈ [0x002, 0x211, 0x300, 0x301, 0x302, 0x304, 0x501, 0x700, 0x701, 0x802] then some (plen == 1)
  else if op ∈ [0x800, 0x801] then some (plen == 2)
  else if op ∈ [0x110, 0x401, 0x510, 0x600] then some (plen == 3)
  else if op = 0x400 then some (plen == 4)
  else if op = 0x210 then some (plen == 5)
  else if op = 0x212 then some (plen == 6)
  else if op = 0x111 then some (plen == 7)
  else if op = 0x011 then some (plen == 8)
  else if op = 0x511 then some (plen == 9)
  else if op = 0x610 then some (plen == 11)
  else if op = 0x100 then some (plen == 12)
  else if op = 0x200 then some (decide (2 ≤ plen) && decide (plen ≤ 4094) && plen % 2 == 0)
  else if op = 0x201 then some (decide (3 ≤ plen) && decide (plen ≤ 4095))
  else none

/-- The index of the low dword of a host address that a command always takes. -/
def addrParam (op : Nat) : Option Nat :=
  if op ∈ [0x201, 0x212, 0x800, 0x801] then some 0
  else if op = 0x210 then some 3
  else if op = 0x100 then some 9
  else none

/-- A completion that a packet gets before its command runs (R476 steps 1 to 4). -/
def Device.rejectPacket (d : Device) (q tag status detail : Nat) : Device :=
  let busy := d.tagBusy tag
  d.post { q := q, tag := tag, status := status, detail := detail, own := !busy }

/-- A pair exposes a packet that the module has not fetched. -/
def Device.exposes (d : Device) (q : Nat) : Bool := d.flag (fEn q) && d.reg (ULP_SQ_HEAD q) != d.reg (ULP_SQ_TAIL q)

/-- It is this pair's turn: no pair that comes before it, after the one last served, exposes a packet (R468). -/
def Device.servesPair (d : Device) (q : Nat) : Bool :=
  (((List.range 4).map (fun i => (d.ulp.turn + 1 + i) % 4)).find? d.exposes) == some q

/-- The module fetches the packet at HEAD of a pair, checks it (R476 steps 1 to 4) and holds it in flight. The pairs take
turns, fetching pauses at 256 tags, and in a takeover (R468, R471, R472, R501). -/
def packetFetchEffect (q : Nat) (hostErr : Bool) (d : Device) : Device :=
  let head := d.reg (ULP_SQ_HEAD q)
  if !d.unitUp 0 || !d.unitUp 21 || !d.servesPair q || decide (256 ≤ d.inflight) || d.ulp.takeover then d
  else
    let a := d.get54 (ULP_SQ_BASE q) + 64 * head
    let w := d.hostDwords a 16
    let w0 := w.getD 0 0
    let w1 := w.getD 1 0
    let op := bits w0 20 12
    let tag := bits w0 12 8
    let plen := bits w0 0 12
    let indirect := bitOf w1 3
    let d := ({ d with ulp := { d.ulp with turn := q } }.setReg (ULP_SQ_HEAD q) ((head + 1) % d.reg (ULP_SQ_SIZE q))).itemIn 0
    match plenOk op plen with
    | none => d.rejectPacket q tag sBAD_OPCODE 0
    | some lenOk =>
      if d.tagBusy tag then d.post { q := q, tag := tag, status := sBAD_PARAM, detail := detailHeader, dup := true, own := false }
      else if !lenOk || bits w1 5 27 != 0 || (!indirect && decide (14 < plen)) || (indirect && !addrOk (w.getD 2 0) (w.getD 3 0)) then
        d.rejectPacket q tag sBAD_PARAM detailHeader
      else if indirect && hostErr then d.rejectPacket q tag sDATA_ERROR 0
      else
        let ps := if indirect then d.hostDwords (hostAddr (w.getD 2 0) (w.getD 3 0)) plen else (w.drop 2).take plen
        match (addrParam op).filter (fun i => !addrOk (ps.getD i 0) (ps.getD (i + 1) 0)) with
        | some i => d.rejectPacket q tag sBAD_PARAM (i + 1)
        | none =>
          let f : Flight := { tag := tag, sq := q, op := op, order := d.ulp.nextOrder, cls := bits w1 0 2, deferOk := bitOf w1 2, fence := bitOf w1 4, params := ps }
          { d with ulp := { d.ulp with flights := d.ulp.flights ++ [f], nextOrder := d.ulp.nextOrder + 1 } }

def execPacketFetch (q : Fin 4) (hostErr : Bool) (s : State) := s.run (packetFetchEffect q hostErr)

/-! ## Completions -/

/-- The eight dwords of a completion entry (R474). -/
def Completion.dwords (c : Completion) (phase : Bool) : List Nat :=
  let n := c.results.length
  let rs := if n ≤ 6 then c.results ++ List.replicate (6 - n) 0 else List.replicate 6 0
  [ b2n phase * 2147483648 + b2n c.dup * 1073741824 + c.q % 4 * 268435456 + c.tag % 256 * 1048576 + c.status % 256 * 4096 + n % 4096,
    b2n c.taken * 2147483648 + c.applied % 4 * 536870912 + c.detail % wordMod ] ++ rs.map (fun r => r % 4294967296)

/-- The first completion that waits on pair `q` goes into the entry at TAIL, where the host has freed one; its tag is
free, and source 16 + q follows; those that wait on now count where the queue is full again. The software reset of SYSTEM_RESET follows its own entry (R469, R472, R474, R481). -/
def completionWriteEffect (q : Nat) (d : Device) : Device :=
  if !d.unitUp 0 || !d.unitUp 21 || d.ulp.takeover || d.cqFull q then d
  else
    match d.ulp.waiting.find? (fun c => c.q == q) with
    | none => d
    | some c =>
      let t := d.get (fCqTail q)
      let d := d.putHostDwords (d.get54 (ULP_CQ_BASE q) + 32 * t) (c.dwords (d.flag (fCqPhase q)))
      let t' := (t + 1) % d.reg (ULP_CQ_SIZE q)
      let d := (d.put (fCqTail q) t').when (t' == 0) (fun d => d.putFlag (fCqPhase q) (!d.flag (fCqPhase q)))
      let d := ({ d with ulp := { d.ulp with waiting := d.ulp.waiting.erase c } }).countStalls
      let d := ((d.itemOut 0).raise (16 + q)).drainCheck
      match d.ulp.resetTag with
      | some r => if r.1 == c.tag && c.own then d.softReset r.2 else d
      | none => d

def execCompletionWrite (q : Fin 4) (s : State) := s.run (completionWriteEffect q)

end Sys2Proof.Machine
end

