-- ==== Sys2Proof/Machine/StartUp.lean ====
section
/-! DEFINITION. The end of start-up (R454, R455), and block resets with their release (R437, R451, R462). -/
namespace Sys2Proof.Machine

/-! ## The self-test (R455) -/

/-- A domain is permanent without an error of its own (R455, R498). -/
def Device.makePermanent (d : Device) (code unit : Nat) : Device := d.setDomain { d.domain code unit with permanent := true, recovering := false }

/-- The self-test retires a rill: the free rill takes its slot, or the slot is unserved (R180, R455). -/
def Device.retireTested (d : Device) (r : Nat) : Device :=
  let g := r / 33
  let k := r % 33
  let d := (d.makePermanent 7 r).putFlag (fRillRetired g k) true
  if d.get (fFreeRill g) == k then d.put (fFreeRill g) 63
  else
    match ((List.range 32).map (fun p => 32 * g + p)).find? (fun s => d.reg (RIL_GRP_SLOT s) % 64 == k) with
    | none => d
    | some slot =>
      if d.get (fFreeRill g) != 63 then d.switchIn slot 63
      else d.slotLost slot r (-1) wordMax

/-- A unit fails the self-test: it is retired, with event 9; a Cistern bank or remap table sets SELFTEST_FAIL. -/
def Device.failTest (d : Device) (u : TestUnit) : Device :=
  let d := match u with
    | .cascade e => (d.makePermanent 3 e).putFlag (bitAt CSC_STATUS e) true
    | .basin b => (d.makePermanent 4 b).putFlag (fBsnRetired b) true
    | .decompressor k => (d.makePermanent 2 k).putFlag (fDecRetired k) true
    | .compressor e => d.setEngine e { d.engine e with retired := true }
    | .rill r => d.retireTested r
    | .cisternBank b => (d.makePermanent 5 b).putFlag fSelftestFail true
    | .remapTable _ => d.putFlag fSelftestFail true
  d.raise 9

/-- The self-test ends, which follows the training of every lane and channel: READY, with event 8 and RST_READY_TIME (R454, R463). -/
def startUpCompleteEffect (failed : List TestUnit) (readyMs : Nat) (d : Device) : Device :=
  if !(d.inBoot && !d.rst.loading && d.loadOk && d.released 13 && !d.rst.resetLow && d.get fBootPhase == 6 && !d.lanesTraining) then d
  else
    let d := (d.each failed Device.failTest).assignLanes
    let d := d.setReg RST_READY_TIME (min readyMs wordMax)
    (((d.put fBootPhase 7).setState stReady).raise 8).takeDeferred

def execStartUpComplete (failed : List TestUnit) (readyMs : Nat) (s : State) := s.run (startUpCompleteEffect failed readyMs)

/-! ## Block reset (R451) -/

/-- The island may be reset, and holds nothing that the table of R451 names. -/
def Device.islandIdle (d : Device) (k : Nat) : Bool :=
  if k == 1 then d.spr.slots.toList.all (fun s => !s.isOpen) && d.spr.engines.toList.all (fun x => !x.running)
  else if k == 2 then !(d.spr.slots.toList.any (fun s => s.isOpen && s.use == .library))
  else if k == 3 then (List.range 4).all (fun t => !d.flag (fPoolPending t))
  else if k == 4 then true
  else if decide (5 ≤ k) && decide (k ≤ 12) then d.ril.check.isNone && (List.range 4).all (fun t => !d.flag (fRilPending t))
  else if k == 18 then d.lne.pp.cmd == 0 && d.lne.pp.retryAt.isNone
  else if k == 19 then d.get fColumns == 0
  else !(d.spr.slots.toList.any (fun s => s.isOpen && s.isNdf))

/-- The islands of R451's table. -/
def resettable (k : Nat) : Bool := (decide (1 ≤ k) && decide (k ≤ 12)) || (decide (18 ≤ k) && decide (k ≤ 20))

/-- RO fields that a block reset keeps: retirements, the rills that serve the slots, and active table copies. -/
def keptStatus (base : Nat) : Nat :=
  if base = SPR_STATUS then 0x1FE00
  else if base = CSC_STATUS then 0xFFFF
  else if base = BSN_RETIRED || base = POOL_CLASS_ACT 0 || base = POOL_DFT_ACT 0 || base = POOL_LAYER_ACT 0 || base = RIL_CODE_SCALE_ACT ||
      base = RIL_OFFS_ACT 0 || base = RIL_MASK_ACT 0 || base = RIL_GRP_MAP 0 || base = RIL_GRP_RETIRED 0 || base = RIL_GRP_SLOT 0 then 0x3FFFF
  else 0

/-- The bits of a dword that a block reset keeps. -/
def keptBits (base : Nat) (m : Dw) : Nat :=
  m.rw ||| m.rws ||| m.rwl ||| m.sh ||| keptStatus base ||| (if (clearedWith base).isEmpty then m.w1c else 0)

/-- The captured words of a quantity that a block reset of island `k` resets are dropped (R10). -/
def Device.dropCaptures (d : Device) (k : Nat) : Device :=
  { d with capture := d.capture.filter (fun p =>
      islandOf p.1 != some k || (locate p.1).any (fun l => l.masks.defined &&& keptBits l.row.base l.masks == l.masks.defined)) }

/-- The RO status, counters and first-error records of an island's registers take their reset values (R451). -/
def Device.clearStatus (d : Device) (k : Nat) : Device :=
  (d.dropCaptures k).each (d.regs.map Prod.fst) (fun d off =>
    if islandOf off != some k then d
    else match locate off with
      | some l =>
        let keep := keptBits l.row.base l.masks
        let r := regReset off
        d.setReg off ((d.reg off &&& keep) ||| (r - (r &&& keep)))
      | none => d)

/-- The retry domains of an island: their window counts clear, permanent ones stay (R451, R495). -/
def domainIsland (x : Domain) : Nat :=
  if x.code ≤ 2 then 1 else if x.code == 3 then 2 else if x.code == 4 || x.code == 6 then 3 else if x.code == 5 then 4
  else if x.code == 7 then 5 + x.unit / 33 else if x.code == 8 then 18 else if x.code == 10 then 19 else 0

/-- The state of an island beside its registers, after a block reset. Usage deltas stay pending until a write-back (R242). -/
def Device.clearIsland (d : Device) (k : Nat) : Device :=
  if k == 1 then { d with spr := { slots := Vector.replicate 16 {}, engines := d.spr.engines.map (fun (x : Engine) => ({ retired := x.retired } : Engine)), opens := d.spr.opens } }
  else if k == 2 then { d with csc := {}, mem := { d.mem with libLost := false } }
  else if k == 3 then { d with pool := { doseMax := d.pool.doseMax } }
  else if k == 4 then { d with cst := {} }
  else if k == 18 then
    ({ d with lne := { pp := { deltas := d.lne.pp.deltas }, lastStatus := d.clock, fresh := List.range 8 } }).putFlag fPpPending (d.lne.pp.deltas.any (fun p => p.1 != 0))
  else if k == 19 then { d with msh := {} }
  else if k == 20 then
    { d.put { off := PTP_STATUS, lo := 15, w := 3 } (b2n (d.flag (bitAt PTP_CFG 17))) with eth := {}, ptp := {} }
  else d

/-- A block reset is in progress, or RST_HOLD keeps its island in reset (R451, R462). -/
def Device.showBusy (d : Device) : Device := d.putFlag fBlkBusy (!d.rst.blocks.isEmpty || !d.rst.held.isEmpty)

/-- An accepted block reset holds the island in reset (R451). The lanes and ports that are retired stay so, and the status is stale
(R291). -/
def Device.holdIsland (d : Device) (k : Nat) : Device :=
  let retired := (List.range 72).filter (fun n => d.laneSt n == laneRetired)
  let ports := (List.range 4).filter (fun p => d.portSt p == portRETIRED)
  let d := (d.setReleased k false).putFlag (bitAt RST_CAUSE rcBLOCK) true
  let others := fun (l : List Nat) => l.filter (fun x => x != k)
  let d := { d with rst := { d.rst with blocks := others d.rst.blocks ++ [k], held := others d.rst.held },
                    domains := d.domains.filter (fun x => x.permanent || domainIsland x != k) }
  let d := ((d.clearStatus k).clearIsland k).showBusy
  let d := d.when (k == 19) (fun d => d.each ports (fun d p => d.put (fPortState p) portRETIRED))
  d.when (k == 18) (fun d => (d.each retired (fun d n => d.setLaneSt n laneRetired)).when (d.released 13) Device.headTemp)

/-- A request is refused: RESULT and event 4. -/
def Device.refuseBlock (d : Device) (result : Nat) : Device := (d.put fBlkResult result).raise 4

/-- A block reset is asked for: RESULT of a refusal, or none where it begins (R451, R462). -/
def Device.blockFault (d : Device) (k : Nat) : Option Nat :=
  if !resettable k then some 3
  else if !d.inReady || !d.islandIdle k then some 2
  else none

/-- Ask for a block reset of an island. -/
def Device.requestBlock (d : Device) (k : Nat) : Device :=
  let d1 := d.put fBlkIsland k
  match d.blockFault k with
  | some r => d1.refuseBlock r
  | none => (d1.put fBlkResult 0).holdIsland k

/-- A write of RST_BLOCK with GO 1 (R451, R462). -/
def writeRstBlock (v : Nat) (d : Device) : Device := if d.coresRun && bitOf v 17 then d.requestBlock (v % 32) else d

def execRstBlock (value : Word) (s : State) := s.run (writeRstBlock value.toNat)

/-- The reset island is released, with event 5; its ports train again (R451). -/
def Device.releaseBlock (d : Device) (k : Nat) : Device :=
  let others := fun (l : List Nat) => l.filter (fun x => x != k)
  let d := { d with rst := { d.rst with blocks := others d.rst.blocks, held := others d.rst.held } }
  let d := (((d.setReleased k true).showBusy).put fBlkResult 1).when (k == 19) Device.trainPorts
  let d := d.when (k == 18) (fun d =>
    (d.lanesFresh.each (List.range 72) (fun d n => if d.laneSt n == laneRetired then d else d.trainLane n)).each (List.range 8) Device.groupTrained)
  (d.raise 5).completeWhere (fun w => w == .blockReset k) sOK 0 []

/-- HOLD of an island (R461). -/
def fRstHold (k : Nat) : Fld := islandBit RST_HOLD k

/-- The 64 clocks of a block reset end: the island is released under R437, or stays in reset while RST_HOLD holds it
(R451). -/
def Device.blockEnds (d : Device) (k : Nat) : Device :=
  if d.flag (fRstHold k) then { d with rst := { d.rst with blocks := d.rst.blocks.filter (fun x => x != k), held := d.rst.held ++ [k] } }
  else if d.clkGoodBefore k then d.releaseBlock k else d

/-- A write of RST_RELEASE: a held island whose clock was good before this clock is released; another is refused with event
4 (R437, R461). -/
def writeRstRelease (hi : Bool) (v : Nat) (d : Device) : Device :=
  d.each (if d.coresRun then List.range (if hi then 4 else 18) else []) (fun d i =>
    let k := (if hi then 18 else 0) + i
    if !bitOf v i || d.released k then d
    else if !d.clkGoodBefore k then (d.putFlag fReleaseRefused true).raise 4
    else if d.rst.held.contains k then d.releaseBlock k else d)

def execRstRelease (hi : Bool) (value : Word) (s : State) := s.run (writeRstRelease hi value.toNat)

end Sys2Proof.Machine
end

