-- ==== Sys2Proof/Machine/Bus.lean ====
section
/-! DEFINITION. BAR0: what a read returns and does, and what a write does, at every offset (R7 to R11, R442, R530, R570);
the accesses of PCIe and of SMBus (R560). -/
namespace Sys2Proof.Machine

/-! ## Reads -/

/-- The end of the register space: space at or above is unmapped (R9). -/
def mapEnd : Nat := 0x1600000

/-- The errors of a domain in the present window, as a 2-bit field (R73, R250, R431, R520). -/
def Device.errsField (d : Device) (code unit : Nat) : Nat := min (d.errsNow code unit) 3

/-- EVT_STATUS: ANY and TOP over the sources with a target (R523). -/
def Device.evtStatus (d : Device) : Nat :=
  match d.topSource (fun s => d.isPending s && d.target s != 0) with
  | some s => 0x20000 + s * 512
  | none => 0

/-- EVT_VECv_STATUS (R526). -/
def Device.vecStatus (d : Device) (v : Nat) : Nat :=
  let top := d.topSource (d.onVector v)
  b2n (d.timerOn v) * 0x20000 + b2n (d.evt.due.getLsbD v) * 0x10000 + b2n top.isSome * 0x8000 + top.getD 0

/-- ULP_STATUS (R491). -/
def Device.ulpStatus (d : Device) : Nat :=
  (min d.inflight 256 * 512) +
    ((List.range 4).map (fun q => b2n (d.flag (fEn q)) * 2 ^ (5 + q) + b2n (d.flag (fDraining q)) * 2 ^ (1 + q))).sum

/-- PTP_TOD with PTP_TOD_TICK as seven dwords (R388, R405). -/
def Device.todDwords (d : Device) : List Nat :=
  [bits d.todSecs 0 18, bits d.todSecs 18 18, bits d.todSecs 36 12, bits d.todNs 0 18, bits d.todNs 18 14, bits d.tick 0 18, bits d.tick 18 18]

/-- The patrol scrub is enabled and runs: some channel takes part (R340, R343). -/
def Device.scrubRuns (d : Device) : Bool :=
  d.reg MEM_SCRUB % 256 != 0 && (List.range 4).any (fun c => d.chanRuns c && d.chanUp c)

/-- A row of a counter that a read clears (R11). -/
def RegRow.counts (r : RegRow) : Bool := r.base != MSH_FWD_POP && r.dws.any (fun m => m.rc != 0)

/-- What a read of such a counter gives: its count without the events of this clock, which the next read returns (R11). -/
def Device.countBefore (d : Device) (off n : Nat) : Nat := wideVal d.reg off n - d.justCounted off n

/-- The present value of a located dword: what is stored, or what the module forms on the read. -/
def Device.liveDword (d : Device) (l : RegLoc) (off : Nat) : Nat :=
  let v := d.reg off
  let b := l.row.base
  if b = EVT_STATUS then d.evtStatus
  else if b = EVT_VEC_STATUS 0 then d.vecStatus l.elem
  else if b = ULP_STATUS then d.ulpStatus
  else if b = POS_TICK then bits d.tick (18 * l.dw) 18
  else if b = PTP_TOD then d.todDwords.getD l.dw 0
  else if b = PTP_HOLD_TIME then d.holdTime
  else if b = RIL_BT 0 then
    btWord (if d.flag (bitAt RIL_BT_PAGE 17) then d.ril.active else d.ril.shadow) (131072 * (d.reg RIL_BT_PAGE % 4) + (off - RIL_BT 0) / 4)
  else if b = SPR_SLOT 0 && l.dw == 0 then setBits v 10 2 (d.errsField 1 l.elem)
  else if b = LNE_LANE_STATE 0 then setBits v 2 2 (d.errsField 8 l.elem)
  else if b = LNE_ZONE_STATUS then setBits v 0 16 (min ((d.clock - d.lne.lastStatus) / 800) 65535)
  else if b = MSH_PORT_STATE 0 then setBits v 9 2 (d.errsField 10 l.elem)
  else if (b = MSH_COL_STATE 0 || b = MSH_COL_FACTOR 0 || b = MSH_COL_STITCH 0) && !d.isManager then 0
  else if b = MSH_COL_STATE 0 then setBits v 17 1 (b2n (d.colLive l.elem))
  else if b = PTP_STATUS then setBits (setBits v 13 2 d.todSource) 10 1 (if d.meshTimed then 0 else bits v 10 1)
  else if b = MSH_COLUMN then setBits v 4 5 d.columnChanges
  else if b = MSH_FWD_POP then (d.msh.fwd.head?).elim 0 (fun (x : Nat × Nat) => 0x20000 + x.1 % 16 * 4096 + x.2 % 256)
  else if b = SYS_CTL_STATUS then setBits (setBits v 3 2 (d.errsField 0x0B 0)) 1 2 (d.errsField 0x0B 1)
  else if b = MEM_STATUS then setBits (setBits v 15 1 (b2n d.scrubRuns)) 6 1 (b2n d.strict)
  else if b = RIL_WEIR then d.rillWeir
  else if b = POS_CH_STATE 0 then setBits v 8 4 (d.qerrWin l.elem)
  else if b = POS_CH_SPEED 0 then d.chSpeed l.elem
  else if b = RIL_STATUS then setBits v 17 1 (b2n d.strict)
  else if l.row.counts then d.countBefore (off - 4 * l.dw) l.row.dws.length / wordMod ^ l.dw % wordMod
  else v

/-- The other registers that a read of a lowest dword captures: SYS_STATE takes the place in the job (R39), and
POS_PRBp_TICK every position that the probe latched (R290). -/
def captureAlso (l : RegLoc) : List Nat :=
  if l.row.base = SYS_STATE then [SYS_JOB_STRIPE, SYS_JOB_LAYER]
  else if l.row.base = POS_PRB_TICK 0 then (List.range 12).map (fun i => POS_PRB_POS l.elem + 4 * i)
  else []

/-- A read of the dword returns what another read captured (R10, R39, R290). -/
def Device.readsCapture (d : Device) (l : RegLoc) : Bool :=
  (l.row.capture && l.dw != 0) || l.row.base = POS_PRB_POS 0 ||
    ((l.row.base = SYS_JOB_STRIPE || l.row.base = SYS_JOB_LAYER) && d.inJob)

/-- A read of the lowest dword captures the higher ones, and the registers that go with them (R10). -/
def Device.captureHigh (d : Device) (off : Nat) (l : RegLoc) : Device :=
  let d := if l.row.capture then
      d.each ((List.range l.row.dws.length).drop 1) (fun d i => d.captureDword (off + 4 * i) (d.liveDword { l with dw := i } (off + 4 * i)))
    else d
  d.each (captureAlso l) (fun d o => d.captureDword o (d.reg o))

/-- A read clears its RC counters, a wide one whole as its lowest dword is read: what they have counted in this clock is left for the
next read. The oldest entry of MSH_FWD_POP leaves the queue (R11, R433). -/
def Device.readClears (d : Device) (off : Nat) (l : RegLoc) : Device :=
  if l.row.base = MSH_FWD_POP then { d with msh := { d.msh with fwd := d.msh.fwd.drop 1 } }
  else if !l.row.counts then d
  else
    let n := if l.row.capture then l.row.dws.length else 1
    let left := d.justCounted off n
    d.each (List.range n) (fun d i => d.setReg (off + 4 * i) (left / wordMod ^ i))

/-- A 32-bit aligned read of BAR0: the value, and what the read does. Unmapped space, offsets without a register, and
registers of an island in reset or with its clock stopped read 0 (R9, R442, R530). -/
def Device.busRead (d : Device) (off : Nat) : Nat × Device :=
  if !d.regUp off then (0, d)
  else
    match locate off with
    | none => (0, d)
    | some l =>
      if d.readsCapture l then
        ((cellFind d.capture off).elim (regReset off) (fun w => w.toNat), d)
      else
        let v := d.liveDword l off &&& l.masks.defined
        let d := d.captureHigh off l
        (v, if l.dw == 0 then d.readClears off l else d)

/-- `n` dwords from an offset, read one after another. -/
def Device.busReads (d : Device) (off : Nat) : Nat → List Nat × Device
  | 0 => ([], d)
  | n + 1 =>
    let (v, d) := d.busRead off
    let (vs, d) := d.busReads (off + 4) n
    (v :: vs, d)

/-! ## Writes -/

/-- The control register of a lane: LOOP, CAL_NOW and RETRAIN (R250). -/
def writeLaneCtrl (n v : Nat) (d : Device) : Device :=
  ((loopWrite n (bits v 16 2) d).when (bitOf v 15) (calNowWrite n)).when (bitOf v 14) (laneRetrainWrite n)

/-- A write of RST_SOFT that comes from inside the module: what option load then finds is a free value. -/
def innerSoftReset (v : Nat) (d : Device) : Device := writeRstSoft v (Config.optionLoad d.freeCtr) d.nextFree

/-- The action of a register that has a rule of its own, or none where it is a plain register. -/
def actionWrite (l : RegLoc) (v : Nat) : Option (Device → Device) :=
  let b := l.row.base
  let e := l.elem
  if b = SYS_ERRLOG_STATUS then some (writeErrlogClear v)
  else if b = RST_RELEASE then some (writeRstRelease (l.dw == 1) v)
  else if b = RST_BLOCK then some (writeRstBlock v)
  else if b = RST_SOFT then some (innerSoftReset v)
  else if b = EVT_CTRL then some (writeEvtCtrl v)
  else if b = EVT_DOORBELL then some (writeDoorbell v)
  else if b = EVT_PENDING 0 then some (writePending e v)
  else if b = EVT_PENDING14 then some (writePending 14 v)
  else if b = EVT_SRC 0 then some (writeSrcCfg e v)
  else if b = ULP_SQ_TAIL 0 then some (writeSqTail e v)
  else if b = ULP_CQ_HEAD 0 then some (writeCqHead e v)
  else if b = ULP_Q_CTRL 0 then some (writeQCtrl e v)
  else if b = SPR_SPILL_STATE 0 then some (writeSpillState e v)
  else if b = POOL_COMMIT then some (writePoolCommit v)
  else if b = RIL_COMMIT then some (writeRilCommit v)
  else if b = RIL_GRP_FORCE 0 then some (writeRilForce e v)
  else if b = RIL_STUCK_ACK then some (writeStuckAck v)
  else if b = LNE_LANE_CTRL 0 then some (writeLaneCtrl e v)
  else if b = POS_HEAD_CTRL then some (writeHeadCtrl v)
  else if b = POS_TCMP_CTRL 0 then some (writeTimeCompare e v)
  else if b = POS_PCMP_CTRL 0 then some (writePositionCompare e v)
  else if b = FLS_COMMIT then some (writeFlsCommit v)
  else if b = MOT_COMMIT then some (writeSineCommit v)
  else if b = MOT_LAYER then some (writeMotLayer v)
  else if b = MOT_LAX_GOTO 0 && l.dw == 1 then some (writeGoto e v)
  else if b = MEM_LOG_STATUS then some (writeMemLogStatus v)
  else if b = DMA_CH_CTRL 0 then some (writeDmaCtrl e v)
  else if b = DMA_FLAG_SET then some (writeDmaFlagSet v)
  else if b = CHK_U_CTRL 0 then some (writeChkCtrl e v)
  else if b = ETH_P_CTRL 0 then some (writePortCtrl e v)
  else if b = PTP_CFG then some (writePtpCfg v)
  else if b = PTP_CTRL then some (writePtpCtrl v)
  else if b = MSH_PORT_CTRL 0 then some (writePortRetrain e v)
  else if b = PWR_CTRL then some (writeThaw v)
  else if b = PMC_CTRL then some (writePmcCtrl v)
  else if b = PMC_PSB_CTRL then some (writePsbCtrl v)
  else none

/-- Event source 0: a write that reaches no register (R8, R9, R570). The event controller raises it while it runs. -/
def Device.strayWrite (d : Device) : Device := d.when (d.unitUp 0) (fun d => d.raise 0)

/-- A 32-bit aligned write of BAR0. A head temperature threshold may let a pending resume proceed (R279, R485). -/
def Device.busWrite (d : Device) (src : WriteFrom) (off v : Nat) : Device :=
  let v := v % wordMod
  if mapEnd ≤ off then d.strayWrite
  else if !d.regUp off then d
  else
    match locate off with
    | none => d.strayWrite
    | some l =>
      match actionWrite l v with
      | some f => f d
      | none =>
        if l.row.base = RIL_BT 0 then d.beamWindow off v
        else
          let d := d.plainWrite src off v
          d.when (l.row.base == FLS_TEMP_WARN) Device.pendingResume

/-- An access over PCIe reaches the module while island 21 runs (R439, R444). -/
def Device.overPcie (d : Device) (f : Device → Device) : Device := if d.released 21 then f d else d

/-- A BAR0 write over PCIe to any register (R11). -/
def execRegisterWrite (off : BitVec 26) (value : Dword) (s : State) :=
  s.run (fun d => d.overPcie (fun d => d.busWrite .host off.toNat value.toNat))

/-- A read whose value goes to the host. -/
def Device.hostRead (d : Device) (off : Nat) : Device :=
  d.overPcie (fun d =>
    let (v, d) := d.busRead off
    d.emit (.readData v))

/-- A read of the lowest dword of a wide quantity, or of a captured higher one (R10). -/
def execWideReadCapture (off : BitVec 26) (s : State) := s.run (fun d => d.hostRead off.toNat)

/-- A read of a register with RC fields (R11). -/
def execReadClear (off : BitVec 26) (s : State) := s.run (fun d => d.hostRead off.toNat)

/-- An access that is not an aligned 32-bit one: a read returns 0, a write is discarded with event source 0 (R8). An
aligned one of 4 bytes is none. -/
def accessErrorEffect (write : Bool) (off size : Nat) (d : Device) : Device :=
  if size == 4 && off % 4 == 0 then d else if write then d.strayWrite else d.emit (.readData 0)

def execBar0AccessError (write : Bool) (off : BitVec 26) (size : Nat) (s : State) :=
  s.run (fun d => d.overPcie (accessErrorEffect write off.toNat size))

/-- An access at or above 0x0160_0000 (R9), or to an offset that its block does not name (R570). -/
def unmappedEffect (write : Bool) (off : Nat) (d : Device) : Device :=
  if decide (off < mapEnd) && ((locate off).isSome || !d.regUp off) then d
  else if write then d.strayWrite else d.emit (.readData 0)

def execUnmappedAccess (write : Bool) (off : BitVec 26) (s : State) := s.run (fun d => d.overPcie (unmappedEffect write off.toNat))

/-! ## SMBus -/

/-- READ: a register of the SYS or RST block, under R442; every other offset reads 0. A transaction with a bad PEC is
not acknowledged (R560). -/
def smbusReadEffect (off : Nat) (pecOk : Bool) (d : Device) : Device :=
  if !pecOk then d.emit .smbusNak
  else if off < 0x200000 then
    let (v, d) := d.busRead off
    d.emit (.smbus (leBytes 4 v))
  else d.emit (.smbus [0, 0, 0, 0])

def execSmbusRead (off : Dword) (pecOk : Bool) (s : State) := s.run (smbusReadEffect off.toNat pecOk)

end Sys2Proof.Machine
end

