-- ==== Sys2Proof/Machine/Cistern.lean ====
section
/-! DEFINITION. The deep band reader, the refill and the scrubber of the Cistern (R104 to R109). -/
namespace Sys2Proof.Machine

/-- The first row of a pass's held range in force, in the direction of the pass, that is not in the Cistern; it must be
committed (R104, R105). -/
def Device.nextRow (d : Device) (j : Job) : Option Nat :=
  let lo := (max 0 j.heldNow.1).toNat
  let hi := (min (j.cur.len : Int) (j.heldNow.2 + 1)).toNat
  let rows := (List.range (hi - lo)).map (fun i => if j.reverse then hi - 1 - i else lo + i)
  match rows.find? (fun u => !d.inCistern j u) with
  | some u => if d.rowCommitted j u then some u else none
  | none => none

/-- No row of the Cistern occupies the slot of a row (R104). -/
def Device.slotFree (d : Device) (j : Job) (u : Nat) : Bool := (d.cst.rows ++ d.cst.ahead).all (fun r => r % j.slots != u % j.slots)

/-- The next row that the reader moves, with its pass: of the pass in progress, or, once its last row is in the Cistern, of
the pass after it into a free slot, within the range held at flash 0 (R105, R185). -/
def Device.nextRead (d : Device) (j : Job) : Option (Job × Nat) :=
  match d.nextRow j with
  | some u => some (j, u)
  | none =>
    match j.ahead with
    | some k => if d.lastHeld then (d.nextRow k).bind (fun u => if d.slotFree k u then some (k, u) else none) else none
    | none => none

/-- A row or line of the deep band cannot be read: the weirs run down to a stop (R337). -/
def Device.bandUnreadable (d : Device) : Device := ({ d with mem := { d.mem with bandLost := true } }).stopIdle cFAULT

/-- The reader moves a row into the Cistern and its mirror (R100, R104), or meets an uncorrectable line, after which it moves no row until
an abort (R337). Bands that the look-ahead had no room for may issue now (R111). -/
def readerRowWriteEffect (uncorrectable : Bool) (d : Device) : Device :=
  match d.job with
  | none => d
  | some j =>
    if !d.unitUp 4 || !d.inJob || j.cur.tallyOnly || d.mem.bandLost then d
    else
      match d.nextRead j with
      | none => d
      | some (k, u) =>
        if !d.memServes (d.lookAddr k u) k.width || !d.memServes (d.mirrorAddr (k.rowAddr u)) k.width then d
        else if uncorrectable || d.readBad 6 (d.lookAddr k u) k.width then (d.readMet 6 (d.lookAddr k u) k.width).bandUnreadable
        else ((d.memUse (d.lookAddr k u) k.width).rowIntoCistern k u (d.dramWords (d.lookAddr k u) k.width)).issueTiles

def execReaderRowWrite (uncorrectable : Bool) (s : State) := s.run (readerRowWriteEffect uncorrectable)

/-- The refill of a line ends: its words come from the mirror, or it stays unwritten (R108, R109, R337). -/
def cisternRefillCompleteEffect (line : Nat) (uncorrectable : Bool) (d : Device) : Device :=
  match d.cst.refill.find? (fun r => r.1 == line) with
  | none => d
  | some (_, bank) =>
    if !d.unitUp 4 || !d.memServes (d.mirrorAddr (64 * line)) 64 then d
    else
      let d := { d with cst := { d.cst with refill := d.cst.refill.filter (fun r => r.1 != line),
                                            first := d.cst.first.filter (fun l => l != line) } }
      let d := d.putFlag fRefill (!d.cst.refill.isEmpty)
      if uncorrectable || d.readBad 7 (d.mirrorAddr (64 * line)) 64 then (d.readMet 7 (d.mirrorAddr (64 * line)) 64).bandUnreadable
      else
        let d := ((d.memUse (d.mirrorAddr (64 * line)) 64).putCistern (64 * line) (d.dramWords (d.mirrorAddr (64 * line)) 64)).setWritten [line]
        if bank < 1024 then d.recovered 5 bank else d

def execCisternRefillComplete (line : Nat) (uncorrectable : Bool) (s : State) :=
  s.run (cisternRefillCompleteEffect line uncorrectable)

/-- The scrubber reads the next pair of every bank: the pairs of one entry (R109). -/
def cisternScrubEffect (errors : List CellError) (d : Device) : Device :=
  if !d.unitUp 4 then d
  else
    let here := errors.filter (fun e => (32 * e.line + e.pair.val) / 1024 == d.cst.scrub)
    let d := d.each here (fun d e => d.cellError e 0x1FF)
    { d with cst := { d.cst with scrub := (d.cst.scrub + 1) % 49152 } }

def execCisternScrub (errors : List CellError) (s : State) := s.run (cisternScrubEffect errors)

end Sys2Proof.Machine
end

