-- ==== Sys2Proof/Machine/Dma.lean ====
section
/-! DEFINITION. The DMA programs and the check units at work (R353 to R371). The shared operations stand in DmaOps. -/
namespace Sys2Proof.Machine

/-! ## The control register -/

def execDmaGo (n : Fin 32) (value : Word) (s : State) := s.run (writeDmaCtrl n (value.toNat ||| 0x20000))
def execDmaPoke (n : Fin 32) (value : Word) (s : State) := s.run (writeDmaCtrl n (value.toNat ||| 0x10000))
def execDmaContinue (n : Fin 32) (value : Word) (s : State) := s.run (writeDmaCtrl n (value.toNat ||| 0x8000))
def execDmaStop (n : Fin 32) (value : Word) (s : State) := s.run (writeDmaCtrl n (value.toNat ||| 0x4000))
def execDmaAbort (n : Fin 32) (value : Word) (s : State) := s.run (writeDmaCtrl n (value.toNat ||| 0x2000))
def execDmaFlagSet (value : Word) (s : State) := s.run (writeDmaFlagSet value.toNat)

/-! ## END -/

/-- MOVED as the result of DMA_RUN (R481). -/
def Device.dmaMoved (d : Device) (n : Nat) : List Nat :=
  let m := d.get36 (DMA_CH_MOVED n)
  [m % 4294967296, m / 4294967296]

/-- The channel has fetched an instruction and done nothing of it yet. -/
def Device.justFetched (d : Device) (n : Nat) : Bool :=
  let c := d.chan n
  d.unitUp 0 && d.inRun && d.dmaState n == dmaRUNNING && c.instr.isSome && c.done == 0 && c.staged.isEmpty

/-- The fetch of an instruction from host memory fails. -/
def Device.fetchFails (d : Device) (n : Nat) : Device := (d.mapChan n (fun c => { c with instr := none })).dmaHalt n haltHOST_ERR (d.dmaPc n)

/-- END: the channel goes IDLE, or parks at the END's address; a POKE that came since its fetch makes it fetch again
(R356, R360, R361). A program read that PCIe ends with an error halts the channel, whatever instruction it would have brought (R363). -/
def dmaEndEffect (n : Nat) (hostErr : Bool) (d : Device) : Device :=
  if hostErr && (d.chan n).host && d.justFetched n then d.fetchFails n
  else
  match d.dmaInstr n 0 with
  | none => d
  | some ws =>
    let w0 := ws.headD 0
    let c := d.chan n
    let d := if bitOf w0 13 then (d.setDmaState n dmaIDLE).mapChan n (fun _ => {})
      else (d.setDmaState n dmaPARKED).mapChan n (fun c => { c with instr := none, poke := false, stopping := false, endAt := some d.clock })
    let d := d.when (bitOf w0 12) (fun d => d.raise (208 + n))
    let d := d.dmaCommandEnds n sOK 0 (d.dmaMoved n)
    d.when (!bitOf w0 13 && c.poke) (fun d => d.dmaFetch n)

def execDmaEnd (n : Fin 32) (hostErr : Bool) (s : State) := s.run (dmaEndEffect n hostErr)

/-! ## MOVE -/

/-- Space codes of R353. -/
def spDRAM : Nat := 0
def spHOST : Nat := 1

/-- What an incrementing address advances by (R353). -/
def spaceStep (sp : Nat) (fixed : Bool) : Nat :=
  if fixed then 0 else if sp == spDRAM then 1 else if sp == spHOST then 9 else 16

/-- A module register that DMA may access: aligned, below the end of the map, and named in its block (R354). -/
def dmaRegOk (off : Nat) : Bool := off % 4 == 0 && decide (off < mapEnd) && (locate off).isSome

/-- Read `k` dwords of register space one after another; none where an access is refused (R354). -/
def Device.dmaRegReads (d : Device) (off step : Nat) : Nat → Option (List Nat) × Device
  | 0 => (some [], d)
  | k + 1 =>
    if !dmaRegOk off then (none, d)
    else
      let (v, d) := d.busRead off
      let (vs, d) := d.dmaRegReads (off + step) step k
      (vs.map (fun vs => v :: vs), d)

/-- Read one group: its words, or the cause of the halt (R353, R354, R363). -/
def Device.dmaReadGroup (d : Device) (sp a : Nat) (fixed : Bool) : Except Nat (List Nat) × Device :=
  if sp == spDRAM then
    if dramGroups ≤ a then (.error haltRANGE, d)
    else if d.readBad 8 (4 * a) 4 then (.error haltSRC_UE, d.readMet 8 (4 * a) 4)
    else (.ok (d.dramWords (4 * a) 4), (d.memUse (4 * a) 4).itemIn 15)
  else if sp == spHOST then
    if hostSpan < a + 9 then (.error haltRANGE, d) else (.ok (d.hostGroups a 1), d.itemIn 15)
  else
    match d.dmaRegReads a (if fixed then 0 else 4) 4 with
    | (some ws, d) => (.ok ws, d.itemIn 15)
    | (none, d) => (.error haltREG_ERR, d)

/-- Write dwords of register space one after another; the cause where an access is refused. -/
def Device.dmaRegWrites (d : Device) (off step : Nat) : List Nat → Option Nat × Device
  | [] => (none, d)
  | w :: ws => if dmaRegOk off then (d.busWrite .dma off w).dmaRegWrites (off + step) step ws else (some haltREG_ERR, d)

/-- Write one group: none, or the cause of the halt. A write that R336 discards is DST_UE. -/
def Device.dmaWriteGroup (d : Device) (sp a : Nat) (fixed : Bool) (ws : List Nat) : Option Nat × Device :=
  if sp == spDRAM then
    if dramGroups ≤ a then (some haltRANGE, d)
    else if d.readBad 8 (4 * a) 4 then (some haltDST_UE, d.readMet 8 (4 * a) 4)
    else (none, (d.putWords 8 (4 * a) ws).itemOut 15)
  else if sp == spHOST then
    if hostSpan < a + 9 then (some haltRANGE, d) else (none, (d.putHostGroups a ws).itemOut 15)
  else
    match d.dmaRegWrites a (if fixed then 0 else 4) ws with
    | (none, d) => (none, d.itemOut 15)
    | (some c, d) => (some c, d)

/-- A written group enters the unit that its channel feeds; beyond LENGTH it does not, and OVERFED is set (R368). -/
def Device.chkFeed (d : Device) (u n : Nat) (ws : List Nat) : Device :=
  if d.get (fOwner u) != n then d
  else if d.chkState u == chkDONE then d.putFlag (fOverfed u) true
  else if d.chkState u != chkFEEDING then d
  else
    let p := d.get36 (CHK_U_PROGRESS u) + 1
    let d := ((d.chkEnter u ws).put36 (CHK_U_PROGRESS u) p).itemIn 16
    if p == d.get36 (CHK_U_LENGTH u) then d.chkFinish u else d

/-- What a MOVE does: spaces, first addresses, fixed roles, count of groups, and the unit that it feeds. -/
structure Move where
  ssp : Nat
  src : Nat
  sfix : Bool
  dsp : Nat
  dst : Nat
  dfix : Bool
  count : Nat
  unit : Option Nat
deriving DecidableEq, Repr

def Move.srcAt (m : Move) (i : Nat) : Nat := m.src + i * spaceStep m.ssp m.sfix
def Move.dstAt (m : Move) (i : Nat) : Nat := m.dst + i * spaceStep m.dsp m.dfix

/-- Module memory serves a group of a space now: another one waits (R332). -/
def Device.groupServes (d : Device) (sp a : Nat) : Bool := sp != spDRAM || decide (dramGroups ≤ a) || d.memServes (4 * a) 4

/-- The next beat of a MOVE can be made: its group is read, or can be, and can be written. -/
def Device.moveServes (d : Device) (n : Nat) (m : Move) : Bool :=
  let c := d.chan n
  (!c.staged.isEmpty || c.fail.isSome || d.groupServes m.ssp (m.srcAt c.done)) && d.groupServes m.dsp (m.dstAt c.done)

/-- The 54-bit address in three words of an instruction. -/
def addr54 (ws : List Nat) (i : Nat) : Nat := ws.getD i 0 + ws.getD (i + 1) 0 * wordMod + ws.getD (i + 2) 0 * pairMod

/-- The MOVE that an instruction asks of a channel; none for a CONT of a role with no earlier MOVE (R356, R357). -/
def readMove (c : DmaChan) (ws : List Nat) : Option Move :=
  let w0 := ws.headD 0
  let src := if bitOf w0 7 then c.src else some (bits w0 12 2, addr54 ws 2)
  let dst := if bitOf w0 6 then c.dst else some (bits w0 10 2, addr54 ws 5)
  match src, dst with
  | some s, some t =>
    some { ssp := s.1, src := s.2, sfix := bitOf w0 9, dsp := t.1, dst := t.2, dfix := bitOf w0 8, count := ws.getD 1 0 + 1,
           unit := if bits w0 3 3 == 0 then none else some (bits w0 3 3 - 1) }
  | _, _ => none

/-- Read groups `i` onward, `k` of them, as far as they go and module memory serves them: the groups read, and the cause where one fails.
`bad`: the group that a PCIe error ends. -/
def Device.readAhead (d : Device) (m : Move) (bad : Option Nat) (i : Nat) : Nat → List (List Nat) × Option Nat × Device
  | 0 => ([], none, d)
  | k + 1 =>
    if m.ssp == spHOST && bad == some i then ([], some haltHOST_ERR, d)
    else if !d.groupServes m.ssp (m.srcAt i) then ([], none, d)
    else
      match d.dmaReadGroup m.ssp (m.srcAt i) m.sfix with
      | (.error c, d) => ([], some c, d)
      | (.ok ws, d) =>
        let (gs, c, d) := d.readAhead m bad (i + 1) k
        (ws :: gs, c, d)

/-- Read groups on into the staging buffer, which holds 64: at least one where it is empty, and how many more is open (R355). None
is read beyond a group whose read has failed. -/
def Device.readMore (d : Device) (n : Nat) (m : Move) (bad : Option Nat) : Device :=
  let c := d.chan n
  if c.fail.isSome || c.stopping then d
  else
    let i := c.done + c.staged.length
    let k := min (min (64 - c.staged.length) (m.count - i)) (max (b2n c.staged.isEmpty) (Config.freeNat d.freeCtr % 65))
    let (gs, fail, d) := d.nextFree.readAhead m bad i k
    d.mapChan n (fun c => { c with staged := c.staged ++ gs, fail := fail, readAt := d.clock })

/-- Every group that was read is written: a STOP that waited halts the channel, and so does a read that failed (R363). -/
def Device.stagedDone (d : Device) (n : Nat) (m : Move) : Device :=
  let c := d.chan n
  if !c.staged.isEmpty then d
  else if c.stopping then d.dmaStopped n
  else match c.fail with
    | some cause => (d.mapChan n (fun c => { c with fail := none })).dmaHalt n cause (m.srcAt c.done)
    | none => d

/-- One beat: the oldest group of the buffer is written, counts in MOVED and feeds its unit. Where the write fails the group is
kept for a retry, so that no source group is read twice for one write, and those read after it are discarded (R355, R362,
R363). A write of the channel's own control register may end this. -/
def Device.beat (d : Device) (n : Nat) (m : Move) : Device :=
  let c := d.chan n
  match c.staged with
  | [] => d
  | ws :: _ =>
    match d.dmaWriteGroup m.dsp (m.dstAt c.done) m.dfix ws with
    | (some cause, d) =>
      (d.mapChan n (fun c => { c with staged := [ws], fail := none, stopping := false })).dmaHalt n cause
        (if cause == haltDST_UE then m.dstAt c.done else m.srcAt c.done)
    | (none, d) =>
      if d.dmaState n != dmaRUNNING then d
      else
        let d := (d.mapChan n (fun c => { c with done := c.done + 1, staged := c.staged.drop 1 })).put36 (DMA_CH_MOVED n) ((d.get36 (DMA_CH_MOVED n) + 1) % pairMod)
        m.unit.elim d (fun u => d.chkFeed u n ws)

/-! ## The arbiter (R362) -/

/-- PRIO of a channel. -/
def Device.dmaPrio (d : Device) (n : Nat) : Nat := bits (d.reg (DMA_CH_CTRL n)) 11 2

/-- The channel has a beat ready: a group in its buffer, or one that it can read. When host memory answers is open, so a read of
it is ready as its own command comes. -/
def Device.beatReady (d : Device) (n : Nat) : Bool :=
  match (d.dmaInstr n 1).bind (readMove (d.chan n)) with
  | some m => (!(d.chan n).staged.isEmpty || m.ssp != spHOST) && decide ((d.chan n).done < m.count) && d.moveServes n m
  | none => false

/-- The arbiter grants the next beat to a channel: none while a higher level has a beat ready; within a level the channels take turns of
64 beats, in increasing number. -/
def Device.granted (d : Device) (n : Nat) : Bool :=
  let p := d.dmaPrio n
  let ready := (List.range 32).filter (fun k => k != n && d.beatReady k)
  let peers := ready.filter (fun k => d.dmaPrio k == p)
  let (last, used) := d.dma.turns.toList.getD p (31, 64)
  let first := if used < 64 then last else last + 1
  let holder := ((List.range 32).map (fun i => (first + i) % 32)).find? (fun k => k == n || peers.contains k)
  !ready.any (fun k => decide (p < d.dmaPrio k)) && holder == some n

/-- A beat taken counts in the turn of the channel's level. -/
def Device.takeTurn (d : Device) (n : Nat) : Device :=
  let p := d.dmaPrio n
  let (last, used) := d.dma.turns.toList.getD p (31, 64)
  { d with dma := { d.dma with turns := d.dma.turns.set! p (n, if n == last && decide (used < 64) then used + 1 else 1) } }

/-- Move groups for as many beats as are left and the arbiter grants, one by one. The first `old` of them write groups that were read
before this grant; groups are read again only after those (R362). -/
def Device.moveGroups (d : Device) (n : Nat) (m : Move) (bad : Option Nat) (old : Nat) : Nat → Device
  | 0 => d
  | left + 1 =>
    if !d.granted n || !d.moveServes n m then d
    else
      let d := if old == 0 then d.readMore n m bad else d
      let d := ((d.when (!(d.chan n).staged.isEmpty) (fun d => d.takeTurn n)).beat n m).stagedDone n m
      if d.dmaState n == dmaRUNNING && (d.chan n).done < m.count then d.moveGroups n m bad (old - 1) left else d

/-- A MOVE that feeds a unit takes an ARMED one, or goes on with its own (R368). -/
def Device.chkTake (d : Device) (n u : Nat) : Option Device :=
  if d.chkState u == chkARMED then some ((d.put (fChkState u) chkFEEDING).put (fOwner u) n)
  else if d.chkState u == chkFEEDING && d.get (fOwner u) == n then some d
  else none

/-- MOVE: it transfers its groups as far as the beats reach that the arbiter grants, feeds its unit, and leaves the running addresses behind
when it is complete (R353 to R357, R362, R363, R368). A pre-empted or halted one goes on from the group at which it stopped. -/
def dmaMoveEffect (n beats : Nat) (hostErr : Option Nat) (d : Device) : Device :=
  match d.dmaInstr n 1 with
  | none => d
  | some ws =>
    let c := d.chan n
    match readMove c ws with
    | none => (d.mapChan n (fun c => { c with instr := none })).dmaHalt n haltBAD_INSTR (d.dmaPc n)
    | some m =>
      let k := min beats (m.count - c.done)
      if decide (c.done < m.count) && (k == 0 || !d.granted n || !d.moveServes n m) then d
      else
      let fed := match m.unit with
        | some u => if c.done == 0 then d.chkTake n u else some d
        | none => some d
      match fed with
      | none => d.dmaHalt n haltCHK_BUSY m.src
      | some d =>
        let d := d.moveGroups n m hostErr c.staged.length k
        if d.dmaState n == dmaRUNNING && (d.chan n).done == m.count then
          (d.mapChan n (fun c => { c with src := some (m.ssp, m.srcAt m.count), dst := some (m.dsp, m.dstAt m.count) })).dmaNext n
        else d

def execDmaMove (n : Fin 32) (beats : MoveBeats) (s : State) := s.run (dmaMoveEffect n beats.count beats.hostErr)

/-- No completion of a PCIe read within 50 ms: the channel that waits for it halts, at the group that it reads or at the instruction that
it fetches (R363). -/
def dmaHostTimeoutEffect (n : Nat) (d : Device) : Device :=
  let c := d.chan n
  if !d.unitUp 0 || !d.inRun || d.dmaState n != dmaRUNNING || decide (d.clock < c.readAt + 40000000) then d
  else
    match (d.dmaInstr n 1).bind (readMove c) with
    | some m =>
      if m.ssp == spHOST then (d.mapChan n (fun c => { c with fail := some haltHOST_ERR })).stagedDone n m
      else if c.host && d.justFetched n then d.fetchFails n else d
    | none => if c.host then d.fetchFails n else d

def execDmaHostTimeout (n : Fin 32) (s : State) := s.run (dmaHostTimeoutEffect n)

/-! ## LOOP, WAIT, SIGNAL and LINK -/

/-- LOOP with its counter (R358). -/
def dmaLoopEffect (n : Nat) (d : Device) : Device :=
  match d.dmaInstr n 2 with
  | none => d
  | some ws =>
    let k := bits (ws.headD 0) 12 2
    let c := d.chan n
    let v := (c.ctrs.find? (fun (p : Nat × Nat) => p.1 == k)).elim (ws.getD 1 0) (fun (p : Nat × Nat) => p.2)
    let others := c.ctrs.filter (fun (p : Nat × Nat) => p.1 != k)
    if v == 0 then (d.mapChan n (fun c => { c with ctrs := others })).dmaNext n
    else
      (d.mapChan n (fun c => { c with ctrs := (k, v - 1) :: others })).dmaGoto n
        (d.dmaPc n + hostSpan - ws.getD 2 0 * instrLen c.host)

def execDmaLoop (n : Fin 32) (s : State) := s.run (dmaLoopEffect n)

/-- A channel waits on flag `k`. -/
def Device.waitsFlag (d : Device) (k m : Nat) : Bool :=
  d.dmaState m == dmaWAITING && (d.chan m).instr.any (fun ws => bits (ws.headD 0) 12 6 == 14 && ws.getD 1 0 == k)

/-- What ends a WAIT holds now: the source has been raised since the fetch, the tick is reached, or the flag is 1 and no
channel of a lower number waits for it (R359, R364). -/
def Device.waitOver (d : Device) (n : Nat) (ws : List Nat) : Bool :=
  match bits (ws.headD 0) 12 2 with
  | 0 => (d.chan n).hit
  | 1 => decide (0 ≤ d.delta (pairVal (ws.getD 2 0) (ws.getD 3 0)))
  | _ => d.flag (fDmaFlag (ws.getD 1 0)) && !(List.range n).any (d.waitsFlag (ws.getD 1 0))

/-- A WAIT ends: a flag clears in the same clock. -/
def Device.waitEnds (d : Device) (n : Nat) (ws : List Nat) : Device :=
  (d.when (bits (ws.headD 0) 12 2 == 2) (fun d => d.putFlag (fDmaFlag (ws.getD 1 0)) false)).dmaNext n

/-- A tick WAIT whose tick was reached as it was fetched (R359). -/
def Device.waitLate (d : Device) (n : Nat) (ws : List Nat) : Bool :=
  bits (ws.headD 0) 12 2 == 1 && decide (0 ≤ s36 (w36 (((d.chan n).since : Int) - pairVal (ws.getD 2 0) (ws.getD 3 0))))

/-- WAIT: it ends at once, a tick WAIT whose tick was past at the fetch with WAIT_LATE, or the channel waits (R359). -/
def dmaWaitEffect (n : Nat) (d : Device) : Device :=
  match d.dmaInstr n 3 with
  | none => d
  | some ws =>
    if d.waitOver n ws then (d.when (d.waitLate n ws) (fun d => d.putFlag (fWaitLate n) true)).waitEnds n ws
    else d.setDmaState n dmaWAITING

def execDmaWait (n : Fin 32) (s : State) := s.run (dmaWaitEffect n)

/-- What a waiting channel waits for comes about (R359). -/
def dmaWaitEndEffect (n : Nat) (d : Device) : Device :=
  if !d.unitUp 0 || !d.inRun || d.dmaState n != dmaWAITING then d
  else
    match (d.chan n).instr with
    | none => d
    | some ws => if d.waitOver n ws then d.waitEnds n ws else d

def execDmaWaitEnd (n : Fin 32) (s : State) := s.run (dmaWaitEndEffect n)

/-- SIGNAL: a raising as by EVT_DOORBELL, and a flag (R356, R359). -/
def dmaSignalEffect (n : Nat) (d : Device) : Device :=
  match d.dmaInstr n 4 with
  | none => d
  | some ws =>
    let w0 := ws.headD 0
    let d := d.when (bitOf w0 13) (writeDoorbell (ws.getD 1 0))
    (d.when (bitOf w0 12) (fun d => d.putFlag (fDmaFlag (ws.getD 2 0)) true)).dmaNext n

def execDmaSignal (n : Fin 32) (s : State) := s.run (dmaSignalEffect n)

/-- LINK: the program goes on at an address of a space (R356). -/
def dmaLinkEffect (n : Nat) (d : Device) : Device :=
  match d.dmaInstr n 5 with
  | none => d
  | some ws => (d.mapChan n (fun c => { c with host := bits (ws.headD 0) 12 2 == 1 })).dmaGoto n (addr54 ws 1)

def execDmaLink (n : Fin 32) (s : State) := s.run (dmaLinkEffect n)

/-! ## Check units -/

def execCheckStart (u : Fin 4) (value : Word) (s : State) := s.run (writeChkCtrl u (value.toNat ||| 0x20000))
def execCheckAbort (u : Fin 4) (value : Word) (s : State) := s.run (writeChkCtrl u (value.toNat ||| 0x10000))

/-- A scan reads groups from `a` on; an uncorrectable read, or an address beyond the module's DRAM, stops it (R368). -/
def Device.chkScan (d : Device) (u a : Nat) : Nat → Device
  | 0 => d.chkFinish u
  | k + 1 =>
    if decide (dramGroups ≤ a) || d.readBad 9 (4 * a) 4 then ((d.readMet 9 (4 * a) 4).put36 (CHK_U_FAIL_ADDR u) a).chkFail u 1
    else ((((d.memUse (4 * a) 4).chkEnter u (d.dramWords (4 * a) 4)).put36 (CHK_U_PROGRESS u) (d.get36 (CHK_U_PROGRESS u) + 1)).itemIn 16).chkScan u (a + 1) k

/-- A scan comes to its end (R368), once module memory has served it (R332). -/
def checkDoneEffect (u : Nat) (d : Device) : Device :=
  let a := d.get36 (CHK_U_START u)
  if !d.unitUp 0 || !d.inRun || d.chkState u != chkSCANNING || !d.memServes (4 * a) (4 * min (d.get36 (CHK_U_LENGTH u)) (dramGroups - a)) then d else d.chkScan u (d.get36 (CHK_U_START u)) (d.get36 (CHK_U_LENGTH u))

def execCheckDone (u : Fin 4) (s : State) := s.run (checkDoneEffect u)

end Sys2Proof.Machine
end

