-- ==== Sys2Proof/Machine/Commands.lean ====
section
/-! DEFINITION. The packet commands of R481 from step 5 of R476 on: those of the system, of jobs, of units and of the host's
tables of servers and pages. A command acts once it is the first of its queue that has not begun (R473). The register and
table commands stand in TableCommands, the compression command in Compress. -/
namespace Sys2Proof.Machine

/-! ## Begin -/

/-- The packet of opcode `op` under a tag, if it begins now: in its queue's order, after every earlier packet with FENCE
(R471, R473), while the control cores run and no takeover is in progress (R501). -/
def Device.begins (d : Device) (tag op : Nat) : Option Flight :=
  if !d.unitUp 0 || d.ulp.takeover then none
  else
    (d.flight tag).filter (fun f =>
      let earlier := d.ulp.flights.filter (fun g => g.sq == f.sq && decide (g.order < f.order))
      f.op == op && f.wait == .fetched && !(earlier.any (fun g => g.wait == .fetched)) && (!f.fence || earlier.isEmpty))

/-- FSTATE is RUN. In Frost, its entry and Thaw, a command that does not run in any state completes BUSY_JOB (R530). -/
def Device.runs (d : Device) : Bool := d.get fFState == fsRUN

/-- READY outside Frost's entry. -/
def Device.readyOk (d : Device) : Bool := d.inReady && d.runs
/-- READY, WRITING or HELD. -/
def Device.runOk (d : Device) : Bool := d.inRun && d.runs
/-- READY or HELD. -/
def Device.restOk (d : Device) : Bool := (d.inReady || d.inHeld) && d.runs

/-- Bits of a parameter outside a mask. -/
def Flight.outside (f : Flight) (i mask : Nat) : Bool := f.p i &&& mask != f.p i

/-- The first parameter that has bits outside its mask. -/
def Flight.badParam (f : Flight) (masks : List Nat) : Option Nat :=
  (masks.zipIdx.find? (fun (m : Nat × Nat) => f.outside m.2 m.1)).map (fun m => m.2)

/-- Run a command: its state (step 5 of R476), its parameters (step 6), then its own rule. -/
def Device.command (d : Device) (tag op : Nat) (accepts : Bool) (masks : List Nat) (act : Device → Flight → Device) : Device :=
  match d.begins tag op with
  | none => d
  | some f =>
    if !accepts then d.complete f sBUSY_JOB 0 []
    else
      match f.badParam masks with
      | some i => d.complete f sBAD_PARAM i []
      | none => act d f

def m18 : Nat := 0x3FFFF
def m32 : Nat := 0xFFFFFFFF

/-! ## System commands -/

/-- NOP. -/
def execNop (tag : Byte) (s : State) := s.run (fun d => d.command tag.toNat 0x000 true [] (fun d f => d.complete f sOK 0 []))

/-- IDENTIFY. -/
def execIdentify (tag : Byte) (s : State) :=
  s.run (fun d => d.command tag.toNat 0x001 true [] (fun d f =>
    d.complete f sOK 0 [d.reg SYS_DEVICE_ID, d.reg SYS_SILICON_REL, d.reg SYS_FIRMWARE_REL]))

/-- SYSTEM_RESET: taken where RST_SOFT is; the reset follows its completion entry (R439, R481). -/
def systemReset (ol : OptionLoad) (d : Device) (f : Flight) : Device :=
  if f.p 0 != 0x15A5A then d.complete f sBAD_PARAM 0 []
  else
    let d := d.when (decide (f.sq < 4)) (fun d => { d with ulp := { d.ulp with resetTag := some (f.tag, ol) } })
    d.complete f sOK 0 []

def execSystemReset (tag : Byte) (ol : OptionLoad) (s : State) :=
  s.run (fun d => d.command tag.toNat 0x002 d.softTaken [] (systemReset ol))

/-- The opcodes of the commands that change a setting (R527). -/
def settingOps : List Nat := [0x010, 0x011, 0x200, 0x210, 0x211, 0x304, 0x501, 0x610, 0x700]

/-- What holds Frost off in READY (R527): a DMA channel that is not IDLE, a check unit that runs, more than one column, a
command in flight that changes a setting, or a job start under way. -/
def Device.frostHeldOff (d : Device) : Bool :=
  (List.range 32).any (fun n => d.dmaState n != dmaIDLE) || (List.range 4).any d.chkBusy || d.get fColumns != 0 ||
    d.ulp.flights.any (fun g => settingOps.contains g.op) || d.start.isSome

/-- FROST: the acceptance clock clears and arms the latches, and entry begins (R527, R528). -/
def frost (d : Device) (f : Flight) : Device :=
  if d.frostHeldOff then d.complete f sBUSY_JOB 0 []
  else (d.await f .frost).frostEntry

def execFrost (tag : Byte) (s : State) := s.run (fun d => d.command tag.toNat 0x003 d.readyOk [] frost)

/-! ## Limited-change settings (R452, R453) -/

/-- Program the next unused slot of `lo` to `hi` with a value: LIMIT_REACHED where none is left; a slot that fails its
verification is used and not valid, and the value in force stays. -/
def Device.programSlot (d : Device) (f : Flight) (lo hi value : Nat) (verified : Bool) (after : Device → Device) : Device :=
  match (List.range (hi + 1 - lo)).find? (fun i => !(d.rst.slots.toList.getD (lo + i) {}).used) with
  | none => d.complete f sLIMIT_REACHED 0 []
  | some i =>
    let slot : FuseSlot := { used := true, valid := verified, todSrc := d.todSource, secs := d.todSecs, value := value }
    let d := ({ d with rst := { d.rst with slots := d.rst.slots.set! (lo + i) slot } }).showSlots
    if verified then (after (d.raise 7)).complete f sOK 0 [] else d.complete f sDATA_ERROR 0 []

/-- The lock is in force at the end of its command, and ends monitor level 2 (R453, R537). -/
def Device.lockStrict (d : Device) : Device :=
  let d := { d with rst := { d.rst with strict := true } }
  if d.get fMonLevel == 2 then d.put fMonLevel 0 else d

def execSetStrict (tag : Byte) (verified : Bool) (s : State) :=
  s.run (fun d => d.command tag.toNat 0x010 d.readyOk [] (fun d f => d.programSlot f 20 20 0 verified Device.lockStrict))

/-- SET_ANCHOR: the digest from eight dwords, the first byte lowest; all zeros is refused. -/
def setAnchor (verified : Bool) (d : Device) (f : Flight) : Device :=
  let v := f.params.foldr (fun p acc => p % 4294967296 + acc * 4294967296) 0
  if v == 0 then d.complete f sBAD_PARAM 0 [] else d.programSlot f 16 19 v verified (fun d => d)

def execSetAnchor (tag : Byte) (verified : Bool) (s : State) :=
  s.run (fun d => d.command tag.toNat 0x011 d.readyOk [] (setAnchor verified))

def execSetColumn (tag : Byte) (verified : Bool) (s : State) :=
  s.run (fun d => d.command tag.toNat 0x700 d.readyOk [0xF] (fun d f => d.programSlot f 0 15 (f.p 0) verified (fun d => d)))

/-! ## Jobs -/

def execJobStart (tag : Byte) (hostErr : Bool) (s : State) :=
  s.run (fun d => d.command tag.toNat 0x100 (d.readyOk && d.needs ((List.range 13).drop 1 ++ [18])) [] (fun d f => d.jobStart f hostErr))

/-- PAUSE: at the end of the pass in progress (R29); BUSY_JOB on a worker; the manager tells the workers (R407, R422). -/
def pause (d : Device) (f : Flight) : Device :=
  if d.isWorker then d.complete f sBUSY_JOB 0 []
  else
    let d := (d.await f .pause).mapJob (fun j => { j with pausing := true })
    d.when d.isManager (fun d => d.sendMesh toAll mPAUSE [])

def execPause (tag : Byte) (s : State) := s.run (fun d => d.command tag.toNat 0x101 d.inWriting [] pause)

def execResume (tag : Byte) (s : State) := s.run (fun d => d.command tag.toNat 0x102 d.inHeld [] (fun d f => d.resumeCommand f))

/-- ABORT: every column aborts, and the command waits for READY (R30, R416). -/
def abort (d : Device) (f : Flight) : Device :=
  let d := d.await f .abort
  if d.job.any (fun j => j.aborting) then d else (d.sendMesh toAll mABORT []).beginAbort

def execAbort (tag : Byte) (s : State) := s.run (fun d => d.command tag.toNat 0x103 d.inJob [] abort)

/-- The first parameter at which a stream descriptor in P_i to P_i+2 fails; a list that it reaches fails at E6 (R474, R483). -/
def Device.descFault (d : Device) (f : Flight) (i : Nat) : Nat :=
  let e5 := f.p i
  let src := e5 / 1073741824
  let bad5 := bitOf e5 23 || bits e5 18 2 != 0 || src == 3 || (src != 2 && bits e5 20 3 != 0) || (src != 0 && bits e5 24 6 != 0) ||
    (src == 2 && !d.serverOk (bits e5 20 3))
  let high := if src == 0 then !addrOk (f.p (i + 1)) (f.p (i + 2)) else if src == 1 then decide (16 ≤ f.p (i + 2))
    else f.p (i + 1) == 0 && f.p (i + 2) != 0
  if bad5 then i else if high then i + 2 else i + 1

/-- LIBRARY_LOAD: the old library is cleared and the stream opens (R62, R64, R81). The slot is the module's choice among
the closed ones. -/
def libraryLoad (slot : Nat) (hostErr : Bool) (d : Device) (f : Flight) : Device :=
  if hostErr && f.p 0 / 1073741824 == 0 then d.complete f sDATA_ERROR 0 []
  else
    match d.readSource (f.p 0) (f.p 1) (f.p 2) with
    | none => d.complete f sBAD_PARAM (d.descFault f 0) []
    | some src =>
      if d.someWaits (fun w => w == .library) || d.start.isSome || (src.isNdf && !d.needs [20]) then d.complete f sBUSY_JOB 0 []
      else
        match (if (d.slot slot).isOpen then d.closedSlot else some slot) with
        | none => d.complete f sNO_RESOURCE 0 []
        | some n =>
          let d := (d.await f .library).clearLibrary
          ({ d with mem := { d.mem with libLost := false } }).openSlot n .library src (f.p 0 % wordMod) 0 (some f.tag)

def execLibraryLoad (tag : Byte) (slot : Fin 16) (hostErr : Bool) (s : State) :=
  s.run (fun d => d.command tag.toNat 0x110 (d.readyOk && d.needs [1, 2]) [] (libraryLoad slot hostErr))

/-! ## Lanes, rills and heads -/

def execLaneCal (tag : Byte) (s : State) :=
  s.run (fun d => d.command tag.toNat 0x300 (d.runOk && d.needs [18]) [0x7F] (fun d f =>
    let n := f.p 0
    if 72 ≤ n then d.complete f sBAD_PARAM 0 []
    else if d.laneSt n == laneActive || d.laneSt n == laneSpare then calNowWrite n (d.await f (.laneCal n))
    else d.complete f sNO_RESOURCE 0 []))

def execLaneRetrain (tag : Byte) (s : State) :=
  s.run (fun d => d.command tag.toNat 0x301 (d.runOk && d.needs [18]) [0x7F] (fun d f =>
    let n := f.p 0
    if 72 ≤ n then d.complete f sBAD_PARAM 0 []
    else if d.unitUp 18 && d.retrainTaken n then laneRetrainWrite n (d.await f (.laneRetrain n))
    else d.complete f sBUSY_JOB 0 []))

def execRillForce (tag : Byte) (s : State) :=
  s.run (fun d => d.command tag.toNat 0x302 (d.inJob && d.runs) [0x1F07] (fun d f =>
    let g := bits (f.p 0) 0 3
    let slot := bits (f.p 0) 8 5
    if d.unitUp (5 + g) && d.forceTaken g (131072 + slot) then writeRilForce g (131072 + slot) (d.await f (.rillForce (32 * g + slot)))
    else d.complete f sBUSY_JOB 0 []))

def execStuckAck (tag : Byte) (s : State) :=
  s.run (fun d => d.command tag.toNat 0x303 d.inHeld [] (fun d f =>
    if d.unitUp 5 && d.ackTaken then (writeStuckAck 1 d).complete f sOK 0 [] else d.complete f sBUSY_JOB 0 []))

def execHeadRestore (tag : Byte) (s : State) :=
  s.run (fun d => d.command tag.toNat 0x304 d.restOk [0x7] (fun d f =>
    let c := f.p 0
    if 6 ≤ c then d.complete f sBAD_PARAM 0 []
    else if d.released 13 && d.restoreTaken c then (d.restoreHead c).complete f sOK 0 []
    else d.complete f sBUSY_JOB 0 []))

/-! ## Motion -/

/-- MOVE: an absolute move in READY, one at a time; it completes after MOT_SETTLE at rest (R301). -/
def move (d : Device) (f : Flight) : Device :=
  if d.mot.readyMove || !d.released 13 then d.complete f sBUSY_JOB 0 []
  else if d.badLimits then d.complete f sBAD_PARAM detailDerived []
  else
    (d.await f .moveEnd).mapMot (fun m =>
      { m with readyMove := true, ask := some (.move (wide36 (f.p 0) (f.p 1)) (wide36 (f.p 2) (f.p 3)) true), askTick := d.clock })

def execMove (tag : Byte) (s : State) := s.run (fun d => d.command tag.toNat 0x400 d.readyOk [m32, 0xF, m32, 0xF] move)

def execLayerGoto (tag : Byte) (s : State) :=
  s.run (fun d => d.command tag.toNat 0x401 d.restOk [1, m32, 0xF] (fun d f =>
    if d.gotoTaken (f.p 0) then (d.await f (.layerGoto (f.p 0))).startGoto (f.p 0) (wide36 (f.p 1) (f.p 2))
    else d.complete f sBUSY_JOB 0 []))

/-- MOTION_STOP: a move of READY decelerates under R305; with none the stage is at rest already. -/
def motionStop (d : Device) (f : Flight) : Device :=
  if d.mot.readyMove then (d.await f .motionStop).mapMot (fun m => { m with ask := some .stop, askTick := d.clock })
  else d.complete f sOK 0 []

def execMotionStop (tag : Byte) (s : State) := s.run (fun d => d.command tag.toNat 0x402 d.readyOk [] motionStop)

/-! ## Memory, DMA and check units -/

def execMemMarkClear (tag : Byte) (s : State) :=
  s.run (fun d => d.command tag.toNat 0x500 d.readyOk [] (fun d f => d.clearMarks.complete f sOK 0 []))

/-- PAGE_RETIRE: the lowest entry of MEM_RETIRE that is not valid takes the page (R338). -/
def pageRetire (d : Device) (f : Flight) : Device :=
  match (List.range 256).find? (fun i => !d.flag (bitAt (MEM_RETIRE i + 4) 17)) with
  | none => d.complete f sNO_RESOURCE 0 []
  | some i =>
    let dws : List Dw := [{ rws := 0x3FFFF }, { rws := 0x20007 }]
    (d.storeDwords (MEM_RETIRE i) dws [bits (f.p 0) 0 18, 131072 + bits (f.p 0) 18 3]).complete f sOK 0 [i]

def execPageRetire (tag : Byte) (s : State) := s.run (fun d => d.command tag.toNat 0x501 d.readyOk [0x1FFFFF] pageRetire)

/-- DMA_RUN: the program address, PRIO and PSPACE, then GO (R360, R481). -/
def dmaRun (d : Device) (f : Flight) : Device :=
  let n := bits (f.p 0) 0 5
  if d.dmaState n != dmaIDLE then d.complete f sBUSY_JOB 0 []
  else
    let d := ((d.await f (.dma n)).put54 (DMA_CH_PC n) (hostAddr (f.p 1) (f.p 2))).mapChan n (fun c => { c with instr := none, pcWas := none })
    writeDmaCtrl n (131072 + bits (f.p 0) 8 2 * 2048 + bits (f.p 0) 12 1 * 1024) d

def execDmaRun (tag : Byte) (s : State) := s.run (fun d => d.command tag.toNat 0x510 d.runOk [0x131F, m32, 0x3FFFFF] dmaRun)

/-- CHECK_RUN: the unit's registers, then START (R368, R481). -/
def checkRun (d : Device) (f : Flight) : Device :=
  let u := bits (f.p 0) 0 2
  if d.chkBusy u then d.complete f sBUSY_JOB 0 []
  else
    let d := ((d.await f (.check u)).put36 (CHK_U_START u) (hostAddr (f.p 1) (f.p 2))).put36 (CHK_U_LENGTH u) (hostAddr (f.p 3) (f.p 4))
    let d := ((d.setReg (CHK_U_SEQ u) (f.p 5)).setReg (CHK_U_PFX0 u) (f.p 6)).setRegs (CHK_U_EXPECT u) (words64 (hostAddr (f.p 7) (f.p 8)))
    writeChkCtrl u (131072 + bits (f.p 0) 8 8 * 256) d

def execCheckRun (tag : Byte) (s : State) :=
  s.run (fun d => d.command tag.toNat 0x511 d.runOk [0xFF03, m32, 0xF, m32, 0xF, m18, m18, m32, m32] checkRun)

/-! ## Time and network -/

def execTodSet (tag : Byte) (s : State) :=
  s.run (fun d => d.command tag.toNat 0x600 (d.readyOk && d.needs [20]) [m32, 0xFFFF, m32] (fun d f =>
    if 999999999 < f.p 2 then d.complete f sBAD_PARAM 2 [] else (d.setTod (hostAddr (f.p 0) (f.p 1)) (f.p 2)).complete f sOK 0 []))

def execPtpStep (tag : Byte) (s : State) :=
  s.run (fun d => d.command tag.toNat 0x601 (d.restOk && d.needs [20]) [] (fun d f => d.askStep.complete f sOK 0 []))

/-- SERVER_SET: an entry of the server table, unless an open slot uses it (R402). -/
def serverSet (d : Device) (f : Flight) : Device :=
  let k := f.p 0
  if d.spr.slots.toList.any (fun s => s.isOpen && s.source == .ndf k) then d.complete f sBUSY_JOB 0 []
  else
    let d := d.plainWrite .host (ETH_SRV_CTRL k) (f.p 1)
    let d := d.each (List.range 8) (fun d i => d.plainWrite .host (ETH_SRV_ADDR k + 4 * i) (f.p (2 + i)))
    (d.plainWrite .host (ETH_SRV_UDP k) (f.p 10)).complete f sOK 0 []

def execServerSet (tag : Byte) (s : State) :=
  s.run (fun d => d.command tag.toNat 0x610 (d.runOk && d.needs [20]) (0x7 :: List.replicate 10 m18) serverSet)

def execMeshRetrain (tag : Byte) (s : State) :=
  s.run (fun d => d.command tag.toNat 0x701 (d.runOk && d.needs [19]) [0x3] (fun d f =>
    if d.unitUp 19 && d.portRetrainTaken (f.p 0) then (d.await f (.meshRetrain (f.p 0))).portTrain (f.p 0) else d.complete f sBUSY_JOB 0 []))

/-! ## The log, the counters and block resets -/

/-- LOG_READ (R507): COUNT, the overflow count, and the entries in LSEQ order; nothing is cleared. -/
def logRead (d : Device) (f : Flight) : Device :=
  let es := sortBy d.logLseq ((List.range 64).filter d.logValid)
  let head := [es.length, d.reg SYS_ERRLOG_OVERFLOW]
  let body := es.flatMap (fun i => (List.range 11).map (fun j => d.reg (SYS_EL i + 4 * j)) ++ [0])
  (d.putHostDwords (hostAddr (f.p 0) (f.p 1)) (head ++ body)).complete f sOK 0 head

def execLogRead (tag : Byte) (s : State) := s.run (fun d => d.command tag.toNat 0x800 true [] logRead)

/-- COUNTER_SNAPSHOT (R539). -/
def counterSnapshot (d : Device) (f : Flight) : Device :=
  let d := d.snapshot
  let t := [d.reg PMC_SNAP_TICK, d.reg (PMC_SNAP_TICK + 4)]
  let body := pmcAll.flatMap (fun (x : Nat × Nat) => [d.reg (PMC_C_SNAP x.1 x.2), d.reg (PMC_C_SNAP x.1 x.2 + 4)])
  (d.putHostDwords (hostAddr (f.p 0) (f.p 1)) (t ++ body)).complete f sOK 0 t

def execCounterSnapshot (tag : Byte) (s : State) := s.run (fun d => d.command tag.toNat 0x801 true [] counterSnapshot)

/-- BLOCK_RESET: as a write of RST_BLOCK, whose RESULT gives the status of a refusal (R451, R481). -/
def blockReset (d : Device) (f : Flight) : Device :=
  match d.blockFault (f.p 0) with
  | some r => (d.requestBlock (f.p 0)).complete f (if r == 3 then sBAD_PARAM else sBUSY_JOB) 0 []
  | none => (d.await f (.blockReset (f.p 0))).requestBlock (f.p 0)

def execBlockReset (tag : Byte) (s : State) := s.run (fun d => d.command tag.toNat 0x802 d.readyOk [0x1F] blockReset)

end Sys2Proof.Machine
end

