-- ==== Sys2Proof/Machine/Compress.lean ====
section
/-! DEFINITION. The compression command (R67 to R70, R488). -/
namespace Sys2Proof.Machine

/-- The parameter of COMPRESS that fails, of those that need no unit (R488). -/
def Device.compressFault (d : Device) (f : Flight) : Option Nat :=
  let capture := bitOf (f.p 0) 1
  let point := bits (f.p 0) 2 2
  let base := hostAddr (f.p 1) (f.p 2)
  if f.outside 0 (if capture && point == 0 then 0xF0F else if capture then 0xF else 0x3) || decide (2 ≤ point) then some 0
  else if f.p 2 != 0 then some 2
  else if memLines ≤ base then some 1
  else if f.p 3 == 0 || decide (memLines < base + f.p 3) then some 3
  else if d.allRegions.any (overlaps (base, f.p 3)) then some 1
  else if capture && point == 0 then f.badParam [m32, m32, m32, m32, 0, 0, 0]
  else if capture then (if f.outside 5 0xF then some 5 else if f.p 6 == 0 then some 6 else none)
  else none

/-- Start an engine with the destination of its command. -/
def Device.startEngine (d : Device) (f : Flight) (x : Engine) : Device :=
  let e := f.p 0 % 2
  let d := ((d.await f (.compress e)).put36 (SPR_CMP_IN e) 0).put36 (SPR_CMP_OUT e) 0
  d.setEngine e { x with running := true, retired := (d.engine e).retired, base := f.p 1, lines := f.p 3 }

/-- COMPRESS starts an idle engine: RECODE opens its input stream, CAPTURE taps a point (R67, R488). -/
def compress (hostErr : Bool) (d : Device) (f : Flight) : Device :=
  let e := f.p 0 % 2
  let capture := bitOf (f.p 0) 1
  match d.compressFault f with
  | some i => d.complete f sBAD_PARAM i []
  | none =>
    if (d.engine e).retired || !d.unitUp 1 then d.complete f sNO_RESOURCE 0 []
    else if capture then
      if (d.engine e).running then d.complete f sBUSY_JOB 0 []
      else
        d.startEngine f { capture := true, point := bits (f.p 0) 2 2, slot := bits (f.p 0) 8 4,
                          rowFirst := hostAddr (f.p 4) (f.p 5), rowCount := f.p 6 }
    else if hostErr && f.p 4 / 1073741824 == 0 then d.complete f sDATA_ERROR 0 []
    else
      match d.readSource (f.p 4) (f.p 5) (f.p 6) with
      | none => d.complete f sBAD_PARAM (d.descFault f 4) []
      | some src =>
        if (d.engine e).running || (src.isNdf && !d.needs [20]) then d.complete f sBUSY_JOB 0 []
        else
          match d.closedSlot with
          | none => d.complete f sNO_RESOURCE 0 []
          | some n => (d.openSlot n .recode src (f.p 4 % wordMod) 0 (some f.tag)).startEngine f { slot := n }

def execCompress (tag : Byte) (hostErr : Bool) (s : State) :=
  s.run (fun d => d.command tag.toNat 0x111 (d.runOk && d.needs [1]) [] (compress hostErr))

end Sys2Proof.Machine
end

