-- ==== Sys2Proof/Machine/Monitor.lean ====
section
/-! DEFINITION. The Krovfy monitor: its commands with their access levels and answers, and what ends a session (R536,
R537). -/
namespace Sys2Proof.Machine

/-! ## Answers -/

/-- The error codes of R536. -/
def monSyntax : Nat := 1
def monLevelErr : Nat := 2
def monStateErr : Nat := 3
def monRange : Nat := 4
def monBusy : Nat := 5

/-- What a command does to the module, and the lines that it prints before `ok`, or its error. -/
abbrev MonAct := Device → (Except Nat (List MonLine)) × Device

/-- Send an answer. -/
def Device.answer (d : Device) : Except Nat (List MonLine) → Device
  | .ok ls => d.emit (.monitor (ls ++ [.ok]))
  | .error c => d.emit (.monitor [.err c])

/-- Run a monitor command of an access level on the active control pair. A takeover ends it with E5 (R536). -/
def Device.monitor (d : Device) (level : Nat) (act : MonAct) : Device :=
  if !d.coresRun then d
  else
    let d := { d with pwr := { d.pwr with monAt := d.clock } }
    if d.ulp.takeover then d.answer (.error monBusy)
    else if d.get fMonLevel < level then d.answer (.error monLevelErr)
    else
      let (r, d) := act d
      d.answer r

/-- A command that always succeeds. -/
def monDo (lines : Device → List MonLine) (f : Device → Device) : MonAct := fun d => (.ok (lines d), f d)

/-- A command that fails with a code where a condition fails. -/
def monIf (ok : Device → Bool) (code : Nat) (act : MonAct) : MonAct := fun d => if ok d then act d else (.error code, d)

/-! ## Level 0 -/

/-- The commands with their levels, in the order of R537. -/
def monCommands : List (Nat × String) :=
  [(0, "help"), (0, "id"), (0, "state"), (0, "rd"), (0, "log"), (0, "evt"), (0, "ctr"), (0, "baud"), (0, "lock"), (0, "unlock"),
   (1, "wr"), (1, "ring"), (1, "thaw"), (2, "dr"), (2, "dw"), (2, "reset"), (2, "blkreset")]

def monHelpAct : MonAct :=
  monDo (fun d => (monCommands.filter (fun c => decide (c.1 ≤ d.get fMonLevel))).map (fun c => MonLine.text c.2)) (fun d => d)

def execMonHelp (s : State) := s.run (fun d => d.monitor 0 monHelpAct)

def monIdAct : MonAct :=
  monDo (fun d => [.numbers [d.reg SYS_DEVICE_ID, d.reg SYS_SILICON_REL, d.reg SYS_FIRMWARE_REL], .bigInt Config.serialNumber]) (fun d => d)

def execMonId (s : State) := s.run (fun d => d.monitor 0 monIdAct)

/-- SYS_STATE decoded: STATE, PASS and DIR, with HELD_CAUSE and PHASE. -/
def monStateAct : MonAct :=
  monDo (fun d => [.numbers [d.st, d.get fPass, d.get fDir, d.get fHeldCause, d.phase]]) (fun d => d)

def execMonState (s : State) := s.run (fun d => d.monitor 0 monStateAct)

/-- rd: 1 to 64 dwords of BAR0 from an aligned offset, as BAR0 reads (R530). -/
def monRdAct (off n : Nat) : MonAct :=
  monIf (fun _ => off % 4 == 0 && decide (1 ≤ n) && decide (n ≤ 64) && decide (off + 4 * n ≤ 0x4000000)) monRange (fun d =>
    let (vs, d) := d.busReads off n
    (.ok [.numbers vs], d))

def execMonRd (off n : Nat) (s : State) := s.run (fun d => d.monitor 0 (monRdAct off n))

/-- log: the eleven words of each entry, in LSEQ order (R507). -/
def monLogAct : MonAct :=
  monDo (fun d => (sortBy d.logLseq ((List.range 64).filter d.logValid)).map (fun i =>
    MonLine.numbers ((List.range 11).map (fun j => d.reg (SYS_EL i + 4 * j))))) (fun d => d)

def execMonLog (s : State) := s.run (fun d => d.monitor 0 monLogAct)

/-- evt: each pending source with its TARGET. -/
def monEvtAct : MonAct :=
  monDo (fun d => ((List.range 256).filter d.isPending).map (fun k => MonLine.numbers [k, d.target k])) (fun d => d)

def execMonEvt (s : State) := s.run (fun d => d.monitor 0 monEvtAct)

/-- ctr: a snapshot, then the eight counters of a block from it (R539). -/
def monCtrAct (b : Nat) : MonAct :=
  monIf (fun _ => decide (b < 20)) monRange (fun d =>
    let d := d.snapshot
    (.ok [.numbers ((List.range 8).map (fun k => d.get36 (PMC_C_SNAP b k)))], d))

def execMonCtr (b : Nat) (s : State) := s.run (fun d => d.monitor 0 (monCtrAct b))

/-- The BAUD code of a rate (R544). -/
def baudCode (rate : Nat) : Option Nat :=
  [115200, 230400, 460800, 921600, 1000000, 2000000, 3000000].findIdx? (fun r => r == rate)

def monBaudAct (rate : Nat) : MonAct := fun d =>
  match baudCode rate with
  | some c => (.ok [], d.put fMonBaud c)
  | none => (.error monRange, d)

def execMonBaud (rate : Nat) (s : State) := s.run (fun d => d.monitor 0 (monBaudAct rate))

/-- The session returns to level 0. -/
def Device.monLock (d : Device) : Device := d.put fMonLevel 0

def execMonLock (s : State) := s.run (fun d => d.monitor 0 (monDo (fun _ => []) Device.monLock))

/-- unlock: level 1 while L1_OPEN is 1; level 2 while L2_OPEN is 1 and the strict-integrity lock is clear. -/
def monUnlockAct (l : Nat) : MonAct :=
  monIf (fun _ => l == 1 || l == 2) monRange
    (monIf (fun d => if l == 1 then d.flag fL1Open else d.flag fL2Open && !d.strict) monLevelErr
      (monDo (fun _ => []) (fun d => d.put fMonLevel l)))

def execMonUnlock (level : Nat) (s : State) := s.run (fun d => d.monitor 0 (monUnlockAct level))

/-! ## Level 1 -/

/-- wr: one aligned BAR0 write; a write of SYS_MON_CFG leaves the unlock bits (R544). -/
def monWrAct (off v : Nat) : MonAct :=
  monIf (fun _ => off % 4 == 0 && decide (off < 0x4000000) && decide (v < 4294967296)) monRange
    (monDo (fun _ => []) (fun d => d.busWrite .monitor off v))

def execMonWr (off : Nat) (value : Nat) (s : State) := s.run (fun d => d.monitor 1 (monWrAct off value))

/-- ring: a write of EVT_DOORBELL (R510). -/
def monRingAct (k : Nat) : MonAct :=
  monIf (fun _ => decide (k < wordMod)) monRange (monDo (fun _ => []) (fun d => d.busWrite .monitor EVT_DOORBELL k))

def execMonRing (sector : Nat) (s : State) := s.run (fun d => d.monitor 1 (monRingAct sector))

/-- thaw: Frost, or an entry to it, ends, whatever PWR_WAKE_EN holds (R531, R533). -/
def monThawAct : MonAct :=
  monIf (fun d => d.get fFState != fsRUN) monStateErr (monDo (fun _ => []) (fun d => d.wakeBy 512))

def execMonThaw (s : State) := s.run (fun d => d.monitor 1 monThawAct)

/-! ## Level 2 -/

/-- The 64 words of a line as the monitor reads them; the words of a line whose read is uncorrectable are free. -/
def Device.monLine (d : Device) (la : Nat) : MonLine :=
  .numbers (if d.lineBad la then (List.range 64).map (fun i => (Config.badWord (64 * la + i)).toNat) else d.dramWords (64 * la) 64)

/-- A memory access that the monitor would make waits for module memory (R332, R537): its command has its effect once memory serves
it. -/
def Device.monWaits (d : Device) (ok : Bool) (a n : Nat) : Bool :=
  d.coresRun && !d.ulp.takeover && decide (2 ≤ d.get fMonLevel) && ok && !d.memServes a n

/-- dr: 1 to 16 DRAM lines, in READY and HELD. -/
def monDrAct (la n : Nat) : MonAct :=
  monIf (fun d => d.inReady || d.inHeld) monStateErr
    (monIf (fun _ => decide (1 ≤ n) && decide (n ≤ 16) && decide (la + n ≤ memLines)) monRange
      (monDo (fun d => (List.range n).map (fun i => d.monLine (la + i))) (fun d => d.memUse (64 * la) (64 * n))))

def execMonDr (la n : Nat) (s : State) :=
  s.run (fun d =>
    if d.monWaits ((d.inReady || d.inHeld) && decide (n ≤ 16) && decide (la + n ≤ memLines)) (64 * la) (64 * n) then d else d.monitor 2 (monDrAct la n))

/-- dw: one DRAM group, in READY. -/
def monDwAct (g : Nat) (w : List Nat) : MonAct :=
  monIf Device.inReady monStateErr
    (monIf (fun _ => decide (g < 16 * memLines) && w.all (fun v => decide (v < wordMod))) monRange
      (monDo (fun _ => []) (fun d => d.putWords 8 (4 * g) w)))

def execMonDw (g : Nat) (w : Vector Nat 4) (s : State) :=
  s.run (fun d => if d.monWaits (d.inReady && decide (g < 16 * memLines)) (4 * g) 4 then d else d.monitor 2 (monDwAct g w.toList))

/-- reset: the software reset of R439, where RST_SOFT is taken. -/
def monResetAct (ol : OptionLoad) : MonAct :=
  monIf Device.softTaken monStateErr (monDo (fun _ => []) (fun d => d.softReset ol))

def execMonReset (ol : OptionLoad) (s : State) := s.run (fun d => d.monitor 2 (monResetAct ol))

/-- blkreset: a block reset of an island, and its RESULT (R451, R462). -/
def monBlkresetAct (i : Nat) : MonAct :=
  monIf (fun _ => decide (i < 32)) monRange (fun d =>
    let d := d.requestBlock i
    (.ok [.numbers [d.get fBlkResult]], d))

def execMonBlkreset (island : Nat) (s : State) := s.run (fun d => d.monitor 2 (monBlkresetAct island))

/-! ## Lines that are no command, and the end of a session -/

/-- A line of more than 127 characters is discarded whole; a shorter one that names no command gives E1 (R536). -/
def monBadLineEffect (length : Nat) (d : Device) : Device :=
  if 127 < length then d else d.monitor 0 (fun d => (.error monSyntax, d))

def execMonBadLine (length : Nat) (s : State) := s.run (monBadLineEffect length)

/-- A break: the receive line low for 100 ms or more returns the session to level 0 and the UART to 115,200 Bd (R537). -/
def monitorBreakEffect (lowMs : Nat) (d : Device) : Device :=
  if 100 ≤ lowMs && d.coresRun then d.monLock.put fMonBaud 0 else d

def execMonitorBreak (lowMs : Nat) (s : State) := s.run (monitorBreakEffect lowMs)

/-- IDLE_MIN minutes with no command return the session to level 0; 0 gives no time-out (R537, R544). -/
def monitorIdleTimeoutEffect (d : Device) : Device :=
  if d.coresRun && d.get fIdleMin != 0 && decide (d.pwr.monAt + d.get fIdleMin * 48000000000 ≤ d.clock) then d.monLock else d

def execMonitorIdleTimeout (s : State) := s.run monitorIdleTimeoutEffect

end Sys2Proof.Machine
end

