-- ==== Sys2Proof/Machine/Passport.lean ====
section
/-! DEFINITION. The commands of the passport bus: PASSPORT_POLL, PASSPORT_RESPONSE and PASSPORT_RETRY (R238 to R242). -/
namespace Sys2Proof.Machine

/-- A job start that waited for the passport bus takes it now. -/
def Device.startWaiting (d : Device) : Device :=
  match d.start with
  | some (.passport, _) => if d.lne.pp.cmd == 0 && d.lne.pp.retryAt.isNone then d.ppStart else d
  | _ => d

/-- The transaction in progress has failed with a cause of R244: a job start completes AUTH_FAIL and nothing moves (R240);
a write-back has failed a try (R242). Event 115 follows a failed start. -/
def Device.ppFails (d : Device) (cause : Nat) : Device :=
  match d.lne.pp.use with
  | .start => (((d.ppFailed cause).raise 115).failStart sAUTH_FAIL 0).when d.lne.pp.wanted Device.writeback
  | .writeback => ((d.writebackFailed cause).when d.lne.pp.forResume Device.resumeTried).startWaiting

/-- The passport has answered CHALLENGE: the job start goes on, or fails (R240). -/
def Device.ppChallenged (d : Device) (payload : List Nat) : Device :=
  match d.ppChallengeFault payload with
  | some cause => d.ppFails cause
  | none =>
    let d := d.ppVerified payload
    let d := match d.start with
      | some (.passport, j) => d.afterPassport j
      | _ => d
    d.when d.lne.pp.wanted Device.writeback

/-- The passport has answered ADD_USAGE (R241, R242). A RESUME that waited for it is decided now. -/
def Device.ppUsed (d : Device) (payload : List Nat) : Device :=
  match d.ppUsageFault payload with
  | some cause => d.ppFails cause
  | none =>
    let resumes := d.lne.pp.forResume
    let d := d.writebackPassed payload
    (d.when resumes Device.resumeTried).startWaiting

/-- A response is read. No response at all is NO_DEVICE; a bad STATUS, length or CRC is FRAME_CRC (R238, R240). -/
def passportResponseEffect (bytes : List Byte) (d : Device) : Device :=
  let bs := bytes.map (fun b => b.toNat)
  if d.lne.pp.cmd == 0 then d
  else if bs.isEmpty then d.ppFails ppNoDevice
  else if d.lne.pp.cmd == 1 then
    match ppPayload bs 208 with
    | none => d.ppFails ppFrameCrc
    | some p =>
      let n := d.freshNonce
      ((d.nextFree).mapPp (fun q => { q with serial := p.take 16, makerKey := (p.drop 16).take 64, devKey := (p.drop 80).take 64,
                                             cert := p.drop 144, nonce := n })).ppSend 2 n
  else
    match ppPayload bs 1096 with
    | none => d.ppFails ppFrameCrc
    | some p => if d.lne.pp.cmd == 2 then d.ppChallenged p else d.ppUsed p

def execPassportResponse (bytes : List Byte) (s : State) := s.run (passportResponseEffect bytes)

/-- A poll: an address that stays unacknowledged for 500 ms is a timeout (R238). -/
def passportPollEffect (acknowledged : Bool) (d : Device) : Device :=
  if d.lne.pp.cmd == 0 || acknowledged || decide (d.clock < d.lne.pp.since + 400000000) then d else d.ppFails ppTimeout

def execPassportPoll (acknowledged : Bool) (s : State) := s.run (passportPollEffect acknowledged)

/-- Another try of a failed write-back, 10 ms later (R242). -/
def passportRetryEffect (d : Device) : Device :=
  match d.lne.pp.retryAt with
  | some t => if d.clock < t then d else d.ppAddUsage
  | none => d

def execPassportRetry (s : State) := s.run passportRetryEffect

end Sys2Proof.Machine
end

