-- ==== Sys2Proof/Machine/Recovery.lean ====
section
/-! DEFINITION. The loss of an island's clock (R436, R438) and what a sample of the supply and the temperatures starts
(R234, R330, R557, R558). -/
namespace Sys2Proof.Machine

/-- Code of REFCLK in RST_CAUSE.CLK_ISLAND (R459). -/
def clkREFCLK : Nat := 31
def fClkIslandLost : Fld := { off := RST_CAUSE, lo := 6, w := 5 }

/-- A core island or REFCLK is lost: the strobe gate closes, and a clock-loss reset follows. The module waits in BOOT until REFCLK and all
core PLLs are good, and option load then runs; event 3 stands when the event controller runs again (R438, R439). -/
def Device.coreClockLost (d : Device) (code : Nat) (ol : OptionLoad) : Device :=
  let d := (((d.moduleReset rcCLK).put fClkIslandLost code).setState stBoot).put fBootPhase 1
  { d with rst := { d.rst with wait := some (true, ol), refBad := d.rst.refBad || code == clkREFCLK } }.raise 3

/-- A mesh, Ethernet or PCIe island loses its clock: it is in reset, RST_CAUSE records it, and event 3 follows. -/
def Device.islandClockLost (d : Device) (k : Nat) : Device :=
  let d := (((d.setClkGood k false).setReleased k false).putFlag (bitAt RST_CAUSE rcCLK) true).put fClkIslandLost k
  let d := d.raise 3
  if k == 19 then
    let d := d.when ((List.range 4).any d.portIsUp) (fun d => d.raise 252)
    let d := d.each (List.range 4) (fun d p => d.when (d.portSt p != portRETIRED) (fun d => d.setPort p portDOWN))
    { d with msh := { d.msh with tried := Vector.replicate 4 none } }
  else if k == 20 then (d.each [0, 1] (fun d p => d.when (d.flag (fLink p)) (fun d => d.setLink p false))).setPtpState ptpDISABLED
  else d.perstReset

/-- An island loses its clock (R438). -/
def Device.clockLost (d : Device) (k : Nat) (ol : OptionLoad) : Device := if k < 19 then d.coreClockLost k ol else d.islandClockLost k

/-- CLK_GOOD falls, of an island or of REFCLK (none), where it was 1 (R436, R438). A view of REFCLK that is good ends a wait for it. -/
def clkGoodFallEffect (island : Option (Fin 22)) (v : ClockView) (ol : OptionLoad) (d : Device) : Device :=
  match island with
  | none =>
    if !refFails v then ({ d with rst := { d.rst with refBad := false } }).loadOn
    else if (List.range 20).any d.clkGood then d.coreClockLost clkREFCLK ol
    else { d with rst := { d.rst with refBad := true } }
  | some k => if !d.clkGood k || !clockFalls k v then d else d.clockLost k ol

def execClkGoodFall (island : Option (Fin 22)) (loss : ClockLoss) (s : State) := s.run (clkGoodFallEffect island loss.clock loss.load)

/-- A release falls due with a view of the island's clock: a fall of CLK_GOOD in this clock governs, a rise is seen by the next clock, and
a wait of option load may end (R437, R438, R456). What option load then finds after a loss is a free value. -/
def Device.withClock (d : Device) (k : Nat) (v : ClockView) (due : Device → Device) : Device :=
  if d.clkGood k && clockFalls k v then (d.clockLost k (Config.optionLoad d.freeCtr)).nextFree
  else if d.clkGood k then due d
  else (d.seeClock k v).loadOn

/-- An island's release falls due (R437, R441). -/
def islandReleaseEffect (k : Nat) (v : ClockView) (d : Device) : Device := d.withClock k v (fun d => d.releaseDue k)

def execIslandRelease (island : Fin 22) (clock : ClockView) (s : State) := s.run (islandReleaseEffect island clock)

/-- PERST_L rises: island 21 is released when its clock is good (R441). During option load this waits for its turn. -/
def perstLReleaseEffect (v : ClockView) (d : Device) : Device := islandReleaseEffect 21 v { d with rst := { d.rst with perstLow := false } }

def execPerstLRelease (clock : ClockView) (s : State) := s.run (perstLReleaseEffect clock)

/-- The 64 clocks of the oldest block reset end (R437, R451). -/
def blockResetReleaseEffect (v : ClockView) (d : Device) : Device :=
  match d.rst.blocks with
  | [] => d
  | k :: _ => d.withClock k v (fun d => d.blockEnds k)

def execBlockResetRelease (clock : ClockView) (s : State) := s.run (blockResetReleaseEffect clock)

/-- A sample: the registers and the five conditions; a critical temperature that sets is a stop request; the temperatures
may queue lanes for calibration and channels for a retune (R234, R330, R557, R558). -/
def hwSampleEffect (r : HwReading) (d : Device) : Device :=
  let was := d.flag (bitAt SYS_HW_STATUS 13)
  let alert := d.smbAlertLow
  let d := hwSampleCore r d
  let d := d.when (d.smbAlertLow != alert) (fun d => d.emit (.smbAlert d.smbAlertLow))
  let d := d.when (!was && d.flag (bitAt SYS_HW_STATUS 13)) (fun d => d.stopRequest cFAULT)
  d.calByTemp.each (List.range 4) (fun d c => d.when (d.retuneByTemp c) (fun d => d.startRetune c))

def execHwSample (reading : HwReading) (s : State) := s.run (hwSampleEffect reading)

end Sys2Proof.Machine
end

