-- ==== Sys2Proof/Machine/TableCommands.lean ====
section
/-! DEFINITION. The register and table commands: REG_WRITE, REG_READ, TABLE_LOAD, TABLE_COMMIT and TABLE_READ, with the
atomicity classes of their settings (R140, R143, R186, R188, R477 to R480, R486, R487). -/
namespace Sys2Proof.Machine

/-! ## The tables of R487 -/

/-- Entries and dwords of an entry. -/
def tableShape (t : Nat) : Nat × Nat :=
  match t with
  | 0 => (64, 2)
  | 1 => (1024, 1)
  | 2 => (256, 1)
  | 3 => (1, 1)
  | 4 => (262144, 2)
  | 5 => (2048, 1)
  | 6 => (2, 1)
  | 7 => (1, 1)
  | 8 => (2, 1)
  | _ => (256, 1)

/-- The BAR0 offsets of dword `i` of a table's shadow and active copies; the beam table and DOSE_MAX's active copy have
none of their own. -/
def tableOff (t i : Nat) : Nat × Nat :=
  match t with
  | 0 => (POOL_CLASS 0 + 4 * i, POOL_CLASS_ACT 0 + 4 * i)
  | 1 => (POOL_DFT i, POOL_DFT_ACT i)
  | 2 => (POOL_LAYER i, POOL_LAYER_ACT i)
  | 3 => (POOL_DOSE_MAX, POOL_DOSE_MAX)
  | 5 => (RIL_MASK i, RIL_MASK_ACT i)
  | 6 => (RIL_OFFS i, RIL_OFFS_ACT i)
  | 7 => (RIL_CODE_SCALE, RIL_CODE_SCALE_ACT)
  | 8 => (FLS_DELAY i, FLS_DELAY_ACT i)
  | _ => (MOT_SINE i, MOT_SINE_ACT i)

/-- The island that holds a table. -/
def tableUp (d : Device) (t : Nat) : Bool := if t == 4 then d.regUp (RIL_BT 0) else d.regUp (tableOff t 0).1

/-- Dword `i` of a table, from its shadow or its active copy; registers of an island that does not run read 0. -/
def Device.tableDword (d : Device) (t : Nat) (active : Bool) (i : Nat) : Nat :=
  if !tableUp d t then 0
  else if t == 4 then btWord (if active then d.ril.active else d.ril.shadow) i
  else if t == 3 && active then d.pool.doseMax
  else d.reg (if active then (tableOff t i).2 else (tableOff t i).1)

/-- Store dword `i` of a table's shadow. CTRL of a class keeps its PWEIGHT (R487). -/
def Device.setTableDword (d : Device) (t i v : Nat) : Device :=
  if !tableUp d t then d
  else if t == 4 then
    if d.shadowLocked 4 then d.writeLost 4 else { d with ril := { d.ril with shadow := setBt d.ril.shadow i (v % wordMod) } }
  else
    let off := (tableOff t i).1
    d.plainWrite .host off (if t == 0 && i % 2 == 1 then (v &&& 0x1FF) ||| (d.reg off &&& 0x3FE00) else v % wordMod)

/-! ## Commits -/

/-- A table is not free for a command: its commit is pending, held or being checked, or another command waits to commit it
(R480). -/
def Device.tableTaken (d : Device) (t : Nat) : Bool :=
  d.tableBusy t || (decide (4 ≤ t) && decide (t < 8) && bitOf d.ril.held (t - 4)) ||
    d.ulp.flights.any (fun f => match f.wait with | .tables ts _ _ => ts.contains t | _ => false)

/-- The shadow of a table takes no write of a command: it would be lost in this clock (R143, R188, R310), or the table is not free. -/
def Device.loadBars (d : Device) (t : Nat) : Bool := d.tableTaken t || d.switchedNow t

/-- Commit tables outside a job: they switch at once, after the check of MASK_RANGE; none where that fails (R187, R478,
R479). -/
def Device.commitNow (d : Device) (f : Flight) (ts : List Nat) : Device :=
  let ril := (ts.filter (fun t => decide (4 ≤ t) && decide (t < 8))).foldl (fun a t => a + 2 ^ (t - 4)) 0
  let d1 := if ril == 0 then d else writeRilCommit ril d
  if ril != 0 && bitOf ril 1 && (d.maskRange RIL_MASK).isSome then d1.complete f sBAD_PARAM detailDerived []
  else
    let d1 := d1.when (ts.any (fun t => decide (t < 4))) (fun d =>
      writePoolCommit ((ts.filter (fun t => decide (t < 4))).foldl (fun a t => a + 2 ^ t) 0) d)
    let d1 := (d1.when (ts.contains 8) (writeFlsCommit 1)).when (ts.contains 9) (writeSineCommit 1)
    d1.complete f sOK 0 []

/-- Commit tables in WRITING or HELD: a check first where rill tables other than CODE_SCALE alone take part, or one runs
already; then each table waits for its boundary, and the command for its last one, or it has completed DEFERRED (R186,
R478, R479). `cls`: the class of the boundary that a DEFERRED completion names. -/
def Device.commitLater (d : Device) (f : Flight) (ts : List Nat) (deferred : Bool) (cls : Nat) : Device :=
  let ril := (ts.filter (fun t => decide (4 ≤ t) && decide (t < 8))).foldl (fun a t => a + 2 ^ (t - 4)) 0
  if ril != 0 && (ril != 8 || d.ril.check.isSome) then writeRilCommit ril (d.await f (.tables ts true deferred))
  else
    let d := if deferred then
        ({ d with ulp := { d.ulp with deferredTables := d.ulp.deferredTables ++ ts } }).complete f sDEFERRED 0 [] cls
      else d.await f (.tables ts false false)
    (d.when (ril != 0) (writeRilCommit ril)).commitOthers ts

/-! ## REG_WRITE -/

/-- A pair of REG_WRITE with the place of its register. -/
structure RegPair where
  loc : RegLoc
  off : Nat
  value : Nat
deriving DecidableEq, Repr

/-- The bits of a dword that REG_WRITE may write: RW, RWS and SH fields (R486). -/
def RegLoc.writable (l : RegLoc) : Nat := l.masks.rw ||| l.masks.rws ||| l.masks.sh

/-- The dword of a pool class that holds PWEIGHT beside CORRECT. -/
def RegLoc.isClassCtrl (l : RegLoc) : Bool := l.row.base == POOL_CLASS 0 && l.dw == 1

/-- The pair has a field of class JOB. -/
def RegPair.isJob (p : RegPair) : Bool := p.loc.row.cls == .job || p.loc.isClassCtrl

/-- The pairs of the parameters, or the index of the first dword that fails (R486). -/
def readPairs (i : Nat) : List Nat → Except Nat (List RegPair)
  | off :: v :: rest =>
    match (locate off).filter (fun l => l.writable != 0) with
    | none => .error i
    | some l =>
      if wordMod ≤ v then .error (i + 1)
      else match readPairs (i + 2) rest with
        | .ok ps => .ok ({ loc := l, off := off, value := v } :: ps)
        | .error e => .error e
  | _ => .ok []

/-- The tables whose shadows the pairs write. -/
def pairTables (ps : List RegPair) : List Nat := (ps.filterMap (fun p => shadowTable p.loc.row.base)).eraseDups

/-- Write one pair now: the bits that REG_WRITE may write, as a BAR0 write. -/
def Device.writePair (d : Device) (p : RegPair) : Device := d.busWrite .host p.off (p.value &&& p.loc.writable)

/-- REG_WRITE (R478 to R480, R486). A field of class JOB is written in READY, deferred or refused in a job, and refused in
every other state. -/
def regWrite (d : Device) (f : Flight) : Device :=
  match readPairs 0 f.params with
  | .error i => d.complete f sBAD_PARAM i []
  | .ok ps =>
    let ts := pairTables ps
    let jobs := ps.filter (fun p => p.isJob)
    let early := decide (f.cls < clsStripe) && !ts.isEmpty
    if ts.any d.loadBars || (d.inJob && !f.deferOk && (!jobs.isEmpty || early)) || (!jobs.isEmpty && !d.inJob && !d.readyOk) then
      d.complete f sBUSY_JOB 0 []
    else if d.inJob then
      if 64 < d.ulp.deferred.length + jobs.length then d.complete f sNO_RESOURCE 0 []
      else
        let d := d.each (ps.filter (fun p => !p.isJob || p.loc.isClassCtrl)) Device.writePair
        let q := d.ulp.deferred ++ jobs.map (fun p => (p.off, p.value &&& p.loc.writable))
        let d := ({ d with ulp := { d.ulp with deferred := q } }).put fDeferWrites q.length
        let cls := if jobs.isEmpty then clsStripe else clsJob
        if ts.isEmpty then
          if jobs.isEmpty then d.complete f sOK 0 [] else d.complete f sDEFERRED 0 [] clsJob
        else d.commitLater f ts (early || !jobs.isEmpty) cls
    else
      let d := d.each ps Device.writePair
      if ts.isEmpty then d.complete f sOK 0 [] else d.commitNow f ts

def execRegWrite (tag : Byte) (s : State) := s.run (fun d => d.command tag.toNat 0x200 true [] regWrite)

/-- Read registers in order, as BAR0 reads. -/
def Device.readOffs (d : Device) : List Nat → List Nat × Device
  | [] => ([], d)
  | off :: rest =>
    let (v, d) := d.busRead off
    let (vs, d) := d.readOffs rest
    (v :: vs, d)

/-- REG_READ: result i is the register at offset i (R481, R530). -/
def regRead (d : Device) (f : Flight) : Device :=
  let (vs, d) := d.readOffs (f.params.drop 2)
  (d.putHostDwords (hostAddr (f.p 0) (f.p 1)) vs).complete f sOK 0 vs

def execRegRead (tag : Byte) (s : State) := s.run (fun d => d.command tag.toNat 0x201 true [] regRead)

/-! ## TABLE_LOAD, TABLE_COMMIT and TABLE_READ -/

/-- Write the shadow dwords of a table from dword `i` on. -/
def Device.loadTable (d : Device) (t i : Nat) : List Nat → Device
  | [] => d
  | v :: vs => (d.setTableDword t i v).loadTable t (i + 1) vs

/-- The commit of tables by a command, in a job or outside one. -/
def Device.commitTables (d : Device) (f : Flight) (ts : List Nat) : Device :=
  if d.inJob then d.commitLater f ts (decide (f.cls < clsStripe)) clsStripe else d.commitNow f ts

/-- The class of a command that commits tables stands in its way: below STRIPE in a job without DEFER_OK (R478). -/
def Device.classRefused (d : Device) (f : Flight) : Bool := d.inJob && decide (f.cls < clsStripe) && !f.deferOk

/-- The islands that a command on a table needs (R456). -/
def tableIslands (t : Nat) : List Nat := if t < 4 then [3] else if t < 8 then (List.range 8).map (fun g => 5 + g) else []

/-- TABLE_LOAD (R487): with COMMIT 0 the shadow alone changes. -/
def tableLoad (hostErr : Bool) (d : Device) (f : Flight) : Device :=
  let t := f.p 0 % 256
  let commit := bitOf (f.p 0) 8
  let (n, w) := tableShape t
  if 9 < t then d.complete f sBAD_PARAM 0 []
  else if n < f.p 1 + f.p 2 then d.complete f sBAD_PARAM 2 []
  else if d.loadBars t || !d.needs (tableIslands t) || (commit && d.classRefused f) then d.complete f sBUSY_JOB 0 []
  else if hostErr && f.p 2 != 0 then d.complete f sDATA_ERROR 0 []
  else
    let d := d.loadTable t (f.p 1 * w) (d.hostDwords (hostAddr (f.p 3) (f.p 4)) (f.p 2 * w))
    if commit then d.commitTables f [t] else d.complete f sOK 0 []

def execTableLoad (tag : Byte) (hostErr : Bool) (s : State) :=
  s.run (fun d => d.command tag.toNat 0x210 d.runOk [0x1FF] (tableLoad hostErr))

/-- TABLE_COMMIT: every table named (R481). -/
def tableCommit (d : Device) (f : Flight) : Device :=
  let ts := (List.range 10).filter (fun t => bitOf (f.p 0) t)
  if ts.isEmpty then d.complete f sOK 0 []
  else if ts.any d.tableTaken || !d.needs (ts.flatMap tableIslands) || d.classRefused f then d.complete f sBUSY_JOB 0 []
  else d.commitTables f ts

def execTableCommit (tag : Byte) (s : State) := s.run (fun d => d.command tag.toNat 0x211 d.runOk [0x3FF] tableCommit)

/-- TABLE_READ: in every state but in Frost, its entry and Thaw (R481, R530). -/
def tableRead (d : Device) (f : Flight) : Device :=
  let t := f.p 2
  let (n, w) := tableShape t
  if 9 < t then d.complete f sBAD_PARAM 2 []
  else if f.outside 3 1 then d.complete f sBAD_PARAM 3 []
  else if decide (n < f.p 4 + f.p 5) || decide (4095 < f.p 5 * w) then d.complete f sBAD_PARAM 5 []
  else if !d.needs (tableIslands t) then d.complete f sBUSY_JOB 0 []
  else
    let vs := (List.range (f.p 5 * w)).map (fun i => d.tableDword t (f.p 3 == 1) (f.p 4 * w + i))
    (d.putHostDwords (hostAddr (f.p 0) (f.p 1)) vs).complete f sOK 0 vs

def execTableRead (tag : Byte) (s : State) := s.run (fun d => d.command tag.toNat 0x212 d.runs [] tableRead)

end Sys2Proof.Machine
end

