-- ==== Sys2Proof/Machine/Dispatch.lean ====
section
/-! DEFINITION. The dispatch: one arm per constructor of Instr, each a direct call of that command's meaning. -/
namespace Sys2Proof.Machine

def exec (i : Instr) (s : State) : Host.Outcome State Fault Refusal :=
  match i with
  | .powerGood power => Sys2Proof.Machine.execPowerGood power s
  | .inputOutOfRange supply => Sys2Proof.Machine.execInputOutOfRange s supply
  | .islandRelease island clock => Sys2Proof.Machine.execIslandRelease island clock s
  | .startUpComplete failed readyMs => Sys2Proof.Machine.execStartUpComplete failed readyMs s
  | .resetL lowSamples => Sys2Proof.Machine.execResetL lowSamples s
  | .resetLRelease rise => Sys2Proof.Machine.execResetLRelease rise s
  | .rstSoft value ol => Sys2Proof.Machine.execRstSoft value ol s
  | .watchdogExpiry ol => Sys2Proof.Machine.execWatchdogExpiry ol s
  | .clkGoodFall island loss => Sys2Proof.Machine.execClkGoodFall island loss s
  | .perstL => Sys2Proof.Machine.execPerstL s
  | .perstLRelease clock => Sys2Proof.Machine.execPerstLRelease clock s
  | .rstRelease hi value => Sys2Proof.Machine.execRstRelease hi value s
  | .rstBlock value => Sys2Proof.Machine.execRstBlock value s
  | .blockResetRelease clock => Sys2Proof.Machine.execBlockResetRelease clock s
  | .registerWrite off value => Sys2Proof.Machine.execRegisterWrite off value s
  | .wideReadCapture off => Sys2Proof.Machine.execWideReadCapture off s
  | .readClear off => Sys2Proof.Machine.execReadClear off s
  | .bar0AccessError write off size => Sys2Proof.Machine.execBar0AccessError write off size s
  | .unmappedAccess write off => Sys2Proof.Machine.execUnmappedAccess write off s
  | .queueEnable q => Sys2Proof.Machine.execQueueEnable q s
  | .queueDisable q => Sys2Proof.Machine.execQueueDisable q s
  | .sqTail q value => Sys2Proof.Machine.execSqTail q value s
  | .cqHead q value => Sys2Proof.Machine.execCqHead q value s
  | .packetFetch q hostErr => Sys2Proof.Machine.execPacketFetch q hostErr s
  | .completionWrite q => Sys2Proof.Machine.execCompletionWrite q s
  | .nop tag => Sys2Proof.Machine.execNop tag s
  | .identify tag => Sys2Proof.Machine.execIdentify tag s
  | .systemReset tag ol => Sys2Proof.Machine.execSystemReset tag ol s
  | .frost tag => Sys2Proof.Machine.execFrost tag s
  | .setStrict tag verified => Sys2Proof.Machine.execSetStrict tag verified s
  | .setAnchor tag verified => Sys2Proof.Machine.execSetAnchor tag verified s
  | .jobStart tag hostErr => Sys2Proof.Machine.execJobStart tag hostErr s
  | .pause tag => Sys2Proof.Machine.execPause tag s
  | .resume tag => Sys2Proof.Machine.execResume tag s
  | .abort tag => Sys2Proof.Machine.execAbort tag s
  | .libraryLoad tag slot hostErr => Sys2Proof.Machine.execLibraryLoad tag slot hostErr s
  | .compress tag hostErr => Sys2Proof.Machine.execCompress tag hostErr s
  | .regWrite tag => Sys2Proof.Machine.execRegWrite tag s
  | .regRead tag => Sys2Proof.Machine.execRegRead tag s
  | .tableLoad tag hostErr => Sys2Proof.Machine.execTableLoad tag hostErr s
  | .tableCommit tag => Sys2Proof.Machine.execTableCommit tag s
  | .tableRead tag => Sys2Proof.Machine.execTableRead tag s
  | .laneCal tag => Sys2Proof.Machine.execLaneCal tag s
  | .laneRetrain tag => Sys2Proof.Machine.execLaneRetrain tag s
  | .rillForce tag => Sys2Proof.Machine.execRillForce tag s
  | .stuckAck tag => Sys2Proof.Machine.execStuckAck tag s
  | .headRestore tag => Sys2Proof.Machine.execHeadRestore tag s
  | .move tag => Sys2Proof.Machine.execMove tag s
  | .moveSettled => Sys2Proof.Machine.execMoveSettled s
  | .layerGoto tag => Sys2Proof.Machine.execLayerGoto tag s
  | .motionStop tag => Sys2Proof.Machine.execMotionStop tag s
  | .memMarkClear tag => Sys2Proof.Machine.execMemMarkClear tag s
  | .pageRetire tag => Sys2Proof.Machine.execPageRetire tag s
  | .dmaRun tag => Sys2Proof.Machine.execDmaRun tag s
  | .checkRun tag => Sys2Proof.Machine.execCheckRun tag s
  | .todSet tag => Sys2Proof.Machine.execTodSet tag s
  | .ptpStep tag => Sys2Proof.Machine.execPtpStep tag s
  | .serverSet tag => Sys2Proof.Machine.execServerSet tag s
  | .setColumn tag verified => Sys2Proof.Machine.execSetColumn tag verified s
  | .meshRetrain tag => Sys2Proof.Machine.execMeshRetrain tag s
  | .logRead tag => Sys2Proof.Machine.execLogRead tag s
  | .counterSnapshot tag => Sys2Proof.Machine.execCounterSnapshot tag s
  | .blockReset tag => Sys2Proof.Machine.execBlockReset tag s
  | .passportPoll acknowledged => Sys2Proof.Machine.execPassportPoll acknowledged s
  | .passportResponse bytes => Sys2Proof.Machine.execPassportResponse bytes s
  | .passportRetry => Sys2Proof.Machine.execPassportRetry s
  | .runInStart => Sys2Proof.Machine.execRunInStart s
  | .encoderEdge ch a b => Sys2Proof.Machine.execEncoderEdge ch a b s
  | .strobeRise => Sys2Proof.Machine.execStrobeRise s
  | .strobeFall => Sys2Proof.Machine.execStrobeFall s
  | .stitchStopHeld => Sys2Proof.Machine.execStitchStopHeld s
  | .abortComplete => Sys2Proof.Machine.execAbortComplete s
  | .passEnd => Sys2Proof.Machine.execPassEnd s
  | .layerReady input => Sys2Proof.Machine.execLayerReady s input
  | .motLayerGo value => Sys2Proof.Machine.execMotLayerGo value s
  | .layerMoveComplete k => Sys2Proof.Machine.execLayerMoveComplete k s
  | .servoBoundary => Sys2Proof.Machine.execServoBoundary s
  | .backupComplete => Sys2Proof.Machine.execBackupComplete s
  | .indexLatch z => Sys2Proof.Machine.execIndexLatch z s
  | .probeLatch p input => Sys2Proof.Machine.execProbeLatch p input s
  | .headLos ch => Sys2Proof.Machine.execHeadLos ch s
  | .headDivergence yAxis => Sys2Proof.Machine.execHeadDivergence yAxis s
  | .headFail value => Sys2Proof.Machine.execHeadFail value s
  | .restore value => Sys2Proof.Machine.execRestore value s
  | .timeCompareArm k value => Sys2Proof.Machine.execTimeCompareArm k value s
  | .timeCompareFire k => Sys2Proof.Machine.execTimeCompareFire k s
  | .positionCompareArm k value => Sys2Proof.Machine.execPositionCompareArm k value s
  | .flsCommit value => Sys2Proof.Machine.execFlsCommit value s
  | .beamPermitFall lowNs => Sys2Proof.Machine.execBeamPermitFall lowNs s
  | .beamPermitRise => Sys2Proof.Machine.execBeamPermitRise s
  | .sineTableCommit value => Sys2Proof.Machine.execSineTableCommit value s
  | .layerAxisGoto k value => Sys2Proof.Machine.execLayerAxisGoto k value s
  | .streamOpen slot raster => Sys2Proof.Machine.execStreamOpen slot raster s
  | .blockFetched slot srcErr => Sys2Proof.Machine.execBlockFetched slot srcErr s
  | .decodeStart slot dec => Sys2Proof.Machine.execDecodeStart slot dec s
  | .blockDecoded dec parityError => Sys2Proof.Machine.execBlockDecoded dec parityError s
  | .blockRelease slot => Sys2Proof.Machine.execBlockRelease slot s
  | .compressBlock e srcErr => Sys2Proof.Machine.execCompressBlock e srcErr s
  | .engineContinue e => Sys2Proof.Machine.execEngineContinue e s
  | .compressComplete e => Sys2Proof.Machine.execCompressComplete e s
  | .spillUsedRelease n value => Sys2Proof.Machine.execSpillUsedRelease n value s
  | .cascadeRecord engine raster engineError => Sys2Proof.Machine.execCascadeRecord engine raster engineError s
  | .tallyResume => Sys2Proof.Machine.execTallyResume s
  | .tallyPassComplete => Sys2Proof.Machine.execTallyPassComplete s
  | .rasterPassStart => Sys2Proof.Machine.execRasterPassStart s
  | .poolCorrectionStart => Sys2Proof.Machine.execPoolCorrectionStart s
  | .poolCorrectionComplete ringError stripError => Sys2Proof.Machine.execPoolCorrectionComplete ringError stripError s
  | .poolCommit value => Sys2Proof.Machine.execPoolCommit value s
  | .tileRasterStart basin => Sys2Proof.Machine.execTileRasterStart basin s
  | .tileCheck basin upset tallyErr => Sys2Proof.Machine.execTileCheck basin upset tallyErr s
  | .tileReTally band tile upset => Sys2Proof.Machine.execTileReTally band tile upset s
  | .bandCommit => Sys2Proof.Machine.execBandCommit s
  | .readerRowWrite uncorrectable => Sys2Proof.Machine.execReaderRowWrite uncorrectable s
  | .cisternRefillComplete line uncorrectable => Sys2Proof.Machine.execCisternRefillComplete line uncorrectable s
  | .cisternScrub errors => Sys2Proof.Machine.execCisternScrub errors s
  | .rillFlashStart slot cells fault => Sys2Proof.Machine.execRillFlashStart slot cells fault s
  | .spareLoadDone g => Sys2Proof.Machine.execSpareLoadDone g s
  | .rillFlashDone slot => Sys2Proof.Machine.execRillFlashDone slot s
  | .rillBoundary => Sys2Proof.Machine.execRillBoundary s
  | .rilCommit value => Sys2Proof.Machine.execRilCommit value s
  | .commitCheckDone => Sys2Proof.Machine.execCommitCheckDone s
  | .rilGrpForce g value => Sys2Proof.Machine.execRilGrpForce g value s
  | .rilStuckAck value => Sys2Proof.Machine.execRilStuckAck value s
  | .frameSend lane => Sys2Proof.Machine.execFrameSend lane s
  | .ackBlock lane block => Sys2Proof.Machine.execAckBlock lane block s
  | .ackTimeout group fseq => Sys2Proof.Machine.execAckTimeout group fseq s
  | .replaySend lane => Sys2Proof.Machine.execReplaySend lane s
  | .flushTimeout group => Sys2Proof.Machine.execFlushTimeout group s
  | .statusBlock lane block => Sys2Proof.Machine.execStatusBlock lane block s
  | .statusStale => Sys2Proof.Machine.execStatusStale s
  | .marker lane idles codeword => Sys2Proof.Machine.execMarker lane idles codeword s
  | .los lane => Sys2Proof.Machine.execLos lane s
  | .lol lane => Sys2Proof.Machine.execLol lane s
  | .laneRetrainAttempt lane => Sys2Proof.Machine.execLaneRetrainAttempt lane s
  | .laneTrainingDone lane result => Sys2Proof.Machine.execLaneTrainingDone lane result s
  | .retrain lane => Sys2Proof.Machine.execRetrain lane s
  | .calNow lane => Sys2Proof.Machine.execCalNow lane s
  | .calibrationStart lane => Sys2Proof.Machine.execCalibrationStart lane s
  | .calibrationComplete lane scan eyes => Sys2Proof.Machine.execCalibrationComplete lane scan eyes s
  | .loop lane value => Sys2Proof.Machine.execLoop lane value s
  | .dramRequest req la access errors => Sys2Proof.Machine.execDramRequest req la access errors s
  | .lineRecoveryDone la stillBad => Sys2Proof.Machine.execLineRecoveryDone la stillBad s
  | .refresh ch => Sys2Proof.Machine.execRefresh ch s
  | .mr4Read ch hot => Sys2Proof.Machine.execMr4Read ch hot s
  | .selfRefreshEntry ch => Sys2Proof.Machine.execSelfRefreshEntry ch s
  | .channelTrainingDone ch result => Sys2Proof.Machine.execChannelTrainingDone ch result s
  | .retuneCheck ch drift64 => Sys2Proof.Machine.execRetuneCheck ch drift64 s
  | .retuneDone ch => Sys2Proof.Machine.execRetuneDone ch s
  | .fillComplete => Sys2Proof.Machine.execFillComplete s
  | .patrolScrub errors => Sys2Proof.Machine.execPatrolScrub errors s
  | .memLogClear value => Sys2Proof.Machine.execMemLogClear value s
  | .dmaGo n value => Sys2Proof.Machine.execDmaGo n value s
  | .dmaPoke n value => Sys2Proof.Machine.execDmaPoke n value s
  | .dmaStop n value => Sys2Proof.Machine.execDmaStop n value s
  | .dmaContinue n value => Sys2Proof.Machine.execDmaContinue n value s
  | .dmaAbort n value => Sys2Proof.Machine.execDmaAbort n value s
  | .dmaEnd n hostErr => Sys2Proof.Machine.execDmaEnd n hostErr s
  | .dmaMove n beats => Sys2Proof.Machine.execDmaMove n beats s
  | .dmaHostTimeout n => Sys2Proof.Machine.execDmaHostTimeout n s
  | .dmaLoop n => Sys2Proof.Machine.execDmaLoop n s
  | .dmaWait n => Sys2Proof.Machine.execDmaWait n s
  | .dmaWaitEnd n => Sys2Proof.Machine.execDmaWaitEnd n s
  | .dmaSignal n => Sys2Proof.Machine.execDmaSignal n s
  | .dmaLink n => Sys2Proof.Machine.execDmaLink n s
  | .dmaFlagSet value => Sys2Proof.Machine.execDmaFlagSet value s
  | .checkStart u value => Sys2Proof.Machine.execCheckStart u value s
  | .checkAbort u value => Sys2Proof.Machine.execCheckAbort u value s
  | .checkDone u => Sys2Proof.Machine.execCheckDone u s
  | .linkChange p up los => Sys2Proof.Machine.execLinkChange p up los s
  | .ethFrame p frame => Sys2Proof.Machine.execEthFrame p frame s
  | .arpRefresh p => Sys2Proof.Machine.execArpRefresh p s
  | .portCtrl p value => Sys2Proof.Machine.execPortCtrl p value s
  | .ndfReq slot => Sys2Proof.Machine.execNdfReq slot s
  | .data p payload => Sys2Proof.Machine.execData p payload s
  | .err p payload => Sys2Proof.Machine.execErr p payload s
  | .reqTmo slot seq => Sys2Proof.Machine.execReqTmo slot seq s
  | .gapTmo slot seq => Sys2Proof.Machine.execGapTmo slot seq s
  | .busyRetry slot seq => Sys2Proof.Machine.execBusyRetry slot seq s
  | .announce hdr info => Sys2Proof.Machine.execAnnounce hdr info s
  | .announceReceiptTimeout => Sys2Proof.Machine.execAnnounceReceiptTimeout s
  | .ptpSync hdr twoStep t1 macRx correction seqId => Sys2Proof.Machine.execPtpSync hdr twoStep t1 macRx correction seqId s
  | .followUp hdr t1 correction seqId => Sys2Proof.Machine.execFollowUp hdr t1 correction seqId s
  | .delayReq macTx => Sys2Proof.Machine.execDelayReq macTx s
  | .delayResp hdr t4 correction seqId logInterval => Sys2Proof.Machine.execDelayResp hdr t4 correction seqId logInterval s
  | .holdover => Sys2Proof.Machine.execHoldover s
  | .stepNow => Sys2Proof.Machine.execStepNow s
  | .set => Sys2Proof.Machine.execSet s
  | .ptpCfg value => Sys2Proof.Machine.execPtpCfg value s
  | .join origin words => Sys2Proof.Machine.execJoin origin words s
  | .joinTimeout => Sys2Proof.Machine.execJoinTimeout s
  | .start msg => Sys2Proof.Machine.execStart msg s
  | .report origin words => Sys2Proof.Machine.execReport origin words s
  | .run port route mseq body => Sys2Proof.Machine.execRun port route mseq body s
  | .stopReq port route words => Sys2Proof.Machine.execStopReq port route words s
  | .stop port route words => Sys2Proof.Machine.execStop port route words s
  | .rest msg => Sys2Proof.Machine.execRest msg s
  | .meshResume msg => Sys2Proof.Machine.execMeshResume msg s
  | .resumeAck origin words => Sys2Proof.Machine.execResumeAck origin words s
  | .meshAbort msg => Sys2Proof.Machine.execMeshAbort msg s
  | .meshEnd msg => Sys2Proof.Machine.execMeshEnd msg s
  | .meshPause msg => Sys2Proof.Machine.execMeshPause msg s
  | .time port route mseq body => Sys2Proof.Machine.execTime port route mseq body s
  | .timeSend => Sys2Proof.Machine.execTimeSend s
  | .timeReq msg => Sys2Proof.Machine.execTimeReq msg s
  | .timeResp port route words => Sys2Proof.Machine.execTimeResp port route words s
  | .evt origin words => Sys2Proof.Machine.execEvt origin words s
  | .beat msg => Sys2Proof.Machine.execBeat msg s
  | .meshPortDown p cause => Sys2Proof.Machine.execMeshPortDown p cause s
  | .meshPortRetrainTimer p => Sys2Proof.Machine.execMeshPortRetrainTimer p s
  | .meshPortUp p peer => Sys2Proof.Machine.execMeshPortUp p peer s
  | .mshPortRetrain p value => Sys2Proof.Machine.execMshPortRetrain p value s
  | .cutOff => Sys2Proof.Machine.execCutOff s
  | .workerLost c => Sys2Proof.Machine.execWorkerLost c s
  | .lockstepMismatch pair ol => Sys2Proof.Machine.execLockstepMismatch pair ol s
  | .takeoverComplete => Sys2Proof.Machine.execTakeoverComplete s
  | .retestComplete pair passed => Sys2Proof.Machine.execRetestComplete pair passed s
  | .standbyLoadDone pair loaded => Sys2Proof.Machine.execStandbyLoadDone pair loaded s
  | .errlogClear value => Sys2Proof.Machine.execErrlogClear value s
  | .evtDoorbell value => Sys2Proof.Machine.execEvtDoorbell value s
  | .coreDelivery => Sys2Proof.Machine.execCoreDelivery s
  | .serviceEnd => Sys2Proof.Machine.execServiceEnd s
  | .moderationTimer v => Sys2Proof.Machine.execModerationTimer v s
  | .evtHold value => Sys2Proof.Machine.execEvtHold value s
  | .pmeTurnOff => Sys2Proof.Machine.execPmeTurnOff s
  | .frostCommit => Sys2Proof.Machine.execFrostCommit s
  | .wake source widthNs => Sys2Proof.Machine.execWake source widthNs s
  | .thaw value => Sys2Proof.Machine.execThaw value s
  | .thawComplete => Sys2Proof.Machine.execThawComplete s
  | .monHelp => Sys2Proof.Machine.execMonHelp s
  | .monId => Sys2Proof.Machine.execMonId s
  | .monState => Sys2Proof.Machine.execMonState s
  | .monRd off n => Sys2Proof.Machine.execMonRd off n s
  | .monLog => Sys2Proof.Machine.execMonLog s
  | .monEvt => Sys2Proof.Machine.execMonEvt s
  | .monCtr b => Sys2Proof.Machine.execMonCtr b s
  | .monBaud rate => Sys2Proof.Machine.execMonBaud rate s
  | .monLock => Sys2Proof.Machine.execMonLock s
  | .monUnlock level => Sys2Proof.Machine.execMonUnlock level s
  | .monWr off value => Sys2Proof.Machine.execMonWr off value s
  | .monRing sector => Sys2Proof.Machine.execMonRing sector s
  | .monThaw => Sys2Proof.Machine.execMonThaw s
  | .monDr la n => Sys2Proof.Machine.execMonDr la n s
  | .monDw g w => Sys2Proof.Machine.execMonDw g w s
  | .monReset ol => Sys2Proof.Machine.execMonReset ol s
  | .monBlkreset island => Sys2Proof.Machine.execMonBlkreset island s
  | .monitorBreak lowMs => Sys2Proof.Machine.execMonitorBreak lowMs s
  | .monitorIdleTimeout => Sys2Proof.Machine.execMonitorIdleTimeout s
  | .pmcSnap value => Sys2Proof.Machine.execPmcSnap value s
  | .pmcClear value => Sys2Proof.Machine.execPmcClear value s
  | .pmcFreeze value => Sys2Proof.Machine.execPmcFreeze value s
  | .psbClear value => Sys2Proof.Machine.execPsbClear value s
  | .hwSample reading => Sys2Proof.Machine.execHwSample reading s
  | .smbusIdentify pecOk => Sys2Proof.Machine.execSmbusIdentify pecOk s
  | .smbusRead off pecOk => Sys2Proof.Machine.execSmbusRead off pecOk s
  | .headLosClear ch => Sys2Proof.Machine.execHeadLosClear ch s
  | .blockCrcError lane block => Sys2Proof.Machine.execBlockCrcError lane block s
  | .meshBlockErr p codeword => Sys2Proof.Machine.execMeshBlockErr p codeword s
  | .msixUnmask what => Sys2Proof.Machine.execMsixUnmask what s
  | .pcieL0Entry => Sys2Proof.Machine.execPcieL0Entry s
  | .monBadLine length => Sys2Proof.Machine.execMonBadLine length s

end Sys2Proof.Machine
end

