-- ==== Sys2Proof/Machine/Tick.lean ====
section
/-! DEFINITION. One tick of 1.25 ns: POS_TICK and the fault clock, the time of day, and the counters of clocks (R267, R387,
R496, R538). -/
namespace Sys2Proof.Machine

/-- The time of day wraps at 2^48 seconds (R387). -/
def todMod : Nat := 281474976710656 * todSecond

/-- The time of day in the next tick: a host set loads it; otherwise it advances by 1.25 ns × (1 + PTP_RATE × 10^-9), and a step
moves it (R387, R393, R395). -/
def Device.todTick (d : Device) : Device :=
  let v := (81920 * (1000000000 + d.rate)).toNat + d.todRem
  let next := (((d.tod + v / 1000000000 : Nat) : Int) + d.ptp.step).toNat % todMod
  { d.mapPtp (fun p => { p with load := none, step := 0 }) with tod := d.ptp.load.getD next, todRem := if d.ptp.load.isSome then 0 else v % 1000000000 }

/-! ## Counters of clocks -/

/-- The islands whose clock a counter block counts, and their frequency in kHz (R435, R538). -/
def blockClock (b : Nat) : List Nat × Nat :=
  if b == 1 || b == 2 then ([1], 1000000)
  else if b == 3 then ([2], 1600000)
  else if b == 4 || b == 5 then ([3], 1600000)
  else if b == 6 then ([4], 1200000)
  else if b == 7 then ([5, 6, 7, 8, 9, 10, 11, 12], 1200000)
  else if b == 8 then ([18], 1328125)
  else if b == 9 || b == 10 then ([13], 800000)
  else if decide (11 ≤ b) && decide (b ≤ 14) then ([b + 3], 1600000)
  else if b == 17 then ([20], 1328125)
  else if b == 18 then ([19], 1328125)
  else ([0], 1000000)

/-- The clocks of a frequency in kHz that fall in the tick after `t` ticks. -/
def clocksIn (khz t : Nat) : Nat := (t + 1) * khz / 800000 - t * khz / 800000

/-- A beam group's next frame has its codes, and no credit (R32, R220). -/
def Device.laneHeld (d : Device) (n : Nat) : Bool :=
  d.laneSt n == laneActive && (d.carried n).any (fun g =>
    decide (d.get fArrayDepth ≤ d.creditsUsed g) && (d.groupCodes g (d.nextSend g)).isSome)

/-- The producer of a block is held at its weir (R32, R538). -/
def Device.weirHeld (d : Device) (b : Nat) : Bool :=
  d.inJob && d.job.any (fun j =>
    if b == 3 then d.csc.raster.isNone && decide (d.csc.nextStripe < j.stripes.length) && decide (d.csc.nextLayer < j.layers) && !d.rasterReady j
    else if b == 4 then d.csc.raster.any (fun pr => d.csc.tiles.any (fun t =>
      t.state == .binning && decide (t.band < d.csc.bands) && !d.bandFits j (j.stripeAt pr.stripe).len t.band))
    else if b == 6 then (d.nextRow j).isNone && d.cst.runs.any (fun r => d.runServes j r)
    else if b == 7 then (List.range 256).any (fun s => decide (8 ≤ d.slotLevel s))
    else if b == 8 then (List.range 72).any d.laneHeld
    else false)

/-- The units of a block that are not retired, as whether each is busy (R538; which work counts as busy is the model's). -/
def Device.unitsBusy (d : Device) (b : Nat) : List Bool :=
  if b == 0 then [!d.ulp.flights.isEmpty]
  else if b == 1 then ((List.range 8).filter (fun k => !d.flag (fDecRetired k))).map (fun k =>
    d.spr.slots.toList.any (fun s => s.blocks.any (fun x => match x.stage with | .decoding dec _ => dec == k | _ => false)))
  else if b == 2 then (d.spr.engines.toList.filter (fun x => !x.retired)).map (fun x => x.running)
  else if b == 3 then ((List.range 16).filter (fun e => !d.engineRetired e)).map (fun _ =>
    d.csc.tally.any (fun p => !p.recs.isEmpty) || d.csc.raster.any (fun p => !p.recs.isEmpty))
  else if b == 4 then ((List.range 32).filter d.basinIn).map d.basinBusy
  else if b == 5 then [d.pool.corr.isSome]
  else if b == 6 then [!d.cst.refill.isEmpty]
  else if b == 7 then ((List.range 264).filter (fun r => !d.flag (fRillRetired (r / 33) (r % 33)))).map (fun r => d.ril.jobs.any (fun x => x.rill == r))
  else if b == 8 then ((List.range 72).filter (fun n => d.laneSt n != laneRetired)).map (fun n => !d.laneFree n)
  else if b == 9 then [d.fls.decided.isSome || d.fls.high.isSome]
  else if b == 10 then [!d.mot.planX.isEmpty || !d.mot.planY.isEmpty, d.mot.layer.toList.any (fun m => m.any (fun x => x.running))]
  else if decide (11 ≤ b) && decide (b ≤ 14) then [d.mem.recovering.any (fun p => chanOf p.1 == b - 11)]
  else if b == 15 then (List.range 32).map (fun n => d.dmaState n == dmaRUNNING)
  else if b == 16 then (List.range 4).map d.chkBusy
  else if b == 17 then (List.range 2).map (fun p => d.eth.fetches.any (fun f => f.port == p))
  else if b == 18 then ((List.range 4).filter (fun p => d.portSt p != portRETIRED)).map (fun p => d.portSt p == portTRAINING)
  else [d.evt.serving.isSome]

/-- A condition of R538 holds in a block. -/
def Device.condHolds (d : Device) (b code : Nat) : Bool :=
  let busy := d.unitsBusy b
  if code == 1 then true
  else if code == 2 then d.weirHeld b
  else if code == 7 then busy.any id
  else if code == 8 then !busy.isEmpty && busy.all id
  else false

/-- A counter counts what a tick holds of its condition: in level mode the clocks in which it holds, in edge mode its rise
(R538). -/
def Device.countCond (d : Device) (b k : Nat) : Device :=
  let code := d.reg (PMC_C_CFG b k) % 256
  let n := clocksIn (blockClock b).2 d.clock
  let up := (blockClock b).1.any d.unitUp && d.condHolds b code
  let was := d.conds.contains (b, code)
  let m := if d.flag (bitAt (PMC_C_CFG b k) 16) then b2n (up && !was) else if up then n else 0
  if m == 0 then d else pmcAdd 8 b k m d

/-- The counters that count a condition. -/
def Device.condCounters (d : Device) : List (Nat × Nat) :=
  pmcAll.filter (fun (x : Nat × Nat) =>
    let code := d.reg (PMC_C_CFG x.1 x.2) % 256
    (code == 1 || code == 2 || code == 7 || code == 8) && pmcSelects d x.1 x.2 code)

/-- The counters of clocks over one tick. -/
def Device.countClocks (d : Device) : Device :=
  if d.flag (bitAt PMC_CTRL 15) then { d with conds := [] }
  else
    let cs := d.condCounters
    let now := (cs.map (fun (x : Nat × Nat) => (x.1, d.reg (PMC_C_CFG x.1 x.2) % 256))).filter (fun (x : Nat × Nat) =>
      (blockClock x.1).1.any d.unitUp && d.condHolds x.1 x.2)
    { d.each cs (fun d (x : Nat × Nat) => d.countCond x.1 x.2) with conds := now }

/-- The clock ends: what another stimulus of the same clock could still have forestalled takes effect (R237, R271, R364, R368,
R396). -/
def Device.clockEnds (d : Device) : Device := d.chkEnds.dmaStops.calHandovers.decideMet.syncEnds

/-- One tick. The cross-checks and the conditions of a run are noted through the tick that ends (R263, R296), and the position
island judges the one that begins. The lanes and the mesh ports send the blocks of a slot that begins in it (R209, R410). Requests that module memory could not serve are tried again (R326), and journal records are programmed (R448). No tick is counted before option load releases the position island (R445). -/
def Device.tickOnce (d : Device) : Device :=
  if !d.released 13 then d
  else
    let d := (((d.clockEnds.countClocks.lineTick).meshTick).countApart).noteRun
    let d := { d.todTick with clock := (d.clock + 1) % 18446744073709551616, atTick := d.todTick.regs }
    let d := d.when (!d.lne.moves.isEmpty) Device.movesDue
    let d := d.when (!d.rst.jqueue.isEmpty) Device.journalTick
    let d := d.when (d.noPass && !d.flag fAllServed) Device.stopEarly
    ((d.when (!d.mem.held.isEmpty) Device.drain).when (d.dma.chans.toList.any (fun c => c.waits)) Device.dmaRetry).positionTick

end Sys2Proof.Machine
end

