-- ==== Sys2Proof/WellFormed.lean ====
section
/-! DEFINITION. Which commands the module's interface can carry: aligned registers, blocks and frames of the sizes that the
links allow, and fields within their widths. `exec` gives every command a meaning, well-formed or not. -/
namespace Sys2Proof

/-- The lines of the Cistern (R107). -/
def cisternLines : Nat := 1572864

/-- The largest NDF datagram: a frame of 9,216 bytes without its Ethernet, IPv4 and UDP headers and its FCS (R374, R375). -/
def ndfMax : Nat := 9170

/-- A lane's training result within the fields of R229 and R230. -/
def LaneTraining.wf (r : LaneTraining) : Bool := decide (r.port < 256) && decide (r.depth < 32)

/-- Each device of each codeword has one error symbol at most, and it differs somewhere (R323). -/
def symbolsWf (es : List SymbolError) : Bool :=
  decide ((es.map (fun e => (e.codeword, e.device))).Nodup) && es.all (fun e => e.diff != 0)

/-- A partial write names a word once. -/
def DramAccess.wf : DramAccess → Bool
  | .read => true
  | .writeLine _ => true
  | .writeWords ws => decide ((ws.map Prod.fst).Nodup)

/-- Errors of lines that the Cistern has, each pair once. -/
def cellsWf (es : List CellError) : Bool :=
  es.all (fun e => decide (e.line < cisternLines)) && decide ((es.map (fun e => (e.line, e.pair))).Nodup)

/-- A PTP header within the widths of IEEE 1588. -/
def PtpHeader.wf (h : PtpHeader) : Bool :=
  decide (h.version < 16) && decide (h.minor < 16) && decide (h.sdo < 4096) && decide (h.domain < 256)

/-- An Announce data set within the widths of IEEE 1588. -/
def AnnounceInfo.wf (i : AnnounceInfo) : Bool :=
  decide (i.priority1 < 256) && decide (i.clockClass < 256) && decide (i.accuracy < 256) && decide (i.variance < 65536) &&
    decide (i.priority2 < 256) && decide (i.stepsRemoved < 65536) && decide (-128 ≤ i.logInterval) && decide (i.logInterval < 128)

/-- The command can arrive over the module's interfaces. -/
def Instr.wf : Instr → Bool
  | .powerGood p => decide (p.supply.lowMv ≤ p.supply.highMv)
  | .inputOutOfRange v => decide (v.lowMv ≤ v.highMv)
  | .islandRelease _ _ => true
  | .startUpComplete us _ => decide us.Nodup
  | .resetL _ => true
  | .resetLRelease _ => true
  | .rstSoft _ _ => true
  | .watchdogExpiry _ => true
  | .clkGoodFall _ _ => true
  | .perstL => true
  | .perstLRelease _ => true
  | .rstRelease _ _ => true
  | .rstBlock _ => true
  | .blockResetRelease _ => true
  | .registerWrite off _ => off.toNat % 4 == 0
  | .wideReadCapture off => off.toNat % 4 == 0
  | .readClear off => off.toNat % 4 == 0
  | .bar0AccessError _ off size => 0 < size && !(size == 4 && off.toNat % 4 == 0)
  | .unmappedAccess _ _ => true
  | .queueEnable _ => true
  | .queueDisable _ => true
  | .sqTail _ _ => true
  | .cqHead _ _ => true
  | .packetFetch _ _ => true
  | .completionWrite _ => true
  | .nop _ => true
  | .identify _ => true
  | .systemReset _ _ => true
  | .frost _ => true
  | .setStrict _ _ => true
  | .setAnchor _ _ => true
  | .jobStart _ _ => true
  | .pause _ => true
  | .resume _ => true
  | .abort _ => true
  | .libraryLoad _ _ _ => true
  | .compress _ _ => true
  | .regWrite _ => true
  | .regRead _ => true
  | .tableLoad _ _ => true
  | .tableCommit _ => true
  | .tableRead _ => true
  | .laneCal _ => true
  | .laneRetrain _ => true
  | .rillForce _ => true
  | .stuckAck _ => true
  | .headRestore _ => true
  | .move _ => true
  | .moveSettled => true
  | .layerGoto _ => true
  | .motionStop _ => true
  | .memMarkClear _ => true
  | .pageRetire _ => true
  | .dmaRun _ => true
  | .checkRun _ => true
  | .todSet _ => true
  | .ptpStep _ => true
  | .serverSet _ => true
  | .setColumn _ _ => true
  | .meshRetrain _ => true
  | .logRead _ => true
  | .counterSnapshot _ => true
  | .blockReset _ => true
  | .passportPoll _ => true
  | .passportResponse bs => decide (bs.length ≤ 65540)
  | .passportRetry => true
  | .runInStart => true
  | .encoderEdge _ _ _ => true
  | .strobeRise => true
  | .strobeFall => true
  | .stitchStopHeld => true
  | .abortComplete => true
  | .passEnd => true
  | .layerReady _ => true
  | .motLayerGo _ => true
  | .layerMoveComplete _ => true
  | .servoBoundary => true
  | .backupComplete => true
  | .indexLatch _ => true
  | .probeLatch _ _ => true
  | .headLos _ => true
  | .headDivergence _ => true
  | .headFail _ => true
  | .restore _ => true
  | .timeCompareArm _ _ => true
  | .timeCompareFire _ => true
  | .positionCompareArm _ _ => true
  | .flsCommit _ => true
  | .beamPermitFall _ => true
  | .beamPermitRise => true
  | .sineTableCommit _ => true
  | .layerAxisGoto _ _ => true
  | .streamOpen _ _ => true
  | .blockFetched _ _ => true
  | .decodeStart _ _ => true
  | .blockDecoded _ _ => true
  | .blockRelease _ => true
  | .compressBlock _ _ => true
  | .engineContinue _ => true
  | .compressComplete _ => true
  | .spillUsedRelease _ _ => true
  | .cascadeRecord _ _ _ => true
  | .tallyResume => true
  | .tallyPassComplete => true
  | .rasterPassStart => true
  | .poolCorrectionStart => true
  | .poolCorrectionComplete _ _ => true
  | .poolCommit _ => true
  | .tileRasterStart _ => true
  | .tileCheck _ _ _ => true
  | .tileReTally _ _ _ => true
  | .bandCommit => true
  | .readerRowWrite _ => true
  | .cisternRefillComplete line _ => decide (line < cisternLines)
  | .cisternScrub es => cellsWf es
  | .rillFlashStart _ es _ => cellsWf es
  | .spareLoadDone _ => true
  | .rillFlashDone _ => true
  | .rillBoundary => true
  | .rilCommit _ => true
  | .commitCheckDone => true
  | .rilGrpForce _ _ => true
  | .rilStuckAck _ => true
  | .frameSend _ => true
  | .ackBlock _ _ => true
  | .ackTimeout _ _ => true
  | .replaySend _ => true
  | .flushTimeout _ => true
  | .statusBlock _ _ => true
  | .statusStale => true
  | .marker _ _ _ => true
  | .los _ => true
  | .lol _ => true
  | .laneRetrainAttempt _ => true
  | .laneTrainingDone _ r => r.wf
  | .retrain _ => true
  | .calNow _ => true
  | .calibrationStart _ => true
  | .calibrationComplete _ _ _ => true
  | .loop _ _ => true
  | .dramRequest _ _ a es => a.wf && symbolsWf es
  | .lineRecoveryDone _ _ => true
  | .refresh _ => true
  | .mr4Read _ _ => true
  | .selfRefreshEntry _ => true
  | .channelTrainingDone _ r => decide r.failed.Nodup
  | .retuneCheck _ _ => true
  | .retuneDone _ => true
  | .fillComplete => true
  | .patrolScrub es => symbolsWf es
  | .memLogClear _ => true
  | .dmaGo _ _ => true
  | .dmaPoke _ _ => true
  | .dmaStop _ _ => true
  | .dmaContinue _ _ => true
  | .dmaAbort _ _ => true
  | .dmaEnd _ _ => true
  | .dmaMove _ _ => true
  | .dmaHostTimeout _ => true
  | .dmaLoop _ => true
  | .dmaWait _ => true
  | .dmaWaitEnd _ => true
  | .dmaSignal _ => true
  | .dmaLink _ => true
  | .dmaFlagSet _ => true
  | .checkStart _ _ => true
  | .checkAbort _ _ => true
  | .checkDone _ => true
  | .linkChange _ _ _ => true
  | .ethFrame _ _ => true
  | .arpRefresh _ => true
  | .portCtrl _ _ => true
  | .ndfReq _ => true
  | .data _ bs => decide (bs.length ≤ ndfMax)
  | .err _ bs => decide (bs.length ≤ ndfMax)
  | .reqTmo _ _ => true
  | .gapTmo _ _ => true
  | .busyRetry _ _ => true
  | .announce h i => h.wf && i.wf
  | .announceReceiptTimeout => true
  | .ptpSync h _ _ _ _ q => h.wf && decide (q < 65536)
  | .followUp h _ _ q => h.wf && decide (q < 65536)
  | .delayReq _ => true
  | .delayResp h _ _ q l => h.wf && decide (q < 65536) && decide (-128 ≤ l) && decide (l < 128)
  | .holdover => true
  | .stepNow => true
  | .set => true
  | .ptpCfg _ => true
  | .join _ _ => true
  | .joinTimeout => true
  | .start _ => true
  | .report _ _ => true
  | .run _ _ _ _ => true
  | .stopReq _ _ _ => true
  | .stop _ _ _ => true
  | .rest _ => true
  | .meshResume _ => true
  | .resumeAck _ _ => true
  | .meshAbort _ => true
  | .meshEnd _ => true
  | .meshPause _ => true
  | .time _ _ _ _ => true
  | .timeSend => true
  | .timeReq _ => true
  | .timeResp _ _ _ => true
  | .evt _ _ => true
  | .beat _ => true
  | .meshPortDown _ _ => true
  | .meshPortRetrainTimer _ => true
  | .meshPortUp _ _ => true
  | .mshPortRetrain _ _ => true
  | .cutOff => true
  | .workerLost _ => true
  | .lockstepMismatch _ _ => true
  | .takeoverComplete => true
  | .retestComplete _ _ => true
  | .standbyLoadDone _ _ => true
  | .errlogClear _ => true
  | .evtDoorbell _ => true
  | .coreDelivery => true
  | .serviceEnd => true
  | .moderationTimer _ => true
  | .evtHold _ => true
  | .pmeTurnOff => true
  | .frostCommit => true
  | .wake _ _ => true
  | .thaw _ => true
  | .thawComplete => true
  | .monHelp => true
  | .monId => true
  | .monState => true
  | .monRd _ _ => true
  | .monLog => true
  | .monEvt => true
  | .monCtr _ => true
  | .monBaud _ => true
  | .monLock => true
  | .monUnlock _ => true
  | .monWr _ _ => true
  | .monRing _ => true
  | .monThaw => true
  | .monDr _ _ => true
  | .monDw _ _ => true
  | .monReset _ => true
  | .monBlkreset _ => true
  | .monitorBreak _ => true
  | .monitorIdleTimeout => true
  | .pmcSnap _ => true
  | .pmcClear _ => true
  | .pmcFreeze _ => true
  | .psbClear _ => true
  | .hwSample _ => true
  | .smbusIdentify _ => true
  | .smbusRead _ _ => true
  | .headLosClear _ => true
  | .blockCrcError _ _ => true
  | .meshBlockErr _ _ => true
  | .msixUnmask _ => true
  | .pcieL0Entry => true
  | .monBadLine n => decide (0 < n)

end Sys2Proof
end

