-- ==== Sys2Proof/Safety.lean ====
section
/-! DEFINITION. What counts as a safe run: the conditions on a state that every step keeps, in the terms the statements use. -/
namespace Sys2Proof.Machine

/-- A gated strobe output is low (R280, R438, R446). -/
def Device.gateHolds (d : Device) : Bool := !(d.strobeGated && d.fls.flash)

/-- Every level source whose condition holds is pending (R509). -/
def Device.levelsShown (d : Device) : Bool := levelSources.all (fun s => !d.levelCond s || d.isPending s)

/-- The registers, module DRAM, host memory and the Cistern are in their canonical forms. -/
def Device.memoriesWf (d : Device) : Bool :=
  cellWf (fun off => BitVec.ofNat 18 (regReset off)) d.regs && cellWf (fun _ => (0 : Word)) d.dram &&
    cellWf (fun _ => (0 : Byte)) d.hostMem && cellWf (fun _ => (0 : Word)) d.cst.words

/-- The module is settled: the strobe output is low where it is gated, and the level sources show their conditions. -/
def State.settled (s : State) : Prop := s.dev.gateHolds = true ∧ s.dev.levelsShown = true

/-- `d` is the powered module as a command finds it, with the outputs of the command before cleared. -/
def State.finds (s : State) (d : Device) : Prop := s.dev.powered = true ∧ d = { s.dev with out := [] }

/-- The state that a command leaves: the module that it gives, settled, and the same queue. -/
def State.gives (s : State) (d : Device) : State := { s with dev := d.settle }

end Sys2Proof.Machine
end

