-- ==== Sys2Proof/Certificates/Slice0/Obligations.lean ====
section
/-! DEFINITION. The statements about the model, for the provers. In each, `s.finds d` says that `d` is the powered module as the command
finds it, and `s.gives d` is the state with the module `d`, settled, and the same queue. -/

open Sys2Proof Sys2Proof.Machine

/-- A step of the block with a command at the front of its queue is the command on the state with the queue's rest. -/
def Obligations.StepRunsTheFrontCommand : Prop :=
  ∀ (c : Instr) (s : State) (rest : List Instr), step { s with pending := c :: rest } = exec c { s with pending := rest }

/-- With an empty queue a step is one tick of 1.25 ns of a powered module whose position island is released. What ends with the clock takes
effect, the clocks of the tick are counted and the lanes and mesh ports send; the fault clock then counts one, and the time of day advances by
1.25 ns × (1 + PTP_RATE × 10^-9), in units of 2^-16 ns with the remainder kept, where no set or step is due; lanes that are due move, the journal
goes on, a stop that no pass is left to take is taken, module memory and the DMA engine go on with what waits, and the position logic runs. That a
tick is what a step does on an empty queue is the model's choice (log entry 1). -/
def Obligations.EmptyQueueIsOneTick : Prop :=
  ∀ (s : State) (d d1 e e1 e2 e3 e4 : Device), s.finds d → s.pending = [] → d.released 13 = true →
    d1 = d.clockEnds.countClocks.lineTick.meshTick.countApart.noteRun →
    e = { d1.todTick with clock := (d1.todTick.clock + 1) % 18446744073709551616, atTick := d1.todTick.regs } →
    e1 = (if e.lne.moves = [] then e else e.movesDue) → e2 = (if e1.rst.jqueue = [] then e1 else e1.journalTick) →
    e3 = (if e2.noPass = true ∧ e2.flag fAllServed = false then e2.stopEarly else e2) → e4 = (if e3.mem.held = [] then e3 else e3.drain) →
    step s = .next (s.gives ((if e4.dma.chans.toList.any (fun c => c.waits) then e4.dmaRetry else e4).positionTick)) ∧
    (d1.ptp.load = none → d1.ptp.step = 0 →
      let v := (81920 * (1000000000 + d1.rate)).toNat + d1.todRem
      e.tod = (d1.tod + v / 1000000000) % (281474976710656 * 65536000000000) ∧ e.todRem = v % 1000000000)

/-- The state after reset: not powered, no command waits, no job, memories empty; the device state is BOOT with phase FUSE of the
start-up, RST_CAUSE is POR alone, SYS_DEVICE_ID and SYS_SILICON_REL read as R1 gives them, the level sources read LEVEL 1, and the strobe
output is low. -/
def Obligations.ResetStateIsAsStated : Prop :=
  State.reset.pending = [] ∧ State.reset.dev.powered = false ∧ State.reset.dev.job = none ∧ State.reset.dev.dram = [] ∧ State.reset.dev.laidOut = [] ∧
    State.reset.dev.st = 1 ∧ State.reset.dev.get fBootPhase = 1 ∧ State.reset.dev.reg RST_CAUSE = 0x20000 ∧
    State.reset.dev.reg SYS_DEVICE_ID = 0x04618 ∧ State.reset.dev.reg SYS_SILICON_REL = 0x000A2 ∧
    State.reset.dev.reg SYS_FLT_CFG = 0x30A00 ∧ State.reset.dev.reg SYS_MON_CFG = 0x20A00 ∧
    State.reset.dev.reg (EVT_SRC 11) = 0x20 ∧ State.reset.dev.reg (EVT_SRC 0) = 0 ∧ State.reset.dev.fls.flash = false

/-- No command stops the block: in every state every command answers a next state, with the queue as it found it. -/
def Obligations.EveryCommandAnswersAndKeepsTheQueue : Prop :=
  ∀ (c : Instr) (s : State), ∃ t, exec c s = .next t ∧ t.pending = s.pending

/-- In OFF every command but POWER_GOOD leaves the module as it is: only the outputs of the command before are cleared. -/
def Obligations.OffIgnoresEveryCommandButPowerGood : Prop :=
  ∀ (c : Instr) (s : State), s.dev.powered = false → (∀ p, c ≠ .powerGood p) →
    exec c s = .next { s with dev := { s.dev with out := [] } }

/-- Every step keeps the module settled: the strobe output is low while the blanking latch or the always-on gate holds it or the position
island is in reset, and every level source whose condition holds is pending. -/
def Obligations.EveryStepKeepsTheModuleSettled : Prop :=
  ∀ (s t : State), s.settled → step s = .next t → t.settled

/-- The state after reset is settled. -/
def Obligations.ResetStateIsSettled : Prop :=
  State.reset.settled

/-- POWER_GOOD with VIN_POS within 40.0 to 60.0 V for 20 ms and good rails powers a module in OFF; an input that stays below 38.5 V or
above 61.5 V for 20 µs powers it off, with the strobe low, and one within 39.5 to 60.5 V, or for less than 20 µs, does nothing; RESET_L
low for 150 samples is taken in every powered state: it sets PIN in RST_CAUSE and, where no table commit waits, gives every other
register outside the event and counter blocks its reset value, while the active pool tables stay where a pool commit is pending (the
model's reading of R143 beside R440, log entry 80); RESET_L high for 150 samples starts option load; a software reset that is taken starts it too. The
DRAM contents, the job and the commands in flight are lost at power-good, at RESET_L and at the software reset. -/
def Obligations.ResetsClearTheModule : Prop :=
  (∀ (s : State) (ol : OptionLoad) (v : SupplyView), s.dev.powered = false → 40000 ≤ v.lowMv → v.highMv ≤ 60000 → 20000 ≤ v.us →
    v.rails = true →
    ∃ t, exec (.powerGood { load := ol, supply := v }) s = .next t ∧ t.dev.powered = true ∧
      t.dev.dram = [] ∧ t.dev.laidOut = [] ∧ t.dev.job = none ∧ t.dev.ulp = {}) ∧
  (∀ (s : State) (d : Device) (v : SupplyView), s.finds d → 20 ≤ v.us → (v.highMv < 38500 ∨ 61500 < v.lowMv) →
    ∃ t, exec (.inputOutOfRange v) s = .next t ∧ t.dev.powered = false ∧ t.dev.dram = [] ∧ t.dev.laidOut = [] ∧ t.dev.job = none ∧ t.dev.fls.flash = false ∧
      t.dev.rst.slots = d.rst.slots ∧ (d.rst.jqueue = [] → t.dev.rst.journalA = d.rst.journalA ∧ t.dev.rst.journalB = d.rst.journalB)) ∧
  (∀ (s : State) (d : Device) (v : SupplyView), s.finds d → (v.us < 20 ∨ (39500 ≤ v.highMv ∧ v.lowMv ≤ 60500)) →
    exec (.inputOutOfRange v) s = .next (s.gives d)) ∧
  (∀ (s : State) (d : Device) (n : Nat), s.finds d → 150 ≤ n →
    ∃ t, exec (.resetL n) s = .next t ∧ t.dev.rst.resetLow = true ∧ t.dev.flag (bitAt RST_CAUSE 16) = true ∧ t.dev.dram = [] ∧ t.dev.laidOut = [] ∧
      t.dev.job = none ∧ t.dev.ulp = {} ∧ t.dev.fls.flash = false) ∧
  (∀ (s : State) (d : Device) (n : Nat), s.finds d → 150 ≤ n → d.get { off := POOL_COMMIT_STATUS, lo := 0, w := 4 } = 0 →
    d.get { off := RIL_COMMIT_STATUS, lo := 0, w := 4 } = 0 → d.ril.check = none → d.flag fFlsPending = false →
    ∃ t, exec (.resetL n) s = .next t ∧
      ∀ off, off / 0x100000 ≠ 2 → off / 0x100000 ≠ 21 → off ≠ RST_CAUSE → t.dev.reg off = regReset off % 262144) ∧
  (∀ (s : State) (d : Device) (n k : Nat), s.finds d → 150 ≤ n → k < 4 → d.flag (fPoolPending k) = true →
    ∃ t, exec (.resetL n) s = .next t ∧ t.dev.get { off := POOL_COMMIT_STATUS, lo := 0, w := 4 } = 0 ∧ t.dev.pool.doseMax = d.pool.doseMax ∧
      ∀ i, i < 1024 → t.dev.reg (POOL_DFT_ACT i) = d.reg (POOL_DFT_ACT i)) ∧
  (∀ (s : State) (d : Device) (n : Nat) (ol : OptionLoad), s.finds d → d.rst.resetLow = true → 150 ≤ n →
    ∃ t, exec (.resetLRelease { samples := n, load := ol }) s = .next t ∧ t.dev.rst.resetLow = false ∧ t.dev.rst.loading = true ∧
      t.dev.dram = d.dram ∧ t.dev.laidOut = d.laidOut) ∧
  (∀ (s : State) (d : Device) (ol : OptionLoad), s.finds d → d.rst.resetLow = false → d.softTaken = true →
    ∃ t, exec (.rstSoft 0x15A5A ol) s = .next t ∧ t.dev.dram = [] ∧ t.dev.laidOut = [] ∧ t.dev.job = none ∧ t.dev.ulp = {} ∧ t.dev.rst.loading = true)

/-- The release of an island falls due with its clock good: where the clocks of the islands that are released together were good for the whole clock
before and the order of R441 lets them go, each is released; PERST_L, and its rise with a good PCIe clock; the loss of an island's clock, whose
window comparison has failed twice, and of REFCLK; the release of a held island; a block reset that R451 accepts, and the end of the oldest one with a
good clock: the island is released, or RST_HOLD holds it. -/
def Obligations.IslandsAreReleasedAndReset : Prop :=
  (∀ (s : State) (d : Device) (k : Fin 22) (v : ClockView), s.finds d → d.clkGood k = true → clockFalls k v = false →
    (∀ i ∈ d.releaseGroup k, d.clkGoodBefore i = true ∧ d.mayRelease i = true) →
    exec (.islandRelease k v) s = .next (s.gives (d.each (d.releaseGroup k) Device.releaseIsland))) ∧
  (∀ (s : State) (d : Device), s.finds d →
    ∃ t, exec .perstL s = .next t ∧ t.dev.rst.perstLow = true ∧ t.dev.flag (bitAt RST_CAUSE 12) = true ∧ t.dev.released 21 = false ∧
      t.dev.ulp.waiting = [] ∧ t.dev.evt.msixEnable = false) ∧
  (∀ (s : State) (d d1 : Device) (v : ClockView), s.finds d →
    d1 = ({ d with rst := { d.rst with perstLow := false } } : Device) → d1.clkGood 21 = true → clockFalls 21 v = false → d1.clkGoodBefore 21 = true →
    d1.mayRelease 21 = true → exec (.perstLRelease v) s = .next (s.gives (d1.setReleased 21 true))) ∧
  (∀ (s : State) (d : Device) (k : Fin 22) (v : ClockView) (ol : OptionLoad), s.finds d → d.clkGood k = true → clockFalls k v = true →
    exec (.clkGoodFall (some k) { clock := v, load := ol }) s = .next (s.gives (if k.val < 19 then d.coreClockLost k ol else d.islandClockLost k))) ∧
  (∀ (s : State) (d : Device) (v : ClockView) (ol : OptionLoad), s.finds d → (List.range 20).any d.clkGood = true → refFails v = true →
    exec (.clkGoodFall none { clock := v, load := ol }) s = .next (s.gives (d.coreClockLost 31 ol))) ∧
  (∀ (s : State) (d : Device) (k : Fin 18), s.finds d → d.coresRun = true → d.released k = false → d.clkGoodBefore k = true →
    d.rst.held.contains k.val = true →
    exec (.rstRelease false (BitVec.ofNat 18 (2 ^ k.val))) s = .next (s.gives (d.releaseBlock k))) ∧
  (∀ (s : State) (d : Device) (v : Word), s.finds d → d.coresRun = true → bitOf v.toNat 17 = true → d.blockFault (v.toNat % 32) = none →
    exec (.rstBlock v) s = .next (s.gives (((d.put fBlkIsland (v.toNat % 32)).put fBlkResult 0).holdIsland (v.toNat % 32)))) ∧
  (∀ (s : State) (d : Device) (k : Nat) (rest : List Nat) (v : ClockView), s.finds d → d.rst.blocks = k :: rest → d.clkGood k = true →
    clockFalls k v = false → d.clkGoodBefore k = true →
    exec (.blockResetRelease v) s = .next (s.gives (if d.flag (fRstHold k) then
      { d with rst := { d.rst with blocks := d.rst.blocks.filter (fun x => x != k), held := d.rst.held ++ [k] } } else d.releaseBlock k)))

/-- The end of start-up, and the control pairs: training and self-test end in READY with event 8, the units that failed the self-test retired, the
beam groups given their lanes, and RST_READY_TIME written; a mismatch or a missed watchdog service
is an error of the pair; re-test, load and takeover end. -/
def Obligations.StartUpAndControlPairsComplete : Prop :=
  (∀ (s : State) (d d1 d2 : Device) (us : List TestUnit) (ms : Nat), s.finds d →
    (d.inBoot && !d.rst.loading && d.loadOk && d.released 13 && !d.rst.resetLow) = true → d.get fBootPhase = 6 → d.lanesTraining = false →
    d1 = (d.each us Device.failTest).assignLanes → d2 = d1.setReg RST_READY_TIME (min ms 262143) →
    exec (.startUpComplete us ms) s = .next (s.gives ((((d2.put fBootPhase 7).setState 2).raise 8).takeDeferred))) ∧
  (∀ (s : State) (d : Device) (p : Fin 2) (ol : OptionLoad), s.finds d → d.coresRun = true →
    exec (.lockstepMismatch p ol) s = .next (s.gives (d.pairError p 1 ol)) ∧
    exec (.watchdogExpiry ol) s = .next (s.gives (d.pairError (d.get fActivePair) 2 ol))) ∧
  (∀ (s : State) (d : Device), s.finds d → ∃ t, exec .takeoverComplete s = .next t ∧ t.dev.ulp.takeover = false ∧ t.dev.ulp.flights = d.ulp.flights) ∧
  (∀ (s : State) (d : Device) (p : Fin 2), s.finds d → d.get (fPairState p) = 2 → d.rst.retested.contains p.val = false →
    ∃ t, exec (.retestComplete p true) s = .next t ∧ t.dev.rst.retested = d.rst.retested ++ [p.val]) ∧
  (∀ (s : State) (d : Device) (p : Fin 2), s.finds d → d.get (fPairState p) = 2 → d.rst.retested.contains p.val = true →
    exec (.standbyLoadDone p true) s = .next (s.gives
      (((({ d with rst := { d.rst with retested := d.rst.retested.filter (fun x => x != p.val) } } : Device).put (fPairState p) 1).raise 26).recovered 0x0B p)))

/-- With the PCIe island released: a read at or above 0x0160_0000 returns 0 and a write there raises event source 0; an access that is not an
aligned 32-bit one does the same. While that island is in reset, no access over PCIe reaches the module. -/
def Obligations.UnmappedAndMisalignedAccesses : Prop :=
  (∀ (s : State) (d : Device) (off : BitVec 26), s.finds d → d.released 21 = true → 0x1600000 ≤ off.toNat →
    exec (.unmappedAccess false off) s = .next (s.gives (d.emit (.readData 0)))) ∧
  (∀ (s : State) (d : Device) (off : BitVec 26), s.finds d → d.released 21 = true → 0x1600000 ≤ off.toNat → d.unitUp 0 = true →
    exec (.unmappedAccess true off) s = .next (s.gives (d.raise 0))) ∧
  (∀ (s : State) (d : Device) (off : BitVec 26) (size : Nat), s.finds d → d.released 21 = true → (size ≠ 4 ∨ off.toNat % 4 ≠ 0) →
    exec (.bar0AccessError false off size) s = .next (s.gives (d.emit (.readData 0)))) ∧
  (∀ (s : State) (d : Device) (off : BitVec 26) (size : Nat), s.finds d → d.released 21 = true → (size ≠ 4 ∨ off.toNat % 4 ≠ 0) → d.unitUp 0 = true →
    exec (.bar0AccessError true off size) s = .next (s.gives (d.raise 0))) ∧
  (∀ (s : State) (d : Device) (w : Bool) (off : BitVec 26) (size : Nat) (v : Dword), s.finds d → d.released 21 = false →
    exec (.unmappedAccess w off) s = .next (s.gives d) ∧ exec (.bar0AccessError w off size) s = .next (s.gives d) ∧
    exec (.registerWrite off v) s = .next (s.gives d) ∧ exec (.wideReadCapture off) s = .next (s.gives d) ∧
    exec (.readClear off) s = .next (s.gives d))

/-- With the PCIe island released, a read of BAR0 gives the value of the register, and of an island in reset 0; a write of a register without a rule of its own stores
its writable fields, one of a beam table word, of the temperature threshold or of an action register has the effect of that rule, one of
an offset that the map does not list is a stray write, and one of an island in reset does nothing; SMBus reads the SYS and RST blocks, and
IDENTIFY gives the three identity registers. -/
def Obligations.RegisterAccessesComplete : Prop :=
  (∀ (s : State) (d : Device) (off : BitVec 26), s.finds d → d.released 21 = true →
    exec (.wideReadCapture off) s = .next (s.gives ((d.busRead off.toNat).2.emit (.readData (d.busRead off.toNat).1))) ∧
    exec (.readClear off) s = .next (s.gives ((d.busRead off.toNat).2.emit (.readData (d.busRead off.toNat).1)))) ∧
  (∀ (d : Device) (off : Nat), d.regUp off = false → d.busRead off = (0, d)) ∧
  (∀ (s : State) (d : Device) (off : BitVec 26) (v : Dword) (l : RegLoc), s.finds d → d.released 21 = true → off.toNat < 0x1600000 → d.regUp off.toNat = true →
    locate off.toNat = some l → actionWrite l (v.toNat % 262144) = none → l.row.base ≠ RIL_BT 0 → l.row.base ≠ FLS_TEMP_WARN →
    exec (.registerWrite off v) s = .next (s.gives (d.plainWrite .host off.toNat (v.toNat % 262144)))) ∧
  (∀ (s : State) (d : Device) (off : BitVec 26) (v : Dword) (l : RegLoc), s.finds d → d.released 21 = true → off.toNat < 0x1600000 → d.regUp off.toNat = true →
    locate off.toNat = some l → l.row.base = RIL_BT 0 →
    exec (.registerWrite off v) s = .next (s.gives (d.beamWindow off.toNat (v.toNat % 262144)))) ∧
  (∀ (s : State) (d : Device) (off : BitVec 26) (v : Dword) (l : RegLoc), s.finds d → d.released 21 = true → off.toNat < 0x1600000 → d.regUp off.toNat = true →
    locate off.toNat = some l → l.row.base = FLS_TEMP_WARN →
    exec (.registerWrite off v) s = .next (s.gives (d.plainWrite .host off.toNat (v.toNat % 262144)).pendingResume)) ∧
  (∀ (s : State) (d : Device) (off : BitVec 26) (v : Dword) (l : RegLoc) (f : Device → Device), s.finds d → d.released 21 = true → off.toNat < 0x1600000 →
    d.regUp off.toNat = true → locate off.toNat = some l → actionWrite l (v.toNat % 262144) = some f →
    exec (.registerWrite off v) s = .next (s.gives (f d))) ∧
  (∀ (s : State) (d : Device) (off : BitVec 26) (v : Dword), s.finds d → d.released 21 = true → d.regUp off.toNat = true → locate off.toNat = none →
    exec (.registerWrite off v) s = .next (s.gives d.strayWrite)) ∧
  (∀ (s : State) (d : Device) (off : BitVec 26) (v : Dword), s.finds d → d.released 21 = true → off.toNat < 0x1600000 → d.regUp off.toNat = false →
    exec (.registerWrite off v) s = .next (s.gives d)) ∧
  (∀ (s : State) (d : Device) (off : Dword), s.finds d → off.toNat < 0x200000 →
    exec (.smbusRead off true) s = .next (s.gives ((d.busRead off.toNat).2.emit (.smbus (leBytes 4 (d.busRead off.toNat).1))))) ∧
  (∀ (s : State) (d : Device) (off : Dword), s.finds d → 0x200000 ≤ off.toNat →
    exec (.smbusRead off true) s = .next (s.gives (d.emit (.smbus [0, 0, 0, 0])))) ∧
  (∀ (s : State) (d : Device), s.finds d →
    exec (.smbusIdentify true) s = .next (s.gives
      (d.emit (.smbus (leBytes 4 (d.reg 0) ++ leBytes 4 (d.reg 4) ++ leBytes 4 (d.reg 8))))))

/-- EN 1 written to a pair that is disabled, whose sizes are 2 to 4,096 and whose bases are aligned, sets EN, SQ HEAD, SQ TAIL, CQ HEAD
and CQ TAIL to 0 and the CQ phase to 1. EN 0 written to an enabled pair clears EN, and DRAINING is then 1 exactly while a command of the
pair is in flight or a completion of it waits. A doorbell below SIZE to an enabled pair is its new SQ TAIL; another to it raises event 20, and one
to a pair that is not enabled is ignored. A CQ HEAD below SIZE is the new CQ HEAD, and another is ignored. None of them changes the commands in flight, the completions that wait, or host memory. -/
def Obligations.QueueRegistersTakeTheirWrites : Prop :=
  (∀ (s : State) (d : Device) (q : Fin 4), s.finds d → d.unitUp 0 = true → d.flag (fEn q) = false →
    2 ≤ d.reg (ULP_SQ_SIZE q) → d.reg (ULP_SQ_SIZE q) ≤ 4096 → d.get54 (ULP_SQ_BASE q) % 64 = 0 →
    2 ≤ d.reg (ULP_CQ_SIZE q) → d.reg (ULP_CQ_SIZE q) ≤ 4096 → d.get54 (ULP_CQ_BASE q) % 32 = 0 →
    ∃ t, exec (.queueEnable q) s = .next t ∧ t.dev.flag (fEn q) = true ∧ t.dev.reg (ULP_SQ_HEAD q) = 0 ∧ t.dev.reg (ULP_SQ_TAIL q) = 0 ∧
      t.dev.reg (ULP_CQ_HEAD q) = 0 ∧ t.dev.get (fCqTail q) = 0 ∧ t.dev.flag (fCqPhase q) = true ∧ t.dev.ulp = d.ulp ∧
      t.dev.hostMem = d.hostMem) ∧
  (∀ (s : State) (d : Device) (q : Fin 4), s.finds d → d.unitUp 0 = true → d.flag (fEn q) = true →
    ∃ t, exec (.queueDisable q) s = .next t ∧ t.dev.flag (fEn q) = false ∧
      t.dev.flag (fDraining q) = (d.ulp.flights.any (fun f => f.sq == q.val) || d.ulp.waiting.any (fun c => c.q == q.val)) ∧
      t.dev.ulp = d.ulp ∧ t.dev.hostMem = d.hostMem) ∧
  (∀ (s : State) (d : Device) (q : Fin 4) (v : Word), s.finds d → d.unitUp 0 = true → d.flag (fEn q) = true →
    v.toNat % 4096 < d.reg (ULP_SQ_SIZE q) →
    ∃ t, exec (.sqTail q v) s = .next t ∧ t.dev.reg (ULP_SQ_TAIL q) = v.toNat % 4096 ∧ t.dev.reg (ULP_SQ_HEAD q) = d.reg (ULP_SQ_HEAD q) ∧
      t.dev.ulp.flights = d.ulp.flights ∧ t.dev.ulp.waiting = d.ulp.waiting ∧ t.dev.hostMem = d.hostMem) ∧
  (∀ (s : State) (d : Device) (q : Fin 4) (v : Word), s.finds d → d.unitUp 0 = true → v.toNat % 4096 < d.reg (ULP_CQ_SIZE q) →
    ∃ t, exec (.cqHead q v) s = .next t ∧ t.dev.reg (ULP_CQ_HEAD q) = v.toNat % 4096 ∧ t.dev.ulp = d.ulp ∧ t.dev.hostMem = d.hostMem) ∧
  (∀ (s : State) (d : Device) (q : Fin 4) (v : Word), s.finds d → d.unitUp 0 = true →
    (d.flag (fEn q) = false → exec (.sqTail q v) s = .next (s.gives d)) ∧
    (d.flag (fEn q) = true → d.reg (ULP_SQ_SIZE q) ≤ v.toNat % 4096 → exec (.sqTail q v) s = .next (s.gives (d.raise 20)))) ∧
  (∀ (s : State) (d : Device) (q : Fin 4) (v : Word), s.finds d → d.unitUp 0 = true → d.reg (ULP_CQ_SIZE q) ≤ v.toNat % 4096 →
    exec (.cqHead q v) s = .next (s.gives d))

/-- A packet at HEAD of the pair whose turn it is, with a listed opcode, a free tag, the PLEN of its opcode, reserved flag bits 0 and no bad address,
direct with up to 14 parameters or indirect with a buffer that is read without an error, is fetched: SQ HEAD moves on modulo SIZE, and the
packet is in flight with its parameters. One with an opcode that R481 does not list, or a listed one with a tag in flight, completes BAD_OPCODE or
BAD_PARAM with DUP_TAG. A completion is written in its CQ entry and event 16 + q follows. -/
def Obligations.PacketsAreFetchedAndCompletionsWritten : Prop :=
  (∀ (s : State) (d : Device) (q : Fin 4) (hostErr : Bool) (w ps : List Nat), s.finds d →
    (d.unitUp 0 && d.unitUp 21 && d.servesPair q) = true → d.inflight < 256 → d.ulp.takeover = false →
    w = d.hostDwords (d.get54 (ULP_SQ_BASE q) + 64 * d.reg (ULP_SQ_HEAD q)) 16 →
    plenOk (bits (w.getD 0 0) 20 12) (bits (w.getD 0 0) 0 12) = some true → d.tagBusy (bits (w.getD 0 0) 12 8) = false →
    bits (w.getD 1 0) 5 27 = 0 →
    (if bitOf (w.getD 1 0) 3 then hostErr = false ∧ addrOk (w.getD 2 0) (w.getD 3 0) = true else bits (w.getD 0 0) 0 12 ≤ 14) →
    ps = (if bitOf (w.getD 1 0) 3 then d.hostDwords (hostAddr (w.getD 2 0) (w.getD 3 0)) (bits (w.getD 0 0) 0 12)
      else (w.drop 2).take (bits (w.getD 0 0) 0 12)) →
    (∀ i, addrParam (bits (w.getD 0 0) 20 12) = some i → addrOk (ps.getD i 0) (ps.getD (i + 1) 0) = true) →
    ∃ t, exec (.packetFetch q hostErr) s = .next t ∧
      t.dev.reg (ULP_SQ_HEAD q) = (d.reg (ULP_SQ_HEAD q) + 1) % d.reg (ULP_SQ_SIZE q) % 262144 ∧
      t.dev.ulp.flights = d.ulp.flights ++ [({
        tag := bits (w.getD 0 0) 12 8, sq := q, op := bits (w.getD 0 0) 20 12, order := d.ulp.nextOrder,
        cls := bits (w.getD 1 0) 0 2, deferOk := bitOf (w.getD 1 0) 2, fence := bitOf (w.getD 1 0) 4, params := ps } : Flight)]) ∧
  (∀ (s : State) (d : Device) (q : Fin 4) (hostErr : Bool) (w : List Nat), s.finds d →
    (d.unitUp 0 && d.unitUp 21 && d.servesPair q) = true → d.inflight < 256 → d.ulp.takeover = false →
    w = d.hostDwords (d.get54 (ULP_SQ_BASE q) + 64 * d.reg (ULP_SQ_HEAD q)) 16 →
    (plenOk (bits (w.getD 0 0) 20 12) (bits (w.getD 0 0) 0 12) = none ∨ d.tagBusy (bits (w.getD 0 0) 12 8) = true) →
    ∃ t c, exec (.packetFetch q hostErr) s = .next t ∧ t.dev.ulp.flights = d.ulp.flights ∧ t.dev.ulp.waiting.getLast? = some c ∧
      t.dev.reg (ULP_SQ_HEAD q) = (d.reg (ULP_SQ_HEAD q) + 1) % d.reg (ULP_SQ_SIZE q) % 262144 ∧
      c.q = q.val ∧ c.tag = bits (w.getD 0 0) 12 8 ∧
      (if plenOk (bits (w.getD 0 0) 20 12) (bits (w.getD 0 0) 0 12) = none then c.status = 3 ∧ c.dup = false else c.status = 4 ∧ c.dup = true)) ∧
  (∀ (s : State) (d : Device) (q : Fin 4) (c : Completion), s.finds d →
    (d.unitUp 0 && d.unitUp 21 && !d.ulp.takeover && !d.cqFull q) = true → d.ulp.waiting.find? (fun x => x.q == q.val) = some c →
    d.ulp.resetTag = none →
    ∃ t, exec (.completionWrite q) s = .next t ∧
      t.dev.hostMem = (d.putHostDwords (d.get54 (ULP_CQ_BASE q) + 32 * d.get (fCqTail q)) (c.dwords (d.flag (fCqPhase q)))).hostMem ∧
      t.dev.ulp.waiting.map (fun x => { x with counted := false }) = (d.ulp.waiting.erase c).map (fun x => { x with counted := false }) ∧
      t.dev.isPending (16 + q.val) = true)

/-- Commands that run in any state complete as R481 gives them: IDENTIFY, LOG_READ, COUNTER_SNAPSHOT, REG_WRITE, REG_READ and NOP. REG_WRITE writes
its pairs in order outside a job, a shadow being committed at the end; in a job it writes the fields of lower classes and defers those of class JOB, where
DEFER_OK allows it. -/
def Obligations.AnyStateCommandsComplete : Prop :=
  (∀ (s : State) (d : Device) (tag : Byte) (f : Flight), s.finds d → d.begins tag.toNat 0x001 = some f →
    exec (.identify tag) s = .next (s.gives (d.complete f sOK 0 [d.reg 0, d.reg 4, d.reg 8]))) ∧
  (∀ (s : State) (d : Device) (tag : Byte) (f : Flight) (es body : List Nat), s.finds d → d.begins tag.toNat 0x800 = some f →
    es = sortBy d.logLseq ((List.range 64).filter d.logValid) →
    body = es.flatMap (fun i => (List.range 11).map (fun k => d.reg (SYS_EL i + 4 * k)) ++ [0]) →
    exec (.logRead tag) s = .next (s.gives ((d.putHostDwords (hostAddr (f.p 0) (f.p 1))
      ([es.length, d.reg SYS_ERRLOG_OVERFLOW] ++ body)).complete f sOK 0 [es.length, d.reg SYS_ERRLOG_OVERFLOW]))) ∧
  (∀ (s : State) (d : Device) (tag : Byte) (f : Flight), s.finds d → d.begins tag.toNat 0x801 = some f →
    exec (.counterSnapshot tag) s = .next (s.gives ((d.snapshot.putHostDwords (hostAddr (f.p 0) (f.p 1))
      ([d.snapshot.reg PMC_SNAP_TICK, d.snapshot.reg (PMC_SNAP_TICK + 4)] ++
        pmcAll.flatMap (fun x => [d.snapshot.reg (PMC_C_SNAP x.1 x.2), d.snapshot.reg (PMC_C_SNAP x.1 x.2 + 4)]))).complete f sOK 0
          [d.snapshot.reg PMC_SNAP_TICK, d.snapshot.reg (PMC_SNAP_TICK + 4)]))) ∧
  (∀ (s : State) (d : Device) (tag : Byte) (f : Flight) (ps : List RegPair), s.finds d → d.begins tag.toNat 0x200 = some f →
    readPairs 0 f.params = .ok ps → pairTables ps = [] → d.inJob = false → d.readyOk = true →
    exec (.regWrite tag) s = .next (s.gives ((d.each ps Device.writePair).complete f sOK 0 []))) ∧
  (∀ (s : State) (d : Device) (tag : Byte) (f : Flight) (ps : List RegPair), s.finds d → d.begins tag.toNat 0x200 = some f →
    readPairs 0 f.params = .ok ps → pairTables ps ≠ [] → (pairTables ps).any d.loadBars = false → d.inJob = false → d.readyOk = true →
    exec (.regWrite tag) s = .next (s.gives ((d.each ps Device.writePair).commitNow f (pairTables ps)))) ∧
  (∀ (s : State) (d : Device) (tag : Byte) (f : Flight) (ps : List RegPair), s.finds d → d.begins tag.toNat 0x200 = some f →
    readPairs 0 f.params = .ok ps → pairTables ps = [] → d.inJob = true → ps.all (fun p => !p.isJob) = true →
    d.ulp.deferred.length ≤ 64 →
    exec (.regWrite tag) s = .next (s.gives (((d.each ps Device.writePair).put fDeferWrites
      (d.each ps Device.writePair).ulp.deferred.length).complete f sOK 0 []))) ∧
  (∀ (s : State) (d : Device) (tag : Byte) (f : Flight) (ps : List RegPair), s.finds d → d.begins tag.toNat 0x200 = some f →
    readPairs 0 f.params = .ok ps → pairTables ps = [] → d.inJob = true → ps ≠ [] → ps.all (fun p => p.isJob && !p.loc.isClassCtrl) = true →
    f.deferOk = true → d.ulp.deferred.length + ps.length ≤ 64 →
    exec (.regWrite tag) s = .next (s.gives ((({ d with ulp := { d.ulp with
      deferred := d.ulp.deferred ++ ps.map (fun p => (p.off, p.value &&& p.loc.writable)) } } : Device).put fDeferWrites
        (d.ulp.deferred.length + ps.length)).complete f sDEFERRED 0 [] clsJob))) ∧
  (∀ (s : State) (d : Device) (tag : Byte) (f : Flight), s.finds d → d.begins tag.toNat 0x201 = some f →
    exec (.regRead tag) s = .next (s.gives
      (((d.readOffs (f.params.drop 2)).2.putHostDwords (hostAddr (f.p 0) (f.p 1)) (d.readOffs (f.params.drop 2)).1).complete f sOK 0
        (d.readOffs (f.params.drop 2)).1))) ∧
  (∀ (s : State) (d : Device) (tag : Byte) (f : Flight), s.finds d → d.begins tag.toNat 0x000 = some f → f.sq < 4 →
    exec (.nop tag) s = .next (s.gives (d.complete f sOK 0 [])))

/-- System and limited-change commands where they are accepted: a limited-change setting goes into the next unused slot; a block reset that R451
refuses completes BAD_PARAM or BUSY_JOB. -/
def Obligations.SystemCommandsComplete : Prop :=
  (∀ (s : State) (d : Device) (tag : Byte) (f : Flight) (ol : OptionLoad), s.finds d → d.begins tag.toNat 0x002 = some f → d.softTaken = true →
    f.p 0 = 0x15A5A → f.sq < 4 →
    exec (.systemReset tag ol) s =
      .next (s.gives (({ d with ulp := { d.ulp with resetTag := some (f.tag, ol) } } : Device).complete f sOK 0 []))) ∧
  (∀ (s : State) (d : Device) (tag : Byte) (f : Flight), s.finds d → d.begins tag.toNat 0x003 = some f → d.readyOk = true → d.frostHeldOff = false →
    exec (.frost tag) s = .next (s.gives (d.await f .frost).frostEntry)) ∧
  (∀ (s : State) (d : Device) (tag : Byte) (f : Flight), s.finds d → d.begins tag.toNat 0x010 = some f → d.readyOk = true →
    (d.rst.slots.toList.getD 20 {}).used = false →
    ∃ t, exec (.setStrict tag true) s = .next t ∧ t.dev.rst.strict = true ∧ t.dev.rst.slots.toList.getD 20 {} =
      { used := true, valid := true, todSrc := d.todSource, secs := d.todSecs, value := 0 }) ∧
  (∀ (s : State) (d : Device) (tag : Byte) (f : Flight) (k : Nat), s.finds d → d.begins tag.toNat 0x011 = some f → d.readyOk = true →
    (List.range 4).find? (fun i => !(d.rst.slots.toList.getD (16 + i) {}).used) = some k → f.params.foldr (fun p acc => p % 4294967296 + acc * 4294967296) 0 ≠ 0 →
    ∃ t, exec (.setAnchor tag true) s = .next t ∧ t.dev.rst.strict = d.rst.strict ∧ t.dev.rst.slots.toList.getD (16 + k) {} =
      { used := true, valid := true, todSrc := d.todSource, secs := d.todSecs,
        value := f.params.foldr (fun p acc => p % 4294967296 + acc * 4294967296) 0 }) ∧
  (∀ (s : State) (d : Device) (tag : Byte) (f : Flight) (k : Nat) (ok : Bool), s.finds d → d.begins tag.toNat 0x700 = some f → d.readyOk = true →
    f.p 0 < 16 → (List.range 16).find? (fun i => !(d.rst.slots.toList.getD i {}).used) = some k →
    ∃ t, exec (.setColumn tag ok) s = .next t ∧ t.dev.rst.slots.toList.getD k {} =
      { used := true, valid := ok, todSrc := d.todSource, secs := d.todSecs, value := f.p 0 }) ∧
  (∀ (s : State) (d : Device) (tag : Byte) (f : Flight), s.finds d → d.begins tag.toNat 0x802 = some f → d.readyOk = true → f.p 0 < 32 →
    d.blockFault (f.p 0) = none →
    exec (.blockReset tag) s = .next (s.gives ((d.await f (.blockReset (f.p 0))).requestBlock (f.p 0)))) ∧
  (∀ (s : State) (d : Device) (tag : Byte) (f : Flight) (r : Nat), s.finds d → d.begins tag.toNat 0x802 = some f → d.readyOk = true → f.p 0 < 32 →
    d.blockFault (f.p 0) = some r →
    exec (.blockReset tag) s = .next (s.gives ((d.requestBlock (f.p 0)).complete f (if r = 3 then sBAD_PARAM else sBUSY_JOB) 0 [])))

/-- JOB_START in READY with every check of R484 passed and the BEAM_PERMIT level high sends the first command of the passport, and waits. PAUSE in
WRITING, of a column that is no worker, waits for the end of the pass; the manager sends MPAUSE to the workers. RESUME in HELD, with
no resume under way and no write-back to try first, completes with the status of its checks, OK where the job goes on and DEFERRED where the head
temperature alone fails and DEFER_OK allows it; the manager asks the workers whatever its own checks give. ABORT sends ABORT in the
mesh, waits for READY, and makes its stop unless an abort is under way already. LIBRARY_LOAD clears the library and opens a closed slot for its
stream. An abort is complete with the stage and the layer axes at rest and no flash decided or high: the frames of a stopped pass are dropped, the compression
engines end ABORTED, every slot closes, the module enters READY, and ABORT completes OK, PAUSE and JOB_START ABORTED. -/
def Obligations.JobCommandsTakeEffect : Prop :=
  (∀ (s : State) (d : Device) (tag : Byte) (f : Flight) (j : Job) (l : List Stripe), s.finds d → d.begins tag.toNat 0x100 = some f →
    d.readyOk = true → d.start = none → f.jobFault = none → d.flag fPermit = true →
    d.readStripes f.geometry.adv f.geometry.width (f.p 8) (hostAddr (f.p 9) (f.p 10)) none = some l → j = { f.geometry with stripes := l } →
    l.all (fun x => x.tallyOnly) = false → d.needs ((List.range 13).drop 1 ++ [18]) = true → (l.any (fun x => x.source.isNdf) = true → d.needs [20] = true) →
    d.settingsRefused = false → d.derivedOk j = true → d.rillCheck j (fun _ => false) = none →
    (List.range 4).any (fun c => d.get (fChState c) == 3) = false → d.flag fSelftestFail = false → d.unserved = false →
    exec (.jobStart tag false) s = .next (s.gives ((d.await f .job).beginPassport j))) ∧
  (∀ (s : State) (d d1 : Device) (tag : Byte) (f : Flight), s.finds d → d.begins tag.toNat 0x101 = some f → d.inWriting = true →
    d.isWorker = false → d1 = (d.await f .pause).mapJob (fun j => { j with pausing := true }) →
    exec (.pause tag) s = .next (s.gives (if d1.isManager then d1.sendMesh toAll mPAUSE [] else d1))) ∧
  (∀ (s : State) (d : Device) (tag : Byte) (f : Flight), s.finds d → d.begins tag.toNat 0x102 = some f → d.inHeld = true →
    d.isWorker = false → d.job.any (fun j => j.aborting) = false → d.msh.asking = false →
    d.flag fDeferResume = false → d.lne.pp.forResume = false → d.columnLost = none → d.lne.pp.blocked = false →
    exec (.resume tag) s = .next (s.gives (if d.isManager then (d.await f .resume).askColumns
      else if d.resumeStatus = sOK then (d.complete f sOK 0 []).resumeAccept none
      else if d.resumeStatus ≠ sDEFERRED then d.complete f d.resumeStatus 0 []
      else if f.deferOk then (d.complete f sDEFERRED 0 []).putFlag fDeferResume true else d.complete f sBUSY_JOB 0 []))) ∧
  (∀ (s : State) (d : Device) (tag : Byte) (f : Flight), s.finds d → d.begins tag.toNat 0x103 = some f → d.inJob = true →
    exec (.abort tag) s = .next (s.gives (if d.job.any (fun j => j.aborting) then d.await f .abort
      else ((d.await f .abort).sendMesh toAll mABORT []).beginAbort))) ∧
  (∀ (s : State) (d : Device) (tag : Byte) (f : Flight) (slot : Fin 16) (src : Source), s.finds d → d.begins tag.toNat 0x110 = some f →
    d.readyOk = true → d.needs [1, 2] = true → (src.isNdf = true → d.needs [20] = true) →
    d.readSource (f.p 0) (f.p 1) (f.p 2) = some src → d.someWaits (fun w => w == .library) = false → d.start = none →
    (d.slot slot).isOpen = false →
    exec (.libraryLoad tag slot false) s = .next (s.gives
      (({ ((d.await f .library).clearLibrary) with
          mem := { ((d.await f .library).clearLibrary).mem with libLost := false } } : Device).openSlot slot .library src (f.p 0 % 262144) 0 (some f.tag)))) ∧
  (∀ (s : State) (d d1 d2 d3 : Device) (j : Job), s.finds d → d.job = some j → d.released 13 = true → d.inJob = true → j.aborting = true → d.atRest = true →
    d.fls.decided = none → d.fls.high = none → d.mot.layer.toList.any (fun m => m.any (fun (v : LayerMove) => v.running)) = false →
    d1 = (d.when d.inWriting (fun d => d.putS36 MOT_REST_X d.mot.x)) →
    d2 = (((d1.when (d.flag fStopPending || d.inHeld) (fun d => d.setFrames [])).each [0, 1]
      (fun d e => if (d.engine e).running then d.endEngine e sABORTED else d)).each (List.range 16) Device.closeSlot).clearPath →
    d3 = ({ d2 with mot := { d2.mot with layer := Vector.replicate 2 none } } : Device).enterReady →
    exec .abortComplete s = .next (s.gives (((d3.completeWhere (fun w => w == .abort) sOK 0 []).completeWhere (fun w => w == .pause) sABORTED 0
      []).completeWhere (fun w => w == .job) sABORTED 0
        (((d3.completeWhere (fun w => w == .abort) sOK 0 []).completeWhere (fun w => w == .pause) sABORTED 0 []).jobResults j))))

/-- Lane, rill and head commands where they are accepted. -/
def Obligations.LaneRillAndHeadCommandsTakeEffect : Prop :=
  (∀ (s : State) (d : Device) (tag : Byte) (f : Flight), s.finds d → d.begins tag.toNat 0x300 = some f → d.runOk = true → d.needs [18] = true → f.p 0 < 72 →
    (d.laneSt (f.p 0) = 2 ∨ d.laneSt (f.p 0) = 3) →
    exec (.laneCal tag) s = .next (s.gives (calNowWrite (f.p 0) (d.await f (.laneCal (f.p 0)))))) ∧
  (∀ (s : State) (d : Device) (tag : Byte) (f : Flight), s.finds d → d.begins tag.toNat 0x301 = some f → d.runOk = true → d.needs [18] = true → f.p 0 < 72 →
    d.unitUp 18 = true → d.retrainTaken (f.p 0) = true →
    exec (.laneRetrain tag) s = .next (s.gives (laneRetrainWrite (f.p 0) (d.await f (.laneRetrain (f.p 0)))))) ∧
  (∀ (s : State) (d : Device) (tag : Byte) (f : Flight) (g : Fin 8) (k : Fin 32), s.finds d → d.begins tag.toNat 0x302 = some f →
    d.inJob = true → d.runs = true → f.p 0 = 256 * k.val + g.val → d.unitUp (5 + g.val) = true → d.forceTaken g (131072 + k.val) = true →
    exec (.rillForce tag) s = .next (s.gives (writeRilForce g (131072 + k.val) (d.await f (.rillForce (32 * g.val + k.val)))))) ∧
  (∀ (s : State) (d : Device) (tag : Byte) (f : Flight), s.finds d → d.begins tag.toNat 0x303 = some f → d.inHeld = true → d.unitUp 5 = true →
    d.ackTaken = true →
    exec (.stuckAck tag) s = .next (s.gives
      ((({ d with ril := { d.ril with acked := true } } : Device).putFlag fStuckHold false).complete f sOK 0 []))) ∧
  (∀ (s : State) (d : Device) (tag : Byte) (f : Flight), s.finds d → d.begins tag.toNat 0x304 = some f → d.restOk = true → f.p 0 < 6 →
    d.released 13 = true → d.restoreTaken (f.p 0) = true →
    exec (.headRestore tag) s = .next (s.gives ((d.restoreHead (f.p 0)).complete f sOK 0 [])))

/-- Motion commands where they are accepted: MOVE, LAYER_GOTO and MOTION_STOP. -/
def Obligations.MotionCommandsTakeEffect : Prop :=
  (∀ (s : State) (d : Device) (tag : Byte) (f : Flight), s.finds d → d.begins tag.toNat 0x400 = some f → d.readyOk = true →
    f.badParam [m32, 0xF, m32, 0xF] = none → d.mot.readyMove = false → d.released 13 = true → d.badLimits = false →
    ∃ t, exec (.move tag) s = .next t ∧ t.dev.mot.readyMove = true ∧ t.dev.mot.askTick = d.clock ∧
      t.dev.mot.ask = some (.move (wide36 (f.p 0) (f.p 1)) (wide36 (f.p 2) (f.p 3)) true)) ∧
  (∀ (s : State) (d : Device) (tag : Byte) (f : Flight), s.finds d → d.begins tag.toNat 0x401 = some f → d.restOk = true →
    f.badParam [1, m32, 0xF] = none → d.gotoTaken (f.p 0) = true →
    exec (.layerGoto tag) s = .next (s.gives ((d.await f (.layerGoto (f.p 0))).startGoto (f.p 0) (wide36 (f.p 1) (f.p 2))))) ∧
  (∀ (s : State) (d : Device) (tag : Byte) (f : Flight), s.finds d → d.begins tag.toNat 0x402 = some f → d.readyOk = true → d.mot.readyMove = true →
    ∃ t, exec (.motionStop tag) s = .next t ∧ t.dev.mot.ask = some .stop ∧ t.dev.mot.askTick = d.clock) ∧
  (∀ (s : State) (d : Device) (tag : Byte) (f : Flight), s.finds d → d.begins tag.toNat 0x402 = some f → d.readyOk = true → d.mot.readyMove = false →
    exec (.motionStop tag) s = .next (s.gives (d.complete f sOK 0 [])))

/-- Memory, DMA, check unit, time, server and mesh commands where they are accepted. -/
def Obligations.UnitCommandsTakeEffect : Prop :=
  (∀ (s : State) (d : Device) (tag : Byte) (f : Flight), s.finds d → d.begins tag.toNat 0x500 = some f → d.readyOk = true →
    exec (.memMarkClear tag) s = .next (s.gives (d.clearMarks.complete f sOK 0 []))) ∧
  (∀ (s : State) (d : Device) (tag : Byte) (f : Flight), s.finds d → d.begins tag.toNat 0x501 = some f → d.readyOk = true →
    f.badParam [0x1FFFFF] = none →
    exec (.pageRetire tag) s = .next (s.gives (match (List.range 256).find? (fun i => !d.flag (bitAt (MEM_RETIRE i + 4) 17)) with
      | some i => (d.storeDwords (MEM_RETIRE i) [{ rws := 0x3FFFF }, { rws := 0x20007 }]
          [bits (f.p 0) 0 18, 131072 + bits (f.p 0) 18 3]).complete f sOK 0 [i]
      | none => d.complete f sNO_RESOURCE 0 []))) ∧
  (∀ (s : State) (d : Device) (tag : Byte) (f : Flight), s.finds d → d.begins tag.toNat 0x510 = some f → d.runOk = true →
    f.badParam [0x131F, m32, 0x3FFFFF] = none → d.dmaState (bits (f.p 0) 0 5) = 0 →
    exec (.dmaRun tag) s = .next (s.gives (writeDmaCtrl (bits (f.p 0) 0 5) (131072 + bits (f.p 0) 8 2 * 2048 + bits (f.p 0) 12 1 * 1024)
      (((d.await f (.dma (bits (f.p 0) 0 5))).put54 (DMA_CH_PC (bits (f.p 0) 0 5)) (hostAddr (f.p 1) (f.p 2))).mapChan (bits (f.p 0) 0 5)
        (fun c => { c with instr := none, pcWas := none }))))) ∧
  (∀ (s : State) (d : Device) (tag : Byte) (f : Flight), s.finds d → d.begins tag.toNat 0x511 = some f → d.runOk = true →
    f.badParam [0xFF03, m32, 0xF, m32, 0xF, m18, m18, m32, m32] = none → d.chkBusy (bits (f.p 0) 0 2) = false →
    exec (.checkRun tag) s = .next (s.gives (checkRun d f))) ∧
  (∀ (s : State) (d : Device) (tag : Byte) (f : Flight), s.finds d → d.begins tag.toNat 0x600 = some f → d.readyOk = true → d.needs [20] = true →
    f.badParam [m32, 0xFFFF, m32] = none → f.p 2 ≤ 999999999 →
    exec (.todSet tag) s = .next (s.gives ((d.setTod (hostAddr (f.p 0) (f.p 1)) (f.p 2)).complete f sOK 0 []))) ∧
  (∀ (s : State) (d : Device) (tag : Byte) (f : Flight), s.finds d → d.begins tag.toNat 0x601 = some f → d.restOk = true → d.needs [20] = true →
    exec (.ptpStep tag) s = .next (s.gives (d.askStep.complete f sOK 0 []))) ∧
  (∀ (s : State) (d : Device) (tag : Byte) (f : Flight), s.finds d → d.begins tag.toNat 0x610 = some f → d.runOk = true → d.needs [20] = true →
    f.badParam (0x7 :: List.replicate 10 m18) = none → d.spr.slots.toList.any (fun x => x.isOpen && x.source == .ndf (f.p 0)) = false →
    exec (.serverSet tag) s = .next (s.gives (serverSet d f))) ∧
  (∀ (s : State) (d : Device) (tag : Byte) (f : Flight), s.finds d → d.begins tag.toNat 0x701 = some f → d.runOk = true → d.needs [19] = true → f.p 0 < 4 →
    d.unitUp 19 = true → d.portRetrainTaken (f.p 0) = true →
    exec (.meshRetrain tag) s = .next (s.gives ((d.await f (.meshRetrain (f.p 0))).portTrain (f.p 0))))

/-- Table commands and COMPRESS where they are accepted: TABLE_LOAD stores its shadow, and with COMMIT 1 commits it; TABLE_COMMIT commits the tables
that it names; TABLE_READ gives the shadow or the active copy; COMPRESS starts an idle engine, for a capture or with its input stream. -/
def Obligations.TableAndCompressCommandsTakeEffect : Prop :=
  (∀ (s : State) (d : Device) (tag : Byte) (f : Flight), s.finds d → d.begins tag.toNat 0x210 = some f → d.runOk = true → f.p 0 ≤ 0x1FF →
    f.p 0 % 256 ≤ 9 → f.p 1 + f.p 2 ≤ (tableShape (f.p 0 % 256)).1 → d.loadBars (f.p 0 % 256) = false →
    d.needs (tableIslands (f.p 0 % 256)) = true → (bitOf (f.p 0) 8 = true → d.classRefused f = false) →
    let w := (tableShape (f.p 0 % 256)).2
    let d1 := d.loadTable (f.p 0 % 256) (f.p 1 * w) (d.hostDwords (hostAddr (f.p 3) (f.p 4)) (f.p 2 * w))
    exec (.tableLoad tag false) s = .next (s.gives (if bitOf (f.p 0) 8 then d1.commitTables f [f.p 0 % 256] else d1.complete f sOK 0 []))) ∧
  (∀ (s : State) (d : Device) (tag : Byte) (f : Flight) (ts : List Nat), s.finds d → d.begins tag.toNat 0x211 = some f → d.runOk = true →
    f.badParam [0x3FF] = none → ts = (List.range 10).filter (fun t => bitOf (f.p 0) t) → ts ≠ [] →
    ts.any d.tableTaken = false → d.needs (ts.flatMap tableIslands) = true → d.classRefused f = false →
    exec (.tableCommit tag) s = .next (s.gives (d.commitTables f ts))) ∧
  (∀ (s : State) (d : Device) (tag : Byte) (f : Flight) (vs : List Nat), s.finds d → d.begins tag.toNat 0x212 = some f → d.runs = true →
    f.p 2 ≤ 9 → f.p 3 ≤ 1 → f.p 4 + f.p 5 ≤ (tableShape (f.p 2)).1 → f.p 5 * (tableShape (f.p 2)).2 ≤ 4095 →
    d.needs (tableIslands (f.p 2)) = true →
    vs = (List.range (f.p 5 * (tableShape (f.p 2)).2)).map (fun i => d.tableDword (f.p 2) (f.p 3 == 1) (f.p 4 * (tableShape (f.p 2)).2 + i)) →
    exec (.tableRead tag) s = .next (s.gives ((d.putHostDwords (hostAddr (f.p 0) (f.p 1)) vs).complete f sOK 0 vs))) ∧
  (∀ (s : State) (d : Device) (tag : Byte) (f : Flight), s.finds d → d.begins tag.toNat 0x111 = some f → d.runOk = true → d.needs [1] = true →
    d.compressFault f = none → (d.engine (f.p 0 % 2)).retired = false → d.unitUp 1 = true → bitOf (f.p 0) 1 = true →
    (d.engine (f.p 0 % 2)).running = false →
    exec (.compress tag false) s = .next (s.gives (d.startEngine f {
      capture := true, point := bits (f.p 0) 2 2, slot := bits (f.p 0) 8 4,
      rowFirst := hostAddr (f.p 4) (f.p 5), rowCount := f.p 6 }))) ∧
  (∀ (s : State) (d : Device) (tag : Byte) (f : Flight) (src : Source) (n : Nat), s.finds d → d.begins tag.toNat 0x111 = some f → d.runOk = true →
    d.needs [1] = true → d.compressFault f = none → (d.engine (f.p 0 % 2)).retired = false → d.unitUp 1 = true → bitOf (f.p 0) 1 = false →
    d.readSource (f.p 4) (f.p 5) (f.p 6) = some src → (src.isNdf = true → d.needs [20] = true) → (d.engine (f.p 0 % 2)).running = false →
    d.closedSlot = some n →
    exec (.compress tag false) s = .next (s.gives ((d.openSlot n .recode src (f.p 4 % 262144) 0 (some f.tag)).startEngine f { slot := n })))

/-- The position inputs: levels of A and B that make one step in three samples count in the channel's direction; a rise of Z that three samples
show latches COUNT into INDEX, raises event 155 where INDEX_EVT is 1, and a fall of Z changes its level alone; a probe level that three samples
show and that differs from the filtered one, where EDGE selects that edge and no latch is pending, latches the tick and the six positions and raises event
153 + p, and a level that fewer samples show or that is the filtered one already does nothing; LOS fails the head
with cause 2 and its end clears it; heads that diverge for CHK_TICKS with neither or both channels in error are event 151 and a stop. -/
def Obligations.PositionInputsTakeEffect : Prop :=
  (∀ (s : State) (d d1 d2 : Device) (c : Fin 6) (a b : Bool) (na nb : Nat) (h : Head), s.finds d → d.released 13 = true → 3 ≤ na → 3 ≤ nb →
    h = { d.head c with a := a, b := b } → ((h.q + 4 - (d.head c).q) % 4 = 1 ∨ (h.q + 4 - (d.head c).q) % 4 = 3) →
    d1 = (d.setHead c h).put (fChLevels c) (b2n a * 4 + b2n b * 2 + b2n h.z) →
    d2 = d1.countStep c ((h.q + 4 - (d.head c).q) % 4 == 1) →
    exec (.encoderEdge c { level := a, samples := na } { level := b, samples := nb }) s = .next (s.gives (d2.moved c (d2.flag (fChDir c) != d1.flag (fChDir c))))) ∧
  (∀ (s : State) (d : Device) (c : Fin 6) (n : Nat), s.finds d → d.released 13 = true → (d.head c).z = true → 3 ≤ n →
    exec (.indexLatch { ch := c, level := false, samples := n }) s = .next (s.gives ((d.setHead c { d.head c with z := false }).put (fChLevels c)
      (b2n (d.head c).a * 4 + b2n (d.head c).b * 2)))) ∧
  (∀ (s : State) (d : Device) (c : Fin 6) (n : Nat), s.finds d → d.released 13 = true → (d.head c).z = false → 3 ≤ n →
    ∃ t, exec (.indexLatch { ch := c, level := true, samples := n }) s = .next t ∧ (t.dev.head c).z = true ∧
      t.dev.flag (fIndexValid c) = true ∧ t.dev.get36 (POS_CH_INDEX c) = d.get36 (POS_CH_COUNT c) ∧
      (d.flag (bitAt (POS_CH_CTRL c) 16) = true → t.dev.isPending 155 = true)) ∧
  (∀ (s : State) (d d0 d1 : Device) (p : Fin 2) (level : Bool) (n : Nat), s.finds d → d.released 13 = true → 3 ≤ n →
    d.pos.probes.toList.getD p false ≠ level →
    d0 = ({ d with pos := { d.pos with probes := d.pos.probes.set! p level } } : Device).wakeLatch (1 + p) →
    (bits (d0.reg (POS_PRB_CTRL p)) 14 2 = 3 ∨ bits (d0.reg (POS_PRB_CTRL p)) 14 2 = (if level then 1 else 2)) →
    d0.flag (bitAt (POS_PRB_CTRL p) 17) = false →
    d1 = (d0.put36 (POS_PRB_TICK p) d0.tick).each (List.range 6) (fun d c => d.put36 (POS_PRB_POS p + 8 * c) (d.get36 (POS_CH_POS c))) →
    exec (.probeLatch p { level := level, samples := n }) s = .next (s.gives
      ((({ d1 with pos := { d1.pos with probeAt := (p.val, d1.clock) :: d1.pos.probeAt.filter (fun x => x.1 != p.val) } } : Device).putFlag
        (bitAt (POS_PRB_CTRL p) 17) true).raise (153 + p)))) ∧
  (∀ (s : State) (d : Device) (p : Fin 2) (level : Bool) (n : Nat), s.finds d → (n < 3 ∨ d.pos.probes.toList.getD p false = level) →
    exec (.probeLatch p { level := level, samples := n }) s = .next (s.gives d)) ∧
  (∀ (s : State) (d : Device) (c : Fin 6), s.finds d → d.released 13 = true →
    exec (.headLos c) s = .next (s.gives ((d.setLos c true).failHead c 2)) ∧
    exec (.headLosClear c) s = .next (s.gives (d.setLos c false))) ∧
  (∀ (s : State) (d : Device) (y : Bool), s.finds d → d.released 13 = true → d.diverged (b2n y) = true → d.flag (fDiv (b2n y)) = false →
    ((d.qerrWin (2 * b2n y) = 0) ↔ (d.qerrWin (2 * b2n y + 1) = 0)) →
    exec (.headDivergence y) s = .next (s.gives (((d.putFlag (fDiv (b2n y)) true).raise 151).stopRequest cHEAD)))

/-- POS_HEAD_CTRL and the compares where their writes act: FAIL fails its head with cause 4; RESTORE in READY or HELD with LOS clear
restores it; an ARM whose target lies ahead arms the compare, and one whose target is reached sets BEHIND with event 158; an armed time
compare fires at its tick, disarms, sets FIRED and raises event 157, and time compare 0 is a wake source. -/
def Obligations.HeadControlAndComparesTakeEffect : Prop :=
  (∀ (s : State) (d : Device) (c : Fin 6), s.finds d → d.released 13 = true →
    exec (.headFail (BitVec.ofNat 18 (2 ^ c.val))) s = .next (s.gives (d.failHead c 4))) ∧
  (∀ (s : State) (d : Device) (c : Fin 6), s.finds d → d.released 13 = true → d.restoreTaken c = true →
    exec (.restore (BitVec.ofNat 18 (64 * 2 ^ c.val))) s = .next (s.gives (d.restoreHead c))) ∧
  (∀ (s : State) (d : Device) (k : Fin 4), s.finds d → d.released 13 = true → d.delta (d.get36 (POS_TCMP_TARGET k)) < 0 →
    ∃ t, exec (.timeCompareArm k 0x20000) s = .next t ∧ t.dev.flag (bitAt (POS_TCMP_CTRL k) 17) = true ∧ t.dev.clock = d.clock) ∧
  (∀ (s : State) (d : Device) (k : Fin 4), s.finds d → d.released 13 = true → 0 ≤ d.delta (d.get36 (POS_TCMP_TARGET k)) →
    ∃ t, exec (.timeCompareArm k 0x20000) s = .next t ∧ t.dev.flag (bitAt (POS_TCMP_CTRL k) 17) = false ∧
      t.dev.flag (bitAt (POS_TCMP_CTRL k) 16) = true ∧ t.dev.isPending 158 = true) ∧
  (∀ (s : State) (d : Device) (k : Fin 4) (v : Word) (d1 : Device), s.finds d → d.released 13 = true → bitOf v.toNat 17 = true →
    d1 = d.setReg (POS_PCMP_CTRL k) ((bits (d.reg (POS_PCMP_CTRL k)) 15 2 &&&
      ((3 - bits v.toNat 15 2) ||| bits (d.justSet (POS_PCMP_CTRL k)) 15 2)) * 32768 + (v.toNat &&& 0x7800)) →
    exec (.positionCompareArm k v) s = .next (s.gives (if d1.reached k then
        let d2 := (d1.putFlag (bitAt (POS_PCMP_CTRL k) 16) true).raise 158
        { d2 with pos := { d2.pos with armedAt := (k.val, d2.clock) :: d2.pos.armedAt.filter (fun p => p.1 != k.val) } }
      else
        let d2 := d1.putFlag (bitAt (POS_PCMP_CTRL k) 17) true
        { d2 with pos := { d2.pos with armedAt := (k.val, d2.clock) :: d2.pos.armedAt.filter (fun p => p.1 != k.val) } }))) ∧
  (∀ (s : State) (d d1 : Device) (k : Fin 4), s.finds d → d.released 13 = true → d.flag (bitAt (POS_TCMP_CTRL k) 17) = true →
    0 ≤ d.delta (d.get36 (POS_TCMP_TARGET k)) →
    d1 = (((d.putFlag (bitAt (POS_TCMP_CTRL k) 17) false).putFlag (bitAt (POS_TCMP_CTRL k) 15) true).itemIn 9).raise 157 →
    exec (.timeCompareFire k) s = .next (s.gives (if k.val = 0 then wakeEffect 7 0 d1 else d1)))

/-- The strobe where it acts: it rises for the decided flash, whose number FIRED counts and LAST_FSEQ holds, for WINDOW; and it falls at
the end of the window. BEAM_PERMIT: a fall of 10 ns or more sets the blanking latch, and the strobe output is low in the state that
follows; a rise raises event 169 and clears no latch. -/
def Obligations.StrobesAndThePermit : Prop :=
  (∀ (s : State) (d d1 d2 d3 : Device) (x : Decided) (j : Job), s.finds d → d.fls.decided = some x → d.job = some j → x.rise ≤ d.clock →
    d.strobeGated = false →
    d1 = { d with fls := { d.fls with
      decided := none, flash := true, high := some (x.fseq, d.clock, d.clock + d.get fWindow),
      recent := (d.clock, x.fseq) :: d.fls.recent.filter (fun p => decide (d.clock ≤ p.1 + 12800)) } } →
    d2 = ((((d1.put36 FLS_FIRED ((d1.get36 FLS_FIRED + 1) % pairMod)).put36 FLS_LAST_FSEQ x.fseq).countUsage x.fseq).mapJob
      (fun j => { j with firedN := x.n })) →
    d3 = (((d2.setFrames (d2.lne.frames.filter (fun f => f.fseq != x.fseq))).itemOut 9).releaseRows).showCistern.each (List.range 72)
      Device.laneSettle →
    exec .strobeRise s = .next (s.gives (if d3.fls.flushDue then d3.stopFlush ((x.fseq + 1) % pairMod) else d3.showWeir))) ∧
  (∀ (s : State) (d : Device) (fseq t0 t1 : Nat), s.finds d → d.fls.high = some (fseq, t0, t1) → t1 ≤ d.clock →
    exec .strobeFall s = .next (s.gives { d with fls := { d.fls with flash := false, high := none } })) ∧
  (∀ (s : State) (d : Device) (n : Nat) (d1 : Device), s.finds d → 10 ≤ n → d.flag fBlanked = false →
    d1 = ({ d with fls := { d.fls with permit := false, fell := true } } : Device).putFlag fPermit false →
    exec (.beamPermitFall n) s = .next (s.gives ((((d1.putFlag fBlanked true).raise 168).undecide).stopRequest cPERMIT).cutStrobe)) ∧
  (∀ (s : State) (d : Device) (n : Nat), s.finds d → 10 ≤ n → d.inWriting = false →
    ∃ t, exec (.beamPermitFall n) s = .next t ∧ t.dev.flag fBlanked = true ∧ t.dev.fls.flash = false) ∧
  (∀ (s : State) (d : Device), s.finds d → d.released 13 = true →
    ∃ t, exec .beamPermitRise s = .next t ∧ t.dev.flag fPermit = true ∧ t.dev.flag fBlanked = d.flag fBlanked ∧ t.dev.isPending 169 = true)

/-- A servo boundary that has fallen due, with no setting written in its tick: what the motion block does at it; on a worker it sends no
set-points, on another column a frame, and the next boundary lies 800·SERVO ticks later. A MOVE that has settled completes. A job's step that
has settled waits in LEAD. A back-up point that is reached is event 181. A run-in starts at the first boundary after all that it waits for; the
manager tells the workers. A commit of the sine table outside a job switches it at once. MOT_LAX_GOTO starts a move to its target. A level of
LAYER_READY that 800 samples show is the level in force, and its rise is the go with GO_SRC 0; MOT_LAYER.GO is the go with GO_SRC 1. A layer move
that has settled, without VERIFY or within TOL, completes with event 184 + k. -/
def Obligations.StageAndLayerAxesTakeEffect : Prop :=
  (∀ (s : State) (d : Device), s.finds d → d.released 13 = true → d.mot.nextBoundary ≤ d.clock → (d.mot.wrote.1 ≠ d.clock ∨ d.mot.wrote.2 = []) →
    exec .servoBoundary s = .next (s.gives (d.boundary d.mot.nextBoundary))) ∧
  (∀ (d d1 : Device) (tb : Nat), d.isWorker = true → d1 = (if d.motionFirst.inReady then d.motionFirst.beginMotion tb else d.motionFirst).sendReport →
    Device.boundary tb d = d1.mapMot (fun m => { m with nextBoundary := tb + 800 * d1.get fServo, lastBoundary := tb })) ∧
  (∀ (s : State) (d : Device), s.finds d → d.released 13 = true → d.settled = true → d.mot.readyMove = true →
    d.someWaits (fun w => w == .motionStop) = false → d.inWriting = false →
    ∃ t, exec .moveSettled s = .next t ∧ t.dev.mot.readyMove = false ∧ t.dev.ulp.flights.any (fun f => f.wait == .moveEnd) = false) ∧
  (∀ (s : State) (d : Device), s.finds d → d.released 13 = true → d.settled = true → d.mot.readyMove = false → d.inWriting = true →
    d.phase = phStep → exec .moveSettled s = .next (s.gives (d.setPhase phLead))) ∧
  (∀ (s : State) (d : Device), s.finds d → d.released 13 = true → d.inWriting = true → d.mot.backupDue = true → d.settled = true →
    d.flag fStopPending = false →
    exec .backupComplete s = .next (s.gives ((d.mapMot (fun m => { m with backupDue := false })).raise 181))) ∧
  (∀ (s : State) (d d1 d2 d3 : Device) (j : Job) (t0 : Nat), s.finds d → d.job = some j → d.released 13 = true → d.mot.nextBoundary ≤ d.clock →
    d.isWorker = false → d.inWriting = true → d.awaitsRun = true → d.mot.backupDue = false → d.settled = true → d.canRun = true →
    d.runHeld j = (false, d1) →
    (d1.isManager && !d1.workersReady) = false → d1.mot.runSince = some t0 → t0 < d1.mot.nextBoundary → d2 = d1.armRun j →
    d2.flag fStopPending = false → d3 = d2.planRun j d2.mot.nextBoundary →
    exec .runInStart s = .next (s.gives
      (if d3.isManager then d3.sendMesh toAll mRUN ([j.pass * 2 + b2n j.reverse] ++ body36 (j.fseq j.nextFlash)) else d3))) ∧
  (∀ (s : State) (d : Device) (v : Word), s.finds d → d.released 13 = true → bitOf v.toNat 0 = true → d.flag fSinePending = false →
    ((d.putFlag fSinePending true).pendTable 9).inJob = false →
    exec (.sineTableCommit v) s = .next (s.gives ((d.putFlag fSinePending true).pendTable 9).switchSine)) ∧
  (∀ (s : State) (d : Device) (k : Fin 2) (v : Word) (lo : Word), s.finds d → d.gotoTaken k = true → cellFind d.heldWrites (MOT_LAX_GOTO k) = some lo →
    exec (.layerAxisGoto k v) s = .next (s.gives
      (({ d with heldWrites := cellErase d.heldWrites (MOT_LAX_GOTO k) } : Device).startGoto k (s36 (pairVal lo.toNat v.toNat))))) ∧
  (∀ (s : State) (d : Device) (n : Nat), s.finds d → d.released 13 = true → 800 ≤ n → d.flag fLayerReady = true →
    exec (.layerReady { level := false, samples := n }) s = .next (s.gives (d.putFlag fLayerReady false))) ∧
  (∀ (s : State) (d d1 : Device) (n : Nat), s.finds d → d.released 13 = true → 800 ≤ n → d.flag fLayerReady = false →
    d1 = (d.putFlag fLayerReady true).mapMot (fun m => { m with readyRise := some (d.putFlag fLayerReady true).clock }) →
    exec (.layerReady { level := true, samples := n }) s = .next (s.gives (if d1.flag fGoSrc then d1 else d1.layerGo))) ∧
  (∀ (s : State) (d : Device) (v : Word), s.finds d → d.released 13 = true → bitOf v.toNat 17 = true → d.flag fGoSrc = true →
    exec (.motLayerGo v) s = .next (s.gives d.layerGo)) ∧
  (∀ (s : State) (d : Device) (k : Fin 2) (mv : LayerMove), s.finds d → d.released 13 = true → d.layerMove k = some mv → mv.sent = true →
    mv.ended + d.reg MOT_SETTLE % 65536 * 800 ≤ d.clock →
    (bitOf (d.laxSet k).1 16 = false ∨ (d.getS36 (POS_CH_POS (4 + k)) - d.getS36 (MOT_LAX_CMD k)).natAbs ≤ bits (d.laxSet k).1 8 8) →
    exec (.layerMoveComplete k) s = .next (s.gives
      ((((((d.setLayerMove k none).when (!d.inJob) (fun d => d.captureLax k)).raise (184 + k)).itemOut 10).completeWhere
        (fun w => w == .layerGoto k) sOK 0 []).layersMoved.readyMet)))

/-- The end of a pass: with the flashes of the pass fired and the run-out at rest, event 180 and what follows the pass. The end of a stop
with the stage at rest: HELD, event 161, MOT_REST_X, a pause complete, and the write-back of usage; the manager tells the workers. A wait for
JOINs of 10 s names the first worker that has not sent one. FLS_COMMIT outside a job switches the delay table at once. -/
def Obligations.JobEventsTakeEffect : Prop :=
  (∀ (s : State) (d : Device) (j : Job), s.finds d → d.job = some j → d.released 13 = true → d.inWriting = true → d.flag fStopPending = false →
    (j.nFlashes : Int) ≤ j.firedN + 1 → d.fls.high = none → d.phase = phRunOut → (d.isWorker = true ∨ (d.mot.runOut = true ∧ d.atRest = true)) →
    exec .passEnd s = .next (s.gives (d.raise 180).passDone)) ∧
  (∀ (s : State) (d d1 d2 d3 : Device) (j : Job), s.finds d → d.job = some j → d.released 13 = true → d.inWriting = true →
    d.flag fStopPending = true → j.aborting = false → d.stopRests = true →
    d1 = ((d.setState stHeld).setPhase phIdle).putFlag fStopPending false →
    d2 = (((d1.putFlag fArmed false).raise 161).putS36 MOT_REST_X ((d1.putFlag fArmed false).raise 161).mot.x).discardAfter (j.fseq j.decidedN) →
    d3 = (({ d2 with fls := { d2.fls with flushDue := false, stopArmed := false } } : Device).completeWhere (fun w => w == .pause) sOK 0 []).mapJob
      (fun j => { j with pausing := false }) →
    exec .stitchStopHeld s = .next (s.gives ((d3.when d3.isManager (fun d => d.sendMesh toAll mREST [])).writeback).showWeir)) ∧
  (∀ (s : State) (d : Device) (j : Job) (c : Nat), s.finds d → d.start = some (.join, j) → d.msh.joinSince + 8000000000 ≤ d.clock →
    d.workers.find? (fun c => !(d.msh.joins.any (fun x => x.1 == c))) = some c →
    exec .joinTimeout s = .next (s.gives (d.joinFails c sTIMEOUT 0))) ∧
  (∀ (s : State) (d : Device) (v : Word), s.finds d → d.released 13 = true → bitOf v.toNat 0 = true → d.flag fFlsPending = false →
    ((d.putFlag fFlsPending true).pendTable 8).inJob = false →
    exec (.flsCommit v) s = .next (s.gives (((d.putFlag fFlsPending true).pendTable 8).switchFls clsImmediate 0)))

/-- The passport's bus where it answers: a good IDENTIFY response is followed by a CHALLENGE with a fresh nonce; a poll that stays
unacknowledged for 500 ms fails the transaction with TIMEOUT; and a retry that has fallen due sends ADD_USAGE again. -/
def Obligations.PassportBusTakesEffect : Prop :=
  (∀ (s : State) (d : Device) (bytes : List Byte) (p : List Nat), s.finds d → d.lne.pp.cmd = 1 →
    ppPayload (bytes.map (fun b => b.toNat)) 208 = some p → bytes ≠ [] →
    exec (.passportResponse bytes) s = .next (s.gives
      ((d.nextFree.mapPp (fun q => { q with
        serial := p.take 16, makerKey := (p.drop 16).take 64, devKey := (p.drop 80).take 64, cert := p.drop 144,
        nonce := d.freshNonce })).ppSend 2 d.freshNonce))) ∧
  (∀ (s : State) (d : Device), s.finds d → d.lne.pp.cmd ≠ 0 → d.lne.pp.since + 400000000 ≤ d.clock →
    exec (.passportPoll false) s = .next (s.gives (d.ppFails ppTimeout))) ∧
  (∀ (s : State) (d : Device) (t : Nat), s.finds d → d.lne.pp.retryAt = some t → t ≤ d.clock →
    exec .passportRetry s = .next (s.gives d.ppAddUsage))

/-- Frames on the lanes: a frame whose codes are complete, with a credit and a free lane, leaves on the group's lane and waits for its echo; the
entries of an ACK block that passes its checks are taken in order, and its first error is the lane's; a frame that no echo answers in
ACK_TIMEOUT symbols is an error of the lane and waits for replay; a replay carries header bit 9 and is counted; a FLUSH that no ACK answers in
100 µs is an error of the lane and is sent again. -/
def Obligations.FramesAreSentAnsweredAndReplayed : Prop :=
  (∀ (s : State) (d d1 : Device) (n : Fin 72) (g k : Nat) (j : Job) (codes : List Nat) (f f1 : Frame), s.finds d → d.carried n = some g →
    d.groupCodes g (d.nextSend g) = some (j, k, codes) →
    (d.unitUp 18 && d.dataRuns && d.laneSt n == laneActive && d.laneFree n) = true → d.creditsUsed g < d.get fArrayDepth →
    d.lne.frames.any (fun f => f.lane == n.val && f.state == .replay) = false →
    f = { group := g, n := k, fseq := d.nextSend g,
          head := g * 4096 + d.get fCodeBits * 1024 + b2n j.reverse * 256 + j.pass * 32,
          payload := packCodes (d.get fCodeBits) codes, sum := codes.foldl (· + ·) 0, lane := n, crc := 0, endTick := 0, state := .awaiting } →
    d.transmit f n = (d1, f1) →
    exec (.frameSend n) s = .next (s.gives (({ d1 with
      slotBuf := d1.slotBuf.filter (fun x => !(x.fseq == d.nextSend g && x.slot / 4 == g)) } : Device).setFrames (d1.lne.frames ++ [f1])))) ∧
  (∀ (s : State) (d d1 : Device) (n : Fin 72) (b : RxBlock) (w : BitVec 5140) (x : LaneRx) (err : Option (Nat × Nat × Nat)), s.finds d →
    d.laneHears n = true → d.laneSt n ≠ laneLoopback → b.codeword = .message w → blockClean (d.arrayPort n) w.toNat = true →
    msgType w.toNat = btACK → x = (d.rxOf n).skip b.idles → (d.setRx n (x.take w.toNat)).takeAcks n (ackEntries w.toNat) = (err, d1) →
    exec (.ackBlock n b) s = .next (s.gives (d1.rxEnd n (if x.gap w.toNat then some (6, (d.carried n).getD 0, noFseq) else err)))) ∧
  (∀ (s : State) (d : Device) (g : Fin 64) (fseq : BitVec 36) (f : Frame), s.finds d → d.unitUp 18 = true →
    d.lne.frames.find? (fun f => f.group == g.val && f.fseq == fseq.toNat && f.state == .awaiting) = some f →
    f.endTick + 8 * (d.reg LNE_ACK_TIMEOUT % 2048) < d.clock →
    exec (.ackTimeout g fseq) s = .next (s.gives
      ((((d.markFrame g fseq.toNat .replay).laneError f.lane 2 g fseq.toNat).handoverDone).showWeir))) ∧
  (∀ (s : State) (d d1 : Device) (n : Fin 72) (f f1 : Frame), s.finds d → d.replayNext n = some f → d.unitUp 18 = true →
    d.laneSt n = laneActive → d.laneFree n = true → d.transmit { f with head := setBits f.head 9 1 1 } n = (d1, f1) →
    exec (.replaySend n) s = .next (s.gives ((d1.setFrames (d1.lne.frames.map
      (fun x => if x.group == f.group && x.fseq == f.fseq then f1 else x))).bump (whole LNE_REPLAY_COUNT)))) ∧
  (∀ (s : State) (d : Device) (g : Fin 64) (x : Flush) (n t0 : Nat), s.finds d → d.unitUp 18 = true →
    d.lne.flushes.find? (fun x => x.group == g.val) = some x → x.tick = some t0 → t0 + 80000 < d.clock → d.carryingLane g = some n →
    exec (.flushTimeout g) s = .next (s.gives ((d.laneError n 2 g noFseq).flushGroup g x.next x.all).showWeir))

/-- What a lane that hears its back channel takes: a STATUS block and a MARKER that pass their checks, with the error of a BSEQ that does not
follow; a block that fails a check is BLOCK_CRC, and a codeword that could not be corrected counts in FEC_UNCORR and is its own cause. LOS and
LOL of a lane in use are its errors, and of another lane show in its STATE; and STATUS that has stayed out for 1 ms is STALE. In loopback a block whose body differs from the PRBS31 counts in LB_ERR. -/
def Obligations.LaneInputsTakeEffect : Prop :=
  (∀ (s : State) (d : Device) (n : Fin 72) (b : RxBlock) (w : BitVec 5140) (x : LaneRx), s.finds d → d.laneHears n = true →
    d.laneSt n ≠ laneLoopback → b.codeword = .message w → blockClean (d.arrayPort n) w.toNat = true → x = (d.rxOf n).skip b.idles →
    (msgType w.toNat = btSTATUS →
      exec (.statusBlock n b) s = .next (s.gives (((d.setRx n (x.take w.toNat)).takeStatus n (statusOf w.toNat)).rxEnd n
        (if x.gap w.toNat then some (6, (d.carried n).getD 0, noFseq) else none)))) ∧
    (msgType w.toNat = btMARKER → ∀ d1, d1 = d.setRx n (x.take w.toNat) →
      exec (.marker n b.idles b.codeword) s = .next (s.gives (({ d1 with lne := { d1.lne with
        markers := (n.val, msgWord w.toNat 1 + msgWord w.toNat 2 * 262144) :: d1.lne.markers.filter (fun p => p.1 != n.val) } } : Device).rxEnd n
        (if x.gap w.toNat then some (6, (d.carried n).getD 0, noFseq) else none))))) ∧
  (∀ (s : State) (d : Device), s.finds d → d.unitUp 18 = true → d.lne.lastStatus + 800000 ≤ d.clock → d.flag fStale = false →
    exec .statusStale s = .next (s.gives (d.putFlag fStale true).headTemp)) ∧
  (∀ (s : State) (d : Device) (n : Fin 72), s.finds d → d.unitUp 18 = true →
    exec (.los n) s = .next (s.gives (if d.laneLive n then d.laneLost n 7 true else d.putFlag (fLaneLos n) true)) ∧
    exec (.lol n) s = .next (s.gives (if d.laneLive n then d.laneLost n 8 false else d.putFlag (fLaneLol n) true))) ∧
  (∀ (s : State) (d : Device) (n : Fin 72) (b : RxBlock) (w : BitVec 5140) (x : LaneRx), s.finds d → d.laneHears n = true →
    d.laneSt n ≠ laneLoopback → b.codeword = .message w → blockClean (d.arrayPort n) w.toNat = false → x = (d.rxOf n).skip b.idles →
    exec (.blockCrcError n b) s = .next (s.gives ((d.setRx n (x.skip 1)).rxEnd n (some (5, (d.carried n).getD 0, noFseq))))) ∧
  (∀ (s : State) (d : Device) (n : Fin 72) (b : RxBlock) (x : LaneRx), s.finds d → d.laneHears n = true →
    d.laneSt n ≠ laneLoopback → b.codeword = .uncorrectable → x = (d.rxOf n).skip b.idles →
    exec (.blockCrcError n b) s = .next (s.gives (((d.bump (whole (LNE_LANE_FEC_UNCORR n))).setRx n { x.skip 1 with bad := x.bad + 1 }).rxEnd n
      (some (4, (d.carried n).getD 0, noFseq))))) ∧
  (∀ (s : State) (d : Device) (n : Fin 72) (b : RxBlock) (w : BitVec 5140) (g c : Nat) (body : List Nat) (c1 : Nat), s.finds d →
    d.unitUp 18 = true → d.laneSt n = laneLoopback → b.idles = 0 → b.codeword = .message w → msgType w.toNat ≠ btMARKER → d.prbsOf n = (g, c) →
    prbsBody c = (body, c1) → msgBody w.toNat ≠ body →
    exec (.blockCrcError n b) s = .next (s.gives ((d.setPrbs n (g, c1)).bump (whole (LNE_LANE_LB_ERR n)))))

/-- A lane that lost its signal tries again 100 ms after its last attempt. The end of a training: with no lock the lane fails; with a TRAIN exchange
that leaves it in training and both eyes at EYE_MIN it is trained. RETRAIN of a DOWN lane, or of a RETIRED one in READY, trains it. CAL_NOW queues
the lane. LOOP puts a lane that may be looped back into the loop, and takes one out of it to train. A queued lane of a group with none in calibration begins it, or in WRITING is
due to hand its beam group to the spare when the clock ends, which it does unless an error of the lane group takes that one. A calibration with both eyes at EYE_MIN ends with its tap values, count, time, temperature and event. -/
def Obligations.LanesAreTrainedAndCalibrated : Prop :=
  (∀ (s : State) (d : Device) (n : Fin 72) (t : Nat), s.finds d → d.lne.retrying.find? (fun p => p.1 == n.val) = some (n.val, t) →
    d.unitUp 18 = true → t + 80000000 ≤ d.clock → d.laneSt n = laneDown →
    exec (.laneRetrainAttempt n) s = .next (s.gives { d.trainLane n with lne := { d.lne with
      retrying := (n.val, d.clock) :: d.lne.retrying.filter (fun p => p.1 != n.val) } })) ∧
  (∀ (s : State) (d d1 d2 : Device) (n : Fin 72) (r : LaneTraining), s.finds d → d.unitUp 18 = true → d.laneSt n = laneTraining →
    d.turned n = none → r.locked = true → d1 = ((d.putFlag (fLanePolRx n) r.invertRx).putFlag (fLanePolTx n) r.invertTx).trainExchange n r →
    d1.laneSt n = laneTraining →
    d2 = ((d1.searchTaps n r.scan).setReg (LNE_LANE_EYE_FAR n) r.eyeFar.toNat).setReg (LNE_LANE_EYE_NEAR n) r.eyeNear.toNat →
    d2.eyesPass r.eyeFar.toNat r.eyeNear.toNat = true →
    exec (.laneTrainingDone n r) s = .next (s.gives (((d2.put fArrayDepth r.depth).trainPass n).groupTrained (laneGroup n)))) ∧
  (∀ (s : State) (d : Device) (n : Fin 72) (r : LaneTraining), s.finds d → d.unitUp 18 = true → d.laneSt n = laneTraining → d.turned n = none →
    r.locked = false →
    exec (.laneTrainingDone n r) s = .next (s.gives ((d.trainFail n 1).groupTrained (laneGroup n)))) ∧
  (∀ (s : State) (d : Device) (n : Fin 72), s.finds d → d.unitUp 18 = true → d.retrainTaken n = true →
    exec (.retrain n) s = .next (s.gives (d.trainLane n))) ∧
  (∀ (s : State) (d : Device) (n : Fin 72), s.finds d → d.unitUp 18 = true → exec (.calNow n) s = .next (s.gives (d.queueCal n))) ∧
  (∀ (s : State) (d d1 d2 : Device) (n : Fin 72) (v : Word), s.finds d → d.unitUp 18 = true → d.loopTaken n = true →
    d1 = (d.noteTurn n).put (fLaneLoop n) (bits v.toNat 16 2) →
    d2 = ((if d1.laneSt n = laneLoopback then d1 else d1.laneOut n laneLoopback).groupTrained (laneGroup n)).setPrbs n (prbsStart, prbsStart) →
    exec (.loop n v) s = .next (s.gives
      (if bits v.toNat 16 2 = 0 then (if d1.laneSt n = laneLoopback then (d1.setPrbs n (prbsStart, prbsStart)).trainLane n else d1)
       else if bits v.toNat 16 2 = 3 then (d2.putOnLine n btTRAIN [[n.val, 65536]] none).1 else d2))) ∧
  (∀ (s : State) (d q : Device) (n : Fin 72), s.finds d → d.calMay n = true → d.released 13 = true →
    q = { d with lne := { d.lne with calQueue := d.lne.calQueue.filter (fun m => m != n.val) } } →
    ((d.carried n = none ∨ d.inWriting = false) → exec (.calibrationStart n) s = .next (s.gives (q.setLaneSt n laneCal).showSpares)) ∧
    (∀ g, d.carried n = some g → d.inWriting = true → d.lne.calDue.contains n.val = false →
      exec (.calibrationStart n) s = .next (s.gives { d with lne := { d.lne with calDue := d.lne.calDue ++ [n.val] } })) ∧
    (∀ g sp, d.carried n = some g → d.inWriting = true → d.spareOf (laneGroup n) = some sp →
      d.lne.moves.any (fun p => p.1 / 8 == laneGroup n) = false → d.calHandover n = q.handOver n sp g)) ∧
  (∀ (s : State) (d d1 : Device) (n : Fin 72) (scan : TapScan) (far near : Word), s.finds d → d.unitUp 18 = true → d.laneSt n = laneCal →
    d1 = ((d.searchTaps n scan).setReg (LNE_LANE_EYE_FAR n) far.toNat).setReg (LNE_LANE_EYE_NEAR n) near.toNat →
    d1.eyesPass far.toNat near.toNat = true →
    exec (.calibrationComplete n scan { far := far, near := near }) s = .next (s.gives
      (((if (d1.carried n).isSome then d1.activate n else d1.setLaneSt n laneSpare).calPassed n).showSpares.completeWhere
        (fun w => w == .laneCal n) sOK 0 [])))

/-- A slot that is ready computes its codes for the next flash it has not begun. Done, the codes are in the slot's buffer, the clamps are
counted, and a switch of the slot is complete. A loaded spare of a group loads no more. The boundary of a stripe, where one is due, switches
the pending rill tables and flash delays. A commit outside a job switches its tables at once. The check of a commit outside a job, with the
masks in range, clears REFUSED and switches; in a job its tables pend to the boundary; a check that fails sets REFUSED. A read that no
flash should make bars its flash, and a fault discards it. A forced slot moves to the group's free rill. STUCK_ACK in HELD clears STUCK_HOLD. -/
def Obligations.RillsTakeEffect : Prop :=
  (∀ (s : State) (d d1 : Device) (j0 j : Job) (k : Fin 256) (n rill : Nat) (cells : List CellError) (f : Option RillFault), s.finds d →
    d.job = some j0 → j0.atFseq (d.nextRill j0 k) = some (j, n) → d.ril.loading.contains k.val = false → d.rillReady j k n = true →
    rill = 33 * (k / 32) + d.reg (RIL_GRP_SLOT k) % 64 → d1 = d.rillReads rill (d.slotLines j k n) cells →
    ((d.slotLines j k n).find? (fun l => !d1.lineWritten l) = none → f.bind (d1.faultBeam j k n) = none →
      exec (.rillFlashStart k cells f) s = .next (s.gives (d1.rillComputes j k rill n f))) ∧
    (∀ b, (d.slotLines j k n).find? (fun l => !d1.lineWritten l) = none → f.bind (d1.faultBeam j k n) = some b →
      exec (.rillFlashStart k cells f) s = .next (s.gives (d1.rillFault j k n b))) ∧
    (∀ l, (d.slotLines j k n).find? (fun l => !d1.lineWritten l) = some l →
      exec (.rillFlashStart k cells f) s = .next (s.gives (d1.barFlash rill l (j.fseq n))))) ∧
  (∀ (s : State) (d d1 d2 : Device) (j : Job) (k : Fin 256) (x : RillJob), s.finds d → d.job = some j →
    d.ril.jobs.find? (fun x => x.slot == k.val) = some x → d.unitUp (5 + k / 32) = true →
    d1 = (({ d with
      ril := { d.ril with jobs := d.ril.jobs.filter (fun y => y.slot != k.val) },
      slotBuf := d.slotBuf ++ [({ slot := k, n := x.n, fseq := x.fseq, codes := x.codes } : SlotFlash)] } : Device).recovered 7 x.rill).itemOut 7 →
    d2 = d1.countClamps ((j.atFseq x.fseq).map (fun p => p.1.key)) x.clamps →
    exec (.rillFlashDone k) s = .next (s.gives
      (if d2.ril.switching.contains k.val && x.rill == 33 * (k / 32) + d2.reg (RIL_GRP_SLOT k) % 64 then
        ({ d2.endSwitch k with ril := { (d2.endSwitch k).ril with forced := (d2.endSwitch k).ril.forced.filter (fun m => m != k.val) } } :
          Device).completeWhere (fun w => w == Wait.rillForce k) sOK 0 []
      else d2))) ∧
  (∀ (s : State) (d : Device) (g : Fin 8), s.finds d → d.unitUp (5 + g) = true →
    ∃ t, exec (.spareLoadDone g) s = .next t ∧ t.dev.ril.loading = d.ril.loading.filter (fun k => k / 32 != g.val) ∧
      t.dev.job = d.job ∧ t.dev.slotBuf = d.slotBuf) ∧
  (∀ (s : State) (d d1 : Device) (j : Job), s.finds d → d.boundaryDue = some j →
    d1 = (({ d with
      ril := { d.ril with boundary := some j.key, old := if d.job.any j.samePass then none else some d.rillTables },
      tbl := { d.tbl with rill := some (d.clock, j.stripe, j.layer) } } : Device).setReg RIL_BOUNDARY j.stripe).setReg (RIL_BOUNDARY + 4) j.layer →
    exec .rillBoundary s = .next (s.gives ((d1.switchRill j.stripe j.layer clsStripe).switchFls clsStripe j.stripe))) ∧
  (∀ (s : State) (d : Device) (v : Word), s.finds d → d.unitUp 5 = true → v.toNat % 16 ≠ 0 → d.inJob = false →
    (if maskBit (v.toNat % 16) 1 then d.maskRange RIL_MASK else none) = none →
    exec (.rilCommit v) s = .next (s.gives
      ((d.each (List.range 4) (fun d t => d.when (maskBit (v.toNat % 16) t)
        (fun d => (d.putFlag (fRilRefused t) false).putFlag (fRilPending t) true))).switchRill wordMax wordMax clsImmediate))) ∧
  (∀ (s : State) (d d1 d2 d3 : Device) (m : Nat) (mine : List Nat) (fail ranges : Option (Nat × Nat)), s.finds d → d.ril.check = some m →
    d.unitUp 5 = true → mine = (List.range 4).filter (fun t => maskBit m t) →
    d1 = ({ d with ril := { d.ril with check := none } } : Device).putFlag fCheckRun false →
    ranges = (if maskBit m 1 || d.flag (fRilPending 1) then (d1.maskRange RIL_MASK).map (fun i => (ckMASK_RANGE, i)) else none) →
    fail = (if d1.inJob then d1.job.elim ranges (fun j => d1.rillCheck j (fun t => maskBit m t || d.flag (fRilPending t))) else ranges) →
    d2 = ((d1.each mine (fun d t => d.putFlag (fRilRefused t) false)).pendRill mine).checkEnds m none →
    d3 = (match fail with
      | some (cause, item) => ((d1.each mine (fun d t => d.putFlag (fRilRefused t) true)).checkFailed cause item).checkEnds m (some cause)
      | none => if d2.inJob then d2.rillMeets else d2.switchRill wordMax wordMax clsJob) →
    exec .commitCheckDone s = .next (s.gives
      (if d3.ril.held = 0 then d3 else ({ d3 with ril := { d3.ril with held := 0 } } : Device).startCheck d3.ril.held))) ∧
  (∀ (s : State) (d d1 : Device) (g : Fin 8) (v : Word), s.finds d → d.unitUp (5 + g) = true → d.forceTaken g v.toNat = true →
    d1 = d.switchIn (32 * g + v.toNat % 32) (d.reg (RIL_GRP_SLOT (32 * g + v.toNat % 32)) % 64) →
    exec (.rilGrpForce g v) s = .next (s.gives { d1 with ril := { d1.ril with forced := d1.ril.forced ++ [32 * g + v.toNat % 32] } })) ∧
  (∀ (s : State) (d : Device) (v : Word), s.finds d → d.unitUp 5 = true → bitOf v.toNat 0 = true → d.ackTaken = true →
    exec (.rilStuckAck v) s = .next (s.gives (({ d with ril := { d.ril with acked := true } } : Device).putFlag fStuckHold false)))

/-- In a job where nothing has failed: a closed slot opens for the tally pass that may begin next, or for a raster pass that has no slot yet; a
block whose header is good joins its open slot, as the first of its SEQ; a free decompressor in service that may take the first block that is
stored takes it; a block that decodes is parsed in its turn, one that does not fails its stream, and a parity error gives it back and
charges the decompressor; and a parsed block is released to its pass or to the library, with event 35 when it is its stream's last. -/
def Obligations.StreamSlotsTakeEffect : Prop :=
  (∀ (s : State) (d d1 : Device) (n : Fin 16) (j : Job) (layer k : Nat), s.finds d → d.job = some j → d.unitUp 1 = true →
    (d.slot n).isOpen = false → d.inJob = true → d.flag fSprFailed = false → d.csc.failed = false → d.mem.libLost = false →
    d.tallyNext j = some (layer, k) →
    d1 = ({ d with
      csc := { d.csc with
        tally := some { layer := layer, stripe := k, pass := 0, slot := some n.val }, tallyLayer := layer, tallyDone := k },
      pool := { d.pool with acc := [], dens := if layer == d.csc.tallyLayer then d.pool.dens else [] } } : Device).putFlag (bitAt CSC_STATUS 17) true →
    exec (.streamOpen n false) s = .next (s.gives (d1.openSlot n .tally (j.stripeAt k).source (j.stripeAt k).streamId k none))) ∧
  (∀ (s : State) (d : Device) (n : Fin 16) (j : Job) (p : PassRead), s.finds d → d.job = some j → d.unitUp 1 = true →
    (d.slot n).isOpen = false → d.inJob = true → d.flag fSprFailed = false → d.csc.failed = false → d.mem.libLost = false →
    d.csc.raster = some p → p.slot = none → p.ended = false →
    exec (.streamOpen n true) s = .next (s.gives (({ d with csc := { d.csc with raster := some { p with slot := some n.val } } } : Device).openSlot
      n .raster (j.stripeAt p.stripe).source (j.stripeAt p.stripe).streamId p.stripe none))) ∧
  (∀ (s : State) (d d1 : Device) (n : Fin 16) (e : Bool) (ws : List Nat) (b : Block), s.finds d → d.unitUp 1 = true → (d.slot n).isOpen = true →
    (d.slot n).failed = false → (d.slot n).lastSeen = false → (d.slot n).use ≠ .recode →
    d.nextBlock n e = some (.ok ws) → headerErr ws = none →
    d1 = ({ (d.sourceMet n).itemIn 1 with spr := { ((d.sourceMet n).itemIn 1).spr with
      ndf := ((d.sourceMet n).itemIn 1).spr.ndf.filter (fun x => !(x.1 == n.val && x.2.1 == (d.slot n).next)) } } : Device).when (d.slot n).refetch
        (fun d => d.recovered 1 n) →
    b = { seq := (d.slot n).next, words := ws, last := hLast (ws.getD 1 0), tick := d1.showBufs.clock, stage := .stored [] } →
    exec (.blockFetched n e) s = .next (s.gives (d1.showBufs.setSlot n { d.slot n with
      next := seqAfter (d.slot n).next, pos := (d.slot n).pos + ws.length / 4, refetch := false, attempt := 0, lastSeen := b.last,
      blocks := (d.slot n).blocks ++ [b] }))) ∧
  (∀ (s : State) (d d1 : Device) (n : Fin 16) (x : Bool) (e : NdsErr), s.finds d → d.unitUp 1 = true → (d.slot n).isOpen = true →
    (d.slot n).failed = false → (d.slot n).lastSeen = false → (d.slot n).use ≠ .recode → d.nextBlock n x = some (.error e) →
    d1 = (d.sourceMet n).itemIn 1 →
    exec (.blockFetched n x) s = .next (s.gives
      (if e.code == eSTREAM_END then d1.streamError n e (d.slot n).next false (d.slot n).blocks else d1.transportError n e).showBufs)) ∧
  (∀ (s : State) (d : Device) (n : Fin 16) (k : Fin 8) (b : Block) (avoid : List Nat), s.finds d → d.unitUp 1 = true → (d.slot n).isOpen = true →
    d.flag (fDecRetired k) = false → d.decoding k = none →
    (d.slot n).blocks.find? (fun b => match b.stage with | .stored _ => true | _ => false) = some b → b.stage = .stored avoid →
    d.mayDecode k avoid = true →
    exec (.decodeStart n k) s = .next (s.gives (d.setSlot n ((d.slot n).stage b.seq (.decoding k avoid))))) ∧
  (∀ (s : State) (d : Device) (k : Fin 8) (n : Nat) (b : Block) (ws : List Nat), s.finds d → d.unitUp 1 = true → d.decoding k = some (n, b) →
    decodeBlock b.words = .ok ws →
    exec (.blockDecoded k false) s = .next (s.gives
      (((d.decoderEnds b).setSlot n ((d.slot n).stage b.seq (.decoded ws))).parseReady n ((d.slot n).blocks.length + 1)))) ∧
  (∀ (s : State) (d : Device) (k : Fin 8) (n : Nat) (b : Block) (e : NdsErr), s.finds d → d.unitUp 1 = true → d.decoding k = some (n, b) →
    decodeBlock b.words = .error e →
    exec (.blockDecoded k false) s = .next (s.gives
      ((d.decoderEnds b).streamError n e b.seq false ((d.slot n).blocks.takeWhile (fun x => x.seq != b.seq))))) ∧
  (∀ (s : State) (d d1 d2 d3 : Device) (k : Fin 8) (n : Nat) (b : Block) (v : Verdict), s.finds d → d.unitUp 1 = true → d.decoding k = some (n, b) →
    d1 = d.setSlot n ((d.slot n).stage b.seq (.stored (k.val :: b.avoid.filter (fun m => m != k.val)))) → d1.charge 2 k 0 b.seq = (v, d2) →
    d3 = (d2.putFlag (fDecRetired k) true).raise 34 →
    exec (.blockDecoded k true) s = .next (s.gives (if v = .permanent then (if d3.noDecoder then d3.runDry cWEIR else d3) else d2))) ∧
  (∀ (s : State) (d d1 d2 : Device) (n : Fin 16) (b : Block) (rest : List Block) (ws : List Nat) (recs : List LRec), s.finds d → d.unitUp 1 = true →
    (d.slot n).isOpen = true → (d.slot n).blocks = b :: rest → b.stage = .parsed ws recs → d.libraryServes (d.slot n) recs = true →
    d1 = d.setSlot n { d.slot n with blocks := rest } →
    d2 = ((d1.setReg (SPR_SLOT n + 12) (seqAfter (d1.reg (SPR_SLOT n + 12)))).itemOut 1).capturePoint
      (fun x => x.point == 0 && x.slot == n.val) ws (fun _ => b.last) →
    exec (.blockRelease n) s = .next (s.gives
      (if (d.slot n).use = .library then (if b.last then d2.raise 35 else d2).releaseLibrary n recs b.last
      else (if b.last then d2.raise 35 else d2).releaseGeometry n (d.slot n) recs b.last)))

/-- A running compression engine whose memory serves it writes its next block, coded again or captured. One that waits for a spill bank goes on
in the first bank that is eligible, which is marked USED by the engine in its place of the chain and begins empty; the first bank of the chain
raises event 42 or 43. An engine whose work is done ends its command. USED of a bank is released, unless its owner still runs with it. -/
def Obligations.CompressionEnginesTakeEffect : Prop :=
  (∀ (s : State) (d : Device) (e : Fin 2) (srcErr : Bool), s.finds d → d.unitUp 1 = true → (d.engine e).running = true →
    (d.engine e).outcome = none → (d.engine e).hold = [] → d.outServes (d.engine e) = true →
    ((d.engine e).capture = true → exec (.compressBlock e srcErr) s = .next (s.gives (d.captureBlock e))) ∧
    ((d.engine e).capture = false → (d.engine e).inputDone = false →
      exec (.compressBlock e srcErr) s = .next (s.gives (d.recodeBlock e srcErr)))) ∧
  (∀ (s : State) (d d1 d2 : Device) (e : Fin 2) (k : Nat), s.finds d → d.eligible = some k → d.unitUp 1 = true → (d.engine e).running = true →
    (d.engine e).hold ≠ [] → (d.engine e).outcome = none → d.outServes (d.engine e) = true →
    d1 = (((d.when (d.engine e).chain.isEmpty (fun d => d.raise (42 + e))).keepBuffer k).setReg (SPR_SPILL_STATE k)
      (131072 + e * 65536 + (d.engine e).chain.length * 4096)).put36 (SPR_SPILL_FILL k) 0 →
    d2 = (d1.setEngine e { d.engine e with chain := (d.engine e).chain ++ [k] }).placeGroups e 17 (d.engine e).hold →
    exec (.engineContinue e) s = .next (s.gives
      (if (d2.engine e).hold.isEmpty then
        if (d2.engine e).inputDone then d2.setEngine e { d2.engine e with outcome := some sOK } else d2
      else d2.raise 44))) ∧
  (∀ (s : State) (d : Device) (e : Fin 2) (st : Nat), s.finds d → d.unitUp 1 = true → (d.engine e).outcome = some st → (d.engine e).running = true →
    exec (.compressComplete e) s = .next (s.gives (d.endEngine e st))) ∧
  (∀ (s : State) (d : Device) (n : Fin 16) (v : Word), s.finds d → d.unitUp 1 = true → bitOf v.toNat 17 = true → d.flag (fSpillUsed n) = true →
    ((d.engine (b2n (d.flag (bitAt (SPR_SPILL_STATE n) 16)))).running &&
      (d.engine (b2n (d.flag (bitAt (SPR_SPILL_STATE n) 16)))).chain.contains n.val) = false →
    ∃ t, exec (.spillUsedRelease n v) s = .next t ∧ t.dev.flag (fSpillUsed n) = false ∧ t.dev.dram = d.dram ∧ t.dev.laidOut = d.laidOut)

/-- A cascade engine in service that meets no error takes the next record of the raster pass, and of the tally pass where no raster record waits
and no piece waits for room; an error of an engine on a raster record is charged to it at the lowest band of the record, and the record
waits. A tally that waits for room goes on with what it left. A tally pass whose records are all taken is complete: it is
one more stripe tallied, with its densities where the pool is in use, and event 52. A raster pass that may begin begins at its stripe; with the
pool correction off the first of a stripe is its raster boundary. -/
def Obligations.CascadeTakesEffect : Prop :=
  (∀ (s : State) (d : Device) (e : Fin 16) (j : Job) (p : PassRead) (r : LRec) (rest : List LRec), s.finds d → d.job = some j → d.csc.raster = some p →
    d.unitUp 2 = true → d.engineRetired e = false → d.inJob = true → d.mem.libLost = false → p.recs = r :: rest → d.libraryReads r = true →
    exec (.cascadeRecord e true false) s = .next (s.gives ((d.itemIn 3).rasterRecord j p r rest))) ∧
  (∀ (s : State) (d : Device) (e : Fin 16) (j : Job) (p : PassRead) (r : LRec) (rest : List LRec), s.finds d → d.job = some j → d.csc.tally = some p →
    d.unitUp 2 = true → d.engineRetired e = false → d.inJob = true → d.mem.libLost = false → p.recs = r :: rest →
    (d.csc.raster.all (fun x => x.recs.isEmpty)) = true → d.csc.tallyLeft = [] → d.libraryReads r = true →
    exec (.cascadeRecord e false false) s = .next (s.gives (((d.itemIn 3).tallyRecord j p r rest).ifTallies (d.itemIn 3)))) ∧
  (∀ (s : State) (d : Device) (e : Fin 16) (j : Job) (p : PassRead) (r : LRec) (rest : List LRec) (bs : List Nat), s.finds d → d.job = some j →
    d.csc.raster = some p → d.unitUp 2 = true → d.engineRetired e = false → d.inJob = true → d.mem.libLost = false → p.recs = r :: rest →
    d.libraryReads r = true → bs = ((d.itemIn 3).contribsOf j (j.stripeAt p.stripe) p.layer false r).map (fun c => c.band) →
    exec (.cascadeRecord e true true) s = .next (s.gives ((d.itemIn 3).cascadeError e (bs.foldl min (bs.headD (d.itemIn 3).csc.bands))))) ∧
  (∀ (s : State) (d : Device) (j : Job) (p : PassRead), s.finds d → d.job = some j → d.csc.tally = some p → d.unitUp 2 = true → d.csc.tallyLeft ≠ [] →
    exec .tallyResume s = .next (s.gives ((d.tallyAll j p.layer p.stripe d.csc.tallyLeft).ifTallies d))) ∧
  (∀ (s : State) (d d1 : Device) (j : Job) (p : PassRead) (pool : Bool), s.finds d → d.job = some j → d.csc.tally = some p → d.unitUp 2 = true →
    p.ended = true → p.recs = [] → d.csc.tallyLeft = [] → pool = (d.pcEn && !d.pool.acc.isEmpty) →
    (pool = true → d.regionServes (d.ringAt j p.stripe) (d.stripLines j) = true) →
    d1 = ({ d with csc := { d.csc with tally := none, tallyDone := d.csc.tallyDone + 1 } } : Device).putFlag fTallyRun false →
    exec .tallyPassComplete s = .next (s.gives
      (((if pool then (d1.storeDensities p.stripe).rewriteRegion (d.ringAt j p.stripe) (d.stripLines j)
        else if d1.pcEn then d1.storeDensities p.stripe else d1).raise 52).showPoolWeir))) ∧
  (∀ (s : State) (d d1 : Device) (j : Job), s.finds d → d.job = some j → d.unitUp 2 = true → d.inJob = true → d.rasterReady j = true →
    d1 = (if !d.pcEn && d.csc.nextPass == 0 then d.rasterBoundary d.csc.nextStripe d.csc.nextLayer else d) →
    exec .rasterPassStart s = .next (s.gives
      ((({ d1 with csc := { d1.csc with
        raster := some { layer := d.csc.nextLayer, stripe := d.csc.nextStripe, pass := d1.csc.nextPass },
        bands := 0, committed := 0, tiles := [] } } : Device).putFlag fRasterRun true).showPoolWeir)))

/-- A basin that is free takes the first tile issued that waits for it. It finishes its tile, and what it formed is judged against the tally of the
tile. A re-tally that agrees with one of a failed tile's attempts takes that attempt's result: the errors of the basins are taken back, and the
engine that owns the tally is charged. A band that is ready and that module memory takes commits: its rows go to the look-ahead, and
where the conditions of bypass hold past it into the Cistern with event 67; the pass's last band ends the pass, another lets further tiles
issue. A tally record that cannot be read makes the tile wait for its re-tally, and a strip that cannot be read is the pool's error. -/
def Obligations.BasinsAndBandsTakeEffect : Prop :=
  (∀ (s : State) (d : Device) (b : Fin 32) (t : Tile), s.finds d → d.unitUp 3 = true → d.stripThere = true →
    d.tilesInOrder.find? (fun t => t.state == .issued && d.basinFor t == some b.val) = some t →
    exec (.tileRasterStart b) s = .next (s.gives ((d.setTile { t with state := .raster, basin := b }).itemIn 4))) ∧
  (∀ (s : State) (d : Device) (b : Fin 32) (u : Int) (j : Job) (p : PassRead) (t : Tile), s.finds d → d.job = some j → d.csc.raster = some p →
    d.unitUp 3 = true → d.stripThere = true → d.tallyServes = true →
    d.csc.tiles.find? (fun t => t.state == .raster && t.basin == b.val) = some t →
    ((d.pcEn = true → d.badIn (d.stripAt j p.stripe) (d.stripLines j) = none) →
      exec (.tileCheck b u false) s = .next (s.gives
        (d.judge p t (d.rasterise j p t b u) (d.tallyOf p.layer p.stripe t.band t.tile).classes)) ∧
      exec (.tileCheck b u true) s = .next (s.gives
        (d.setTile { t with state := .retally, noRec := true, result := some (d.rasterise j p t b u) }))) ∧
    (∀ la e, d.pcEn = true → d.badIn (d.stripAt j p.stripe) (d.stripLines j) = some la →
      exec (.tileCheck b u e) s = .next (s.gives ((d.uncorrectable la 4).poolReadError la)))) ∧
  (∀ (s : State) (d : Device) (band tile : Nat) (u : Int) (j : Job) (p : PassRead) (t : Tile) (r : BasinResult), s.finds d → d.job = some j →
    d.csc.raster = some p → d.unitUp 2 = true →
    d.csc.tiles.find? (fun t => t.state == .retally && t.band == band && t.tile == tile) = some t → t.noRec = false →
    (List.range 16).any (fun e => e != d.engineFrom (d.tallyOf p.layer p.stripe band tile).owner && !d.engineRetired e) = true →
    t.tries.reverse.find? (fun r => passes r (retally (j.stripeAt p.stripe) t u)) = some r →
    exec (.tileReTally band tile u) s = .next (s.gives
      ((((d.raise 57).each t.tries (fun d r => d.unchargeBasin r.basin)).chargeOwner
        (d.engineFrom (d.tallyOf p.layer p.stripe band tile).owner) band).tileDone p t r))) ∧
  (∀ (s : State) (d d1 d2 d3 : Device) (j : Job) (p : PassRead) (lo hi : Nat) (rows : List (Nat × List Nat)), s.finds d → d.job = some j →
    d.csc.raster = some p → d.unitUp 3 = true → d.unitUp 4 = true → d.bandReady j p = true → d.bandServes j p = true →
    bandRows (j.stripeAt p.stripe).len d.csc.committed = (lo, hi) →
    rows = (List.range (hi - lo)).map (fun i => (lo + i, d.bandRow j (j.stripeAt p.stripe).len d.csc.committed (lo + i))) →
    d1 = d.each rows (fun d r => d.putWords 5 (d.lookAddr j r.1) r.2) →
    d2 = (({ d1 with csc := { d1.csc with
        committed := d.csc.committed + 1, tiles := d1.csc.tiles.filter (fun t => t.band != d.csc.committed) } } : Device).count 4 4
          ((d.csc.tiles.filter (fun t => t.band == d.csc.committed)).length)).showTiles →
    d3 = (if d.bypasses j p lo hi then
        ((d2.each rows (fun d r => d.rowIntoCistern j r.1 r.2)).when
          (!(d2.each rows (fun d r => d.rowIntoCistern j r.1 r.2)).flag fBypass) (fun d => d.raise 67)).putFlag fBypass true
      else d2) →
    exec .bandCommit s = .next (s.gives
      (let d4 := (if !d.bypasses j p lo hi || d3.keepsRows j then { d3 with cst := { d3.cst with
          runs := d3.cst.runs ++ [({ layer := p.layer, stripe := p.stripe, pass := p.pass, lo := lo, hi := hi } : DbRun)] } } else d3)
      if d.csc.committed + 1 = bandsOf (j.stripeAt p.stripe).len then d4.showCistern.rasterPassEnds j p else d4.showCistern.issueTiles)))

/-- A correction that is due begins at its stripe: at the raster boundary, unless the stripe has passed it already. It completes with its factors
clamped to 0 to 131,071, the clamps counted with event 76, and event 72. POOL_COMMIT outside a job switches the tables written 1 at once, beside
those that were pending. The reader moves the next row into the Cistern where module memory gives all its words. A refill restores its line from
the mirror, which is the recovery of its bank. The scrubber goes on to the next of its 49,152 entries. -/
def Obligations.PoolAndCisternTakeEffect : Prop :=
  (∀ (s : State) (d d1 : Device) (j : Job) (k : Nat), s.finds d → d.job = some j → d.unitUp 3 = true → d.inJob = true → d.pcEn = true →
    d.pool.corr = none → d.flag fPoolFailed = false → d.correctionNext j = some k →
    d1 = ({ d with pool := { d.pool with corr := some (d.csc.nextLayer, k) } } : Device).putFlag fCorrRun true →
    exec .poolCorrectionStart s = .next (s.gives
      (if d1.pool.snaps.any (fun x => x.layer == d1.csc.nextLayer && x.stripe == k) then d1.itemIn 5
      else (({ d1 with pool := { d1.pool with dens := d1.pool.dens.filter (fun e => decide (k - d1.poolLead j ≤ e.1)) } } : Device).rasterBoundary
        k d1.csc.nextLayer).itemIn 5))) ∧
  (∀ (s : State) (d d1 : Device) (j : Job) (layer k n : Nat) (dft : List Nat), s.finds d → d.job = some j → d.unitUp 3 = true →
    d.pool.corr = some (layer, k) → d.regionServes (d.get36 POOL_REGION_BASE) (d.poolNeed j) = true → d.ringBad j k = none →
    n = ((d.filtered j k).filter (fun f => decide (f.2 < 0) || decide (131071 < f.2))).length →
    dft = ((d.pool.snaps.find? (fun x => x.layer == layer && x.stripe == k)).getD (d.poolSnap k layer)).dft →
    d1 = (if 0 < n then (d.bumpBy (whole POOL_F_CLAMP) n).raise 76 else d.bumpBy (whole POOL_F_CLAMP) n) →
    exec (.poolCorrectionComplete false false) s = .next (s.gives
      (let d2 := ({ d1 with pool := { d1.pool with corr := none, q := d1.pool.q ++ [((layer, k),
        (d.filtered j k).map (fun f => (f.1, factorOf dft (max 0 (min f.2 131071)).toNat)))] } } : Device).fillPool.rewriteRegion (d1.stripAt j k) (d1.stripLines j)
      let d3 := d2.rewriteRegion (d2.get36 POOL_REGION_BASE + d2.ringLines j + 2 * d2.stripLines j) (d2.poolNeed j - d2.ringLines j - 2 * d2.stripLines j)
      ((((d3.putFlag fCorrRun false).recovered 6 0).itemOut 5).raise 72).showPoolWeir))) ∧
  (∀ (s : State) (d : Device) (j : Job) (layer k : Nat) (ringE stripE : Bool), s.finds d → d.job = some j → d.unitUp 3 = true →
    d.pool.corr = some (layer, k) → d.regionServes (d.get36 POOL_REGION_BASE) (d.poolNeed j) = true →
    ((ringE = true ∨ (d.ringBad j k).isSome = true) → exec (.poolCorrectionComplete ringE stripE) s = .next (s.gives
      ((((d.ringBad j k).elim d (fun la => d.uncorrectable la 4)).charge 6 0 1 k).2.poolFails (some (layer, k))))) ∧
    (ringE = false → d.ringBad j k = none → stripE = true → exec (.poolCorrectionComplete ringE stripE) s = .next (s.gives
      (if (d.charge 6 0 0 k).1 = .ignored then (d.charge 6 0 0 k).2.poolFails (some (layer, k)) else (d.charge 6 0 0 k).2)))) ∧
  (∀ (s : State) (d d1 : Device) (v : Word), s.finds d → d.unitUp 3 = true →
    d1 = d.each (List.range 4) (fun d t => if bitOf v.toNat t && !d.flag (fPoolPending t) then (d.putFlag (fPoolPending t) true).pendTable t else d) →
    exec (.poolCommit v) s = .next (s.gives (if d1.inJob then (d1.boundaryNow d1.tbl.raster).elim d1 (fun p => d1.switchRaster p.1 p.2)
      else d1.switchPool wordMax wordMax clsImmediate))) ∧
  (∀ (s : State) (d : Device) (j k : Job) (u : Nat), s.finds d → d.job = some j → d.unitUp 4 = true → d.inJob = true → j.cur.tallyOnly = false →
    d.mem.bandLost = false → d.nextRead j = some (k, u) → d.memServes (d.lookAddr k u) k.width = true →
    d.memServes (d.mirrorAddr (k.rowAddr u)) k.width = true →
    (d.readBad 6 (d.lookAddr k u) k.width = false → exec (.readerRowWrite false) s = .next (s.gives
      (((d.memUse (d.lookAddr k u) k.width).rowIntoCistern k u (d.dramWords (d.lookAddr k u) k.width)).issueTiles))) ∧
    (∀ e, (e = true ∨ d.readBad 6 (d.lookAddr k u) k.width = true) →
      exec (.readerRowWrite e) s = .next (s.gives (d.readMet 6 (d.lookAddr k u) k.width).bandUnreadable))) ∧
  (∀ (s : State) (d d1 d2 : Device) (line bank : Nat), s.finds d → d.cst.refill.find? (fun r => r.1 == line) = some (line, bank) → d.unitUp 4 = true →
    d.memServes (d.mirrorAddr (64 * line)) 64 = true →
    d1 = ({ d with cst := { d.cst with
      refill := d.cst.refill.filter (fun r => r.1 != line), first := d.cst.first.filter (fun l => l != line) } } : Device).putFlag fRefill
      (!(d.cst.refill.filter (fun r => r.1 != line)).isEmpty) →
    d2 = ((d1.memUse (d1.mirrorAddr (64 * line)) 64).putCistern (64 * line) (d1.dramWords (d1.mirrorAddr (64 * line)) 64)).setWritten [line] →
    (d1.readBad 7 (d1.mirrorAddr (64 * line)) 64 = false →
      exec (.cisternRefillComplete line false) s = .next (s.gives (if bank < 1024 then d2.recovered 5 bank else d2))) ∧
    (∀ e, (e = true ∨ d1.readBad 7 (d1.mirrorAddr (64 * line)) 64 = true) →
      exec (.cisternRefillComplete line e) s = .next (s.gives (d1.readMet 7 (d1.mirrorAddr (64 * line)) 64).bandUnreadable))) ∧
  (∀ (s : State) (d d1 : Device) (es : List CellError), s.finds d → d.unitUp 4 = true →
    d1 = d.each (es.filter (fun e => (32 * e.line + e.pair.val) / 1024 == d.cst.scrub)) (fun d e => d.cellError e 0x1FF) →
    exec (.cisternScrub es) s = .next (s.gives { d1 with cst := { d1.cst with scrub := (d1.cst.scrub + 1) % 49152 } }))

/-- A request to an empty queue that its channel may serve is served at once; one after which the channel may serve nothing waits in the queue; and a
zero-fill request for the next line of the fill moves the fill front past it. A line recovered leaves the list of recovering lines, its devices
that no other line keeps recover, and the queue goes on. Refresh goes to the next bank; MR4 sets the refresh rate, with event 203 on entry to the
higher one; a channel idle for MEM_SR_IDLE µs in READY or HELD, with the fill done, refreshes itself, with its rows closed. A training that no device
failed leaves its channel NORMAL, one failed device ERASURE, and more or a failed command DOWN with event 202. A drift of 1/64 UI or the temperature
starts a retune, which ends with its count, stamp, temperature and event 201. The end of the fill is event 199. The scrubber reads its line, but for
one beyond the fill front, in a remap entry or of a DOWN channel, and its last line is event 200. A line still bad after its recovery is hard. CLEAR empties the log. -/
def Obligations.MemoryChannelsTakeEffect : Prop :=
  (∀ (s : State) (d : Device) (q : Requester) (la : BitVec 31) (a : DramAccess) (es : List SymbolError) (r : MemReq), s.finds d → q ≠ .zeroFill →
    r = { req := q, la := la.toNat, access := a, errors := es, tick := d.clock } → d.mem.held = [] → d.closeRows.mayServe 0 r = true →
    exec (.dramRequest q la a es) s = .next (s.gives (d.closeRows.serve r))) ∧
  (∀ (s : State) (d d1 : Device) (q : Requester) (la : BitVec 31) (a : DramAccess) (es : List SymbolError), s.finds d → q ≠ .zeroFill →
    d1 = { d.closeRows with mem := { d.closeRows.mem with
      held := d.mem.held ++ [{ req := q, la := la.toNat, access := a, errors := es, tick := d.clock }] } } →
    d1.nextRequest (chanOf la.toNat) = none → exec (.dramRequest q la a es) s = .next (s.gives d1)) ∧
  (∀ (s : State) (d d1 : Device) (la : BitVec 31) (a : DramAccess) (es : List SymbolError), s.finds d → d.flag fFillRun = true → d.inFrost = false →
    la.toNat = d.fillNext → d.chanServes (chanOf la.toNat) = true →
    d1 = (d.putFlag (fSelfRefresh (chanOf la.toNat)) false).put36 MEM_FILL_FRONT (la.toNat + 1) → d1.fillNext < memLines → d1.mem.held = [] →
    exec (.dramRequest .zeroFill la a es) s = .next (s.gives d1)) ∧
  (∀ (s : State) (d d0 d1 d2 : Device) (la : BitVec 31) (q : Nat) (devs left : List Nat) (bad : Bool), s.finds d →
    d.mem.recovering.find? (fun p => p.1 == la.toNat) = some (la.toNat, q, devs) →
    d0 = { d with mem := { d.mem with recovering := d.mem.recovering.filter (fun p => p.1 != la.toNat) } } →
    left = devs.filter (fun k => some k != d0.marked (chanOf la.toNat)) →
    d1 = (if bad && !left.isEmpty && d0.remapOf la.toNat == none then d0.hardLine la.toNat q left else d0) →
    d2 = d1.each devs (fun d k => if d.mem.recovering.any (fun p => chanOf p.1 == chanOf la.toNat && p.2.2.contains k) then d
      else d.recovered 9 (21 * chanOf la.toNat + k)) →
    exec (.lineRecoveryDone la bad) s = .next (s.gives (d2.drainChan (chanOf la.toNat) d2.mem.held.length))) ∧
  (∀ (s : State) (d : Device) (c : Fin 4), s.finds d → d.chanRuns c = true → d.chanUp c = true → d.flag (fSelfRefresh c) = false →
    ∃ t, exec (.refresh c) s = .next t ∧ t.dev.mem.refBank.toList.getD c 0 = (d.mem.refBank.toList.getD c 0 + 1) % 4 ∧
      t.dev.dram = d.dram ∧ t.dev.laidOut = d.laidOut) ∧
  (∀ (s : State) (d : Device) (c : Fin 4) (hot : Bool), s.finds d → d.chanRuns c = true → d.chanUp c = true →
    exec (.mr4Read c hot) s = .next (s.gives
      (if hot && !d.flag (fRefresh2x c) then (d.putFlag (fRefresh2x c) hot).raise 203 else d.putFlag (fRefresh2x c) hot))) ∧
  (∀ (s : State) (d : Device) (c : Fin 4), s.finds d → d.chanRuns c = true → d.chanUp c = true → (d.inReady || d.inHeld) = true → d.flag fFillRun = false →
    d.reg MEM_SR_IDLE % 65536 ≠ 0 → d.mem.lastReq.toList.getD c 0 + 800 * (d.reg MEM_SR_IDLE % 65536) ≤ d.clock →
    d.mem.held.any (fun r => chanOf r.la == c.val) = false →
    ∃ t, exec (.selfRefreshEntry c) s = .next t ∧ t.dev.flag (fSelfRefresh c) = true ∧ t.dev.dram = d.dram ∧ t.dev.laidOut = d.laidOut ∧
      t.dev.mem.rows = d.mem.rows.filter (fun r => r.1 != c.val)) ∧
  (∀ (s : State) (d d1 : Device) (c : Fin 4) (r : ChannelTraining) (kept : Nat) (failed devs : List Nat), s.finds d → d.chanRuns c = true →
    d.get (fChState c) = chTRAINING → kept = d.get (fFailedDev c) → failed = (r.failed.map (fun k => k.val)).eraseDups →
    devs = (failed ++ (if kept < 21 then [kept] else [])).eraseDups →
    d1 = d.put (fChTrainCause c) (if r.commandFail then 1 else if failed.isEmpty then 0 else r.cause.val) →
    ((r.commandFail = true ∨ 2 ≤ devs.length) → exec (.channelTrainingDone c r) s = .next (s.gives
      (((d1.put (fChState c) chDOWN).showChannels).raise 202).selfTestPhase)) ∧
    (r.commandFail = false → devs.length < 2 → ∀ d2 d3 : Device,
      d2 = (match devs.head? with
        | none => d1.put (fChState c) chNORMAL
        | some k =>
          let e := (d1.put (fChState c) chERASURE).put (fFailedDev c) k
          let e := if failed.contains k || kept != k then e.raise 195 else e
          if kept = k then e else e.journal (.reg (MEM_CH_STATE c)) [k * 2048]) →
      d3 = ({ d2 with mem := { d2.mem with lastReq := d2.mem.lastReq.set! c d2.clock } } : Device).showChannels →
      exec (.channelTrainingDone c r) s = .next (s.gives (if !d3.flag fFilled then d3.putFlag fFillRun true else d3).selfTestPhase))) ∧
  (∀ (s : State) (d : Device) (c : Fin 4) (n : Nat), s.finds d → d.chanRuns c = true → d.chanUp c = true →
    ((bits (d.reg MEM_RETUNE) 10 8 ≠ 0 ∧ 1 ≤ n) ∨ d.retuneByTemp c = true) → exec (.retuneCheck c n) s = .next (s.gives (d.startRetune c))) ∧
  (∀ (s : State) (d d1 d2 d3 : Device) (c : Fin 4), s.finds d → d.flag (fRetuning c) = true →
    d1 = (d.putFlag (fRetuning c) false).bump (whole (MEM_CH_RETUNE_COUNT c)) →
    d2 = ((d1.setRegs (MEM_CH_RETUNE_TOD c) d1.stamp).setReg (MEM_CH_RETUNE_TEMP c)
      (wrap 18 ((d1.setRegs (MEM_CH_RETUNE_TOD c) d1.stamp).dieTemp c))).raise 201 →
    d3 = (match d2.mem.retuneWant with
      | [] => d2
      | k :: rest => ({ d2 with mem := { d2.mem with retuneWant := rest } } : Device).startRetune k) →
    exec (.retuneDone c) s = .next (s.gives (d3.drainChan c d3.mem.held.length))) ∧
  (∀ (s : State) (d : Device), s.finds d → d.flag fFillRun = true → (List.range 4).all (fun c => d.get (fChState c) != chTRAINING) = true →
    d.inFrost = false →
    exec .fillComplete s = .next (s.gives ((((d.putFlag fFillRun false).putFlag fFilled true).put36 MEM_FILL_FRONT memLines).raise 199).drain)) ∧
  (∀ (s : State) (d d1 : Device) (la : Nat) (skip : Bool) (es : List SymbolError), s.finds d → d.get36 MEM_SCRUB_FRONT = la →
    d.reg MEM_SCRUB % 256 ≠ 0 → d.chanServes (chanOf la) = true →
    skip = (decide (d.get36 MEM_FILL_FRONT ≤ la) || (d.remapOf la).isSome || d.get (fChState (chanOf la)) == chDOWN) →
    (skip = true ∨ d.lineClear la = true) →
    d1 = (if skip then d else (((d.putFlag (fSelfRefresh (chanOf la)) false).touchRow la).readCodewords (reqCode .patrolScrub) la es (List.range 8)).2) →
    exec (.patrolScrub es) s = .next (s.gives (if la + 1 = memLines then ((d1.put36 MEM_SCRUB_FRONT 0).bump (whole MEM_SCRUB_PASSES)).raise 200
      else d1.put36 MEM_SCRUB_FRONT (la + 1)))) ∧
  (∀ (s : State) (d : Device) (v : Word), s.finds d → d.regUp MEM_LOG_STATUS = true → bitOf v.toNat 17 = true →
    exec (.memLogClear v) s = .next (s.gives ((d.each (List.range 16) (fun d i => d.setRegs (MEM_LOG i) [0, 0, 0])).setReg MEM_LOG_STATUS 0)))

/-- A write of DMA_CHn_CTRL takes PRIO and PSPACE and then its actions, in the order of their bits. Alone, GO on an idle channel in READY, WRITING or
HELD fetches at its PC, that before a write of the same clock, with WAIT_LATE, the cause and MOVED 0; POKE on a parked one fetches; CONTINUE on one
halted at a fetch fetches again; STOP on a waiting one halts it STOPPED; and ABORT on a halted one makes it IDLE. DMA_FLAG_SET sets the flags
written 1. A write of CHK_Uu_CTRL takes its fields where the unit does not run, then START, then ABORT, which makes it IDLE and ends its command
ABORTED. A scan that module memory serves comes to its end over its groups. -/
def Obligations.DmaAndCheckUnitControlsTakeEffect : Prop :=
  (∀ (s : State) (d d1 d2 d3 d4 d5 d6 : Device) (n : Fin 32) (v : Word) (a w : Nat), s.finds d → d.unitUp 0 = true → w = v.toNat ||| a →
    d1 = d.put { off := DMA_CH_CTRL n, lo := 10, w := 3 } (bits w 10 3) →
    d2 = (if bitOf w 17 then d1.dmaGo n else d1) → d3 = (if bitOf w 16 then d2.dmaPoke n else d2) →
    d4 = (if bitOf w 15 then d3.dmaContinue n else d3) → d5 = (if bitOf w 14 then d4.dmaStop n else d4) →
    d6 = (if bitOf w 13 then d5.dmaAbort n else d5) →
    (a = 0x20000 → exec (.dmaGo n v) s = .next (s.gives d6)) ∧ (a = 0x10000 → exec (.dmaPoke n v) s = .next (s.gives d6)) ∧
    (a = 0x8000 → exec (.dmaContinue n v) s = .next (s.gives d6)) ∧ (a = 0x4000 → exec (.dmaStop n v) s = .next (s.gives d6)) ∧
    (a = 0x2000 → exec (.dmaAbort n v) s = .next (s.gives d6))) ∧
  (∀ (s : State) (d d1 : Device) (n : Fin 32) (v : Word), s.finds d → d.unitUp 0 = true → bits v.toNat 13 5 = 0 →
    d1 = d.put { off := DMA_CH_CTRL n, lo := 10, w := 3 } (bits v.toNat 10 3) → d1.inRun = true →
    (∀ d2 d3, d1.dmaState n = dmaIDLE →
      d2 = (d1.chan n).pcWas.elim d1 (fun p => if p.1 == d1.clock then d1.put54 (DMA_CH_PC n) p.2 else d1) →
      d3 = ((d2.putFlag (fWaitLate n) false).put (fDmaCause n) 0).put36 (DMA_CH_MOVED n) 0 →
      exec (.dmaGo n v) s = .next (s.gives
        ((d3.mapChan n (fun c => { host := d3.flag (fPspace n), pokeAt := c.pokeAt })).dmaFetch n))) ∧
    (d1.dmaState n = dmaPARKED → exec (.dmaPoke n v) s = .next (s.gives (d1.dmaFetch n))) ∧
    (d1.dmaState n = dmaHALTED → (d1.chan n).instr.isSome = false →
      exec (.dmaContinue n v) s = .next (s.gives ((d1.put (fDmaCause n) 0).dmaFetch n))) ∧
    (d1.dmaState n = dmaWAITING → (d1.chan n).endAt = none → (d1.chan n).staged = [] →
      exec (.dmaStop n v) s = .next (s.gives (d1.dmaStopped n))) ∧
    (d1.dmaState n = dmaHALTED →
      exec (.dmaAbort n v) s = .next (s.gives (((d1.setDmaState n dmaIDLE).put (fDmaCause n) 0).mapChan n (fun _ => {}))))) ∧
  (∀ (s : State) (d : Device) (v : Word), s.finds d → d.unitUp 0 = true →
    ∃ t, exec (.dmaFlagSet v) s = .next t ∧ t.dev.reg DMA_FLAGS = (d.reg DMA_FLAGS ||| v.toNat % 65536) % 262144 ∧
      t.dev.dram = d.dram ∧ t.dev.laidOut = d.laidOut) ∧
  (∀ (s : State) (d d1 d2 d3 : Device) (u : Fin 4) (v : Word) (a w : Nat), s.finds d → d.unitUp 0 = true → w = v.toNat ||| a →
    d1 = (if d.chkBusy u then d else d.put { off := CHK_U_CTRL u, lo := 8, w := 8 } (bits w 8 8)) →
    d2 = (if bitOf w 17 then d1.chkStart u else d1) →
    d3 = (if bitOf w 16 then (({ d2 with dma := { d2.dma with ended := d2.dma.ended.filter (fun x => x != u.val) } } : Device).put (fChkState u)
        chkIDLE).completeWhere (fun x => x == Wait.check u) sABORTED 0 []
      else d2) →
    (a = 0x20000 → exec (.checkStart u v) s = .next (s.gives d3)) ∧ (a = 0x10000 → exec (.checkAbort u v) s = .next (s.gives d3))) ∧
  (∀ (s : State) (d : Device) (u : Fin 4), s.finds d → d.unitUp 0 = true → d.inRun = true → d.chkState u = chkSCANNING →
    d.memServes (4 * d.get36 (CHK_U_START u)) (4 * min (d.get36 (CHK_U_LENGTH u)) (dramGroups - d.get36 (CHK_U_START u))) = true →
    exec (.checkDone u) s = .next (s.gives (d.chkScan u (d.get36 (CHK_U_START u)) (d.get36 (CHK_U_LENGTH u)))))

/-- What the instruction of a running channel does. END ends the channel IDLE or parks it, raises its event where it asks to, and completes its
command with the groups moved; a POKE that came since the fetch makes a parked one fetch again; a fetch from host memory that PCIe ends with an error
halts the channel. MOVE with beats that the arbiter grants and module memory serves moves groups on, and with its last group written keeps its running
addresses and goes to the next instruction; a MOVE with no grant leaves everything as it is; one whose unit is taken halts CHK_BUSY; and a CONT of a
role with no earlier MOVE is a bad instruction. LOOP counts its counter down and jumps back, or at 0 forgets it and goes on. WAIT goes on at once,
with WAIT_LATE for a tick that was past, or waits, until what it waits for comes. SIGNAL rings and sets its flag, as asked. LINK jumps. A read of host
memory that has stayed out for 50 ms halts with HOST_ERR at its group, once the groups in the buffer are written, or at the instruction fetched. -/
def Obligations.DmaInstructionsTakeEffect : Prop :=
  (∀ (s : State) (d d1 d2 d3 : Device) (n : Fin 32) (e : Bool) (ws : List Nat), s.finds d → d.dmaInstr n 0 = some ws →
    (e && (d.chan n).host && d.justFetched n) = false →
    d1 = (if bitOf (ws.headD 0) 13 then (d.setDmaState n dmaIDLE).mapChan n (fun _ => {})
      else (d.setDmaState n dmaPARKED).mapChan n (fun c => { c with instr := none, poke := false, stopping := false, endAt := some d.clock })) →
    d2 = (if bitOf (ws.headD 0) 12 then d1.raise (208 + n) else d1) → d3 = d2.dmaCommandEnds n sOK 0 (d2.dmaMoved n) →
    exec (.dmaEnd n e) s = .next (s.gives (if !bitOf (ws.headD 0) 13 && (d.chan n).poke then d3.dmaFetch n else d3))) ∧
  (∀ (s : State) (d : Device) (n : Fin 32), s.finds d → (d.chan n).host = true → d.justFetched n = true →
    exec (.dmaEnd n true) s = .next (s.gives ((d.mapChan n (fun c => { c with instr := none })).dmaHalt n haltHOST_ERR (d.dmaPc n)))) ∧
  (∀ (s : State) (d d1 d2 : Device) (n : Fin 32) (b : MoveBeats) (ws : List Nat) (m : Move), s.finds d → d.dmaInstr n 1 = some ws →
    readMove (d.chan n) ws = some m →
    ((d.chan n).done < m.count → b.count ≠ 0 ∧ d.granted n = true ∧ d.moveServes n m = true) →
    (match m.unit with | some u => if (d.chan n).done = 0 then d.chkTake n u else some d | none => some d) = some d1 →
    d2 = d1.moveGroups n m b.hostErr (d.chan n).staged.length (min b.count (m.count - (d.chan n).done)) →
    exec (.dmaMove n b) s = .next (s.gives
      (if d2.dmaState n = dmaRUNNING ∧ (d2.chan n).done = m.count then
        (d2.mapChan n (fun c => { c with src := some (m.ssp, m.srcAt m.count), dst := some (m.dsp, m.dstAt m.count) })).dmaNext n
      else d2))) ∧
  (∀ (s : State) (d : Device) (n : Fin 32) (b : MoveBeats) (ws : List Nat) (m : Move) (u : Nat), s.finds d → d.dmaInstr n 1 = some ws →
    readMove (d.chan n) ws = some m → b.count ≠ 0 → d.granted n = true → d.moveServes n m = true → m.unit = some u → (d.chan n).done = 0 →
    d.chkTake n u = none → exec (.dmaMove n b) s = .next (s.gives (d.dmaHalt n haltCHK_BUSY m.src))) ∧
  (∀ (s : State) (d : Device) (n : Fin 32) (b : MoveBeats) (ws : List Nat), s.finds d → d.dmaInstr n 1 = some ws →
    (readMove (d.chan n) ws = none →
      exec (.dmaMove n b) s = .next (s.gives ((d.mapChan n (fun c => { c with instr := none })).dmaHalt n haltBAD_INSTR (d.dmaPc n)))) ∧
    (∀ m, readMove (d.chan n) ws = some m → (d.chan n).done < m.count → (d.granted n = false ∨ b.count = 0 ∨ d.moveServes n m = false) →
      exec (.dmaMove n b) s = .next (s.gives d))) ∧
  (∀ (s : State) (d : Device) (n : Fin 32), s.finds d → d.unitUp 0 = true → d.inRun = true → d.dmaState n = dmaRUNNING →
    (d.chan n).readAt + 40000000 ≤ d.clock →
    (∀ m, (d.dmaInstr n 1).bind (readMove (d.chan n)) = some m → m.ssp = spHOST → (d.chan n).staged = [] → (d.chan n).stopping = false →
      exec (.dmaHostTimeout n) s = .next (s.gives
        (((d.mapChan n (fun c => { c with fail := some haltHOST_ERR })).mapChan n (fun c => { c with fail := none })).dmaHalt n haltHOST_ERR
          (m.srcAt (d.chan n).done)))) ∧
    (∀ m, (d.dmaInstr n 1).bind (readMove (d.chan n)) = some m → m.ssp = spHOST → (d.chan n).staged ≠ [] →
      exec (.dmaHostTimeout n) s = .next (s.gives (d.mapChan n (fun c => { c with fail := some haltHOST_ERR })))) ∧
    ((d.dmaInstr n 1).bind (readMove (d.chan n)) = none → (d.chan n).host = true →
      exec (.dmaHostTimeout n) s = .next (s.gives ((d.mapChan n (fun c => { c with instr := none })).dmaHalt n haltHOST_ERR (d.dmaPc n))))) ∧
  (∀ (s : State) (d : Device) (n : Fin 32) (ws : List Nat) (k v : Nat) (others : List (Nat × Nat)), s.finds d → d.dmaInstr n 2 = some ws →
    k = bits (ws.headD 0) 12 2 → others = (d.chan n).ctrs.filter (fun (p : Nat × Nat) => p.1 != k) →
    v = ((d.chan n).ctrs.find? (fun (p : Nat × Nat) => p.1 == k)).elim (ws.getD 1 0) (fun (p : Nat × Nat) => p.2) →
    exec (.dmaLoop n) s = .next (s.gives
      (if v = 0 then (d.mapChan n (fun c => { c with ctrs := others })).dmaNext n
      else (d.mapChan n (fun c => { c with ctrs := (k, v - 1) :: others })).dmaGoto n
        (d.dmaPc n + hostSpan - ws.getD 2 0 * instrLen (d.chan n).host)))) ∧
  (∀ (s : State) (d : Device) (n : Fin 32) (ws : List Nat), s.finds d → d.dmaInstr n 3 = some ws →
    exec (.dmaWait n) s = .next (s.gives
      (if d.waitOver n ws then (if d.waitLate n ws then d.putFlag (fWaitLate n) true else d).waitEnds n ws else d.setDmaState n dmaWAITING))) ∧
  (∀ (s : State) (d : Device) (n : Fin 32) (ws : List Nat), s.finds d → d.unitUp 0 = true → d.inRun = true → d.dmaState n = dmaWAITING →
    (d.chan n).instr = some ws → d.waitOver n ws = true → exec (.dmaWaitEnd n) s = .next (s.gives (d.waitEnds n ws))) ∧
  (∀ (s : State) (d d1 d2 : Device) (n : Fin 32) (ws : List Nat), s.finds d → d.dmaInstr n 4 = some ws →
    d1 = (if bitOf (ws.headD 0) 13 then writeDoorbell (ws.getD 1 0) d else d) →
    d2 = (if bitOf (ws.headD 0) 12 then d1.putFlag (fDmaFlag (ws.getD 2 0)) true else d1) →
    exec (.dmaSignal n) s = .next (s.gives (d2.dmaNext n))) ∧
  (∀ (s : State) (d : Device) (n : Fin 32) (ws : List Nat), s.finds d → d.dmaInstr n 5 = some ws →
    exec (.dmaLink n) s = .next (s.gives
      ((d.mapChan n (fun c => { c with host := bits (ws.headD 0) 12 2 == 1 })).dmaGoto n (addr54 ws 1))))

/-- A change of a port's link or signal is taken, up only with EN. A write of ETH_Pp_CTRL in READY sets EN, MODE and the latencies, and a change of
EN or MODE takes the link down. On a port with a link a frame is taken as what it is: an ARP request and a neighbour solicitation for its own address
are answered, and so is an echo request; an answer is learned; one whose FCS is wrong counts in FCS_ERR, and one that R374 discards counts in DISCARD.
After 60 s an address that an open stream uses is asked for again, and another is forgotten. The slot that has the turn asks for its next block. DATA
and ERR datagrams are taken on a port that has an address. A request with no DATA beyond REQ_TMO, a block with no further segment beyond GAP_TMO, and a
busy server after 1 ms are asked again, the first two for a retry. -/
def Obligations.EthernetAndNdfTakeEffect : Prop :=
  (∀ (s : State) (d : Device) (p : Fin 2) (up los : Bool), s.finds d → d.unitUp 20 = true →
    exec (.linkChange p up los) s = .next (s.gives
      (((d.fecCounts p).putFlag (fEthLos p) los).setLink p (up && d.flag (fPortEn p))))) ∧
  (∀ (s : State) (d d1 : Device) (p : Fin 2) (v : Word), s.finds d → d.unitUp 20 = true → d.inReady = true →
    d1 = (((d.putFlag (fPortEn p) (bitOf v.toNat 17)).putFlag (fPortMode p) (bitOf v.toNat 16)).setReg (ETH_P_TX_LAT p)
      (if bitOf v.toNat 16 then 864 else 608)).setReg (ETH_P_RX_LAT p) (if bitOf v.toNat 16 then 2336 else 1472) →
    exec (.portCtrl p v) s = .next (s.gives
      (if d.flag (fPortEn p) != bitOf v.toNat 17 || d.flag (fPortMode p) != bitOf v.toNat 16 then d1.setLink p false else d1))) ∧
  (∀ (s : State) (d d1 : Device) (p : Fin 2) (frame : List Byte) (x : EthFrame), s.finds d → d.unitUp 20 = true → d.flag (fLink p) = true →
    d1 = d.fecCounts p → x = d1.judgeFrame p (frame.map (fun b => b.toNat)) →
    exec (.ethFrame p frame) s = .next (s.gives (match x with
      | .badFcs => d1.bump (whole (ETH_P_FCS_ERR p))
      | .discard => d1.bump (whole (ETH_P_DISCARD p))
      | .arpRequest t a m => if d1.speaks p false && t == d1.ipv4 p then (d1.itemIn 17).sendArp p 2 m m a else d1.itemIn 17
      | .arpReply a m => if d1.speaks p false then (d1.itemIn 17).learn p false a m else d1.itemIn 17
      | .neighborSolicit t a m => if t == d1.ipv6 p then (d1.itemIn 17).sendAdvert p m a else d1.itemIn 17
      | .neighborAdvert a m => (d1.itemIn 17).learn p true a m
      | .echoRequest v6 a ws => (d1.itemIn 17).sendEcho p (octets (frame.map (fun b => b.toNat)) 6 6) v6 a ws
      | .ndf ws => (d1.itemIn 17).receiveNdf ws
      | .other => d1.itemIn 17))) ∧
  (∀ (s : State) (d d1 : Device) (p : Fin 2) (x : Neighbour), s.finds d → d.unitUp 20 = true → d.flag (fLink p) = true → d.eth.neighbours = [x] →
    x.port = p.val → x.asked + 48000000000 ≤ d.clock → d1 = { d with eth := { d.eth with neighbours := [] } } →
    ((d1.serverUsed p x.v6 x.addr = false ∨ d1.speaks p x.v6 = false) → exec (.arpRefresh p) s = .next (s.gives d1)) ∧
    (d1.serverUsed p x.v6 x.addr = true → d1.speaks p x.v6 = true →
      exec (.arpRefresh p) s = .next (s.gives ((d1.sendAsk p x.v6 x.addr).mapNeighbours (fun l => l ++ [{ x with asked := d1.clock }]))))) ∧
  (∀ (s : State) (d : Device) (n : Fin 16) (q : Nat) (f : NdfFetch), s.finds d → d.unitUp 20 = true → d.slotTurn = some n.val →
    d.nextWanted n = some q →
    f = { slot := n, seq := q, attempt := if q == (d.slot n).next then (d.slot n).attempt else 0, port := d.serverPort (d.slot n).server,
          size := d.segSize, count := none, reqAt := d.clock } →
    exec (.ndfReq n) s = .next (s.gives
      ((({ d with eth := { d.eth with turn := n } } : Device).setFetches (d.eth.fetches ++ [f])).request f))) ∧
  (∀ (s : State) (d : Device) (p : Fin 2) (b : List Byte), s.finds d → d.unitUp 20 = true → d.flag (fLink p) = true →
    (d.speaks p false || d.speaks p true) = true →
    exec (.data p b) s = .next (s.gives ((d.itemIn 17).receiveNdf (b.map (fun x => x.toNat)))) ∧
    exec (.err p b) s = .next (s.gives ((d.itemIn 17).receiveNdf (b.map (fun x => x.toNat))))) ∧
  (∀ (s : State) (d : Device) (n : Fin 16) (q : Word) (f : NdfFetch), s.finds d → d.fetch n q.toNat = some f → d.unitUp 20 = true →
    f.segAt = none → f.busyAt = none → f.reqAt + 8000 * d.get fReqTmo < d.clock →
    exec (.reqTmo n q) s = .next (s.gives (d.spendRetry f Device.request))) ∧
  (∀ (s : State) (d : Device) (n : Fin 16) (q : Word) (f : NdfFetch) (t : Nat), s.finds d → d.fetch n q.toNat = some f → d.unitUp 20 = true →
    f.segAt = some t → f.busyAt = none → t + 8000 * d.get fGapTmo < d.clock →
    exec (.gapTmo n q) s = .next (s.gives (d.spendRetry f Device.sendNak))) ∧
  (∀ (s : State) (d : Device) (n : Fin 16) (q : Word) (f : NdfFetch) (t : Nat), s.finds d → d.fetch n q.toNat = some f → d.unitUp 20 = true →
    f.busyAt = some t → t + 800000 ≤ d.clock → exec (.busyRetry n q) s = .next (s.gives (d.request { f with busyAt := none })))

/-- An Announce with fewer than 255 steps that PTP accepts renews its master, and the choice is made again. The masters silent for three intervals are
dropped; a worker timed by the mesh drops its ring after 3 ms without TIME. A Sync from the followed master in one step, or with its Follow_Up, is
complete; its offset is handled as the clock ends. A Delay_Req is sent once the interval of the last one has passed; its Delay_Resp gives the way up, and with the way down known the path shows. HOLDOVER comes
after PTP_HOLD_TMO without a Sync, on the mean of the rates kept, with event 250. STEP_NOW and SET have their effect. An allowed write of PTP_CFG
starts PTP again in LISTENING or DISABLED. -/
def Obligations.PtpTakesEffect : Prop :=
  (∀ (s : State) (d : Device) (h : PtpHeader) (i : AnnounceInfo), s.finds d → d.ptpOk h = true → i.stepsRemoved < 255 →
    exec (.announce h i) s = .next (s.gives
      (((d.itemIn 17).mapPtp (fun p => { p with masters := p.masters.filter (fun x => !(x.info.sender == i.sender && x.port == h.port.val)) ++
        [{ info := i, port := h.port.val, heard := d.clock,
           before := (d.ptp.masters.find? (fun x => x.info.sender == i.sender && x.port == h.port.val)).map (fun x => x.heard) }] })).chooseMaster))) ∧
  (∀ (s : State) (d : Device) (m : Master), s.finds d → d.meshTimed = false → d.ptp.best = some m → m.deadline ≤ d.clock →
    exec .announceReceiptTimeout s = .next (s.gives
      ((d.mapPtp (fun p => { p with masters := p.masters.filter (fun x => decide (d.clock < x.deadline)) })).chooseMaster))) ∧
  (∀ (s : State) (d : Device), s.finds d → d.meshTimed = true → d.msh.timeRing.isSome = true → d.ptp.syncAt + 2400000 ≤ d.clock →
    exec .announceReceiptTimeout s = .next (s.gives { d with msh := { d.msh with timeRing := none } })) ∧
  (∀ (s : State) (d : Device) (h : PtpHeader) (t1 mac c : Int) (q : Nat), s.finds d → d.follows h = true →
    exec (.ptpSync h false t1 mac c q) s = .next (s.gives ((d.itemIn 17).syncComplete (d.rxTime h.port mac - t1 - c))) ∧
    exec (.ptpSync h true t1 mac c q) s = .next (s.gives
      ((d.itemIn 17).mapPtp (fun p => { p with sync := some (q, d.rxTime h.port mac, c), syncAt := (d.itemIn 17).clock })))) ∧
  (∀ (s : State) (d : Device) (h : PtpHeader) (t1 c t2 c2 : Int) (q : Nat), s.finds d → d.follows h = true → d.ptp.sync = some (q, t2, c2) →
    exec (.followUp h t1 c q) s = .next (s.gives ((d.itemIn 17).syncComplete (t2 - t1 - c2 - c)))) ∧
  (∀ (s : State) (d : Device) (m : Master) (mac : Int), s.finds d → d.ptp.best = some m → d.unitUp 20 = true → d.meshTimed = false →
    d.flag fPtpEn = true → d.flag (fLink m.port) = true → d.transportOn m.port = true → ptpUNCALIBRATED ≤ d.ptpState →
    (∀ t, d.ptp.requestAt = some t → t + logTicks d.ptp.logInterval ≤ d.clock) →
    exec (.delayReq mac) s = .next (s.gives
      ((d.mapPtp (fun p => { p with
        request := some (d.ptp.requestSeq, d.txTime m.port mac), requestAt := some d.clock,
        requestSeq := (d.ptp.requestSeq + 1) % 65536 })).sendDelayReq m.port d.ptp.requestSeq (d.txTime m.port mac)))) ∧
  (∀ (s : State) (d d1 : Device) (h : PtpHeader) (t4 c t3 l : Int) (q : Nat), s.finds d → d.follows h = true → d.ptp.request = some (q, t3) →
    d1 = (d.itemIn 17).mapPtp (fun p => { p with up := some (t4 - t3 - c), request := none, logInterval := l }) →
    exec (.delayResp h t4 c q l) s = .next (s.gives
      (match d1.ptp.down with | some ms => d1.showPath ms (t4 - t3 - c) | none => d1))) ∧
  (∀ (s : State) (d d1 : Device), s.finds d → (d.ptpState = ptpSLAVE ∨ d.ptpState = ptpUNCALIBRATED) →
    d.ptp.syncAt + 800000 * (d.reg PTP_HOLD_TMO % 65536) ≤ d.clock →
    d1 = ((if d.ptp.rates = [] then d else d.setReg PTP_RATE (wrap 18 (ratRound (mkRat d.ptp.rates.sum d.ptp.rates.length)))).setPtpState ptpHOLDOVER) →
    exec .holdover s = .next (s.gives ((d1.mapPtp (fun p => { p with holdSince := d1.clock })).raise 250))) ∧
  (∀ (s : State) (d : Device), s.finds d → d.unitUp 20 = true →
    exec .stepNow s = .next (s.gives d.askStep) ∧ exec .set s = .next (s.gives d.askSet)) ∧
  (∀ (s : State) (d : Device) (v : Word), s.finds d → d.unitUp 20 = true → bits v.toNat 7 2 ≠ 3 → bits v.toNat 4 2 ≠ 3 →
    exec (.ptpCfg v) s = .next (s.gives (((d.setReg PTP_CFG (v.toNat &&& 0x3FFF0)).mapPtp
      (fun p => { stepNow := p.stepNow, rates := p.rates, requestSeq := p.requestSeq, load := p.load, step := p.step })).setPtpState
        (if bitOf v.toNat 17 then ptpLISTENING else ptpDISABLED))))

/-- The first copy of a message for this column that comes to a manager goes on round its ring, and has its effect. JOIN before the job: the digest of
its column is kept. REPORT: READY, HELD, the factor and the stitch point of its column, and the tick of the report. STOP_REQ: the stitch point of
its column, and a global stop. RESUME_ACK: the answer is kept, and the manager decides where it was the last. TIME_REQ: TIME_RESP with the time of
its receipt. EVT: the pair joins the queue of 64 with event 254, and with the queue full it is counted as lost. -/
def Obligations.ManagerMessagesTakeEffect : Prop :=
  (∀ (s : State) (d d1 : Device) (m : MeshMsg) (ty : Nat), s.finds d → d.hearsFrom m = true → d.msh.seen.contains (m.src.val, m.mseq.toNat) = false →
    d1 = ((d.relay m ty).hearsManager m).firstCopy m → d1.forMe m = true →
    d1.isManager = true →
    (ty = mJOIN → d1.inJob = false →
      exec (.join m.origin m.words) s = .next (s.gives (({ d1 with msh := { d1.msh with
        joins := d1.msh.joins.filter (fun (x : Nat × Nat) => x.1 != m.src.val) ++
          [(m.src.val, bodyAt36 (bodyWords m) 0 % 4294967296)] } } : Device).joinCheck))) ∧
    (ty = mREPORT → ∀ d2, d2 = (d1.putFlag (fColReady m.src) (bitOf ((bodyWords m).getD 1 0) 17)).putFlag (fColHeld m.src)
        (bitOf ((bodyWords m).getD 1 0) 16) →
      exec (.report m.origin m.words) s = .next (s.gives (((d2.setReg (MSH_COL_FACTOR m.src) ((bodyWords m).getD 0 0 % 131072)).put36 (MSH_COL_STITCH m.src)
        (bodyAt36 (bodyWords m) 2)).keepReport m.src ((bodyWords m).getD 0 0 % 131072)))) ∧
    (ty = mSTOP_REQ →
      exec (.stopReq m.port m.route m.words) s = .next (s.gives ((d1.put36 (MSH_COL_STITCH m.src) (bodyAt36 (bodyWords m) 1)).globalStop m.src))) ∧
    (ty = mRESUME_ACK →
      exec (.resumeAck m.origin m.words) s = .next (s.gives (({ d1 with msh := { d1.msh with
        acks := d1.msh.acks.filter (fun (x : Nat × Nat) => x.1 != m.src.val) ++ [(m.src.val, (bodyWords m).getD 0 0)] } } : Device).meshDecide))) ∧
    (ty = mTIME_REQ →
      exec (.timeReq m) s = .next (s.gives (d1.sendMesh m.src mTIME_RESP (timeWords d1.tod ++ [(bodyWords m).getD corrWord 0])))) ∧
    (ty = mEVT →
      exec (.evt m.origin m.words) s = .next (s.gives (if d1.msh.fwd.length < 64 then
        ({ d1 with msh := { d1.msh with fwd := d1.msh.fwd ++ [(m.src.val, (bodyWords m).getD 0 0 % 256)] } } : Device).raise 254
        else d1.bump (whole MSH_FWD_LOST)))))

/-- The first copy of a message for this column that comes to a worker goes on round its ring, and has its effect. START in its job: it has joined.
RUN for its own pass: it follows. STOP: S is recorded with event 253, and acted on. REST in WRITING: a column with no stop pending stops, and knows
that the stage rests. RESUME: it makes its checks and answers. END in its job: the job is done. PAUSE in WRITING: it pauses after the pass. Timed by
the mesh, TIME from its ring stands for a Sync, which it answers with TIME_REQ, and TIME_RESP for the Delay_Resp. BEAT has no effect of its own.
ABORT has its effect in every column. -/
def Obligations.WorkerMessagesTakeEffect : Prop :=
  (∀ (s : State) (d d1 : Device) (m : MeshMsg) (ty : Nat), s.finds d → d.hearsFrom m = true → d.msh.seen.contains (m.src.val, m.mseq.toNat) = false →
    d1 = ((d.relay m ty).hearsManager m).firstCopy m → d1.forMe m = true →
    (ty = mABORT → exec (.meshAbort m) s = .next (s.gives d1.meshAborted)) ∧
    (ty = mBEAT → exec (.beat m) s = .next (s.gives d1)) ∧
    (d1.isWorker = true →
      (ty = mSTART → exec (.start m) s = .next (s.gives (if d1.inJob then d1.putFlag fJoined true else d1))) ∧
      (ty = mRUN → d1.job.any (fun j => j.pass == (bodyWords m).getD 0 0 / 2 && j.reverse == bitOf ((bodyWords m).getD 0 0) 0) = true →
        exec (.run m.port m.route m.mseq m.body) s = .next (s.gives d1.followRun)) ∧
      (ty = mSTOP → exec (.stop m.port m.route m.words) s = .next (s.gives
        ((d1.recordStop false ((bodyWords m).getD 2 0 % 16) (bodyAt36 (bodyWords m) 0)).stopAt (bodyAt36 (bodyWords m) 0)))) ∧
      (ty = mREST → d1.inWriting = true → ∀ d2, d2 = (if d1.flag fStopPending then d1 else d1.stopRequest cMESH) →
        exec (.rest m) s = .next (s.gives { d2 with msh := { d2.msh with rest := true } })) ∧
      (ty = mRESUME → exec (.meshResume m) s = .next (s.gives d1.answerResume)) ∧
      (ty = mEND → exec (.meshEnd m) s = .next (s.gives (if d1.inJob then d1.jobDone else d1))) ∧
      (ty = mPAUSE → exec (.meshPause m) s = .next (s.gives (if d1.inWriting then d1.mapJob (fun j => { j with pausing := true }) else d1)))) ∧
    (d1.meshTimed = true →
      (ty = mTIME → ∀ d2 d3 : Device, d2 = { d1 with msh := { d1.msh with traced := bitOf ((bodyWords m).getD 7 0) 0 } } →
        d3 = (d2.takeRing m.ring).syncComplete (((d2.takeRing m.ring).tod : Int) - timeAt (bodyWords m) - corrAt (bodyWords m)) →
        exec (.time m.port m.route m.mseq m.body) s = .next (s.gives
          ((d3.mapPtp (fun p => { p with request := some (0, (d3.tod : Int)) })).sendMesh 0 mTIME_REQ (timeWords d3.tod ++ [0])))) ∧
      (ty = mTIME_RESP → ∀ (q : Nat) (t3 sm : Int) (d2 : Device), d1.ptp.request = some (q, t3) →
        sm = timeAt (bodyWords m) - t3 - corrAt (bodyWords m) → d2 = d1.mapPtp (fun p => { p with up := some sm, request := none }) →
        exec (.timeResp m.port m.route m.words) s = .next (s.gives (match d2.ptp.down with | some ms => d2.showPath ms sm | none => d2)))))

/-- The manager sends TIME when the last is 1 ms old. A worker that has heard nothing from the manager for 1 ms is cut off: event 252 and a stop. A
worker with no REPORT for 1 ms is LOST: event 252 and a global stop, and a resume that waits for it is refused. LOS, LOL or failed blocks take an UP
port down. A DOWN port trains again 100 ms after its last attempt, as does one whose attempt has found no lock by then, and RETRAIN trains it at once. A
training that finds the right column at the other end takes a port UP, and a wrong one fails it. A block that cannot be taken counts in BLOCK_ERR, and
the third in a row takes the port down; one that can ends the run and counts its messages of unknown type. A second copy of a message goes on round its ring and has no other effect. -/
def Obligations.MeshWatchesAndPortsTakeEffect : Prop :=
  (∀ (s : State) (d : Device), s.finds d → d.meshOn = true → d.isManager = true →
    d.msh.timeSent.any (fun t => decide (d.clock < t + 800000)) = false →
    exec .timeSend s = .next (s.gives
      (({ d with msh := { d.msh with timeSent := some d.clock } } : Device).sendMesh toAll mTIME (timeWords d.tod ++ [0, b2n (d.get fTodSrc == 2)])))) ∧
  (∀ (s : State) (d : Device), s.finds d → d.isWorker = true → d.msh.cut = false → d.msh.heard + 800000 ≤ d.clock →
    exec .cutOff s = .next (s.gives ((({ d with msh := { d.msh with cut := true } } : Device).raise 252).stopRequest cMESH))) ∧
  (∀ (s : State) (d : Device) (c : Fin 16), s.finds d → d.isManager = true → d.workers.contains c.val = true →
    d.msh.lost.contains c.val = false → d.colLive c = false → 800000 ≤ d.clock →
    exec (.workerLost c) s = .next (s.gives
      (((({ d with msh := { d.msh with lost := d.msh.lost ++ [c.val] } } : Device).raise 252).globalStop c).when
        ((({ d with msh := { d.msh with lost := d.msh.lost ++ [c.val] } } : Device).raise 252).globalStop c).msh.asking
        (fun d => d.meshRefused c sNO_RESOURCE)))) ∧
  (∀ (s : State) (d : Device) (p : Fin 4) (c : Fin 3), s.finds d → d.unitUp 19 = true →
    exec (.meshPortDown p c) s = .next (s.gives (d.portDown p (pcLOS + c)))) ∧
  (∀ (s : State) (d d1 : Device) (p : Fin 4), s.finds d → d.unitUp 19 = true →
    (d.msh.tried.toList.getD p none).all (fun t => decide (t + 80000000 ≤ d.clock)) = true →
    d1 = (if d.portSt p = portTRAINING then d.portFails p pcNO_LOCK else d) →
    exec (.meshPortRetrainTimer p) s = .next (s.gives (if d1.portSt p = portDOWN then d1.portTrain p else d1))) ∧
  (∀ (s : State) (d d1 : Device) (p : Fin 4) (c : Fin 16), s.finds d → d.unitUp 19 = true → d.portSt p = portTRAINING →
    d1 = (if d.isPermanent 10 p then d.dropDomain 10 p else d.recovered 10 p) →
    exec (.meshPortUp p c) s = .next (s.gives (if d.meshOn = true ∧ c.val ≠ d.peerOf p then d.portFails p pcMAP
      else (((d1.setPort p portUP).put (fPeer p) c).retrainEnds p sOK 0)))) ∧
  (∀ (s : State) (d : Device) (p : Fin 4) (v : Word), s.finds d → bitOf v.toNat 17 = true → d.portRetrainTaken p = true →
    exec (.mshPortRetrain p v) s = .next (s.gives (d.portTrain p))) ∧
  (∀ (s : State) (d : Device) (p : Fin 4), s.finds d → d.unitUp 19 = true → d.portSt p = portUP →
    exec (.meshBlockErr p .uncorrectable) s = .next (s.gives
      ((({ d with msh := { d.msh with fecRun := d.msh.fecRun.set! p (d.msh.fecRun.toList.getD p 0 + 1) } } : Device).bump
        (whole (MSH_PORT_BLOCK_ERR p))).faultyRun p pcLOL (d.msh.fecRun.toList.getD p 0 + 1))) ∧
    (∀ b, d.meshBlockClean p b.toNat = false →
      exec (.meshBlockErr p (.message b)) s = .next (s.gives
        ((({ d with msh := { d.msh with
          crcRun := d.msh.crcRun.set! p (d.msh.crcRun.toList.getD p 0 + 1), fecRun := d.msh.fecRun.set! p 0 } } : Device).bump
            (whole (MSH_PORT_BLOCK_ERR p))).faultyRun p pcBLOCK_CRC (d.msh.crcRun.toList.getD p 0 + 1)))) ∧
    (∀ b, d.meshBlockClean p b.toNat = true →
      exec (.meshBlockErr p (.message b)) s = .next (s.gives
        ((d.goodBlock p).bumpBy (whole (MSH_PORT_BLOCK_ERR p)) (unknownSlots b.toNat))))) ∧
  (∀ (s : State) (d d1 : Device) (m : MeshMsg) (c : Instr) (ty : Nat), s.finds d → d.hearsFrom m = true →
    (c, ty) ∈ [(Instr.join m.origin m.words, mJOIN), (.start m, mSTART), (.report m.origin m.words, mREPORT),
      (.run m.port m.route m.mseq m.body, mRUN), (.stopReq m.port m.route m.words, mSTOP_REQ),
      (.stop m.port m.route m.words, mSTOP),
      (.rest m, mREST), (.meshResume m, mRESUME), (.resumeAck m.origin m.words, mRESUME_ACK), (.meshAbort m, mABORT), (.meshEnd m, mEND), (.meshPause m, mPAUSE),
      (.time m.port m.route m.mseq m.body, mTIME), (.timeReq m, mTIME_REQ), (.timeResp m.port m.route m.words, mTIME_RESP),
      (.evt m.origin m.words, mEVT), (.beat m, mBEAT)] →
    d.msh.seen.contains (m.src.val, m.mseq.toNat) = true → d1 = (d.relay m ty).hearsManager m →
    exec c s = .next (s.gives { d1 with msh := { d1.msh with seen := d.msh.seen.filter (fun x => x != (m.src.val, m.mseq.toNat)) } }))

/-- The event block and the error log where they act: the doorbell, the delivery to the cores and its end, the moderation timers, HOLD,
the PCIe messages, and the clear of the log. -/
def Obligations.EventCommandsTakeEffect : Prop :=
  (∀ (s : State) (d d1 : Device) (v : Word), s.finds d → d.released 0 = true → bitOf v.toNat 17 = true →
    d1 = d.each ((List.range 64).filter (fun i => d.logValid i &&
      !d.rst.logAt.any (fun x => x.1 == d.clock && fseqGe (d.logLseq i) (x.2 + 1)))) Device.dropLog →
    exec (.errlogClear v) s = .next (s.gives (d1.put fLogCount ((List.range 64).filter d1.logValid).length))) ∧
  (∀ (s : State) (d : Device) (k : Nat), s.finds d → d.released 0 = true → d.evt.serving = none → d.ulp.takeover = false → d.flag fHold = false →
    d.topSource d.dueOnCores = some k →
    exec .coreDelivery s = .next (s.gives
      ((({ d with evt := { d.evt with serving := some k } } : Device).emit (.coreJump (d.reg EVT_CORE_BASE * 4096 + 16 * k))).itemOut 19))) ∧
  (∀ (s : State) (d : Device) (k : Nat), s.finds d → d.evt.serving = some k → ({ d with evt := { d.evt with serving := none } } : Device).target k = 1 →
    exec .serviceEnd s = .next (s.gives
      ((({ d with evt := { d.evt with serving := none } } : Device).clearPending k).log logEvent false 0x1F k k 0))) ∧
  (∀ (s : State) (d : Device) (v : Fin 64) (t : Nat), s.finds d → d.evt.timers.find? (fun t => t.1 == v.val) = some (v.val, t) → t ≤ d.clock →
    ({ d with evt := { d.evt with timers := d.evt.timers.filter (fun x => x.1 != v.val) } } : Device).vectorPending v = true →
    exec (.moderationTimer v) s = .next (s.gives
      (({ d with evt := { d.evt with timers := d.evt.timers.filter (fun x => x.1 != v.val) } } : Device).issue v))) ∧
  (∀ (s : State) (d : Device) (v : Word), s.finds d → d.released 0 = true →
    exec (.evtHold v) s = .next (s.gives
      (if bitOf v.toNat 17 then d.putFlag fHold true else (d.putFlag fHold false).issueDue))) ∧
  (∀ (s : State) (d : Device), s.finds d → d.released 21 = true → d.levelsShown = true → d.evt.timers = [] →
    ∃ t, exec .pmeTurnOff s = .next t ∧ t.dev.evt.linkL0 = false ∧ t.dev.evt.timers = []) ∧
  (∀ (s : State) (d : Device) (v : Fin 64), s.finds d → d.released 21 = true → d.evt.vecMask.getLsbD v = true →
    exec (.msixUnmask (some v)) s = .next (s.gives
      ((({ d with evt := { d.evt with vecMask := vecPut d.evt.vecMask v false } } : Device).dueWhere (fun w => w == v.val)).issueDue))) ∧
  (∀ (s : State) (d : Device), s.finds d → d.released 21 = true →
    exec .pcieL0Entry s = .next (s.gives ({ d with evt := { d.evt with linkL0 := true } } : Device).issueDue))

/-- A doorbell of a source below 256 raises it, whatever its configuration, and a greater value raises source 30. -/
def Obligations.DoorbellRaisesItsSource : Prop :=
  (∀ (s : State) (d : Device) (v : Word), s.finds d → d.released 0 = true → v.toNat < 256 →
    ∃ t, exec (.evtDoorbell v) s = .next t ∧ t.dev = (d.raise v.toNat).settle ∧ t.dev.isPending v.toNat = true) ∧
  (∀ (s : State) (d : Device) (v : Word), s.finds d → d.released 0 = true → 256 ≤ v.toNat →
    ∃ t, exec (.evtDoorbell v) s = .next t ∧ t.dev = (d.raise 30).settle ∧ t.dev.isPending 30 = true)

/-- Frost, its end, the sample of the supplies and temperatures, and the counters where they act. -/
def Obligations.PowerAndCountersTakeEffect : Prop :=
  (∀ (s : State) (d : Device), s.finds d → d.get fFState = fsENTERING → d.pwr.undoing = false →
    ∃ t, exec .frostCommit s = .next t ∧ t.dev.st = stFrost ∧ t.dev.get fFState = fsFROST ∧ t.dev.lne.frames = [] ∧ t.dev.lne.flushes = [] ∧
      t.dev.pwr.commitAt = some d.clock ∧ t.dev.dram = d.dram ∧ t.dev.laidOut = d.laidOut) ∧
  (∀ (s : State) (d : Device) (k : Fin 7), s.finds d → d.get fFState ≠ fsRUN → bitOf (d.putFlag (bitAt PWR_LATCH k) true).wakeEn k = true →
    exec (.wake ⟨k.val, Nat.lt_succ_of_lt k.isLt⟩ 2) s = .next (s.gives ((d.putFlag (bitAt PWR_LATCH k) true).wakeBy (2 ^ k.val)))) ∧
  (∀ (s : State) (d : Device) (v : Word), s.finds d → d.released 0 = true → bitOf v.toNat 17 = true →
    exec (.thaw v) s = .next (s.gives (d.wakeBy 256))) ∧
  (∀ (s : State) (d : Device), s.finds d → d.get fFState = fsTHAWING → d.lanesTraining = false →
    ∃ t, exec .thawComplete s = .next t ∧ t.dev.st = stReady ∧ t.dev.get fFState = fsRUN ∧ t.dev.pwr.commitAt = none ∧ t.dev.pwr.undoing = false) ∧
  (∀ (s : State) (d d1 : Device) (r : HwReading), s.finds d → d1 = hwSampleCore r d → d1.flag (bitAt SYS_HW_STATUS 13) = false →
    exec (.hwSample r) s = .next (s.gives ((if d1.smbAlertLow != d.smbAlertLow then d1.emit (.smbAlert d1.smbAlertLow) else d1).calByTemp.each (List.range 4) (fun d c => d.when (d.retuneByTemp c) (fun d => d.startRetune c))))) ∧
  (∀ (s : State) (d : Device), s.finds d → d.unitUp 0 = true →
    exec (.pmcSnap 0) s = .next (s.gives (d.snapshot.putFlag (bitAt PMC_CTRL 15) false)) ∧
    exec (.pmcClear 0) s = .next (s.gives (d.clearCounts.putFlag (bitAt PMC_CTRL 15) false))) ∧
  (∀ (s : State) (d : Device) (v : Word), s.finds d → d.unitUp 0 = true → bits v.toNat 16 2 = 0 →
    exec (.pmcFreeze v) s = .next (s.gives
      ((if bitOf v.toNat 15 && !d.flag (bitAt PMC_CTRL 15) then d.freeze else d).putFlag (bitAt PMC_CTRL 15) (bitOf v.toNat 15)))) ∧
  (∀ (s : State) (d : Device), s.finds d → d.unitUp 0 = true → d.levelsShown = true →
    ∃ t, exec (.psbClear 0) s = .next t ∧ t.dev.reg PMC_PSB_COUNT = 0 ∧ t.dev.reg PMC_PSB_NEXT = 0 ∧ t.dev.flag (bitAt PMC_PSB_CTRL 10) = false)

/-- The monitor's commands of level 0 where the cores run: each answers its lines and then ok, and changes nothing else but what it names.
The monitor's session: baud, lock and unlock where they are accepted, a line that is no command, a break and the idle time-out. -/
def Obligations.MonitorReadsAndSessionComplete : Prop :=
  (∀ (s : State) (d d1 : Device), s.finds d → d.coresRun = true → d.ulp.takeover = false → d1 = { d with pwr := { d.pwr with monAt := d.clock } } →
    exec .monHelp s = .next (s.gives (d1.emit (.monitor
      ((monCommands.filter (fun c => decide (c.1 ≤ d1.get fMonLevel))).map (fun c => MonLine.text c.2) ++ [.ok])))) ∧
    exec .monId s = .next (s.gives (d1.emit (.monitor
      [.numbers [d1.reg 0, d1.reg 4, d1.reg 8], .bigInt Config.serialNumber, .ok]))) ∧
    exec .monState s = .next (s.gives (d1.emit (.monitor [.numbers [d1.st, d1.get fPass, d1.get fDir, d1.get fHeldCause, d1.phase], .ok]))) ∧
    exec .monLog s = .next (s.gives (d1.emit (.monitor
      ((sortBy d1.logLseq ((List.range 64).filter d1.logValid)).map (fun i => MonLine.numbers ((List.range 11).map (fun j => d1.reg (SYS_EL i + 4 * j)))) ++
        [.ok])))) ∧
    exec .monEvt s = .next (s.gives (d1.emit (.monitor
      (((List.range 256).filter d1.isPending).map (fun k => MonLine.numbers [k, d1.target k]) ++ [.ok]))))) ∧
  (∀ (s : State) (d d1 : Device) (off n : Nat), s.finds d → d.coresRun = true → d.ulp.takeover = false →
    d1 = { d with pwr := { d.pwr with monAt := d.clock } } → off % 4 = 0 → 1 ≤ n → n ≤ 64 → off + 4 * n ≤ 0x4000000 →
    exec (.monRd off n) s = .next (s.gives ((d1.busReads off n).2.emit (.monitor [.numbers (d1.busReads off n).1, .ok])))) ∧
  (∀ (s : State) (d d1 : Device) (b : Nat), s.finds d → d.coresRun = true → d.ulp.takeover = false →
    d1 = { d with pwr := { d.pwr with monAt := d.clock } } → b < 20 →
    exec (.monCtr b) s = .next (s.gives (d1.snapshot.emit (.monitor
      [.numbers ((List.range 8).map (fun k => d1.snapshot.get36 (PMC_C_SNAP b k))), .ok])))) ∧
  (∀ (s : State) (d d1 : Device) (rate c : Nat), s.finds d → d.coresRun = true → d.ulp.takeover = false →
    d1 = { d with pwr := { d.pwr with monAt := d.clock } } → baudCode rate = some c →
    exec (.monBaud rate) s = .next (s.gives ((d1.put fMonBaud c).emit (.monitor [.ok])))) ∧
  (∀ (s : State) (d : Device), s.finds d → d.coresRun = true → d.ulp.takeover = false →
    exec .monLock s = .next (s.gives
      ((({ d with pwr := { d.pwr with monAt := d.clock } } : Device).put fMonLevel 0).emit (.monitor [.ok])))) ∧
  (∀ (s : State) (d : Device), s.finds d → d.coresRun = true → d.ulp.takeover = false → d.flag fL1Open = true →
    exec (.monUnlock 1) s = .next (s.gives
      ((({ d with pwr := { d.pwr with monAt := d.clock } } : Device).put fMonLevel 1).emit (.monitor [.ok])))) ∧
  (∀ (s : State) (d : Device), s.finds d → d.coresRun = true → d.ulp.takeover = false → d.flag fL2Open = true → d.strict = false →
    exec (.monUnlock 2) s = .next (s.gives
      ((({ d with pwr := { d.pwr with monAt := d.clock } } : Device).put fMonLevel 2).emit (.monitor [.ok])))) ∧
  (∀ (s : State) (d : Device), s.finds d → d.coresRun = true → d.ulp.takeover = false → (d.flag fL2Open = false ∨ d.strict = true) →
    exec (.monUnlock 2) s = .next (s.gives
      (({ d with pwr := { d.pwr with monAt := d.clock } } : Device).emit (.monitor [.err 2])))) ∧
  (∀ (s : State) (d : Device) (n : Nat), s.finds d → d.coresRun = true → d.ulp.takeover = false → n ≤ 127 →
    exec (.monBadLine n) s = .next (s.gives
      (({ d with pwr := { d.pwr with monAt := d.clock } } : Device).emit (.monitor [.err 1])))) ∧
  (∀ (s : State) (d : Device) (n : Nat), s.finds d → d.coresRun = true → 100 ≤ n →
    exec (.monitorBreak n) s = .next (s.gives ((d.put fMonLevel 0).put fMonBaud 0))) ∧
  (∀ (s : State) (d : Device), s.finds d → d.coresRun = true → d.get fIdleMin ≠ 0 → d.pwr.monAt + d.get fIdleMin * 48000000000 ≤ d.clock →
    exec .monitorIdleTimeout s = .next (s.gives (d.put fMonLevel 0)))

/-- The monitor's commands of levels 1 and 2 where they are accepted. -/
def Obligations.MonitorWritesComplete : Prop :=
  (∀ (s : State) (d d1 : Device) (off v : Nat), s.finds d → d.coresRun = true → d.ulp.takeover = false → 1 ≤ d.get fMonLevel →
    d1 = { d with pwr := { d.pwr with monAt := d.clock } } → off % 4 = 0 → off < 0x4000000 → v < 4294967296 →
    exec (.monWr off v) s = .next (s.gives ((d1.busWrite .monitor off v).emit (.monitor [.ok])))) ∧
  (∀ (s : State) (d d1 : Device) (k : Nat), s.finds d → d.coresRun = true → d.ulp.takeover = false → 1 ≤ d.get fMonLevel →
    d1 = { d with pwr := { d.pwr with monAt := d.clock } } → k < 262144 →
    exec (.monRing k) s = .next (s.gives ((d1.busWrite .monitor EVT_DOORBELL k).emit (.monitor [.ok])))) ∧
  (∀ (s : State) (d d1 : Device), s.finds d → d.coresRun = true → d.ulp.takeover = false → 1 ≤ d.get fMonLevel →
    d1 = { d with pwr := { d.pwr with monAt := d.clock } } → d.get fFState ≠ fsRUN →
    exec .monThaw s = .next (s.gives ((d1.wakeBy 512).emit (.monitor [.ok])))) ∧
  (∀ (s : State) (d d1 : Device) (la n : Nat), s.finds d → d.coresRun = true → d.ulp.takeover = false → 2 ≤ d.get fMonLevel →
    d1 = { d with pwr := { d.pwr with monAt := d.clock } } → (d.inReady || d.inHeld) = true → 1 ≤ n → n ≤ 16 → la + n ≤ memLines →
    d.memServes (64 * la) (64 * n) = true →
    exec (.monDr la n) s = .next (s.gives ((d1.memUse (64 * la) (64 * n)).emit (.monitor ((List.range n).map (fun i => d1.monLine (la + i)) ++ [.ok]))))) ∧
  (∀ (s : State) (d : Device) (g : Nat) (w : Vector Nat 4) (i : Fin 4), s.finds d → d.coresRun = true → d.ulp.takeover = false → 2 ≤ d.get fMonLevel →
    d.inReady = true → g < 16 * memLines → w.toList.all (fun v => decide (v < 262144)) = true → d.lineBad (g / 16) = false →
    d.memServes (4 * g) 4 = true →
    ∃ t, exec (.monDw g w) s = .next t ∧ t.dev.dramWord (4 * g + i) = w.toList.getD i 0) ∧
  (∀ (s : State) (d d1 : Device) (ol : OptionLoad), s.finds d → d.coresRun = true → d.ulp.takeover = false → 2 ≤ d.get fMonLevel →
    d1 = { d with pwr := { d.pwr with monAt := d.clock } } → d1.softTaken = true →
    exec (.monReset ol) s = .next (s.gives ((d1.softReset ol).emit (.monitor [.ok])))) ∧
  (∀ (s : State) (d d1 : Device) (k : Nat), s.finds d → d.coresRun = true → d.ulp.takeover = false → 2 ≤ d.get fMonLevel →
    d1 = { d with pwr := { d.pwr with monAt := d.clock } } → k < 32 →
    exec (.monBlkreset k) s = .next (s.gives ((d1.requestBlock k).emit (.monitor [.numbers [(d1.requestBlock k).get fBlkResult], .ok]))))

/-- An error of a domain: it counts with the errors of the last WINDOW, is permanent when they are COUNT or more or when its domain is
recovering, and transient otherwise; a permanent domain counts no further errors; and no other domain changes. Errors of one domain within one clock
are one error: the second leaves its domain recovering and counts no more. -/
def Obligations.ErrorsAreClassifiedByCountAndWindow : Prop :=
  (∀ (d : Device) (code unit cause data : Nat), d.isPermanent code unit = true → d.charge code unit cause data = (.ignored, d)) ∧
  (∀ (d : Device) (code unit cause data : Nat), d.isPermanent code unit = false →
    (d.released 13 && (d.domain code unit).times.head? == some d.clock) = true →
    d.charge code unit cause data = (.transient, d.setDomain { d.domain code unit with recovering := true })) ∧
  (∀ (d : Device) (code unit cause data : Nat), d.isPermanent code unit = false →
    (d.released 13 && (d.domain code unit).times.head? == some d.clock) = false →
    (d.charge code unit cause data).1 = (if d.isRecovering code unit || decide (d.get fFltCount ≤ d.errsNow code unit + 1) then .permanent else .transient) ∧
    (d.charge code unit cause data).2.isPermanent code unit = ((d.charge code unit cause data).1 == .permanent) ∧
    (d.charge code unit cause data).2.isRecovering code unit = ((d.charge code unit cause data).1 == .transient) ∧
    ∀ code' unit', (code', unit') ≠ (code, unit) → (d.charge code unit cause data).2.domain code' unit' = d.domain code' unit')

/-- A BAR0 write of a plain register of one dword: each field takes what its access code says (RW, RWS and SH bits the written value, W1C
bits written 1 clear but those that the module sets in the same clock, every other bit stays), and no other register, no memory and no job
changes. -/
def Obligations.PlainWritesTakeTheirFields : Prop :=
  ∀ (s : State) (d : Device) (off : BitVec 26) (v : Dword) (l : RegLoc), s.finds d → d.released 21 = true → off.toNat < 0x1600000 →
    d.regUp off.toNat = true → locate off.toNat = some l → actionWrite l (v.toNat % 262144) = none → l.row.hold = false → l.row.guard ≠ .ready →
    off.toNat / 0x100000 ≠ 2 → off.toNat / 0x100000 ≠ 21 → shadowTable l.row.base = none →
    l.masks.rws = 0 → clearedWith l.row.base = [] →
    d.takesWrite l.row.base l.elem [fieldWrite l.masks (d.reg off.toNat) (d.justSet off.toNat) (v.toNat % 262144)] = true →
    ([RIL_BT 0, SYS_MON_CFG, POS_CH_SCALE 0, POS_CH_OFFSET 0, FLS_TEMP_WARN, FLS_TEMP_LIMIT, MOT_CFG, MOT_LAX_CTRL 0, MOT_LAX_CUR 0, MSH_CFG, DMA_CH_PC 0].contains l.row.base) = false →
    ∃ t, exec (.registerWrite off v) s = .next t ∧
      t.dev.reg off.toNat = fieldWrite l.masks (d.reg off.toNat) (d.justSet off.toNat) (v.toNat % 262144) % 262144 ∧
      (∀ o, o / 0x100000 ≠ 2 → o / 0x100000 ≠ 21 → o ≠ off.toNat → t.dev.reg o = d.reg o) ∧
      t.dev.dram = d.dram ∧ t.dev.laidOut = d.laidOut ∧ t.dev.hostMem = d.hostMem ∧ t.dev.job = d.job

/-- A request of any requester but the zero fill that writes a line, where no request waits and the NORMAL channel may serve it at once: the 64 words
of the line read as written, and every other word of the module DRAM, the host's memory and the job stay. -/
def Obligations.DramLineWritesAreExact : Prop :=
  ∀ (s : State) (d : Device) (q : Requester) (la : BitVec 31) (ws : Vector Word 64), s.finds d → q ≠ .zeroFill → d.mem.held = [] →
    d.chanServes (chanOf la.toNat) = true → d.lineFilled la.toNat = true → d.get (fChState (chanOf la.toNat)) = chNORMAL → d.mem.recovering = [] →
    ∃ t, exec (.dramRequest q la (.writeLine ws) []) s = .next t ∧
      (∀ i : Fin 64, t.dev.dramWord (64 * la.toNat + i) = (ws.toList.getD i 0).toNat) ∧
      (∀ a, (a < 64 * la.toNat ∨ 64 * la.toNat + 64 ≤ a) → t.dev.dramWord a = d.dramWord a) ∧
      t.dev.hostMem = d.hostMem ∧ t.dev.job = d.job

/-- A BAR0 write of a register with an action is the command of the table that names it, with the written 18 bits. -/
def Obligations.ActionRegistersAreTheirCommands : Prop :=
  ∀ (s : State) (v : Dword), s.dev.powered = true → s.dev.released 21 = true →
    (s.dev.regUp EVT_DOORBELL = true → exec (.registerWrite (BitVec.ofNat 26 EVT_DOORBELL) v) s = exec (.evtDoorbell (v.setWidth 18)) s) ∧
    (s.dev.regUp SYS_ERRLOG_STATUS = true → exec (.registerWrite (BitVec.ofNat 26 SYS_ERRLOG_STATUS) v) s = exec (.errlogClear (v.setWidth 18)) s) ∧
    (s.dev.regUp EVT_CTRL = true → exec (.registerWrite (BitVec.ofNat 26 EVT_CTRL) v) s = exec (.evtHold (v.setWidth 18)) s) ∧
    (s.dev.regUp FLS_COMMIT = true → exec (.registerWrite (BitVec.ofNat 26 FLS_COMMIT) v) s = exec (.flsCommit (v.setWidth 18)) s) ∧
    (s.dev.regUp MOT_COMMIT = true → exec (.registerWrite (BitVec.ofNat 26 MOT_COMMIT) v) s = exec (.sineTableCommit (v.setWidth 18)) s) ∧
    (s.dev.regUp MOT_LAYER = true → exec (.registerWrite (BitVec.ofNat 26 MOT_LAYER) v) s = exec (.motLayerGo (v.setWidth 18)) s) ∧
    (s.dev.regUp POOL_COMMIT = true → exec (.registerWrite (BitVec.ofNat 26 POOL_COMMIT) v) s = exec (.poolCommit (v.setWidth 18)) s) ∧
    (s.dev.regUp RIL_COMMIT = true → exec (.registerWrite (BitVec.ofNat 26 RIL_COMMIT) v) s = exec (.rilCommit (v.setWidth 18)) s) ∧
    (s.dev.regUp RIL_STUCK_ACK = true → exec (.registerWrite (BitVec.ofNat 26 RIL_STUCK_ACK) v) s = exec (.rilStuckAck (v.setWidth 18)) s) ∧
    (s.dev.regUp DMA_FLAG_SET = true → exec (.registerWrite (BitVec.ofNat 26 DMA_FLAG_SET) v) s = exec (.dmaFlagSet (v.setWidth 18)) s) ∧
    (s.dev.regUp PTP_CFG = true → exec (.registerWrite (BitVec.ofNat 26 PTP_CFG) v) s = exec (.ptpCfg (v.setWidth 18)) s) ∧
    (s.dev.regUp PWR_CTRL = true → exec (.registerWrite (BitVec.ofNat 26 PWR_CTRL) v) s = exec (.thaw (v.setWidth 18)) s) ∧
    (s.dev.regUp MEM_LOG_STATUS = true → exec (.registerWrite (BitVec.ofNat 26 MEM_LOG_STATUS) v) s = exec (.memLogClear (v.setWidth 18)) s) ∧
    (∀ q : Fin 4, s.dev.regUp (ULP_SQ_TAIL q) = true →
      exec (.registerWrite (BitVec.ofNat 26 (ULP_SQ_TAIL q)) v) s = exec (.sqTail q (v.setWidth 18)) s ∧
      exec (.registerWrite (BitVec.ofNat 26 (ULP_CQ_HEAD q)) v) s = exec (.cqHead q (v.setWidth 18)) s) ∧
    (∀ k : Fin 4, s.dev.regUp (POS_TCMP_CTRL k) = true →
      exec (.registerWrite (BitVec.ofNat 26 (POS_TCMP_CTRL k)) v) s = exec (.timeCompareArm k (v.setWidth 18)) s ∧
      exec (.registerWrite (BitVec.ofNat 26 (POS_PCMP_CTRL k)) v) s = exec (.positionCompareArm k (v.setWidth 18)) s) ∧
    (∀ p : Fin 2, s.dev.regUp (ETH_P_CTRL p) = true →
      exec (.registerWrite (BitVec.ofNat 26 (ETH_P_CTRL p)) v) s = exec (.portCtrl p (v.setWidth 18)) s) ∧
    (∀ g : Fin 8, s.dev.regUp (RIL_GRP_FORCE g) = true →
      exec (.registerWrite (BitVec.ofNat 26 (RIL_GRP_FORCE g)) v) s = exec (.rilGrpForce g (v.setWidth 18)) s)

/-- In a tick in which no clear has come before, a snapshot copies each of the 160 counters and the tick, and one that does not write FREEZE leaves
every COUNT as it is; CLEAR sets every COUNT to 0, and one written with SNAP takes the snapshot first. -/
def Obligations.SnapshotCopiesEveryCounter : Prop :=
  (∀ (s : State) (d : Device) (v : Word), s.finds d → d.unitUp 0 = true → d.levelsShown = true → d.pmcNow.cleared = none → bitOf v.toNat 16 = false →
    bitOf v.toNat 15 = false →
    ∃ t, exec (.pmcSnap v) s = .next t ∧ t.dev.get36 PMC_SNAP_TICK = d.tick ∧
      ∀ (b : Fin 20) (k : Fin 8), t.dev.get36 (PMC_C_SNAP b k) = d.get36 (PMC_C_COUNT b k) ∧ t.dev.get36 (PMC_C_COUNT b k) = d.get36 (PMC_C_COUNT b k)) ∧
  (∀ (s : State) (d : Device) (v : Word), s.finds d → d.unitUp 0 = true → d.levelsShown = true → d.pmcNow.cleared = none → bitOf v.toNat 17 = true →
    bitOf v.toNat 15 = false →
    ∃ t, exec (.pmcClear v) s = .next t ∧
      ∀ (b : Fin 20) (k : Fin 8), t.dev.get36 (PMC_C_SNAP b k) = d.get36 (PMC_C_COUNT b k) ∧ t.dev.get36 (PMC_C_COUNT b k) = 0)

/-- Below its access level a monitor command gives E2, and during a takeover E5; neither changes anything but the idle timer. -/
def Obligations.MonitorCommandsNeedTheirLevel : Prop :=
  ∀ (s : State) (d d1 : Device) (off v k la n g : Nat) (w : Vector Nat 4) (ol : OptionLoad), s.finds d → d.coresRun = true →
    d1 = { d with pwr := { d.pwr with monAt := d.clock } } →
    (d.ulp.takeover = false → d.get fMonLevel < 1 →
      ∀ c ∈ [Instr.monWr off v, .monRing k, .monThaw], exec c s = .next (s.gives (d1.emit (.monitor [.err 2])))) ∧
    (d.ulp.takeover = false → d.get fMonLevel < 2 →
      ∀ c ∈ [Instr.monDr la n, .monDw g w, .monReset ol, .monBlkreset k], exec c s = .next (s.gives (d1.emit (.monitor [.err 2])))) ∧
    (d.ulp.takeover = true →
      ∀ c ∈ [Instr.monHelp, .monId, .monState, .monRd off n, .monLog, .monEvt, .monCtr k, .monBaud v, .monLock, .monUnlock k, .monWr off v,
             .monRing k, .monThaw, .monDr la n, .monDw g w, .monReset ol, .monBlkreset k],
        exec c s = .next (s.gives (d1.emit (.monitor [.err 5]))))

/-- A command whose state it does not accept completes BUSY_JOB with no results, and changes nothing else. -/
def Obligations.CommandsOutsideTheirStateAreBusy : Prop :=
  ∀ (s : State) (d : Device) (tag : Byte) (f : Flight) (c : Instr) (op : Nat), s.finds d → d.begins tag.toNat op = some f →
    (d.readyOk = false →
      ∀ e v (k : Fin 16), (c, op) ∈ [(Instr.frost tag, 0x003), (.setStrict tag v, 0x010), (.setAnchor tag v, 0x011), (.jobStart tag e, 0x100),
        (.libraryLoad tag k e, 0x110), (.move tag, 0x400), (.motionStop tag, 0x402), (.memMarkClear tag, 0x500), (.pageRetire tag, 0x501),
        (.todSet tag, 0x600), (.setColumn tag v, 0x700), (.blockReset tag, 0x802)] →
      exec c s = .next (s.gives (d.complete f sBUSY_JOB 0 []))) ∧
    (d.runOk = false →
      ∀ e, (c, op) ∈ [(Instr.tableLoad tag e, 0x210), (.tableCommit tag, 0x211), (.compress tag e, 0x111), (.laneCal tag, 0x300), (.laneRetrain tag, 0x301),
        (.dmaRun tag, 0x510), (.checkRun tag, 0x511), (.serverSet tag, 0x610), (.meshRetrain tag, 0x701)] →
      exec c s = .next (s.gives (d.complete f sBUSY_JOB 0 []))) ∧
    (d.inHeld = false → (c, op) ∈ [(Instr.resume tag, 0x102), (.stuckAck tag, 0x303)] → exec c s = .next (s.gives (d.complete f sBUSY_JOB 0 []))) ∧
    (d.inJob = false → (c, op) ∈ [(Instr.abort tag, 0x103), (.rillForce tag, 0x302)] → exec c s = .next (s.gives (d.complete f sBUSY_JOB 0 []))) ∧
    (d.inWriting = false → c = Instr.pause tag → op = 0x101 → exec c s = .next (s.gives (d.complete f sBUSY_JOB 0 [])))

/-- Every queue drains: after as many steps as commands wait, none waits, and no step has stopped the block. -/
def Obligations.EveryQueueDrains : Prop :=
  ∀ s : State, ∃ t : State, Host.Core.run Sys2Proof.core s.pending.length s = .next t ∧ t.pending = []

/-- The frame of the commands that only watch or set a register of their own: the module DRAM, the host's memory, the job, the retained
store, the queues and the clock stay as they are, in every state and whatever the operands. -/
def Obligations.RegisterCommandsLeaveMemoryAndJob : Prop :=
  ∀ (s t : State) (c : Instr) (ch : Fin 6) (k : Fin 4) (p : Fin 2) (g : Fin 8) (q : Fin 4) (v : Word) (i : Nat) (b e : Bool),
    c ∈ [Instr.indexLatch { ch := ch, level := b, samples := i }, .headLosClear ch,
      .probeLatch p { level := b, samples := i }, .timeCompareArm k v, .positionCompareArm k v, .timeCompareFire k,
      .strobeFall, .beamPermitRise, .spareLoadDone g, .cisternScrub [], .refresh q, .mr4Read q b,
      .selfRefreshEntry q, .memLogClear v, .dmaFlagSet v, .sqTail q v, .cqHead q v, .pmcSnap v, .pmcClear v, .pmcFreeze v,
      .psbClear v, .monHelp, .monId, .monState, .monLog, .monEvt, .monCtr i, .monBaud i, .monLock, .monUnlock i, .takeoverComplete,
      .evtDoorbell v, .errlogClear v, .smbusIdentify b, .linkChange p b e, .coreDelivery] →
    exec c s = .next t →
    t.dev.dram = s.dev.dram ∧ t.dev.laidOut = s.dev.laidOut ∧ t.dev.hostMem = s.dev.hostMem ∧ t.dev.job = s.dev.job ∧ t.dev.rst.slots = s.dev.rst.slots ∧
      t.dev.ulp.flights = s.dev.ulp.flights ∧ t.dev.clock = s.dev.clock ∧ t.pending = s.pending

/-- R261: a filtered rising edge on Z copies COUNT into INDEX and sets INDEX_VALID; where INDEX_EVT is 1 it also raises event 155; beside the
level of the input and the model's note of the latch's clock it changes nothing else. -/
def Obligations.IndexEdgeLatchesTheCount : Prop :=
  ∀ (s : State) (d d1 d2 d3 : Device) (c : Fin 6) (n : Nat), s.finds d → d.released 13 = true → (d.head c).z = false → 3 ≤ n →
    d1 = (d.setHead c { d.head c with z := true }).put (fChLevels c) (b2n (d.head c).a * 4 + b2n (d.head c).b * 2 + 1) →
    d2 = (d1.put36 (POS_CH_INDEX c) (d1.get36 (POS_CH_COUNT c))).putFlag (fIndexValid c) true →
    d3 = { d2 with pos := { d2.pos with indexAt := (c.val, d2.clock) :: d2.pos.indexAt.filter (fun p => p.1 != c.val) } } →
    exec (.indexLatch { ch := c, level := true, samples := n }) s = .next (s.gives (if d2.flag (bitAt (POS_CH_CTRL c) 16) then d3.raise 155 else d3)) ∧
    d1.get36 (POS_CH_COUNT c) = d.get36 (POS_CH_COUNT c) ∧ d2.get36 (POS_CH_INDEX c) = d.get36 (POS_CH_COUNT c) ∧ d2.flag (fIndexValid c) = true

/-- R31: a FROST request is accepted only in READY, where it arms the latches and starts the entry; in every other state it completes
BUSY_JOB and changes nothing else. -/
def Obligations.FrostIsAcceptedOnlyInReady : Prop :=
  (∀ (s : State) (d : Device) (tag : Byte) (f : Flight), s.finds d → d.begins tag.toNat 0x003 = some f → d.inReady = false →
    exec (.frost tag) s = .next (s.gives (d.complete f sBUSY_JOB 0 []))) ∧
  (∀ (s : State) (d : Device) (tag : Byte) (f : Flight), s.finds d → d.begins tag.toNat 0x003 = some f → d.inReady = true → d.runs = true →
    d.frostHeldOff = false →
    exec (.frost tag) s = .next (s.gives (d.await f .frost).frostEntry))
end

