-- ==== Sys2Proof/Laws/Memory.lean ====
section
/-! SUPPORT. Laws of the sparse memories: a read after a write, and the canonical form that every write keeps. -/
namespace Sys2Proof.Machine

variable {α : Type}

theorem cellFind_erase_same (l : List (Nat × α)) (k : Nat) : cellFind (cellErase l k) k = none := by
  induction l with
  | nil => rfl
  | cons p t ih =>
    obtain ⟨a, v⟩ := p
    by_cases h : a = k
    · simp [cellErase, h, ih]
    · simp [cellErase, h, cellFind, ih]

theorem cellFind_erase_ne (l : List (Nat × α)) {j k : Nat} (h : j ≠ k) : cellFind (cellErase l k) j = cellFind l j := by
  induction l with
  | nil => rfl
  | cons p t ih =>
    obtain ⟨a, v⟩ := p
    by_cases ha : a = k
    · subst ha; simp [cellErase, cellFind, ih, Ne.symm h]
    · simp [cellErase, ha, cellFind, ih]

theorem cellFind_insert_same (l : List (Nat × α)) (k : Nat) (v : α) (h : cellFind l k = none) : cellFind (cellInsert l k v) k = some v := by
  induction l with
  | nil => simp [cellInsert, cellFind]
  | cons p t ih =>
    obtain ⟨a, w⟩ := p
    have hak : a ≠ k := by intro e; simp [cellFind, e] at h
    have ht : cellFind t k = none := by simpa [cellFind, hak] using h
    by_cases hlt : k < a
    · simp [cellInsert, hlt, cellFind]
    · simp [cellInsert, hlt, cellFind, hak, ih ht]

theorem cellFind_insert_ne (l : List (Nat × α)) {j k : Nat} (v : α) (h : j ≠ k) : cellFind (cellInsert l k v) j = cellFind l j := by
  induction l with
  | nil => simp [cellInsert, cellFind, Ne.symm h]
  | cons p t ih =>
    obtain ⟨a, w⟩ := p
    by_cases hlt : k < a
    · simp [cellInsert, hlt, cellFind, Ne.symm h]
    · simp [cellInsert, hlt, cellFind, ih]

/-- Every key of a list is above a bound. -/
def keysAbove (b : Nat) (l : List (Nat × α)) : Prop := ∀ p ∈ l, b < p.1

theorem keysAbove_erase (b : Nat) (l : List (Nat × α)) (k : Nat) (h : keysAbove b l) : keysAbove b (cellErase l k) := by
  induction l with
  | nil => simpa [cellErase] using h
  | cons p t ih =>
    obtain ⟨a, w⟩ := p
    have ht : keysAbove b t := fun q hq => h q (List.mem_cons_of_mem _ hq)
    by_cases ha : a = k
    · simpa [cellErase, ha] using ih ht
    · intro q hq
      simp only [cellErase, ha, if_false] at hq
      rcases List.mem_cons.1 hq with rfl | hq
      · exact h _ (by simp)
      · exact ih ht q hq

theorem keysAbove_insert (b : Nat) (l : List (Nat × α)) (k : Nat) (v : α) (hb : b < k) (h : keysAbove b l) : keysAbove b (cellInsert l k v) := by
  induction l with
  | nil => intro q hq; simp [cellInsert] at hq; subst hq; exact hb
  | cons p t ih =>
    obtain ⟨a, w⟩ := p
    have ht : keysAbove b t := fun q hq => h q (List.mem_cons_of_mem _ hq)
    intro q hq
    by_cases hlt : k < a
    · simp only [cellInsert, hlt, if_true] at hq
      rcases List.mem_cons.1 hq with rfl | hq
      · exact hb
      · exact h q hq
    · simp only [cellInsert, hlt, if_false] at hq
      rcases List.mem_cons.1 hq with rfl | hq
      · exact h _ (by simp)
      · exact ih ht q hq

variable [DecidableEq α]

/-- A read of the written key gives the written value. -/
theorem cellGet_set_same (dflt : α) (l : List (Nat × α)) (k : Nat) (v : α) : cellGet dflt (cellSet dflt l k v) k = v := by
  unfold cellGet cellSet
  split
  · rename_i h; subst h; simp [cellFind_erase_same]
  · simp [cellFind_insert_same _ _ _ (cellFind_erase_same l k)]

/-- A write of one key leaves every other. -/
theorem cellFind_set_ne (dflt : α) (l : List (Nat × α)) {j k : Nat} (v : α) (h : j ≠ k) : cellFind (cellSet dflt l k v) j = cellFind l j := by
  unfold cellSet
  split
  · exact cellFind_erase_ne l h
  · rw [cellFind_insert_ne _ _ h, cellFind_erase_ne l h]

theorem cellGet_set_ne (dflt : α) (l : List (Nat × α)) {j k : Nat} (v : α) (h : j ≠ k) : cellGet dflt (cellSet dflt l k v) j = cellGet dflt l j := by
  simp [cellGet, cellFind_set_ne dflt l v h]

/-! ## The canonical form -/

theorem cellWf_cons (dflt : Nat → α) (k : Nat) (v : α) (t : List (Nat × α)) :
    cellWf dflt ((k, v) :: t) = true ↔ v ≠ dflt k ∧ keysAbove k t ∧ cellWf dflt t = true := by
  induction t generalizing k v with
  | nil => simp [cellWf, keysAbove]
  | cons p t ih =>
    obtain ⟨a, w⟩ := p
    have h1 := ih a w
    constructor
    · intro h
      simp only [cellWf, Bool.and_eq_true, decide_eq_true_eq] at h
      obtain ⟨⟨hv, hlt⟩, hrest⟩ := h
      have hr : cellWf dflt ((a, w) :: t) = true := by simpa [cellWf] using hrest
      refine ⟨hv, ?_, hr⟩
      intro q hq
      rcases List.mem_cons.1 hq with rfl | hq
      · exact hlt
      · exact Nat.lt_trans hlt ((h1.1 hr).2.1 q hq)
    · rintro ⟨hv, hk, hr⟩
      have hlt : k < a := hk (a, w) (by simp)
      have hr' := hr
      simp only [cellWf, Bool.and_eq_true, decide_eq_true_eq] at hr' ⊢
      exact ⟨⟨hv, hlt⟩, hr'⟩

theorem cellWf_erase (dflt : Nat → α) (l : List (Nat × α)) (k : Nat) (h : cellWf dflt l = true) : cellWf dflt (cellErase l k) = true := by
  induction l with
  | nil => rfl
  | cons p t ih =>
    obtain ⟨a, w⟩ := p
    obtain ⟨hv, hk, ht⟩ := (cellWf_cons dflt a w t).1 h
    by_cases ha : a = k
    · simpa [cellErase, ha] using ih ht
    · simp only [cellErase, ha, if_false]
      exact (cellWf_cons _ _ _ _).2 ⟨hv, keysAbove_erase _ _ _ hk, ih ht⟩

theorem cellWf_insert (dflt : Nat → α) (l : List (Nat × α)) (k : Nat) (v : α) (hv : v ≠ dflt k) (hk : cellFind l k = none)
    (h : cellWf dflt l = true) : cellWf dflt (cellInsert l k v) = true := by
  induction l with
  | nil => exact (cellWf_cons _ _ _ _).2 ⟨hv, by intro q hq; simp at hq, rfl⟩
  | cons p t ih =>
    obtain ⟨a, w⟩ := p
    obtain ⟨hw, ha, ht⟩ := (cellWf_cons dflt a w t).1 h
    have hak : a ≠ k := by intro e; simp [cellFind, e] at hk
    have hkt : cellFind t k = none := by simpa [cellFind, hak] using hk
    by_cases hlt : k < a
    · simp only [cellInsert, hlt, if_true]
      refine (cellWf_cons _ _ _ _).2 ⟨hv, ?_, h⟩
      intro q hq
      rcases List.mem_cons.1 hq with rfl | hq
      · exact hlt
      · exact Nat.lt_trans hlt (ha q hq)
    · simp only [cellInsert, hlt, if_false]
      exact (cellWf_cons _ _ _ _).2 ⟨hw, keysAbove_insert _ _ _ _ (by omega) ha, ih hkt ht⟩

/-- A write keeps the canonical form. -/
theorem cellWf_set (dflt : Nat → α) (l : List (Nat × α)) (k : Nat) (v : α) (h : cellWf dflt l = true) :
    cellWf dflt (cellSet (dflt k) l k v) = true := by
  unfold cellSet
  split
  · exact cellWf_erase dflt l k h
  · rename_i hv; exact cellWf_insert dflt _ k v hv (cellFind_erase_same l k) (cellWf_erase dflt l k h)

end Sys2Proof.Machine
end

