-- ==== Sys2Proof/Laws/State.lean ====
section
/-! SUPPORT. What each plain update of the module leaves: one lemma per field and update. -/
namespace Sys2Proof.Machine

variable (d : Device)

@[simp] theorem setReg_powered (off v : Nat) : (d.setReg off v).powered = d.powered := rfl
@[simp] theorem setReg_capture (off v : Nat) : (d.setReg off v).capture = d.capture := rfl
@[simp] theorem setReg_heldWrites (off v : Nat) : (d.setReg off v).heldWrites = d.heldWrites := rfl
@[simp] theorem setReg_clock (off v : Nat) : (d.setReg off v).clock = d.clock := rfl
@[simp] theorem setReg_tod (off v : Nat) : (d.setReg off v).tod = d.tod := rfl
@[simp] theorem setReg_todRem (off v : Nat) : (d.setReg off v).todRem = d.todRem := rfl
@[simp] theorem setReg_freeCtr (off v : Nat) : (d.setReg off v).freeCtr = d.freeCtr := rfl
@[simp] theorem setReg_out (off v : Nat) : (d.setReg off v).out = d.out := rfl
@[simp] theorem setReg_hostMem (off v : Nat) : (d.setReg off v).hostMem = d.hostMem := rfl
@[simp] theorem setReg_dram (off v : Nat) : (d.setReg off v).dram = d.dram := rfl
@[simp] theorem setReg_laidOut (off v : Nat) : (d.setReg off v).laidOut = d.laidOut := rfl
@[simp] theorem setReg_domains (off v : Nat) : (d.setReg off v).domains = d.domains := rfl
@[simp] theorem setReg_rst (off v : Nat) : (d.setReg off v).rst = d.rst := rfl
@[simp] theorem setReg_evt (off v : Nat) : (d.setReg off v).evt = d.evt := rfl
@[simp] theorem setReg_ulp (off v : Nat) : (d.setReg off v).ulp = d.ulp := rfl
@[simp] theorem setReg_job (off v : Nat) : (d.setReg off v).job = d.job := rfl
@[simp] theorem setReg_pos (off v : Nat) : (d.setReg off v).pos = d.pos := rfl
@[simp] theorem setReg_fls (off v : Nat) : (d.setReg off v).fls = d.fls := rfl
@[simp] theorem setReg_mot (off v : Nat) : (d.setReg off v).mot = d.mot := rfl
@[simp] theorem setReg_pwr (off v : Nat) : (d.setReg off v).pwr = d.pwr := rfl
@[simp] theorem setReg_marks (off v : Nat) : (d.setReg off v).marks = d.marks := rfl
@[simp] theorem setReg_lne (off v : Nat) : (d.setReg off v).lne = d.lne := rfl
@[simp] theorem setReg_slotBuf (off v : Nat) : (d.setReg off v).slotBuf = d.slotBuf := rfl
@[simp] theorem setReg_mem (off v : Nat) : (d.setReg off v).mem = d.mem := rfl
@[simp] theorem setReg_spr (off v : Nat) : (d.setReg off v).spr = d.spr := rfl
@[simp] theorem setReg_csc (off v : Nat) : (d.setReg off v).csc = d.csc := rfl
@[simp] theorem setReg_pool (off v : Nat) : (d.setReg off v).pool = d.pool := rfl
@[simp] theorem setReg_cst (off v : Nat) : (d.setReg off v).cst = d.cst := rfl
@[simp] theorem setReg_ril (off v : Nat) : (d.setReg off v).ril = d.ril := rfl
@[simp] theorem setReg_eth (off v : Nat) : (d.setReg off v).eth = d.eth := rfl
@[simp] theorem setReg_msh (off v : Nat) : (d.setReg off v).msh = d.msh := rfl
@[simp] theorem setReg_dma (off v : Nat) : (d.setReg off v).dma = d.dma := rfl
@[simp] theorem setReg_ptp (off v : Nat) : (d.setReg off v).ptp = d.ptp := rfl
@[simp] theorem setReg_tbl (off v : Nat) : (d.setReg off v).tbl = d.tbl := rfl
@[simp] theorem setReg_start (off v : Nat) : (d.setReg off v).start = d.start := rfl
@[simp] theorem setReg_conds (off v : Nat) : (d.setReg off v).conds = d.conds := rfl
@[simp] theorem setReg_atTick (off v : Nat) : (d.setReg off v).atTick = d.atTick := rfl
@[simp] theorem setReg_pmc (off v : Nat) : (d.setReg off v).pmc = d.pmc := rfl
@[simp] theorem setReg_lastCommitted (off v : Nat) : (d.setReg off v).lastCommitted = d.lastCommitted := rfl
@[simp] theorem setReg_lastHeld (off v : Nat) : (d.setReg off v).lastHeld = d.lastHeld := rfl

@[simp] theorem put_powered (f : Fld) (v : Nat) : (d.put f v).powered = d.powered := rfl
@[simp] theorem put_capture (f : Fld) (v : Nat) : (d.put f v).capture = d.capture := rfl
@[simp] theorem put_heldWrites (f : Fld) (v : Nat) : (d.put f v).heldWrites = d.heldWrites := rfl
@[simp] theorem put_clock (f : Fld) (v : Nat) : (d.put f v).clock = d.clock := rfl
@[simp] theorem put_tod (f : Fld) (v : Nat) : (d.put f v).tod = d.tod := rfl
@[simp] theorem put_todRem (f : Fld) (v : Nat) : (d.put f v).todRem = d.todRem := rfl
@[simp] theorem put_freeCtr (f : Fld) (v : Nat) : (d.put f v).freeCtr = d.freeCtr := rfl
@[simp] theorem put_out (f : Fld) (v : Nat) : (d.put f v).out = d.out := rfl
@[simp] theorem put_hostMem (f : Fld) (v : Nat) : (d.put f v).hostMem = d.hostMem := rfl
@[simp] theorem put_dram (f : Fld) (v : Nat) : (d.put f v).dram = d.dram := rfl
@[simp] theorem put_laidOut (f : Fld) (v : Nat) : (d.put f v).laidOut = d.laidOut := rfl
@[simp] theorem put_domains (f : Fld) (v : Nat) : (d.put f v).domains = d.domains := rfl
@[simp] theorem put_rst (f : Fld) (v : Nat) : (d.put f v).rst = d.rst := rfl
@[simp] theorem put_evt (f : Fld) (v : Nat) : (d.put f v).evt = d.evt := rfl
@[simp] theorem put_ulp (f : Fld) (v : Nat) : (d.put f v).ulp = d.ulp := rfl
@[simp] theorem put_job (f : Fld) (v : Nat) : (d.put f v).job = d.job := rfl
@[simp] theorem put_pos (f : Fld) (v : Nat) : (d.put f v).pos = d.pos := rfl
@[simp] theorem put_fls (f : Fld) (v : Nat) : (d.put f v).fls = d.fls := rfl
@[simp] theorem put_mot (f : Fld) (v : Nat) : (d.put f v).mot = d.mot := rfl
@[simp] theorem put_pwr (f : Fld) (v : Nat) : (d.put f v).pwr = d.pwr := rfl
@[simp] theorem put_marks (f : Fld) (v : Nat) : (d.put f v).marks = d.marks := rfl
@[simp] theorem put_lne (f : Fld) (v : Nat) : (d.put f v).lne = d.lne := rfl
@[simp] theorem put_slotBuf (f : Fld) (v : Nat) : (d.put f v).slotBuf = d.slotBuf := rfl
@[simp] theorem put_mem (f : Fld) (v : Nat) : (d.put f v).mem = d.mem := rfl
@[simp] theorem put_spr (f : Fld) (v : Nat) : (d.put f v).spr = d.spr := rfl
@[simp] theorem put_csc (f : Fld) (v : Nat) : (d.put f v).csc = d.csc := rfl
@[simp] theorem put_pool (f : Fld) (v : Nat) : (d.put f v).pool = d.pool := rfl
@[simp] theorem put_cst (f : Fld) (v : Nat) : (d.put f v).cst = d.cst := rfl
@[simp] theorem put_ril (f : Fld) (v : Nat) : (d.put f v).ril = d.ril := rfl
@[simp] theorem put_eth (f : Fld) (v : Nat) : (d.put f v).eth = d.eth := rfl
@[simp] theorem put_msh (f : Fld) (v : Nat) : (d.put f v).msh = d.msh := rfl
@[simp] theorem put_dma (f : Fld) (v : Nat) : (d.put f v).dma = d.dma := rfl
@[simp] theorem put_ptp (f : Fld) (v : Nat) : (d.put f v).ptp = d.ptp := rfl
@[simp] theorem put_tbl (f : Fld) (v : Nat) : (d.put f v).tbl = d.tbl := rfl
@[simp] theorem put_start (f : Fld) (v : Nat) : (d.put f v).start = d.start := rfl
@[simp] theorem put_conds (f : Fld) (v : Nat) : (d.put f v).conds = d.conds := rfl
@[simp] theorem put_atTick (f : Fld) (v : Nat) : (d.put f v).atTick = d.atTick := rfl
@[simp] theorem put_pmc (f : Fld) (v : Nat) : (d.put f v).pmc = d.pmc := rfl
@[simp] theorem put_lastCommitted (f : Fld) (v : Nat) : (d.put f v).lastCommitted = d.lastCommitted := rfl
@[simp] theorem put_lastHeld (f : Fld) (v : Nat) : (d.put f v).lastHeld = d.lastHeld := rfl

@[simp] theorem putFlag_powered (f : Fld) (b : Bool) : (d.putFlag f b).powered = d.powered := rfl
@[simp] theorem putFlag_capture (f : Fld) (b : Bool) : (d.putFlag f b).capture = d.capture := rfl
@[simp] theorem putFlag_heldWrites (f : Fld) (b : Bool) : (d.putFlag f b).heldWrites = d.heldWrites := rfl
@[simp] theorem putFlag_clock (f : Fld) (b : Bool) : (d.putFlag f b).clock = d.clock := rfl
@[simp] theorem putFlag_tod (f : Fld) (b : Bool) : (d.putFlag f b).tod = d.tod := rfl
@[simp] theorem putFlag_todRem (f : Fld) (b : Bool) : (d.putFlag f b).todRem = d.todRem := rfl
@[simp] theorem putFlag_freeCtr (f : Fld) (b : Bool) : (d.putFlag f b).freeCtr = d.freeCtr := rfl
@[simp] theorem putFlag_out (f : Fld) (b : Bool) : (d.putFlag f b).out = d.out := rfl
@[simp] theorem putFlag_hostMem (f : Fld) (b : Bool) : (d.putFlag f b).hostMem = d.hostMem := rfl
@[simp] theorem putFlag_dram (f : Fld) (b : Bool) : (d.putFlag f b).dram = d.dram := rfl
@[simp] theorem putFlag_laidOut (f : Fld) (b : Bool) : (d.putFlag f b).laidOut = d.laidOut := rfl
@[simp] theorem putFlag_domains (f : Fld) (b : Bool) : (d.putFlag f b).domains = d.domains := rfl
@[simp] theorem putFlag_rst (f : Fld) (b : Bool) : (d.putFlag f b).rst = d.rst := rfl
@[simp] theorem putFlag_evt (f : Fld) (b : Bool) : (d.putFlag f b).evt = d.evt := rfl
@[simp] theorem putFlag_ulp (f : Fld) (b : Bool) : (d.putFlag f b).ulp = d.ulp := rfl
@[simp] theorem putFlag_job (f : Fld) (b : Bool) : (d.putFlag f b).job = d.job := rfl
@[simp] theorem putFlag_pos (f : Fld) (b : Bool) : (d.putFlag f b).pos = d.pos := rfl
@[simp] theorem putFlag_fls (f : Fld) (b : Bool) : (d.putFlag f b).fls = d.fls := rfl
@[simp] theorem putFlag_mot (f : Fld) (b : Bool) : (d.putFlag f b).mot = d.mot := rfl
@[simp] theorem putFlag_pwr (f : Fld) (b : Bool) : (d.putFlag f b).pwr = d.pwr := rfl
@[simp] theorem putFlag_marks (f : Fld) (b : Bool) : (d.putFlag f b).marks = d.marks := rfl
@[simp] theorem putFlag_lne (f : Fld) (b : Bool) : (d.putFlag f b).lne = d.lne := rfl
@[simp] theorem putFlag_slotBuf (f : Fld) (b : Bool) : (d.putFlag f b).slotBuf = d.slotBuf := rfl
@[simp] theorem putFlag_mem (f : Fld) (b : Bool) : (d.putFlag f b).mem = d.mem := rfl
@[simp] theorem putFlag_spr (f : Fld) (b : Bool) : (d.putFlag f b).spr = d.spr := rfl
@[simp] theorem putFlag_csc (f : Fld) (b : Bool) : (d.putFlag f b).csc = d.csc := rfl
@[simp] theorem putFlag_pool (f : Fld) (b : Bool) : (d.putFlag f b).pool = d.pool := rfl
@[simp] theorem putFlag_cst (f : Fld) (b : Bool) : (d.putFlag f b).cst = d.cst := rfl
@[simp] theorem putFlag_ril (f : Fld) (b : Bool) : (d.putFlag f b).ril = d.ril := rfl
@[simp] theorem putFlag_eth (f : Fld) (b : Bool) : (d.putFlag f b).eth = d.eth := rfl
@[simp] theorem putFlag_msh (f : Fld) (b : Bool) : (d.putFlag f b).msh = d.msh := rfl
@[simp] theorem putFlag_dma (f : Fld) (b : Bool) : (d.putFlag f b).dma = d.dma := rfl
@[simp] theorem putFlag_ptp (f : Fld) (b : Bool) : (d.putFlag f b).ptp = d.ptp := rfl
@[simp] theorem putFlag_tbl (f : Fld) (b : Bool) : (d.putFlag f b).tbl = d.tbl := rfl
@[simp] theorem putFlag_start (f : Fld) (b : Bool) : (d.putFlag f b).start = d.start := rfl
@[simp] theorem putFlag_conds (f : Fld) (b : Bool) : (d.putFlag f b).conds = d.conds := rfl
@[simp] theorem putFlag_atTick (f : Fld) (b : Bool) : (d.putFlag f b).atTick = d.atTick := rfl
@[simp] theorem putFlag_pmc (f : Fld) (b : Bool) : (d.putFlag f b).pmc = d.pmc := rfl
@[simp] theorem putFlag_lastCommitted (f : Fld) (b : Bool) : (d.putFlag f b).lastCommitted = d.lastCommitted := rfl
@[simp] theorem putFlag_lastHeld (f : Fld) (b : Bool) : (d.putFlag f b).lastHeld = d.lastHeld := rfl

@[simp] theorem bump_powered (f : Fld) : (d.bump f).powered = d.powered := rfl
@[simp] theorem bump_capture (f : Fld) : (d.bump f).capture = d.capture := rfl
@[simp] theorem bump_heldWrites (f : Fld) : (d.bump f).heldWrites = d.heldWrites := rfl
@[simp] theorem bump_clock (f : Fld) : (d.bump f).clock = d.clock := rfl
@[simp] theorem bump_tod (f : Fld) : (d.bump f).tod = d.tod := rfl
@[simp] theorem bump_todRem (f : Fld) : (d.bump f).todRem = d.todRem := rfl
@[simp] theorem bump_freeCtr (f : Fld) : (d.bump f).freeCtr = d.freeCtr := rfl
@[simp] theorem bump_out (f : Fld) : (d.bump f).out = d.out := rfl
@[simp] theorem bump_hostMem (f : Fld) : (d.bump f).hostMem = d.hostMem := rfl
@[simp] theorem bump_dram (f : Fld) : (d.bump f).dram = d.dram := rfl
@[simp] theorem bump_laidOut (f : Fld) : (d.bump f).laidOut = d.laidOut := rfl
@[simp] theorem bump_domains (f : Fld) : (d.bump f).domains = d.domains := rfl
@[simp] theorem bump_rst (f : Fld) : (d.bump f).rst = d.rst := rfl
@[simp] theorem bump_evt (f : Fld) : (d.bump f).evt = d.evt := rfl
@[simp] theorem bump_ulp (f : Fld) : (d.bump f).ulp = d.ulp := rfl
@[simp] theorem bump_job (f : Fld) : (d.bump f).job = d.job := rfl
@[simp] theorem bump_pos (f : Fld) : (d.bump f).pos = d.pos := rfl
@[simp] theorem bump_fls (f : Fld) : (d.bump f).fls = d.fls := rfl
@[simp] theorem bump_mot (f : Fld) : (d.bump f).mot = d.mot := rfl
@[simp] theorem bump_pwr (f : Fld) : (d.bump f).pwr = d.pwr := rfl
@[simp] theorem bump_marks (f : Fld) : (d.bump f).marks = d.marks := rfl
@[simp] theorem bump_lne (f : Fld) : (d.bump f).lne = d.lne := rfl
@[simp] theorem bump_slotBuf (f : Fld) : (d.bump f).slotBuf = d.slotBuf := rfl
@[simp] theorem bump_mem (f : Fld) : (d.bump f).mem = d.mem := rfl
@[simp] theorem bump_spr (f : Fld) : (d.bump f).spr = d.spr := rfl
@[simp] theorem bump_csc (f : Fld) : (d.bump f).csc = d.csc := rfl
@[simp] theorem bump_pool (f : Fld) : (d.bump f).pool = d.pool := rfl
@[simp] theorem bump_cst (f : Fld) : (d.bump f).cst = d.cst := rfl
@[simp] theorem bump_ril (f : Fld) : (d.bump f).ril = d.ril := rfl
@[simp] theorem bump_eth (f : Fld) : (d.bump f).eth = d.eth := rfl
@[simp] theorem bump_msh (f : Fld) : (d.bump f).msh = d.msh := rfl
@[simp] theorem bump_dma (f : Fld) : (d.bump f).dma = d.dma := rfl
@[simp] theorem bump_ptp (f : Fld) : (d.bump f).ptp = d.ptp := rfl
@[simp] theorem bump_tbl (f : Fld) : (d.bump f).tbl = d.tbl := rfl
@[simp] theorem bump_start (f : Fld) : (d.bump f).start = d.start := rfl
@[simp] theorem bump_conds (f : Fld) : (d.bump f).conds = d.conds := rfl
@[simp] theorem bump_atTick (f : Fld) : (d.bump f).atTick = d.atTick := rfl
@[simp] theorem bump_pmc (f : Fld) : (d.bump f).pmc = d.pmc := rfl
@[simp] theorem bump_lastCommitted (f : Fld) : (d.bump f).lastCommitted = d.lastCommitted := rfl
@[simp] theorem bump_lastHeld (f : Fld) : (d.bump f).lastHeld = d.lastHeld := rfl

@[simp] theorem put36_powered (off v : Nat) : (d.put36 off v).powered = d.powered := rfl
@[simp] theorem put36_capture (off v : Nat) : (d.put36 off v).capture = d.capture := rfl
@[simp] theorem put36_heldWrites (off v : Nat) : (d.put36 off v).heldWrites = d.heldWrites := rfl
@[simp] theorem put36_clock (off v : Nat) : (d.put36 off v).clock = d.clock := rfl
@[simp] theorem put36_tod (off v : Nat) : (d.put36 off v).tod = d.tod := rfl
@[simp] theorem put36_todRem (off v : Nat) : (d.put36 off v).todRem = d.todRem := rfl
@[simp] theorem put36_freeCtr (off v : Nat) : (d.put36 off v).freeCtr = d.freeCtr := rfl
@[simp] theorem put36_out (off v : Nat) : (d.put36 off v).out = d.out := rfl
@[simp] theorem put36_hostMem (off v : Nat) : (d.put36 off v).hostMem = d.hostMem := rfl
@[simp] theorem put36_dram (off v : Nat) : (d.put36 off v).dram = d.dram := rfl
@[simp] theorem put36_laidOut (off v : Nat) : (d.put36 off v).laidOut = d.laidOut := rfl
@[simp] theorem put36_domains (off v : Nat) : (d.put36 off v).domains = d.domains := rfl
@[simp] theorem put36_rst (off v : Nat) : (d.put36 off v).rst = d.rst := rfl
@[simp] theorem put36_evt (off v : Nat) : (d.put36 off v).evt = d.evt := rfl
@[simp] theorem put36_ulp (off v : Nat) : (d.put36 off v).ulp = d.ulp := rfl
@[simp] theorem put36_job (off v : Nat) : (d.put36 off v).job = d.job := rfl
@[simp] theorem put36_pos (off v : Nat) : (d.put36 off v).pos = d.pos := rfl
@[simp] theorem put36_fls (off v : Nat) : (d.put36 off v).fls = d.fls := rfl
@[simp] theorem put36_mot (off v : Nat) : (d.put36 off v).mot = d.mot := rfl
@[simp] theorem put36_pwr (off v : Nat) : (d.put36 off v).pwr = d.pwr := rfl
@[simp] theorem put36_marks (off v : Nat) : (d.put36 off v).marks = d.marks := rfl
@[simp] theorem put36_lne (off v : Nat) : (d.put36 off v).lne = d.lne := rfl
@[simp] theorem put36_slotBuf (off v : Nat) : (d.put36 off v).slotBuf = d.slotBuf := rfl
@[simp] theorem put36_mem (off v : Nat) : (d.put36 off v).mem = d.mem := rfl
@[simp] theorem put36_spr (off v : Nat) : (d.put36 off v).spr = d.spr := rfl
@[simp] theorem put36_csc (off v : Nat) : (d.put36 off v).csc = d.csc := rfl
@[simp] theorem put36_pool (off v : Nat) : (d.put36 off v).pool = d.pool := rfl
@[simp] theorem put36_cst (off v : Nat) : (d.put36 off v).cst = d.cst := rfl
@[simp] theorem put36_ril (off v : Nat) : (d.put36 off v).ril = d.ril := rfl
@[simp] theorem put36_eth (off v : Nat) : (d.put36 off v).eth = d.eth := rfl
@[simp] theorem put36_msh (off v : Nat) : (d.put36 off v).msh = d.msh := rfl
@[simp] theorem put36_dma (off v : Nat) : (d.put36 off v).dma = d.dma := rfl
@[simp] theorem put36_ptp (off v : Nat) : (d.put36 off v).ptp = d.ptp := rfl
@[simp] theorem put36_tbl (off v : Nat) : (d.put36 off v).tbl = d.tbl := rfl
@[simp] theorem put36_start (off v : Nat) : (d.put36 off v).start = d.start := rfl
@[simp] theorem put36_conds (off v : Nat) : (d.put36 off v).conds = d.conds := rfl
@[simp] theorem put36_atTick (off v : Nat) : (d.put36 off v).atTick = d.atTick := rfl
@[simp] theorem put36_pmc (off v : Nat) : (d.put36 off v).pmc = d.pmc := rfl
@[simp] theorem put36_lastCommitted (off v : Nat) : (d.put36 off v).lastCommitted = d.lastCommitted := rfl
@[simp] theorem put36_lastHeld (off v : Nat) : (d.put36 off v).lastHeld = d.lastHeld := rfl

@[simp] theorem emit_powered (o : Out) : (d.emit o).powered = d.powered := rfl
@[simp] theorem emit_regs (o : Out) : (d.emit o).regs = d.regs := rfl
@[simp] theorem emit_capture (o : Out) : (d.emit o).capture = d.capture := rfl
@[simp] theorem emit_heldWrites (o : Out) : (d.emit o).heldWrites = d.heldWrites := rfl
@[simp] theorem emit_clock (o : Out) : (d.emit o).clock = d.clock := rfl
@[simp] theorem emit_tod (o : Out) : (d.emit o).tod = d.tod := rfl
@[simp] theorem emit_todRem (o : Out) : (d.emit o).todRem = d.todRem := rfl
@[simp] theorem emit_freeCtr (o : Out) : (d.emit o).freeCtr = d.freeCtr := rfl
@[simp] theorem emit_hostMem (o : Out) : (d.emit o).hostMem = d.hostMem := rfl
@[simp] theorem emit_dram (o : Out) : (d.emit o).dram = d.dram := rfl
@[simp] theorem emit_laidOut (o : Out) : (d.emit o).laidOut = d.laidOut := rfl
@[simp] theorem emit_domains (o : Out) : (d.emit o).domains = d.domains := rfl
@[simp] theorem emit_rst (o : Out) : (d.emit o).rst = d.rst := rfl
@[simp] theorem emit_evt (o : Out) : (d.emit o).evt = d.evt := rfl
@[simp] theorem emit_ulp (o : Out) : (d.emit o).ulp = d.ulp := rfl
@[simp] theorem emit_job (o : Out) : (d.emit o).job = d.job := rfl
@[simp] theorem emit_pos (o : Out) : (d.emit o).pos = d.pos := rfl
@[simp] theorem emit_fls (o : Out) : (d.emit o).fls = d.fls := rfl
@[simp] theorem emit_mot (o : Out) : (d.emit o).mot = d.mot := rfl
@[simp] theorem emit_pwr (o : Out) : (d.emit o).pwr = d.pwr := rfl
@[simp] theorem emit_marks (o : Out) : (d.emit o).marks = d.marks := rfl
@[simp] theorem emit_lne (o : Out) : (d.emit o).lne = d.lne := rfl
@[simp] theorem emit_slotBuf (o : Out) : (d.emit o).slotBuf = d.slotBuf := rfl
@[simp] theorem emit_mem (o : Out) : (d.emit o).mem = d.mem := rfl
@[simp] theorem emit_spr (o : Out) : (d.emit o).spr = d.spr := rfl
@[simp] theorem emit_csc (o : Out) : (d.emit o).csc = d.csc := rfl
@[simp] theorem emit_pool (o : Out) : (d.emit o).pool = d.pool := rfl
@[simp] theorem emit_cst (o : Out) : (d.emit o).cst = d.cst := rfl
@[simp] theorem emit_ril (o : Out) : (d.emit o).ril = d.ril := rfl
@[simp] theorem emit_eth (o : Out) : (d.emit o).eth = d.eth := rfl
@[simp] theorem emit_msh (o : Out) : (d.emit o).msh = d.msh := rfl
@[simp] theorem emit_dma (o : Out) : (d.emit o).dma = d.dma := rfl
@[simp] theorem emit_ptp (o : Out) : (d.emit o).ptp = d.ptp := rfl
@[simp] theorem emit_tbl (o : Out) : (d.emit o).tbl = d.tbl := rfl
@[simp] theorem emit_start (o : Out) : (d.emit o).start = d.start := rfl
@[simp] theorem emit_conds (o : Out) : (d.emit o).conds = d.conds := rfl
@[simp] theorem emit_atTick (o : Out) : (d.emit o).atTick = d.atTick := rfl
@[simp] theorem emit_pmc (o : Out) : (d.emit o).pmc = d.pmc := rfl
@[simp] theorem emit_lastCommitted (o : Out) : (d.emit o).lastCommitted = d.lastCommitted := rfl
@[simp] theorem emit_lastHeld (o : Out) : (d.emit o).lastHeld = d.lastHeld := rfl

@[simp] theorem nextFree_powered : (d.nextFree).powered = d.powered := rfl
@[simp] theorem nextFree_regs : (d.nextFree).regs = d.regs := rfl
@[simp] theorem nextFree_capture : (d.nextFree).capture = d.capture := rfl
@[simp] theorem nextFree_heldWrites : (d.nextFree).heldWrites = d.heldWrites := rfl
@[simp] theorem nextFree_clock : (d.nextFree).clock = d.clock := rfl
@[simp] theorem nextFree_tod : (d.nextFree).tod = d.tod := rfl
@[simp] theorem nextFree_todRem : (d.nextFree).todRem = d.todRem := rfl
@[simp] theorem nextFree_out : (d.nextFree).out = d.out := rfl
@[simp] theorem nextFree_hostMem : (d.nextFree).hostMem = d.hostMem := rfl
@[simp] theorem nextFree_dram : (d.nextFree).dram = d.dram := rfl
@[simp] theorem nextFree_laidOut : (d.nextFree).laidOut = d.laidOut := rfl
@[simp] theorem nextFree_domains : (d.nextFree).domains = d.domains := rfl
@[simp] theorem nextFree_rst : (d.nextFree).rst = d.rst := rfl
@[simp] theorem nextFree_evt : (d.nextFree).evt = d.evt := rfl
@[simp] theorem nextFree_ulp : (d.nextFree).ulp = d.ulp := rfl
@[simp] theorem nextFree_job : (d.nextFree).job = d.job := rfl
@[simp] theorem nextFree_pos : (d.nextFree).pos = d.pos := rfl
@[simp] theorem nextFree_fls : (d.nextFree).fls = d.fls := rfl
@[simp] theorem nextFree_mot : (d.nextFree).mot = d.mot := rfl
@[simp] theorem nextFree_pwr : (d.nextFree).pwr = d.pwr := rfl
@[simp] theorem nextFree_marks : (d.nextFree).marks = d.marks := rfl
@[simp] theorem nextFree_lne : (d.nextFree).lne = d.lne := rfl
@[simp] theorem nextFree_slotBuf : (d.nextFree).slotBuf = d.slotBuf := rfl
@[simp] theorem nextFree_mem : (d.nextFree).mem = d.mem := rfl
@[simp] theorem nextFree_spr : (d.nextFree).spr = d.spr := rfl
@[simp] theorem nextFree_csc : (d.nextFree).csc = d.csc := rfl
@[simp] theorem nextFree_pool : (d.nextFree).pool = d.pool := rfl
@[simp] theorem nextFree_cst : (d.nextFree).cst = d.cst := rfl
@[simp] theorem nextFree_ril : (d.nextFree).ril = d.ril := rfl
@[simp] theorem nextFree_eth : (d.nextFree).eth = d.eth := rfl
@[simp] theorem nextFree_msh : (d.nextFree).msh = d.msh := rfl
@[simp] theorem nextFree_dma : (d.nextFree).dma = d.dma := rfl
@[simp] theorem nextFree_ptp : (d.nextFree).ptp = d.ptp := rfl
@[simp] theorem nextFree_tbl : (d.nextFree).tbl = d.tbl := rfl
@[simp] theorem nextFree_start : (d.nextFree).start = d.start := rfl
@[simp] theorem nextFree_conds : (d.nextFree).conds = d.conds := rfl
@[simp] theorem nextFree_atTick : (d.nextFree).atTick = d.atTick := rfl
@[simp] theorem nextFree_pmc : (d.nextFree).pmc = d.pmc := rfl
@[simp] theorem nextFree_lastCommitted : (d.nextFree).lastCommitted = d.lastCommitted := rfl
@[simp] theorem nextFree_lastHeld : (d.nextFree).lastHeld = d.lastHeld := rfl

@[simp] theorem setDramWord_powered (a v : Nat) : (d.setDramWord a v).powered = d.powered := rfl
@[simp] theorem setDramWord_regs (a v : Nat) : (d.setDramWord a v).regs = d.regs := rfl
@[simp] theorem setDramWord_capture (a v : Nat) : (d.setDramWord a v).capture = d.capture := rfl
@[simp] theorem setDramWord_heldWrites (a v : Nat) : (d.setDramWord a v).heldWrites = d.heldWrites := rfl
@[simp] theorem setDramWord_clock (a v : Nat) : (d.setDramWord a v).clock = d.clock := rfl
@[simp] theorem setDramWord_tod (a v : Nat) : (d.setDramWord a v).tod = d.tod := rfl
@[simp] theorem setDramWord_todRem (a v : Nat) : (d.setDramWord a v).todRem = d.todRem := rfl
@[simp] theorem setDramWord_freeCtr (a v : Nat) : (d.setDramWord a v).freeCtr = d.freeCtr := rfl
@[simp] theorem setDramWord_out (a v : Nat) : (d.setDramWord a v).out = d.out := rfl
@[simp] theorem setDramWord_hostMem (a v : Nat) : (d.setDramWord a v).hostMem = d.hostMem := rfl
@[simp] theorem setDramWord_domains (a v : Nat) : (d.setDramWord a v).domains = d.domains := rfl
@[simp] theorem setDramWord_rst (a v : Nat) : (d.setDramWord a v).rst = d.rst := rfl
@[simp] theorem setDramWord_evt (a v : Nat) : (d.setDramWord a v).evt = d.evt := rfl
@[simp] theorem setDramWord_ulp (a v : Nat) : (d.setDramWord a v).ulp = d.ulp := rfl
@[simp] theorem setDramWord_job (a v : Nat) : (d.setDramWord a v).job = d.job := rfl
@[simp] theorem setDramWord_pos (a v : Nat) : (d.setDramWord a v).pos = d.pos := rfl
@[simp] theorem setDramWord_fls (a v : Nat) : (d.setDramWord a v).fls = d.fls := rfl
@[simp] theorem setDramWord_mot (a v : Nat) : (d.setDramWord a v).mot = d.mot := rfl
@[simp] theorem setDramWord_pwr (a v : Nat) : (d.setDramWord a v).pwr = d.pwr := rfl
@[simp] theorem setDramWord_marks (a v : Nat) : (d.setDramWord a v).marks = d.marks := rfl
@[simp] theorem setDramWord_lne (a v : Nat) : (d.setDramWord a v).lne = d.lne := rfl
@[simp] theorem setDramWord_slotBuf (a v : Nat) : (d.setDramWord a v).slotBuf = d.slotBuf := rfl
@[simp] theorem setDramWord_mem (a v : Nat) : (d.setDramWord a v).mem = d.mem := rfl
@[simp] theorem setDramWord_spr (a v : Nat) : (d.setDramWord a v).spr = d.spr := rfl
@[simp] theorem setDramWord_csc (a v : Nat) : (d.setDramWord a v).csc = d.csc := rfl
@[simp] theorem setDramWord_pool (a v : Nat) : (d.setDramWord a v).pool = d.pool := rfl
@[simp] theorem setDramWord_cst (a v : Nat) : (d.setDramWord a v).cst = d.cst := rfl
@[simp] theorem setDramWord_ril (a v : Nat) : (d.setDramWord a v).ril = d.ril := rfl
@[simp] theorem setDramWord_eth (a v : Nat) : (d.setDramWord a v).eth = d.eth := rfl
@[simp] theorem setDramWord_msh (a v : Nat) : (d.setDramWord a v).msh = d.msh := rfl
@[simp] theorem setDramWord_dma (a v : Nat) : (d.setDramWord a v).dma = d.dma := rfl
@[simp] theorem setDramWord_ptp (a v : Nat) : (d.setDramWord a v).ptp = d.ptp := rfl
@[simp] theorem setDramWord_tbl (a v : Nat) : (d.setDramWord a v).tbl = d.tbl := rfl
@[simp] theorem setDramWord_start (a v : Nat) : (d.setDramWord a v).start = d.start := rfl
@[simp] theorem setDramWord_conds (a v : Nat) : (d.setDramWord a v).conds = d.conds := rfl
@[simp] theorem setDramWord_atTick (a v : Nat) : (d.setDramWord a v).atTick = d.atTick := rfl
@[simp] theorem setDramWord_pmc (a v : Nat) : (d.setDramWord a v).pmc = d.pmc := rfl
@[simp] theorem setDramWord_lastCommitted (a v : Nat) : (d.setDramWord a v).lastCommitted = d.lastCommitted := rfl
@[simp] theorem setDramWord_lastHeld (a v : Nat) : (d.setDramWord a v).lastHeld = d.lastHeld := rfl

@[simp] theorem setHostByte_powered (a v : Nat) : (d.setHostByte a v).powered = d.powered := rfl
@[simp] theorem setHostByte_regs (a v : Nat) : (d.setHostByte a v).regs = d.regs := rfl
@[simp] theorem setHostByte_capture (a v : Nat) : (d.setHostByte a v).capture = d.capture := rfl
@[simp] theorem setHostByte_heldWrites (a v : Nat) : (d.setHostByte a v).heldWrites = d.heldWrites := rfl
@[simp] theorem setHostByte_clock (a v : Nat) : (d.setHostByte a v).clock = d.clock := rfl
@[simp] theorem setHostByte_tod (a v : Nat) : (d.setHostByte a v).tod = d.tod := rfl
@[simp] theorem setHostByte_todRem (a v : Nat) : (d.setHostByte a v).todRem = d.todRem := rfl
@[simp] theorem setHostByte_freeCtr (a v : Nat) : (d.setHostByte a v).freeCtr = d.freeCtr := rfl
@[simp] theorem setHostByte_out (a v : Nat) : (d.setHostByte a v).out = d.out := rfl
@[simp] theorem setHostByte_dram (a v : Nat) : (d.setHostByte a v).dram = d.dram := rfl
@[simp] theorem setHostByte_laidOut (a v : Nat) : (d.setHostByte a v).laidOut = d.laidOut := rfl
@[simp] theorem setHostByte_domains (a v : Nat) : (d.setHostByte a v).domains = d.domains := rfl
@[simp] theorem setHostByte_rst (a v : Nat) : (d.setHostByte a v).rst = d.rst := rfl
@[simp] theorem setHostByte_evt (a v : Nat) : (d.setHostByte a v).evt = d.evt := rfl
@[simp] theorem setHostByte_ulp (a v : Nat) : (d.setHostByte a v).ulp = d.ulp := rfl
@[simp] theorem setHostByte_job (a v : Nat) : (d.setHostByte a v).job = d.job := rfl
@[simp] theorem setHostByte_pos (a v : Nat) : (d.setHostByte a v).pos = d.pos := rfl
@[simp] theorem setHostByte_fls (a v : Nat) : (d.setHostByte a v).fls = d.fls := rfl
@[simp] theorem setHostByte_mot (a v : Nat) : (d.setHostByte a v).mot = d.mot := rfl
@[simp] theorem setHostByte_pwr (a v : Nat) : (d.setHostByte a v).pwr = d.pwr := rfl
@[simp] theorem setHostByte_marks (a v : Nat) : (d.setHostByte a v).marks = d.marks := rfl
@[simp] theorem setHostByte_lne (a v : Nat) : (d.setHostByte a v).lne = d.lne := rfl
@[simp] theorem setHostByte_slotBuf (a v : Nat) : (d.setHostByte a v).slotBuf = d.slotBuf := rfl
@[simp] theorem setHostByte_mem (a v : Nat) : (d.setHostByte a v).mem = d.mem := rfl
@[simp] theorem setHostByte_spr (a v : Nat) : (d.setHostByte a v).spr = d.spr := rfl
@[simp] theorem setHostByte_csc (a v : Nat) : (d.setHostByte a v).csc = d.csc := rfl
@[simp] theorem setHostByte_pool (a v : Nat) : (d.setHostByte a v).pool = d.pool := rfl
@[simp] theorem setHostByte_cst (a v : Nat) : (d.setHostByte a v).cst = d.cst := rfl
@[simp] theorem setHostByte_ril (a v : Nat) : (d.setHostByte a v).ril = d.ril := rfl
@[simp] theorem setHostByte_eth (a v : Nat) : (d.setHostByte a v).eth = d.eth := rfl
@[simp] theorem setHostByte_msh (a v : Nat) : (d.setHostByte a v).msh = d.msh := rfl
@[simp] theorem setHostByte_dma (a v : Nat) : (d.setHostByte a v).dma = d.dma := rfl
@[simp] theorem setHostByte_ptp (a v : Nat) : (d.setHostByte a v).ptp = d.ptp := rfl
@[simp] theorem setHostByte_tbl (a v : Nat) : (d.setHostByte a v).tbl = d.tbl := rfl
@[simp] theorem setHostByte_start (a v : Nat) : (d.setHostByte a v).start = d.start := rfl
@[simp] theorem setHostByte_conds (a v : Nat) : (d.setHostByte a v).conds = d.conds := rfl
@[simp] theorem setHostByte_atTick (a v : Nat) : (d.setHostByte a v).atTick = d.atTick := rfl
@[simp] theorem setHostByte_pmc (a v : Nat) : (d.setHostByte a v).pmc = d.pmc := rfl
@[simp] theorem setHostByte_lastCommitted (a v : Nat) : (d.setHostByte a v).lastCommitted = d.lastCommitted := rfl
@[simp] theorem setHostByte_lastHeld (a v : Nat) : (d.setHostByte a v).lastHeld = d.lastHeld := rfl

@[simp] theorem emit_out (o : Out) : (d.emit o).out = d.out ++ [o] := rfl
@[simp] theorem nextFree_freeCtr : d.nextFree.freeCtr = d.freeCtr + 1 := rfl
@[simp] theorem emit_reg (o : Out) (off : Nat) : (d.emit o).reg off = d.reg off := rfl
@[simp] theorem nextFree_reg (off : Nat) : d.nextFree.reg off = d.reg off := rfl
@[simp] theorem emit_get (o : Out) (f : Fld) : (d.emit o).get f = d.get f := rfl
@[simp] theorem when_true (f : Device → Device) : d.when true f = f d := rfl
@[simp] theorem when_false (f : Device → Device) : d.when false f = d := rfl
@[simp] theorem each_nil {α : Type} (f : Device → α → Device) : d.each [] f = d := rfl
@[simp] theorem each_cons {α : Type} (a : α) (l : List α) (f : Device → α → Device) : d.each (a :: l) f = (f d a).each l f := rfl

end Sys2Proof.Machine
end

