-- ==== Sys2Proof/Laws/Regs.lean ====
section
/-! SUPPORT. Laws of registers and their fields: what a read gives after a write, and that writes keep the canonical forms. -/
namespace Sys2Proof.Machine

variable (d : Device)

/-! ## Bit fields -/

theorem bits_lt (v lo w : Nat) : bits v lo w < 2 ^ w := Nat.mod_lt _ (Nat.two_pow_pos w)

/-- A number cut at a field: the bits above it, the field, the bits below it. -/
theorem bits_split (v lo w : Nat) : v = v / 2 ^ (lo + w) * 2 ^ (lo + w) + bits v lo w * 2 ^ lo + v % 2 ^ lo := by
  have h1 := Nat.div_add_mod v (2 ^ lo)
  have h2 := Nat.div_add_mod (v / 2 ^ lo) (2 ^ w)
  have h3 : v / 2 ^ lo / 2 ^ w = v / 2 ^ (lo + w) := by rw [Nat.div_div_eq_div_mul, ← Nat.pow_add]
  have h4 : (2 : Nat) ^ (lo + w) = 2 ^ w * 2 ^ lo := by rw [Nat.pow_add, Nat.mul_comm]
  unfold bits
  rw [← h3, h4]
  calc v = 2 ^ lo * (v / 2 ^ lo) + v % 2 ^ lo := h1.symm
    _ = 2 ^ lo * (2 ^ w * (v / 2 ^ lo / 2 ^ w) + v / 2 ^ lo % 2 ^ w) + v % 2 ^ lo := by rw [h2]
    _ = _ := by rw [Nat.mul_add, ← Nat.mul_assoc, Nat.mul_comm (2 ^ lo) (2 ^ w), Nat.mul_comm (2 ^ w * 2 ^ lo), Nat.mul_comm (2 ^ lo)]

theorem setBits_eq (v lo w x : Nat) :
    setBits v lo w x = v / 2 ^ (lo + w) * 2 ^ (lo + w) + x % 2 ^ w * 2 ^ lo + v % 2 ^ lo := by
  have h := bits_split v lo w
  unfold setBits
  omega

/-- The field that was set reads as its low bits. -/
theorem bits_setBits_same (v lo w x : Nat) : bits (setBits v lo w x) lo w = x % 2 ^ w := by
  rw [setBits_eq]
  unfold bits
  have hp : 0 < 2 ^ lo := Nat.two_pow_pos lo
  have e : v / 2 ^ (lo + w) * 2 ^ (lo + w) + x % 2 ^ w * 2 ^ lo + v % 2 ^ lo
      = v % 2 ^ lo + 2 ^ lo * (v / 2 ^ (lo + w) * 2 ^ w + x % 2 ^ w) := by
    rw [Nat.pow_add]; ring_nf
  rw [e, Nat.add_mul_div_left _ _ hp, Nat.div_eq_of_lt (Nat.mod_lt _ hp), Nat.zero_add, Nat.add_comm, Nat.add_mul_mod_self_right]
  exact Nat.mod_mod _ _

/-- A field that lies below or above the one set keeps its value. -/
theorem bits_setBits_below (v lo w x lo' w' : Nat) (h : lo' + w' ≤ lo) : bits (setBits v lo w x) lo' w' = bits v lo' w' := by
  rw [setBits_eq]
  have hv := bits_split v lo w
  obtain ⟨k, rfl⟩ := Nat.exists_eq_add_of_le h
  have hp : 0 < 2 ^ lo' := Nat.two_pow_pos lo'
  have key : ∀ a : Nat, bits (a * 2 ^ (lo' + w' + k) + v % 2 ^ (lo' + w' + k)) lo' w' = bits (v % 2 ^ (lo' + w' + k)) lo' w' := by
    intro a
    unfold bits
    have e : a * 2 ^ (lo' + w' + k) = 2 ^ lo' * (2 ^ w' * (2 ^ k * a)) := by rw [Nat.pow_add, Nat.pow_add]; ring
    rw [e, Nat.add_comm, Nat.add_mul_div_left _ _ hp, Nat.add_mul_mod_self_left]
  have e1 : v / 2 ^ (lo' + w' + k + w) * 2 ^ (lo' + w' + k + w) + x % 2 ^ w * 2 ^ (lo' + w' + k) + v % 2 ^ (lo' + w' + k)
      = (v / 2 ^ (lo' + w' + k + w) * 2 ^ w + x % 2 ^ w) * 2 ^ (lo' + w' + k) + v % 2 ^ (lo' + w' + k) := by
    rw [Nat.pow_add _ _ w]; ring
  have e2 : bits v lo' w' = bits (v / 2 ^ (lo' + w' + k) * 2 ^ (lo' + w' + k) + v % 2 ^ (lo' + w' + k)) lo' w' := by
    rw [Nat.mul_comm, Nat.div_add_mod]
  rw [e1, e2, key, key]

theorem bits_setBits_above (v lo w x lo' w' : Nat) (h : lo + w ≤ lo') : bits (setBits v lo w x) lo' w' = bits v lo' w' := by
  rw [setBits_eq]
  obtain ⟨k, rfl⟩ := Nat.exists_eq_add_of_le h
  have hlow : x % 2 ^ w * 2 ^ lo + v % 2 ^ lo < 2 ^ (lo + w) := by
    have h1 : x % 2 ^ w + 1 ≤ 2 ^ w := Nat.mod_lt _ (Nat.two_pow_pos w)
    have h2 := Nat.mod_lt v (Nat.two_pow_pos lo)
    calc x % 2 ^ w * 2 ^ lo + v % 2 ^ lo < x % 2 ^ w * 2 ^ lo + 2 ^ lo := by omega
      _ = (x % 2 ^ w + 1) * 2 ^ lo := by ring
      _ ≤ 2 ^ w * 2 ^ lo := Nat.mul_le_mul_right _ h1
      _ = 2 ^ (lo + w) := by rw [← Nat.pow_add, Nat.add_comm]
  unfold bits
  have hp : 0 < 2 ^ (lo + w) := Nat.two_pow_pos _
  have e : (v / 2 ^ (lo + w) * 2 ^ (lo + w) + x % 2 ^ w * 2 ^ lo + v % 2 ^ lo) / 2 ^ (lo + w) = v / 2 ^ (lo + w) := by
    rw [Nat.add_assoc, Nat.add_comm, Nat.add_mul_div_right _ _ hp, Nat.div_eq_of_lt hlow, Nat.zero_add]
  rw [Nat.pow_add _ _ k, ← Nat.div_div_eq_div_mul, e, Nat.div_div_eq_div_mul]

/-! ## Registers -/

@[simp] theorem reg_setReg_same (off v : Nat) : (d.setReg off v).reg off = v % 262144 := by
  have h := cellGet_set_same (BitVec.ofNat 18 (regReset off)) d.regs off (BitVec.ofNat 18 v)
  unfold cellGet at h
  simp [Device.reg, Device.setReg, h, BitVec.toNat_ofNat]

theorem reg_setReg_ne {off o : Nat} (v : Nat) (h : o ≠ off) : (d.setReg off v).reg o = d.reg o := by
  simp [Device.reg, Device.setReg, cellFind_set_ne _ d.regs _ h]

theorem reg_lt (off : Nat) : d.reg off < 262144 := BitVec.isLt _

theorem get_setReg_ne {f : Fld} {off : Nat} (v : Nat) (h : f.off ≠ off) : (d.setReg off v).get f = d.get f := by
  simp [Device.get, reg_setReg_ne d v h]

theorem reg_put_ne {f : Fld} {o : Nat} (v : Nat) (h : o ≠ f.off) : (d.put f v).reg o = d.reg o := reg_setReg_ne d _ h

theorem get_put_ne {f g : Fld} (v : Nat) (h : g.off ≠ f.off) : (d.put f v).get g = d.get g := get_setReg_ne d _ h

theorem bits_mod (x lo w n : Nat) (h : lo + w ≤ n) : bits (x % 2 ^ n) lo w = bits x lo w := by
  unfold bits
  obtain ⟨k, rfl⟩ := Nat.exists_eq_add_of_le h
  rw [Nat.add_assoc, Nat.pow_add, Nat.mod_mul_right_div_self, Nat.pow_add]
  exact Nat.mod_mod_of_dvd _ (Nat.dvd_mul_right _ _)

/-- A field of a word reads as the low bits of what was put into it. -/
theorem get_put_same (f : Fld) (v : Nat) (h : f.lo + f.w ≤ 18) : (d.put f v).get f = v % 2 ^ f.w := by
  have h2 := bits_mod (setBits (d.reg f.off) f.lo f.w v) f.lo f.w 18 h
  simp only [Device.get, Device.put, reg_setReg_same]
  rw [show (262144 : Nat) = 2 ^ 18 from rfl, h2, bits_setBits_same]

/-- A field of the same dword that does not overlap keeps its value. -/
theorem get_put_apart {f g : Fld} (v : Nat) (ho : g.off = f.off) (hw : g.lo + g.w ≤ 18) (h : g.lo + g.w ≤ f.lo ∨ f.lo + f.w ≤ g.lo) :
    (d.put f v).get g = d.get g := by
  have h2 := bits_mod (setBits (d.reg f.off) f.lo f.w v) g.lo g.w 18 hw
  simp only [Device.get, Device.put, ho, reg_setReg_same]
  rw [show (262144 : Nat) = 2 ^ 18 from rfl, h2]
  rcases h with h | h
  · exact bits_setBits_below _ _ _ _ _ _ h
  · exact bits_setBits_above _ _ _ _ _ _ h

theorem get_putFlag_same (f : Fld) (b : Bool) (hw : f.w = 1) (h : f.lo < 18) : (d.putFlag f b).get f = b2n b := by
  unfold Device.putFlag
  rw [get_put_same d f _ (by omega), hw]
  cases b <;> rfl

theorem flag_putFlag_same (f : Fld) (b : Bool) (hw : f.w = 1) (h : f.lo < 18) : (d.putFlag f b).flag f = b := by
  unfold Device.flag
  rw [get_putFlag_same d f b hw h]
  cases b <;> rfl

theorem flag_put_ne {f g : Fld} (v : Nat) (h : g.off ≠ f.off) : (d.put f v).flag g = d.flag g := by
  simp [Device.flag, get_put_ne d v h]

theorem flag_putFlag_ne {f g : Fld} (b : Bool) (h : g.off ≠ f.off) : (d.putFlag f b).flag g = d.flag g := flag_put_ne d _ h

/-! ## Canonical forms -/

/-- The registers are in canonical form. -/
def Device.regsWf (d : Device) : Prop := cellWf (fun off => BitVec.ofNat 18 (regReset off)) d.regs = true
def Device.dramWf (d : Device) : Prop := cellWf (fun _ => (0 : Word)) d.dram = true
def Device.hostWf (d : Device) : Prop := cellWf (fun _ => (0 : Byte)) d.hostMem = true

theorem setReg_regsWf (off v : Nat) (h : d.regsWf) : (d.setReg off v).regsWf := cellWf_set _ d.regs off _ h
theorem put_regsWf (f : Fld) (v : Nat) (h : d.regsWf) : (d.put f v).regsWf := setReg_regsWf d _ _ h
theorem put36_regsWf (off v : Nat) (h : d.regsWf) : (d.put36 off v).regsWf := setReg_regsWf _ _ _ (setReg_regsWf d _ _ h)
theorem setDramWord_dramWf (a v : Nat) (h : d.dramWf) : (d.setDramWord a v).dramWf := cellWf_set (fun _ => (0 : Word)) d.dram a _ h
theorem setHostByte_hostWf (a v : Nat) (h : d.hostWf) : (d.setHostByte a v).hostWf := cellWf_set (fun _ => (0 : Byte)) d.hostMem a _ h

theorem each_keeps {α : Type} (P : Device → Prop) (f : Device → α → Device) (hf : ∀ d a, P d → P (f d a)) (l : List α) (d : Device)
    (h : P d) : P (d.each l f) := by
  induction l generalizing d with
  | nil => exact h
  | cons a t ih => exact ih (f d a) (hf d a h)

theorem setRegs_regsWf (off : Nat) (vs : List Nat) (h : d.regsWf) : (d.setRegs off vs).regsWf := by
  induction vs generalizing d off with
  | nil => exact h
  | cons v t ih => exact ih _ _ (setReg_regsWf d off v h)

theorem putDram_dramWf (a : Nat) (ws : List Nat) (h : d.dramWf) : (d.putDram a ws).dramWf :=
  each_keeps Device.dramWf _ (fun d _ h => setDramWord_dramWf d _ _ h) _ d h

theorem putHostBytes_hostWf (a : Nat) (bs : List Nat) (h : d.hostWf) : (d.putHostBytes a bs).hostWf :=
  each_keeps Device.hostWf _ (fun d _ h => setHostByte_hostWf d _ _ h) _ d h

theorem putHostDwords_hostWf (a : Nat) (ws : List Nat) (h : d.hostWf) : (d.putHostDwords a ws).hostWf :=
  each_keeps Device.hostWf _ (fun d _ h => putHostBytes_hostWf d _ _ h) _ d h

theorem putHostGroups_hostWf (a : Nat) (ws : List Nat) (h : d.hostWf) : (d.putHostGroups a ws).hostWf :=
  each_keeps Device.hostWf _ (fun d _ h => putHostBytes_hostWf d _ _ h) _ d h

/-! ## Module DRAM and host memory -/

theorem laidAt_cons (r : Nat × Nat × Nat) (rs : List (Nat × Nat × Nat)) (a : Nat) :
    laidAt (r :: rs) a = if within r.1 r.2.1 a then some r.2.2 else laidAt rs a := by
  cases h : within r.1 r.2.1 a <;> simp [laidAt, h]

theorem cutWord_cons (r : Nat × Nat × Nat) (rs : List (Nat × Nat × Nat)) (a : Nat) :
    cutWord (r :: rs) a =
      if within r.1 r.2.1 a then (r.1, a - r.1, r.2.2) :: (a + 1, r.1 + r.2.1 - (a + 1), r.2.2) :: cutWord rs a else r :: cutWord rs a := by
  cases h : within r.1 r.2.1 a <;> simp [cutWord, h]

theorem laidAt_cut_same (rs : List (Nat × Nat × Nat)) (a : Nat) : laidAt (cutWord rs a) a = none := by
  induction rs with
  | nil => rfl
  | cons r t ih =>
    rw [cutWord_cons]
    cases h : within r.1 r.2.1 a with
    | false => simp [laidAt_cons, h, ih]
    | true =>
      have h1 : within r.1 (a - r.1) a = false := by simp [within]; omega
      have h2 : within (a + 1) (r.1 + r.2.1 - (a + 1)) a = false := by simp [within]
      simp [laidAt_cons, h1, h2, ih]

theorem laidAt_cut_ne {a b : Nat} (rs : List (Nat × Nat × Nat)) (h : b ≠ a) : laidAt (cutWord rs a) b = laidAt rs b := by
  induction rs with
  | nil => rfl
  | cons r t ih =>
    rw [cutWord_cons, laidAt_cons]
    cases ha : within r.1 r.2.1 a with
    | false => simp [laidAt_cons, ih]
    | true =>
      have hw : within r.1 r.2.1 b = (within r.1 (a - r.1) b || within (a + 1) (r.1 + r.2.1 - (a + 1)) b) := by
        simp only [within, Bool.and_eq_true, decide_eq_true_eq] at ha
        rw [Bool.eq_iff_iff]
        simp only [within, Bool.and_eq_true, Bool.or_eq_true, decide_eq_true_eq]
        omega
      rw [hw, if_pos rfl, laidAt_cons, laidAt_cons, ih]
      cases within r.1 (a - r.1) b <;> rfl

theorem dramWord_set_same (a v : Nat) : (d.setDramWord a v).dramWord a = v % 262144 := by
  simp [Device.dramWord, Device.setDramWord, laidAt_cut_same, cellGet_set_same, BitVec.toNat_ofNat]

theorem dramWord_set_ne {a b : Nat} (v : Nat) (h : b ≠ a) : (d.setDramWord a v).dramWord b = d.dramWord b := by
  simp [Device.dramWord, Device.setDramWord, laidAt_cut_ne _ h, cellGet_set_ne _ d.dram _ h]

theorem hostByte_set_same (a v : Nat) : (d.setHostByte a v).hostByte a = v % 256 := by
  simp [Device.hostByte, Device.setHostByte, cellGet_set_same, BitVec.toNat_ofNat]

theorem hostByte_set_ne {a b : Nat} (v : Nat) (h : b ≠ a) : (d.setHostByte a v).hostByte b = d.hostByte b := by
  simp [Device.hostByte, Device.setHostByte, cellGet_set_ne _ d.hostMem _ h]

end Sys2Proof.Machine
end

