-- ==== Sys2Proof/Laws/Events.lean ====
section
/-! SUPPORT. What raising sources and counting items can change: the registers of the event and counter blocks, the outputs,
and the state of the event controller, of waiting DMA channels, of the mesh sender and of the counters. -/
namespace Sys2Proof.Machine

/-- An offset outside the event and the counter block. -/
def quietReg (off : Nat) : Prop := off / 0x100000 ≠ 2 ∧ off / 0x100000 ≠ 21

/-- `d'` differs from `d` only by what raising and counting may change. -/
def Device.raisesOnly (d d' : Device) : Prop :=
  d' = { d with regs := d'.regs, out := d'.out, evt := d'.evt, dma := d'.dma, msh := d'.msh, pmc := d'.pmc } ∧
    (∀ off, quietReg off → d'.reg off = d.reg off) ∧ ∃ l, d'.out = d.out ++ l

theorem raisesOnly_refl (d : Device) : d.raisesOnly d := ⟨rfl, fun _ _ => rfl, [], by simp⟩

theorem raisesOnly_trans {a b c : Device} (h1 : a.raisesOnly b) (h2 : b.raisesOnly c) : a.raisesOnly c := by
  obtain ⟨e1, r1, l1, o1⟩ := h1
  obtain ⟨e2, r2, l2, o2⟩ := h2
  refine ⟨?_, fun off h => (r2 off h).trans (r1 off h), l1 ++ l2, by rw [o2, o1, List.append_assoc]⟩
  rw [e2, e1]

theorem raisesOnly_setReg (d : Device) (off v : Nat) (h : ¬quietReg off) : d.raisesOnly (d.setReg off v) :=
  ⟨rfl, fun o ho => reg_setReg_ne d v (fun e => h (e ▸ ho)), [], by simp⟩

theorem raisesOnly_put (d : Device) (f : Fld) (v : Nat) (h : ¬quietReg f.off) : d.raisesOnly (d.put f v) := raisesOnly_setReg d _ _ h

theorem raisesOnly_emit (d : Device) (o : Out) : d.raisesOnly (d.emit o) := ⟨rfl, fun _ _ => rfl, [o], rfl⟩

theorem raisesOnly_evt (d : Device) (e : EvtState) : d.raisesOnly { d with evt := e } := ⟨rfl, fun _ _ => rfl, [], by simp⟩

theorem raisesOnly_dma (d : Device) (e : DmaState) : d.raisesOnly { d with dma := e } := ⟨rfl, fun _ _ => rfl, [], by simp⟩

theorem raisesOnly_msh (d : Device) (e : MshState) : d.raisesOnly { d with msh := e } := ⟨rfl, fun _ _ => rfl, [], by simp⟩

theorem raisesOnly_pmc (d : Device) (e : PmcState) : d.raisesOnly { d with pmc := e } := ⟨rfl, fun _ _ => rfl, [], by simp⟩

theorem raisesOnly_foldl {α : Type} (f : Device → α → Device) (l : List α) (h : ∀ (d : Device) (a : α), a ∈ l → d.raisesOnly (f d a)) (d : Device) :
    d.raisesOnly (l.foldl f d) := by
  induction l generalizing d with
  | nil => exact raisesOnly_refl d
  | cons a t ih =>
    exact raisesOnly_trans (h d a (by simp)) (ih (fun d b hb => h d b (List.mem_cons_of_mem _ hb)) (f d a))

theorem loud_count {b k : Nat} (hb : b < 20) (hk : k < 8) (i : Nat) (hi : i < 32) : ¬quietReg (0x1501000 + 0x100 * b + 0x20 * k + i) := by
  intro h; unfold quietReg at h; omega

theorem raisesOnly_pmcNote (d : Device) (b k n : Nat) (hb : b < 20) (hk : k < 8) : d.raisesOnly (d.pmcNote b k n) := by
  have h0 : ¬quietReg (PMC_C_SNAP b k) := by
    have := loud_count hb hk 0xC (by omega); unfold PMC_C_SNAP; convert this using 2; omega
  have h1 : ¬quietReg (PMC_C_SNAP b k + 4) := by
    have := loud_count hb hk 0x10 (by omega); unfold PMC_C_SNAP; convert this using 2; omega
  unfold Device.pmcNote Device.when
  dsimp only
  split
  · exact raisesOnly_trans (raisesOnly_pmc d _) (raisesOnly_trans (raisesOnly_setReg _ _ _ h0) (raisesOnly_setReg _ _ _ h1))
  · exact raisesOnly_pmc d _

theorem raisesOnly_pmcAdd (fuel b k n : Nat) (d : Device) (hb : b < 20) (hk : k < 8) : d.raisesOnly (pmcAdd fuel b k n d) := by
  induction fuel generalizing k n d with
  | zero => exact raisesOnly_refl d
  | succ f ih =>
    have h0 : ¬quietReg (PMC_C_COUNT b k) := by
      have := loud_count hb hk 4 (by omega); unfold PMC_C_COUNT; convert this using 2; omega
    have h1 : ¬quietReg (PMC_C_COUNT b k + 4) := by
      have := loud_count hb hk 8 (by omega); unfold PMC_C_COUNT; convert this using 2; omega
    have h2 : ¬quietReg (PMC_C_CFG b k) := by
      have := loud_count hb hk 0 (by omega); unfold PMC_C_CFG; simpa using this
    have hp : ∀ (d : Device) (v : Nat), d.raisesOnly (d.put36 (PMC_C_COUNT b k) v) := fun d v =>
      raisesOnly_trans (raisesOnly_setReg d _ _ h0) (raisesOnly_setReg _ _ _ h1)
    have note := raisesOnly_pmcNote d b k n hb hk
    simp only [pmcAdd]
    split
    · exact raisesOnly_refl d
    split
    · exact raisesOnly_trans note (hp _ _)
    · have step := raisesOnly_trans (raisesOnly_trans note (hp _ ((d.get36 (PMC_C_COUNT b k) + n) % pairMod)))
        (raisesOnly_put _ (bitAt (PMC_C_CFG b k) 14) (b2n true) h2)
      split
      · rename_i hc
        simp only [Bool.and_eq_true, decide_eq_true_eq] at hc
        exact raisesOnly_trans step (ih (k + 1) 1 _ hc.1.1)
      · exact step

theorem raisesOnly_count (d : Device) (b code n : Nat) (hb : b < 20) : d.raisesOnly (d.count b code n) := by
  unfold Device.count
  split
  · exact raisesOnly_refl d
  · refine raisesOnly_foldl _ _ (fun d k hk => ?_) d
    have hk8 : k < 8 := List.mem_range.1 hk
    split
    · exact raisesOnly_pmcAdd _ _ _ _ _ hb hk8
    · exact raisesOnly_refl d

theorem raisesOnly_sendOn (d : Device) (r : Bool) (w : List Nat) : d.raisesOnly (d.sendOn r w) := by
  unfold Device.sendOn
  split
  · exact raisesOnly_msh d _
  split
  · exact raisesOnly_msh d _
  · exact raisesOnly_refl d

theorem raisesOnly_sendMesh (d : Device) (dst ty : Nat) (body : List Nat) : d.raisesOnly (d.sendMesh dst ty body) := by
  unfold Device.sendMesh
  split
  · exact raisesOnly_refl d
  · refine raisesOnly_trans ?_ (raisesOnly_msh _ _)
    refine raisesOnly_trans (raisesOnly_count d 18 4 1 (by omega)) ?_
    exact raisesOnly_foldl _ _ (fun d r _ => raisesOnly_sendOn d _ _) _

theorem raisesOnly_raised (d : Device) (s : Nat) : d.raisesOnly (d.raised s) := by
  unfold Device.raised
  have h1 : d.raisesOnly (d.itemIn 19) := raisesOnly_count d 19 3 1 (by omega)
  have h2 : (d.itemIn 19).raisesOnly ((d.itemIn 19).noteRaise s) := raisesOnly_dma _ _
  refine raisesOnly_trans (raisesOnly_trans h1 h2) ?_
  unfold Device.forward
  split
  · exact raisesOnly_sendMesh _ _ _ _
  · exact raisesOnly_refl _

theorem raisesOnly_issue (d : Device) (v : Nat) : d.raisesOnly (d.issue v) := by
  unfold Device.issue
  split
  · exact raisesOnly_evt d _
  · have h1 := raisesOnly_evt d { d.evt with due := vecPut d.evt.due v false, pba := vecPut d.evt.pba v false }
    exact raisesOnly_trans h1 (raisesOnly_trans (raisesOnly_emit _ _) (raisesOnly_count _ 19 4 1 (by omega)))

theorem loud_pending {s : Nat} (hs : s < 256) : ¬quietReg (EVT_PENDING (s / 18)) := by
  intro h; unfold quietReg EVT_PENDING at h; omega

theorem loud_src {s : Nat} (hs : s < 256) : ¬quietReg (EVT_SRC s) := by
  intro h; unfold quietReg EVT_SRC at h; omega

theorem raisesOnly_vectorRise (d : Device) (v : Nat) : d.raisesOnly (d.vectorRise v) := by
  unfold Device.vectorRise
  split
  · exact raisesOnly_refl _
  · dsimp only
    split
    · exact raisesOnly_issue _ _
    · exact raisesOnly_evt _ _

theorem raisesOnly_setPending (d : Device) (s : Nat) (hs : s < 256) : d.raisesOnly (d.setPending s) := by
  have h1 : d.raisesOnly (d.putFlag (fPending s) true) := raisesOnly_put d (fPending s) (b2n true) (loud_pending hs)
  have h2 := raisesOnly_evt (d.putFlag (fPending s) true)
    { (d.putFlag (fPending s) true).evt with coreDone := (d.putFlag (fPending s) true).evt.coreDone.filter (fun x => x != s) }
  have h3 := raisesOnly_trans h1 h2
  unfold Device.setPending
  dsimp only
  split
  · exact raisesOnly_trans h3 (raisesOnly_vectorRise _ _)
  · exact h3

/-- Raising a source changes nothing else. -/
theorem raisesOnly_raise (d : Device) (s : Nat) (hs : s < 256) : d.raisesOnly (d.raise s) := by
  unfold Device.raise
  split
  · exact raisesOnly_refl d
  dsimp only
  have note : d.raisesOnly ((d.raised s).keepEdge s (d.isPending s && !d.flag (fOverrun s))) :=
    raisesOnly_trans (raisesOnly_raised d s) (raisesOnly_evt _ _)
  refine raisesOnly_trans note ?_
  split
  · exact raisesOnly_put _ _ _ (loud_src hs)
  · exact raisesOnly_setPending _ _ hs

theorem raisesOnly_levelRise (d : Device) (s : Nat) (c : Bool) (hs : s < 256) : d.raisesOnly (d.levelRise s c) := by
  unfold Device.levelRise
  split
  · exact raisesOnly_trans (raisesOnly_raised d s) (raisesOnly_setPending _ _ hs)
  · exact raisesOnly_refl d

/-- Settling changes the strobe level, and what raising the level sources changes. -/
theorem settle_raisesOnly (d : Device) : ({ d with fls := { d.fls with flash := d.fls.flash && !d.strobeGated } } : Device).raisesOnly d.settle := by
  unfold Device.settle
  refine raisesOnly_foldl _ _ (fun d s hs => raisesOnly_levelRise d s _ ?_) _
  simp only [levelSources, List.mem_cons, List.not_mem_nil, or_false] at hs
  omega

/-! ## What a caller reads off -/

section fields
variable {d d' : Device} (h : d.raisesOnly d')
include h
theorem raisesOnly_powered : d'.powered = d.powered := by rw [h.1]
theorem raisesOnly_capture : d'.capture = d.capture := by rw [h.1]
theorem raisesOnly_heldWrites : d'.heldWrites = d.heldWrites := by rw [h.1]
theorem raisesOnly_clock : d'.clock = d.clock := by rw [h.1]
theorem raisesOnly_tod : d'.tod = d.tod := by rw [h.1]
theorem raisesOnly_todRem : d'.todRem = d.todRem := by rw [h.1]
theorem raisesOnly_freeCtr : d'.freeCtr = d.freeCtr := by rw [h.1]
theorem raisesOnly_hostMem : d'.hostMem = d.hostMem := by rw [h.1]
theorem raisesOnly_dram : d'.dram = d.dram := by rw [h.1]
theorem raisesOnly_laidOut : d'.laidOut = d.laidOut := by rw [h.1]
theorem raisesOnly_domains : d'.domains = d.domains := by rw [h.1]
theorem raisesOnly_rst : d'.rst = d.rst := by rw [h.1]
theorem raisesOnly_ulp : d'.ulp = d.ulp := by rw [h.1]
theorem raisesOnly_job : d'.job = d.job := by rw [h.1]
theorem raisesOnly_pos : d'.pos = d.pos := by rw [h.1]
theorem raisesOnly_fls : d'.fls = d.fls := by rw [h.1]
theorem raisesOnly_mot : d'.mot = d.mot := by rw [h.1]
theorem raisesOnly_pwr : d'.pwr = d.pwr := by rw [h.1]
theorem raisesOnly_marks : d'.marks = d.marks := by rw [h.1]
theorem raisesOnly_lne : d'.lne = d.lne := by rw [h.1]
theorem raisesOnly_slotBuf : d'.slotBuf = d.slotBuf := by rw [h.1]
theorem raisesOnly_mem : d'.mem = d.mem := by rw [h.1]
theorem raisesOnly_spr : d'.spr = d.spr := by rw [h.1]
theorem raisesOnly_csc : d'.csc = d.csc := by rw [h.1]
theorem raisesOnly_pool : d'.pool = d.pool := by rw [h.1]
theorem raisesOnly_cst : d'.cst = d.cst := by rw [h.1]
theorem raisesOnly_ril : d'.ril = d.ril := by rw [h.1]
theorem raisesOnly_eth : d'.eth = d.eth := by rw [h.1]
theorem raisesOnly_ptp : d'.ptp = d.ptp := by rw [h.1]
theorem raisesOnly_tbl : d'.tbl = d.tbl := by rw [h.1]
theorem raisesOnly_start : d'.start = d.start := by rw [h.1]
theorem raisesOnly_conds : d'.conds = d.conds := by rw [h.1]
theorem raisesOnly_atTick : d'.atTick = d.atTick := by rw [h.1]
theorem raisesOnly_lastCommitted : d'.lastCommitted = d.lastCommitted := by rw [h.1]
theorem raisesOnly_lastHeld : d'.lastHeld = d.lastHeld := by rw [h.1]
theorem raisesOnly_reg {off : Nat} (q : quietReg off) : d'.reg off = d.reg off := h.2.1 off q
theorem raisesOnly_get {f : Fld} (q : quietReg f.off) : d'.get f = d.get f := by unfold Device.get; rw [h.2.1 _ q]
end fields

@[simp] theorem settle_powered (d : Device) : d.settle.powered = d.powered := by
  have h := raisesOnly_powered (settle_raisesOnly d)
  exact h
@[simp] theorem settle_capture (d : Device) : d.settle.capture = d.capture := by
  have h := raisesOnly_capture (settle_raisesOnly d)
  exact h
@[simp] theorem settle_heldWrites (d : Device) : d.settle.heldWrites = d.heldWrites := by
  have h := raisesOnly_heldWrites (settle_raisesOnly d)
  exact h
@[simp] theorem settle_clock (d : Device) : d.settle.clock = d.clock := by
  have h := raisesOnly_clock (settle_raisesOnly d)
  exact h
@[simp] theorem settle_tod (d : Device) : d.settle.tod = d.tod := by
  have h := raisesOnly_tod (settle_raisesOnly d)
  exact h
@[simp] theorem settle_todRem (d : Device) : d.settle.todRem = d.todRem := by
  have h := raisesOnly_todRem (settle_raisesOnly d)
  exact h
@[simp] theorem settle_freeCtr (d : Device) : d.settle.freeCtr = d.freeCtr := by
  have h := raisesOnly_freeCtr (settle_raisesOnly d)
  exact h
@[simp] theorem settle_hostMem (d : Device) : d.settle.hostMem = d.hostMem := by
  have h := raisesOnly_hostMem (settle_raisesOnly d)
  exact h
@[simp] theorem settle_dram (d : Device) : d.settle.dram = d.dram := by
  have h := raisesOnly_dram (settle_raisesOnly d)
  exact h
@[simp] theorem settle_laidOut (d : Device) : d.settle.laidOut = d.laidOut := by
  have h := raisesOnly_laidOut (settle_raisesOnly d)
  exact h
@[simp] theorem settle_domains (d : Device) : d.settle.domains = d.domains := by
  have h := raisesOnly_domains (settle_raisesOnly d)
  exact h
@[simp] theorem settle_rst (d : Device) : d.settle.rst = d.rst := by
  have h := raisesOnly_rst (settle_raisesOnly d)
  exact h
@[simp] theorem settle_ulp (d : Device) : d.settle.ulp = d.ulp := by
  have h := raisesOnly_ulp (settle_raisesOnly d)
  exact h
@[simp] theorem settle_job (d : Device) : d.settle.job = d.job := by
  have h := raisesOnly_job (settle_raisesOnly d)
  exact h
@[simp] theorem settle_pos (d : Device) : d.settle.pos = d.pos := by
  have h := raisesOnly_pos (settle_raisesOnly d)
  exact h
@[simp] theorem settle_mot (d : Device) : d.settle.mot = d.mot := by
  have h := raisesOnly_mot (settle_raisesOnly d)
  exact h
@[simp] theorem settle_pwr (d : Device) : d.settle.pwr = d.pwr := by
  have h := raisesOnly_pwr (settle_raisesOnly d)
  exact h
@[simp] theorem settle_marks (d : Device) : d.settle.marks = d.marks := by
  have h := raisesOnly_marks (settle_raisesOnly d)
  exact h
@[simp] theorem settle_lne (d : Device) : d.settle.lne = d.lne := by
  have h := raisesOnly_lne (settle_raisesOnly d)
  exact h
@[simp] theorem settle_slotBuf (d : Device) : d.settle.slotBuf = d.slotBuf := by
  have h := raisesOnly_slotBuf (settle_raisesOnly d)
  exact h
@[simp] theorem settle_mem (d : Device) : d.settle.mem = d.mem := by
  have h := raisesOnly_mem (settle_raisesOnly d)
  exact h
@[simp] theorem settle_spr (d : Device) : d.settle.spr = d.spr := by
  have h := raisesOnly_spr (settle_raisesOnly d)
  exact h
@[simp] theorem settle_csc (d : Device) : d.settle.csc = d.csc := by
  have h := raisesOnly_csc (settle_raisesOnly d)
  exact h
@[simp] theorem settle_pool (d : Device) : d.settle.pool = d.pool := by
  have h := raisesOnly_pool (settle_raisesOnly d)
  exact h
@[simp] theorem settle_cst (d : Device) : d.settle.cst = d.cst := by
  have h := raisesOnly_cst (settle_raisesOnly d)
  exact h
@[simp] theorem settle_ril (d : Device) : d.settle.ril = d.ril := by
  have h := raisesOnly_ril (settle_raisesOnly d)
  exact h
@[simp] theorem settle_eth (d : Device) : d.settle.eth = d.eth := by
  have h := raisesOnly_eth (settle_raisesOnly d)
  exact h
@[simp] theorem settle_ptp (d : Device) : d.settle.ptp = d.ptp := by
  have h := raisesOnly_ptp (settle_raisesOnly d)
  exact h
@[simp] theorem settle_tbl (d : Device) : d.settle.tbl = d.tbl := by
  have h := raisesOnly_tbl (settle_raisesOnly d)
  exact h
@[simp] theorem settle_start (d : Device) : d.settle.start = d.start := by
  have h := raisesOnly_start (settle_raisesOnly d)
  exact h
@[simp] theorem settle_conds (d : Device) : d.settle.conds = d.conds := by
  have h := raisesOnly_conds (settle_raisesOnly d)
  exact h
@[simp] theorem settle_atTick (d : Device) : d.settle.atTick = d.atTick := by
  have h := raisesOnly_atTick (settle_raisesOnly d)
  exact h
@[simp] theorem settle_lastCommitted (d : Device) : d.settle.lastCommitted = d.lastCommitted := by
  have h := raisesOnly_lastCommitted (settle_raisesOnly d)
  exact h
@[simp] theorem settle_lastHeld (d : Device) : d.settle.lastHeld = d.lastHeld := by
  have h := raisesOnly_lastHeld (settle_raisesOnly d)
  exact h
@[simp] theorem settle_fls (d : Device) : d.settle.fls = { d.fls with flash := d.fls.flash && !d.strobeGated } := by
  have h := raisesOnly_fls (settle_raisesOnly d)
  exact h
theorem settle_reg (d : Device) {off : Nat} (q : quietReg off) : d.settle.reg off = d.reg off := by
  have h := raisesOnly_reg (settle_raisesOnly d) q
  exact h
theorem settle_get (d : Device) {f : Fld} (q : quietReg f.off) : d.settle.get f = d.get f := by
  have h := raisesOnly_get (settle_raisesOnly d) q
  exact h

end Sys2Proof.Machine
end

