-- ==== Sys2Proof/Laws/Run.lean ====
section
/-! SUPPORT. What every command does to the state: it answers a next state, keeps the queue, and settles the module. -/
namespace Sys2Proof.Machine

/-- A command of a powered module gives the settled module of its effect. -/
theorem run_finds {s : State} {d : Device} (h : s.finds d) (f : Device → Device) : s.run f = .next (s.gives (f d)) := by
  obtain ⟨hp, rfl⟩ := h
  simp [State.run, State.gives, hp]

/-- In OFF a command changes nothing but the outputs (R27). -/
theorem run_off {s : State} (h : s.dev.powered = false) (f : Device → Device) :
    s.run f = .next { s with dev := { s.dev with out := [] } } := by
  simp [State.run, h]

/-- Every command run answers a next state, and the queue is as before. -/
theorem run_next (s : State) (f : Device → Device) : ∃ t, s.run f = .next t ∧ t.pending = s.pending :=
  ⟨_, rfl, rfl⟩

@[simp] theorem gives_pending (s : State) (d : Device) : (s.gives d).pending = s.pending := rfl
@[simp] theorem gives_dev (s : State) (d : Device) : (s.gives d).dev = d.settle := rfl

end Sys2Proof.Machine
end

