-- ==== Sys2Proof/Laws/Exec.lean ====
section
/-! SUPPORT. What every command is: one run of an effect on the module, but for POWER_GOOD, which acts in OFF. -/
namespace Sys2Proof.Machine

/-- Every command but POWER_GOOD is one run of an effect on the module. -/
theorem exec_runs (c : Instr) (h : ∀ p, c ≠ .powerGood p) : ∃ f, ∀ s, exec c s = s.run f := by
  cases c
  case powerGood p => exact absurd rfl (h p)
  all_goals exact ⟨_, fun s => by simp only [exec]; rfl⟩

/-- POWER_GOOD powers the module on where it is in OFF and the supply is good, and otherwise changes nothing but the outputs. -/
theorem exec_powerGood (p : PowerUp) (s : State) :
    exec (.powerGood p) s =
      .next { s with dev := if s.dev.powered || !powerIsGood p.supply then { s.dev with out := [] } else (powerOn p.load s.dev).settle } := by
  simp only [exec, execPowerGood]

end Sys2Proof.Machine
end

