-- ==== Sys2Proof/Laws/PerInstr.lean ====
section
/-! SUPPORT. Laws made per command: no word of opcode_table.json spells the command, since the table gives no row any bits. -/
namespace Sys2Proof.Laws.Unspelled

/-- No table word spells the command. -/
def Statement (i : Instr) : Prop := ∀ nbits w, decodeTableWord nbits w ≠ some i

theorem all (i : Instr) : Statement i := fun _ _ h => nomatch h

theorem powerGood (power : PowerUp) : Statement (.powerGood power) := all _
theorem inputOutOfRange (supply : SupplyView) : Statement (.inputOutOfRange supply) := all _
theorem islandRelease (island : Fin 22) (clock : ClockView) : Statement (.islandRelease island clock) := all _
theorem startUpComplete (failed : List TestUnit) (readyMs : Nat) : Statement (.startUpComplete failed readyMs) := all _
theorem resetL (lowSamples : Nat) : Statement (.resetL lowSamples) := all _
theorem resetLRelease (rise : ResetRise) : Statement (.resetLRelease rise) := all _
theorem rstSoft (value : Word) (ol : OptionLoad) : Statement (.rstSoft value ol) := all _
theorem watchdogExpiry (ol : OptionLoad) : Statement (.watchdogExpiry ol) := all _
theorem clkGoodFall (island : Option (Fin 22)) (loss : ClockLoss) : Statement (.clkGoodFall island loss) := all _
theorem perstL : Statement (.perstL) := all _
theorem perstLRelease (clock : ClockView) : Statement (.perstLRelease clock) := all _
theorem rstRelease (hi : Bool) (value : Word) : Statement (.rstRelease hi value) := all _
theorem rstBlock (value : Word) : Statement (.rstBlock value) := all _
theorem blockResetRelease (clock : ClockView) : Statement (.blockResetRelease clock) := all _
theorem registerWrite (off : BitVec 26) (value : Dword) : Statement (.registerWrite off value) := all _
theorem wideReadCapture (off : BitVec 26) : Statement (.wideReadCapture off) := all _
theorem readClear (off : BitVec 26) : Statement (.readClear off) := all _
theorem bar0AccessError (write : Bool) (off : BitVec 26) (size : Nat) : Statement (.bar0AccessError write off size) := all _
theorem unmappedAccess (write : Bool) (off : BitVec 26) : Statement (.unmappedAccess write off) := all _
theorem queueEnable (q : Fin 4) : Statement (.queueEnable q) := all _
theorem queueDisable (q : Fin 4) : Statement (.queueDisable q) := all _
theorem sqTail (q : Fin 4) (value : Word) : Statement (.sqTail q value) := all _
theorem cqHead (q : Fin 4) (value : Word) : Statement (.cqHead q value) := all _
theorem packetFetch (q : Fin 4) (hostErr : Bool) : Statement (.packetFetch q hostErr) := all _
theorem completionWrite (q : Fin 4) : Statement (.completionWrite q) := all _
theorem nop (tag : Byte) : Statement (.nop tag) := all _
theorem identify (tag : Byte) : Statement (.identify tag) := all _
theorem systemReset (tag : Byte) (ol : OptionLoad) : Statement (.systemReset tag ol) := all _
theorem frost (tag : Byte) : Statement (.frost tag) := all _
theorem setStrict (tag : Byte) (verified : Bool) : Statement (.setStrict tag verified) := all _
theorem setAnchor (tag : Byte) (verified : Bool) : Statement (.setAnchor tag verified) := all _
theorem jobStart (tag : Byte) (hostErr : Bool) : Statement (.jobStart tag hostErr) := all _
theorem pause (tag : Byte) : Statement (.pause tag) := all _
theorem resume (tag : Byte) : Statement (.resume tag) := all _
theorem abort (tag : Byte) : Statement (.abort tag) := all _
theorem libraryLoad (tag : Byte) (slot : Fin 16) (hostErr : Bool) : Statement (.libraryLoad tag slot hostErr) := all _
theorem compress (tag : Byte) (hostErr : Bool) : Statement (.compress tag hostErr) := all _
theorem regWrite (tag : Byte) : Statement (.regWrite tag) := all _
theorem regRead (tag : Byte) : Statement (.regRead tag) := all _
theorem tableLoad (tag : Byte) (hostErr : Bool) : Statement (.tableLoad tag hostErr) := all _
theorem tableCommit (tag : Byte) : Statement (.tableCommit tag) := all _
theorem tableRead (tag : Byte) : Statement (.tableRead tag) := all _
theorem laneCal (tag : Byte) : Statement (.laneCal tag) := all _
theorem laneRetrain (tag : Byte) : Statement (.laneRetrain tag) := all _
theorem rillForce (tag : Byte) : Statement (.rillForce tag) := all _
theorem stuckAck (tag : Byte) : Statement (.stuckAck tag) := all _
theorem headRestore (tag : Byte) : Statement (.headRestore tag) := all _
theorem move (tag : Byte) : Statement (.move tag) := all _
theorem moveSettled : Statement (.moveSettled) := all _
theorem layerGoto (tag : Byte) : Statement (.layerGoto tag) := all _
theorem motionStop (tag : Byte) : Statement (.motionStop tag) := all _
theorem memMarkClear (tag : Byte) : Statement (.memMarkClear tag) := all _
theorem pageRetire (tag : Byte) : Statement (.pageRetire tag) := all _
theorem dmaRun (tag : Byte) : Statement (.dmaRun tag) := all _
theorem checkRun (tag : Byte) : Statement (.checkRun tag) := all _
theorem todSet (tag : Byte) : Statement (.todSet tag) := all _
theorem ptpStep (tag : Byte) : Statement (.ptpStep tag) := all _
theorem serverSet (tag : Byte) : Statement (.serverSet tag) := all _
theorem setColumn (tag : Byte) (verified : Bool) : Statement (.setColumn tag verified) := all _
theorem meshRetrain (tag : Byte) : Statement (.meshRetrain tag) := all _
theorem logRead (tag : Byte) : Statement (.logRead tag) := all _
theorem counterSnapshot (tag : Byte) : Statement (.counterSnapshot tag) := all _
theorem blockReset (tag : Byte) : Statement (.blockReset tag) := all _
theorem passportPoll (acknowledged : Bool) : Statement (.passportPoll acknowledged) := all _
theorem passportResponse (bytes : List Byte) : Statement (.passportResponse bytes) := all _
theorem passportRetry : Statement (.passportRetry) := all _
theorem runInStart : Statement (.runInStart) := all _
theorem encoderEdge (ch : Fin 6) (a b : InputLevel) : Statement (.encoderEdge ch a b) := all _
theorem strobeRise : Statement (.strobeRise) := all _
theorem strobeFall : Statement (.strobeFall) := all _
theorem stitchStopHeld : Statement (.stitchStopHeld) := all _
theorem abortComplete : Statement (.abortComplete) := all _
theorem passEnd : Statement (.passEnd) := all _
theorem layerReady (input : InputLevel) : Statement (.layerReady input) := all _
theorem motLayerGo (value : Word) : Statement (.motLayerGo value) := all _
theorem layerMoveComplete (k : Fin 2) : Statement (.layerMoveComplete k) := all _
theorem servoBoundary : Statement (.servoBoundary) := all _
theorem backupComplete : Statement (.backupComplete) := all _
theorem indexLatch (z : ZLevel) : Statement (.indexLatch z) := all _
theorem probeLatch (p : Fin 2) (input : InputLevel) : Statement (.probeLatch p input) := all _
theorem headLos (ch : Fin 6) : Statement (.headLos ch) := all _
theorem headDivergence (yAxis : Bool) : Statement (.headDivergence yAxis) := all _
theorem headFail (value : Word) : Statement (.headFail value) := all _
theorem restore (value : Word) : Statement (.restore value) := all _
theorem timeCompareArm (k : Fin 4) (value : Word) : Statement (.timeCompareArm k value) := all _
theorem timeCompareFire (k : Fin 4) : Statement (.timeCompareFire k) := all _
theorem positionCompareArm (k : Fin 4) (value : Word) : Statement (.positionCompareArm k value) := all _
theorem flsCommit (value : Word) : Statement (.flsCommit value) := all _
theorem beamPermitFall (lowNs : Nat) : Statement (.beamPermitFall lowNs) := all _
theorem beamPermitRise : Statement (.beamPermitRise) := all _
theorem sineTableCommit (value : Word) : Statement (.sineTableCommit value) := all _
theorem layerAxisGoto (k : Fin 2) (value : Word) : Statement (.layerAxisGoto k value) := all _
theorem streamOpen (slot : Fin 16) (raster : Bool) : Statement (.streamOpen slot raster) := all _
theorem blockFetched (slot : Fin 16) (srcErr : Bool) : Statement (.blockFetched slot srcErr) := all _
theorem decodeStart (slot : Fin 16) (dec : Fin 8) : Statement (.decodeStart slot dec) := all _
theorem blockDecoded (dec : Fin 8) (parityError : Bool) : Statement (.blockDecoded dec parityError) := all _
theorem blockRelease (slot : Fin 16) : Statement (.blockRelease slot) := all _
theorem compressBlock (e : Fin 2) (srcErr : Bool) : Statement (.compressBlock e srcErr) := all _
theorem engineContinue (e : Fin 2) : Statement (.engineContinue e) := all _
theorem compressComplete (e : Fin 2) : Statement (.compressComplete e) := all _
theorem spillUsedRelease (n : Fin 16) (value : Word) : Statement (.spillUsedRelease n value) := all _
theorem cascadeRecord (engine : Fin 16) (raster : Bool) (engineError : Bool) : Statement (.cascadeRecord engine raster engineError) := all _
theorem tallyResume : Statement (.tallyResume) := all _
theorem tallyPassComplete : Statement (.tallyPassComplete) := all _
theorem rasterPassStart : Statement (.rasterPassStart) := all _
theorem poolCorrectionStart : Statement (.poolCorrectionStart) := all _
theorem poolCorrectionComplete (ringError : Bool) (stripError : Bool) : Statement (.poolCorrectionComplete ringError stripError) := all _
theorem poolCommit (value : Word) : Statement (.poolCommit value) := all _
theorem tileRasterStart (basin : Fin 32) : Statement (.tileRasterStart basin) := all _
theorem tileCheck (basin : Fin 32) (upset : Int) (tallyErr : Bool) : Statement (.tileCheck basin upset tallyErr) := all _
theorem tileReTally (band tile : Nat) (upset : Int) : Statement (.tileReTally band tile upset) := all _
theorem bandCommit : Statement (.bandCommit) := all _
theorem readerRowWrite (uncorrectable : Bool) : Statement (.readerRowWrite uncorrectable) := all _
theorem cisternRefillComplete (line : Nat) (uncorrectable : Bool) : Statement (.cisternRefillComplete line uncorrectable) := all _
theorem cisternScrub (errors : List CellError) : Statement (.cisternScrub errors) := all _
theorem rillFlashStart (slot : Fin 256) (cells : List CellError) (fault : Option RillFault) : Statement (.rillFlashStart slot cells fault) := all _
theorem spareLoadDone (g : Fin 8) : Statement (.spareLoadDone g) := all _
theorem rillFlashDone (slot : Fin 256) : Statement (.rillFlashDone slot) := all _
theorem rillBoundary : Statement (.rillBoundary) := all _
theorem rilCommit (value : Word) : Statement (.rilCommit value) := all _
theorem commitCheckDone : Statement (.commitCheckDone) := all _
theorem rilGrpForce (g : Fin 8) (value : Word) : Statement (.rilGrpForce g value) := all _
theorem rilStuckAck (value : Word) : Statement (.rilStuckAck value) := all _
theorem frameSend (lane : Fin 72) : Statement (.frameSend lane) := all _
theorem ackBlock (lane : Fin 72) (block : RxBlock) : Statement (.ackBlock lane block) := all _
theorem ackTimeout (group : Fin 64) (fseq : BitVec 36) : Statement (.ackTimeout group fseq) := all _
theorem replaySend (lane : Fin 72) : Statement (.replaySend lane) := all _
theorem flushTimeout (group : Fin 64) : Statement (.flushTimeout group) := all _
theorem statusBlock (lane : Fin 72) (block : RxBlock) : Statement (.statusBlock lane block) := all _
theorem statusStale : Statement (.statusStale) := all _
theorem marker (lane : Fin 72) (idles : Nat) (codeword : Codeword) : Statement (.marker lane idles codeword) := all _
theorem los (lane : Fin 72) : Statement (.los lane) := all _
theorem lol (lane : Fin 72) : Statement (.lol lane) := all _
theorem laneRetrainAttempt (lane : Fin 72) : Statement (.laneRetrainAttempt lane) := all _
theorem laneTrainingDone (lane : Fin 72) (result : LaneTraining) : Statement (.laneTrainingDone lane result) := all _
theorem retrain (lane : Fin 72) : Statement (.retrain lane) := all _
theorem calNow (lane : Fin 72) : Statement (.calNow lane) := all _
theorem calibrationStart (lane : Fin 72) : Statement (.calibrationStart lane) := all _
theorem calibrationComplete (lane : Fin 72) (scan : TapScan) (eyes : EyePair) : Statement (.calibrationComplete lane scan eyes) := all _
theorem loop (lane : Fin 72) (value : Word) : Statement (.loop lane value) := all _
theorem dramRequest (req : Requester) (la : BitVec 31) (access : DramAccess) (errors : List SymbolError) : Statement (.dramRequest req la access errors) := all _
theorem lineRecoveryDone (la : BitVec 31) (stillBad : Bool) : Statement (.lineRecoveryDone la stillBad) := all _
theorem refresh (ch : Fin 4) : Statement (.refresh ch) := all _
theorem mr4Read (ch : Fin 4) (hot : Bool) : Statement (.mr4Read ch hot) := all _
theorem selfRefreshEntry (ch : Fin 4) : Statement (.selfRefreshEntry ch) := all _
theorem channelTrainingDone (ch : Fin 4) (result : ChannelTraining) : Statement (.channelTrainingDone ch result) := all _
theorem retuneCheck (ch : Fin 4) (drift64 : Nat) : Statement (.retuneCheck ch drift64) := all _
theorem retuneDone (ch : Fin 4) : Statement (.retuneDone ch) := all _
theorem fillComplete : Statement (.fillComplete) := all _
theorem patrolScrub (errors : List SymbolError) : Statement (.patrolScrub errors) := all _
theorem memLogClear (value : Word) : Statement (.memLogClear value) := all _
theorem dmaGo (n : Fin 32) (value : Word) : Statement (.dmaGo n value) := all _
theorem dmaPoke (n : Fin 32) (value : Word) : Statement (.dmaPoke n value) := all _
theorem dmaStop (n : Fin 32) (value : Word) : Statement (.dmaStop n value) := all _
theorem dmaContinue (n : Fin 32) (value : Word) : Statement (.dmaContinue n value) := all _
theorem dmaAbort (n : Fin 32) (value : Word) : Statement (.dmaAbort n value) := all _
theorem dmaEnd (n : Fin 32) (hostErr : Bool) : Statement (.dmaEnd n hostErr) := all _
theorem dmaMove (n : Fin 32) (beats : MoveBeats) : Statement (.dmaMove n beats) := all _
theorem dmaHostTimeout (n : Fin 32) : Statement (.dmaHostTimeout n) := all _
theorem dmaLoop (n : Fin 32) : Statement (.dmaLoop n) := all _
theorem dmaWait (n : Fin 32) : Statement (.dmaWait n) := all _
theorem dmaWaitEnd (n : Fin 32) : Statement (.dmaWaitEnd n) := all _
theorem dmaSignal (n : Fin 32) : Statement (.dmaSignal n) := all _
theorem dmaLink (n : Fin 32) : Statement (.dmaLink n) := all _
theorem dmaFlagSet (value : Word) : Statement (.dmaFlagSet value) := all _
theorem checkStart (u : Fin 4) (value : Word) : Statement (.checkStart u value) := all _
theorem checkAbort (u : Fin 4) (value : Word) : Statement (.checkAbort u value) := all _
theorem checkDone (u : Fin 4) : Statement (.checkDone u) := all _
theorem linkChange (p : Fin 2) (up : Bool) (los : Bool) : Statement (.linkChange p up los) := all _
theorem ethFrame (p : Fin 2) (frame : List Byte) : Statement (.ethFrame p frame) := all _
theorem arpRefresh (p : Fin 2) : Statement (.arpRefresh p) := all _
theorem portCtrl (p : Fin 2) (value : Word) : Statement (.portCtrl p value) := all _
theorem ndfReq (slot : Fin 16) : Statement (.ndfReq slot) := all _
theorem data (p : Fin 2) (payload : List Byte) : Statement (.data p payload) := all _
theorem err (p : Fin 2) (payload : List Byte) : Statement (.err p payload) := all _
theorem reqTmo (slot : Fin 16) (seq : Word) : Statement (.reqTmo slot seq) := all _
theorem gapTmo (slot : Fin 16) (seq : Word) : Statement (.gapTmo slot seq) := all _
theorem busyRetry (slot : Fin 16) (seq : Word) : Statement (.busyRetry slot seq) := all _
theorem announce (hdr : PtpHeader) (info : AnnounceInfo) : Statement (.announce hdr info) := all _
theorem announceReceiptTimeout : Statement (.announceReceiptTimeout) := all _
theorem ptpSync (hdr : PtpHeader) (twoStep : Bool) (t1 : Int) (macRx : Int) (correction : Int) (seqId : Nat) : Statement (.ptpSync hdr twoStep t1 macRx correction seqId) := all _
theorem followUp (hdr : PtpHeader) (t1 : Int) (correction : Int) (seqId : Nat) : Statement (.followUp hdr t1 correction seqId) := all _
theorem delayReq (macTx : Int) : Statement (.delayReq macTx) := all _
theorem delayResp (hdr : PtpHeader) (t4 : Int) (correction : Int) (seqId : Nat) (logInterval : Int) : Statement (.delayResp hdr t4 correction seqId logInterval) := all _
theorem holdover : Statement (.holdover) := all _
theorem stepNow : Statement (.stepNow) := all _
theorem set : Statement (.set) := all _
theorem ptpCfg (value : Word) : Statement (.ptpCfg value) := all _
theorem join (origin : Fin 4 × MeshRoute) (words : MeshWords) : Statement (.join origin words) := all _
theorem joinTimeout : Statement (.joinTimeout) := all _
theorem start (msg : MeshMsg) : Statement (.start msg) := all _
theorem report (origin : Fin 4 × MeshRoute) (words : MeshWords) : Statement (.report origin words) := all _
theorem run (port : Fin 4) (route : MeshRoute) (mseq : Word) (body : Vector Word 14) : Statement (.run port route mseq body) := all _
theorem stopReq (port : Fin 4) (route : MeshRoute) (words : MeshWords) : Statement (.stopReq port route words) := all _
theorem stop (port : Fin 4) (route : MeshRoute) (words : MeshWords) : Statement (.stop port route words) := all _
theorem rest (msg : MeshMsg) : Statement (.rest msg) := all _
theorem meshResume (msg : MeshMsg) : Statement (.meshResume msg) := all _
theorem resumeAck (origin : Fin 4 × MeshRoute) (words : MeshWords) : Statement (.resumeAck origin words) := all _
theorem meshAbort (msg : MeshMsg) : Statement (.meshAbort msg) := all _
theorem meshEnd (msg : MeshMsg) : Statement (.meshEnd msg) := all _
theorem meshPause (msg : MeshMsg) : Statement (.meshPause msg) := all _
theorem time (port : Fin 4) (route : MeshRoute) (mseq : Word) (body : Vector Word 14) : Statement (.time port route mseq body) := all _
theorem timeSend : Statement (.timeSend) := all _
theorem timeReq (msg : MeshMsg) : Statement (.timeReq msg) := all _
theorem timeResp (port : Fin 4) (route : MeshRoute) (words : MeshWords) : Statement (.timeResp port route words) := all _
theorem evt (origin : Fin 4 × MeshRoute) (words : MeshWords) : Statement (.evt origin words) := all _
theorem beat (msg : MeshMsg) : Statement (.beat msg) := all _
theorem meshPortDown (p : Fin 4) (cause : Fin 3) : Statement (.meshPortDown p cause) := all _
theorem meshPortRetrainTimer (p : Fin 4) : Statement (.meshPortRetrainTimer p) := all _
theorem meshPortUp (p : Fin 4) (peer : Fin 16) : Statement (.meshPortUp p peer) := all _
theorem mshPortRetrain (p : Fin 4) (value : Word) : Statement (.mshPortRetrain p value) := all _
theorem cutOff : Statement (.cutOff) := all _
theorem workerLost (c : Fin 16) : Statement (.workerLost c) := all _
theorem lockstepMismatch (pair : Fin 2) (ol : OptionLoad) : Statement (.lockstepMismatch pair ol) := all _
theorem takeoverComplete : Statement (.takeoverComplete) := all _
theorem retestComplete (pair : Fin 2) (passed : Bool) : Statement (.retestComplete pair passed) := all _
theorem standbyLoadDone (pair : Fin 2) (loaded : Bool) : Statement (.standbyLoadDone pair loaded) := all _
theorem errlogClear (value : Word) : Statement (.errlogClear value) := all _
theorem evtDoorbell (value : Word) : Statement (.evtDoorbell value) := all _
theorem coreDelivery : Statement (.coreDelivery) := all _
theorem serviceEnd : Statement (.serviceEnd) := all _
theorem moderationTimer (v : Fin 64) : Statement (.moderationTimer v) := all _
theorem evtHold (value : Word) : Statement (.evtHold value) := all _
theorem pmeTurnOff : Statement (.pmeTurnOff) := all _
theorem frostCommit : Statement (.frostCommit) := all _
theorem wake (source : Fin 8) (widthNs : Nat) : Statement (.wake source widthNs) := all _
theorem thaw (value : Word) : Statement (.thaw value) := all _
theorem thawComplete : Statement (.thawComplete) := all _
theorem monHelp : Statement (.monHelp) := all _
theorem monId : Statement (.monId) := all _
theorem monState : Statement (.monState) := all _
theorem monRd (off : Nat) (n : Nat) : Statement (.monRd off n) := all _
theorem monLog : Statement (.monLog) := all _
theorem monEvt : Statement (.monEvt) := all _
theorem monCtr (b : Nat) : Statement (.monCtr b) := all _
theorem monBaud (rate : Nat) : Statement (.monBaud rate) := all _
theorem monLock : Statement (.monLock) := all _
theorem monUnlock (level : Nat) : Statement (.monUnlock level) := all _
theorem monWr (off : Nat) (value : Nat) : Statement (.monWr off value) := all _
theorem monRing (sector : Nat) : Statement (.monRing sector) := all _
theorem monThaw : Statement (.monThaw) := all _
theorem monDr (la : Nat) (n : Nat) : Statement (.monDr la n) := all _
theorem monDw (g : Nat) (w : Vector Nat 4) : Statement (.monDw g w) := all _
theorem monReset (ol : OptionLoad) : Statement (.monReset ol) := all _
theorem monBlkreset (island : Nat) : Statement (.monBlkreset island) := all _
theorem monitorBreak (lowMs : Nat) : Statement (.monitorBreak lowMs) := all _
theorem monitorIdleTimeout : Statement (.monitorIdleTimeout) := all _
theorem pmcSnap (value : Word) : Statement (.pmcSnap value) := all _
theorem pmcClear (value : Word) : Statement (.pmcClear value) := all _
theorem pmcFreeze (value : Word) : Statement (.pmcFreeze value) := all _
theorem psbClear (value : Word) : Statement (.psbClear value) := all _
theorem hwSample (reading : HwReading) : Statement (.hwSample reading) := all _
theorem smbusIdentify (pecOk : Bool) : Statement (.smbusIdentify pecOk) := all _
theorem smbusRead (off : Dword) (pecOk : Bool) : Statement (.smbusRead off pecOk) := all _
theorem headLosClear (ch : Fin 6) : Statement (.headLosClear ch) := all _
theorem blockCrcError (lane : Fin 72) (block : RxBlock) : Statement (.blockCrcError lane block) := all _
theorem meshBlockErr (p : Fin 4) (codeword : Codeword) : Statement (.meshBlockErr p codeword) := all _
theorem msixUnmask (what : Option (Fin 64)) : Statement (.msixUnmask what) := all _
theorem pcieL0Entry : Statement (.pcieL0Entry) := all _
theorem monBadLine (length : Nat) : Statement (.monBadLine length) := all _

end Sys2Proof.Laws.Unspelled
end

