-- ==== Sys2Proof/Tests/Slice0.lean ====
section
/-! SUPPORT. Tests: examples of the spec, ill-formed commands, and for each statement witnesses of its hypotheses. -/

open Sys2Proof Sys2Proof.Machine

namespace Sys2Proof.Tests

set_option Elab.async false
set_option linter.unusedVariables false

/-- The module after option load with every island released on its good clock, in READY. -/
def upDev : Device :=
  { powered := true
    regs := [(SYS_STATE, 2), (RST_CLK_GOOD, 0x3FFFF), (RST_CLK_GOOD + 4, 0xF), (RST_RELEASED, 0x3FFFF), (RST_RELEASED + 4, 0xF)]
    atTick := [(SYS_STATE, 2), (RST_CLK_GOOD, 0x3FFFF), (RST_CLK_GOOD + 4, 0xF), (RST_RELEASED, 0x3FFFF), (RST_RELEASED + 4, 0xF)] }

theorem finds_at (d : Device) (h : (d.powered && d.out.isEmpty) = true) : State.finds { dev := d } d := by
  cases d
  simp_all [State.finds]

/-- An option load that finds everything in order. -/
def goodLoad : OptionLoad :=
  { fusePairs := [true], fwOk := true, validA := none, validB := none, tornSlot := none, micros := 900 }

/-- The state that an outcome goes on with. -/
def nextOf (o : Host.Outcome State Fault Refusal) : State := match o with | .next t => t | _ => {}

/-- The module with registers written in turn. -/
def regsAt (d : Device) (l : List (Nat × Nat)) : Device := l.foldl (fun d p => d.setReg p.1 p.2) d

/-- The module at a tick. -/
def clockAt (d : Device) (t : Nat) : Device := { d with clock := t }

/-- The module with its memory trained and filled. -/
def memDev : Device :=
  regsAt upDev [(MEM_STATUS, 0x20000), (MEM_CH_STATE 0, 0x10000), (MEM_CH_STATE 1, 0x10000), (MEM_CH_STATE 2, 0x10000), (MEM_CH_STATE 3, 0x10000)]

/-- What the monitor of an island sees of a good clock. -/
def clockOf (k : Nat) : ClockView := { locked := true, counts := List.replicate 16 (windowClocks k) }

/-- The module with one command of opcode `op` in flight under tag 255. -/
def withCmd (d : Device) (op : Nat) (ps : List Nat) (ok : Bool := false) : Device :=
  { d with ulp := { d.ulp with flights := [{ tag := 255, sq := 3, op := op, order := 0, cls := 0, deferOk := ok, fence := false, params := ps }] } }

/-- That command. -/
def cmd (op : Nat) (ps : List Nat) (ok : Bool := false) : Flight :=
  { tag := 255, sq := 3, op := op, order := 0, cls := 0, deferOk := ok, fence := false, params := ps }

/-- A job of one stripe and one pass. -/
def someJob : Job :=
  { bx := 0, byy := 0, adv := 1, rows := 1, expo := 0, width := 64, window := 1, lead := 0, passes := 1, bidir := false, pixelPm := 0,
    layers := 1, originX := 0, originY := 0, tag := none,
    stripes := [{ x0 := 0, y0 := 0, len := 64, tallyOnly := false, source := .spool 0, streamId := 0 }] }

/-- The module set for a job: motion limits, the beam permit high, a current STATUS, a stripe list at 0x1000 and the extent list of its
stream at 0x2000. -/
def jobDev : Device :=
  { upDev with
    hostMem := [(0x1003, 0x40), (0x100B, 0x40), (0x1011, 1), (0x1019, 0x20), (0x2001, 0x30), (0x2008, 1)]
    regs := upDev.regs ++ [(LNE_ZONE_STATUS, 0), (FLS_STATUS, 0x10000), (MOT_ACC, 0x20000), (MOT_JERK, 0x20000), (MOT_STOP_ACC, 0x20000),
      (MOT_STOP_JERK, 0x20000)] }

/-- The module while it writes that job, in a phase. -/
def wrDev (phase : Nat) : Device := { (upDev.setState 3).setPhase phase with job := some someJob }

/-- The same with its memory. -/
def memWr (phase : Nat) : Device := { (memDev.setState 3).setPhase phase with job := some someJob }

/-- Frames of all 64 groups for flash 0, committed. -/
def flash0 : List Frame :=
  (List.range 64).map (fun g => { group := g, n := 0, fseq := 0, head := 0, payload := [], sum := 0, lane := g, crc := 0, endTick := 0, state := .committed true })

/-- A stored stream block of one word group, SEQ 0 of stream 5, with its LAST mark. -/
def storedBlock : List Nat := [0x2D4E1, 0x12000, 5, 0, 1, 1, 1, 0, 1, 2, 3, 4, 162414, 1781, 0, 0x12B1E]

/-- A block that has passed its header checks, at a stage. -/
def blockAt (st : BStage) : Block := { seq := 0, words := storedBlock, last := false, tick := 0, stage := st }

/-- A dose class record. -/
def someRec : LRec := { body := .doseClass 3, type := 4, index := 0, word := 0 }

/-- The job with a stripe of 512 rows, and its first raster pass. -/
def longJob : Job :=
  { someJob with stripes := [{ x0 := 0, y0 := 0, len := 512, tallyOnly := false, source := .spool 0, streamId := 0 }] }

/-- A tile of that pass. -/
def someTile (st : TState) : Tile := { band := 0, tile := 0, state := st, basin := 31 }

theorem ok_of {ε α : Type} [DecidableEq α] (x : Except ε α) (a : α) (h : (match x with | .ok b => decide (b = a) | .error _ => false) = true) :
    x = .ok a := by
  cases x <;> simp_all

theorem err_of {ε α : Type} [DecidableEq ε] (x : Except ε α) (a : ε) (h : (match x with | .error b => decide (b = a) | .ok _ => false) = true) :
    x = .error a := by
  cases x <;> simp_all

theorem some_ok_of {ε α : Type} [DecidableEq α] (x : Option (Except ε α)) (a : α)
    (h : (match x with | some (.ok b) => decide (b = a) | _ => false) = true) : x = some (.ok a) := by
  cases x with
  | none => simp_all
  | some y => cases y <;> simp_all

/-- The module with channel 31 of the DMA engine running on a fetched instruction. -/
def dmaDev (ws : List Nat) : Device := (memDev.put (fDmaState 31) 1).mapChan 31 (fun c => { c with instr := some ws })

/-- The module as a PTP ordinary clock with both links up, in a state of R391, and a header that it accepts. -/
def ptpDev (st : Nat) : Device :=
  { (((upDev.setReg PTP_CFG 0x20000).putFlag (fLink 0) true).putFlag (fLink 1) true).put fPtpState st with
    clock := 100000000000
    ptp := { best := some { info := { gmIdentity := 1, priority1 := 1, clockClass := 6, accuracy := 1, variance := 1, priority2 := 1, stepsRemoved := 0, sender := 1, logInterval := 0 }, port := 0, heard := 0 } } }
def someHdr : PtpHeader := { version := 2, minor := 1, sdo := 0, domain := 0, transport := 0, port := 0, sender := 1 }
def someMaster : Master :=
  { info := { gmIdentity := 1, priority1 := 1, clockClass := 6, accuracy := 1, variance := 1, priority2 := 1, stepsRemoved := 0, sender := 1, logInterval := 0 }, port := 0, heard := 0 }

/-- A fetch of block 0x3FFFF of slot 15. -/
def someFetch : NdfFetch := { slot := 15, seq := 0x3FFFF, attempt := 0, port := 0, size := 1024, reqAt := 0 }

/-- Two columns: the manager is column 0, a worker column 1. -/
def meshDev (col : Nat) : Device := (upDev.put fColumns 1).put fColumn col

/-- The same with every port UP. -/
def upMesh (col : Nat) : Device := (List.range 4).foldl (fun d p => d.setPort p portUP) (meshDev col)

/-- A message on ring B from another column. -/
def msgOf (dst src : Nat) : MeshMsg :=
  { port := 2, src := Fin.ofNat 16 src, dst := Fin.ofNat 32 dst, ring := true, mseq := 0x3FFFF, body := Vector.replicate 14 0 }

/-- The module with the link of port 1 up, at an address. -/
def ethDev : Device := ((upDev.setReg (ETH_P_IPV4 1) 5).putFlag (fLink 1) true).putFlag (fPortEn 1) true

/-- An ARP request for that address, of address 7 at the MAC address 8. -/
def arpFrame : List Byte :=
  [0xFF, 0xFF, 0xFF, 0xFF, 0xFF, 0xFF, 0x00, 0x00, 0x00, 0x00, 0x00, 0x08, 0x08, 0x06, 0x00, 0x01, 0x08, 0x00, 0x06, 0x04, 0x00, 0x01, 0x00, 0x00, 0x00, 0x00, 0x00, 0x08, 0x00, 0x00, 0x00, 0x07, 0x00, 0x00, 0x00, 0x00, 0x00, 0x00, 0x00, 0x05] ++ List.replicate 20 0 ++ [0xAA, 0x15, 0xFA, 0x6B]

/-- A frame for the MAC address of another station. -/
def strangeFrame : List Byte :=
  [0x11, 0x22, 0x33, 0x44, 0x55, 0x66, 0x00, 0x00, 0x00, 0x00, 0x00, 0x08, 0x08] ++ List.replicate 47 0 ++ [0x24, 0x04, 0x78, 0xB7]

/-- A training that found everything in order. -/
def someTraining : LaneTraining :=
  { locked := true, invertRx := false, invertTx := false, port := 71, depth := 16, arrival := 0, scan := Vector.replicate 4 (Vector.replicate 9 0),
    eyeFar := 0x3FFFF, eyeNear := 0x3FFFF }

/-- A message block of a lane or mesh port: its low bits and the two halves of its CRC (R211). -/
def blockOf (low crcLo crcHi : Nat) : BitVec 5140 :=
  BitVec.ofNat 5140 (low + (crcLo + crcHi <<< 18) <<< 5104)

/-- The first offset behind a row of the map. -/
def rowEnd (r : RegRow) : Nat :=
  r.base + (if r.count == 1 then (if r.count2 == 1 then 4 * r.dws.length else r.stride2 * r.count2) else r.stride * r.count)

/-- The row lies before an offset. -/
def endsBefore (off : Nat) (r : RegRow) : Bool := decide (0 < r.stride) && decide (0 < r.stride2) && decide (rowEnd r ≤ off)

theorem locate_past (r : RegRow) (off : Nat) (h : endsBefore off r = true) : r.locate off = none := by
  simp only [endsBefore, rowEnd, Bool.and_eq_true, decide_eq_true_eq] at h
  obtain ⟨⟨hs, hs2⟩, h⟩ := h
  simp only [RegRow.locate]
  split
  · rfl
  · rw [if_neg]
    simp only [Bool.and_eq_true, decide_eq_true_eq, not_and, Nat.not_lt]
    by_cases hc : r.count == 1
    · by_cases hc2 : r.count2 == 1
      · simp [hc, hc2] at h ⊢; intros; omega
      · simp [hc, hc2] at h ⊢
        intro _ hk
        have := (Nat.div_lt_iff_lt_mul hs2).1 hk
        rw [Nat.mul_comm] at this; omega
    · simp [hc] at h ⊢
      intro hk
      have := (Nat.div_lt_iff_lt_mul hs).1 hk
      rw [Nat.mul_comm] at this; omega

theorem locate_behind (l rest : List RegRow) (off k : Nat) (hk : k ≤ off) (h : l.all (endsBefore k) = true) :
    (l ++ rest).findSome? (fun r => r.locate off) = rest.findSome? (fun r => r.locate off) := by
  induction l with
  | nil => rfl
  | cons r l ih =>
    simp only [List.all_cons, Bool.and_eq_true] at h
    have hr : endsBefore off r = true := by
      have := h.1
      simp only [endsBefore, Bool.and_eq_true, decide_eq_true_eq] at this ⊢
      omega
    simp [locate_past r off hr, ih h.2]

/-- The place of an element of the rills' arrays in the map. -/
theorem locate_rills (i : Nat) :
    (i < 256 → (locate (RIL_GRP_SLOT i)).map (fun l => (l.row.base, l.elem)) = some (RIL_GRP_SLOT 0, i)) ∧
      (i < 2048 → (locate (RIL_MASK i)).map (fun l => (l.row.base, l.elem)) = some (RIL_MASK 0, i)) ∧
      (i < 2048 → (locate (RIL_MASK_ACT i)).map (fun l => (l.row.base, l.elem)) = some (RIL_MASK_ACT 0, i)) := by
  have hr : ∀ n, rowsRIL = rowsRIL.take n ++ rowsRIL.drop n := fun n => (List.take_append_drop n rowsRIL).symm
  have h1 : 4 * i / 4 = i := by omega
  have h2 : 4 * i - i * 4 = 0 := by omega
  refine ⟨fun h => ?_, fun h => ?_, fun h => ?_⟩
  · have hb : (0x900200 + 4 * i) / 0x100000 = 9 := by omega
    simp only [RIL_GRP_SLOT, locate, blockRows, hb]
    rw [hr 24, locate_behind _ _ _ 0x900200 (by omega) (by decide +kernel)]
    simp [rowsRIL, rowsRIL0, rowsRIL1, rowsRIL2, RegRow.locate, h, h1, h2]
  · have hb : (0x904000 + 4 * i) / 0x100000 = 9 := by omega
    simp only [RIL_MASK, locate, blockRows, hb]
    rw [hr 25, locate_behind _ _ _ 0x904000 (by omega) (by decide +kernel)]
    simp [rowsRIL, rowsRIL0, rowsRIL1, rowsRIL2, RegRow.locate, h, h1, h2]
  · have hb : (0x906000 + 4 * i) / 0x100000 = 9 := by omega
    simp only [RIL_MASK_ACT, locate, blockRows, hb]
    rw [hr 26, locate_behind _ _ _ 0x906000 (by omega) (by decide +kernel)]
    simp [rowsRIL, rowsRIL0, rowsRIL1, rowsRIL2, RegRow.locate, h, h1, h2]

theorem reset_at (off b i : Nat) (h : (locate off).map (fun l => (l.row.base, l.elem)) = some (b, i)) :
    (b = RIL_GRP_SLOT 0 → regReset off = i % 32) ∧ (b = RIL_MASK 0 ∨ b = RIL_MASK_ACT 0 → regReset off = if i < 256 then 256 else 0) := by
  obtain ⟨l, hl, h⟩ := Option.map_eq_some_iff.1 h
  obtain ⟨rfl, rfl⟩ := Prod.mk.inj h
  simp only [regReset, hl]
  constructor
  · intro e
    rw [if_neg (by rw [e]; decide), if_neg (by rw [e]; decide), if_pos e]
  · intro e
    obtain e | e := e
    · rw [if_neg (by rw [e]; decide), if_neg (by rw [e]; decide), if_neg (by rw [e]; decide), if_pos e]
    · rw [if_neg (by rw [e]; decide), if_neg (by rw [e]; decide), if_neg (by rw [e]; decide), if_neg (by rw [e]; decide), if_pos e]

/-- The reset values of the rills' arrays: slot s at rill s % 32, and whole masks for the first pass alone. -/
theorem reset_rills (i : Nat) :
    (i < 256 → regReset (RIL_GRP_SLOT i) = i % 32) ∧ (i < 2048 → regReset (RIL_MASK i) = if i < 256 then 256 else 0) ∧
      (i < 2048 → regReset (RIL_MASK_ACT i) = if i < 256 then 256 else 0) :=
  ⟨fun h => (reset_at _ _ _ ((locate_rills i).1 h)).1 rfl, fun h => (reset_at _ _ _ ((locate_rills i).2.1 h)).2 (.inl rfl),
   fun h => (reset_at _ _ _ ((locate_rills i).2.2 h)).2 (.inr rfl)⟩

/-- No register of the rills' arrays is listed. -/
def rillsAtReset (d : Device) : Bool := d.regs.all (fun p => decide (p.1 < 0x900200) || decide (0x980000 ≤ p.1))

theorem reg_unlisted (d : Device) (off : Nat) (h : rillsAtReset d = true) (h1 : 0x900200 ≤ off) (h2 : off < 0x980000) :
    d.reg off = regReset off % 262144 := by
  have : cellFind d.regs off = none := by
    unfold rillsAtReset at h
    generalize d.regs = l at h
    induction l with
    | nil => rfl
    | cons p l ih =>
      obtain ⟨k, v⟩ := p
      simp only [List.all_cons, Bool.and_eq_true, Bool.or_eq_true, decide_eq_true_eq] at h
      rw [cellFind, if_neg (by omega)]
      exact ih (by simpa using h.2)
  simp [Device.reg, this, BitVec.toNat_ofNat]

theorem masks_inRange (d : Device) (h : rillsAtReset d = true) : d.maskRange RIL_MASK_ACT = none ∧ d.maskRange RIL_MASK = none := by
  constructor <;> simp only [Device.maskRange, List.find?_eq_none, List.mem_range, decide_eq_true_eq] <;> intro i hi
  · rw [reg_unlisted d _ h (by simp only [RIL_MASK_ACT]; omega) (by simp only [RIL_MASK_ACT]; omega), (reset_rills i).2.2 hi]
    split <;> omega
  · rw [reg_unlisted d _ h (by simp only [RIL_MASK]; omega) (by simp only [RIL_MASK]; omega), (reset_rills i).2.1 hi]
    split <;> omega

theorem masks_whole (d : Device) (h : rillsAtReset d = true) : d.maskSum RIL_MASK_ACT 1 = none := by
  simp only [Device.maskSum, List.find?_eq_none, List.mem_range]
  intro i hi
  have hs : (List.range 1).map (fun p => d.reg (RIL_MASK_ACT (256 * p + i)) % 512) = [d.reg (RIL_MASK_ACT i) % 512] := by
    rw [show List.range 1 = [0] from rfl]; simp
  rw [hs, reg_unlisted d _ h (by simp only [RIL_MASK_ACT]; omega) (by simp only [RIL_MASK_ACT]; omega), (reset_rills i).2.2 (by omega)]
  simp [hi]

theorem slots_served (d : Device) (bt : List (Nat × Word)) (j : Job) (h : rillsAtReset d = true) : d.slotFail bt j = none := by
  simp only [Device.slotFail, List.find?_eq_none, List.mem_range]
  intro i hi
  rw [reg_unlisted d _ h (by simp only [RIL_GRP_SLOT]; omega) (by simp only [RIL_GRP_SLOT]; omega), (reset_rills i).1 hi]
  have : (i % 32 % 262144 % 64 == 63) = false := beq_eq_false_iff_ne.2 (by omega)
  rw [this]
  exact Bool.false_ne_true

/-- The rill check passes on a module whose beam table and masks are at reset, for a job of one pass. -/
theorem rill_check_passes (d : Device) (j : Job) (h : rillsAtReset d = true) (hb : d.ril.active = []) (hs : d.strict = false) (hp : j.passes = 1)
    (ho : d.offsetFail [] (RIL_OFFS_ACT 0) (RIL_OFFS_ACT 1) j = none) : d.rillCheck j (fun _ => false) = none := by
  simp [Device.rillCheck, hb, hs, ho, hp, shareFail, markedSets, (masks_inRange d h).1, masks_whole d h, slots_served d [] j h, sortBy]

/-! ## Examples of the spec -/

/-- The example of R5: four words as nine bytes. -/
theorem test_word_group : leBytes 9 (groupVal [1, 2, 3, 0x3FFFF]) = [0x01, 0x00, 0x08, 0x00, 0x30, 0x00, 0xC0, 0xFF, 0xFF] := by decide +kernel

/-- The LZ example of chapter Layout streams: A B A B A B C D C D C D, with A to D as 10 to 13. -/
theorem test_lz_example :
    decodeBlock ([0x2D4E1, 0x14000, 0, 0, 3, 3, 1, 0] ++ [0x00001, 10, 11, 0x10100, 2, 1, 12, 13, 0x20100, 0x30000, 0, 0]) =
      .ok [10, 11, 10, 11, 10, 11, 12, 13, 12, 13, 12, 13] :=
  ok_of _ _ (by decide +kernel)

/-- The same payload with the REPEAT before the MATCH is malformed. -/
theorem test_lz_repeat_first :
    (match decodeBlock ([0x2D4E1, 0x14000, 0, 0, 1, 1, 1, 0] ++ [0x20100, 0x30000, 0, 0]) with
      | .ok _ => 0
      | .error e => e.code) = eLZ_DIST := by decide +kernel

/-- The flashes of the worked stripe of chapter How the module writes, and its last one. -/
theorem test_flashes : ({ someJob with bx := 16, byy := 16, rows := 512 } : Job).flashes 2000000 = 2008176 := by decide +kernel

/-- The triangle of chapter Geometry and rasterisation, with its area T = 768 × 512 / 2 and its crossing count K = 7. -/
def triangle : List ((Int × Int) × (Int × Int)) :=
  [((0, 0), (768 * fu, 0)), ((768 * fu, 0), (0, 512 * fu)), ((0, 512 * fu), (0, 0))]

theorem test_triangle_area : shoelace triangle = 2 * 196608 * fu * fu := by decide +kernel

theorem test_triangle_crossings : (triangle.map (rowCrossings 0)).sum = 7 := by decide +kernel

/-- The interpolation example of chapter Dose correction. -/
theorem test_q_pixel :
    qPixel 64 (0, 100, 0, 100) [((15, 1), 78643), ((16, 1), 79000), ((15, 2), 78000), ((16, 2), 78500)] 1000 100 = 78647 := by decide +kernel

/-- The pixel with a marker over one quarter in the worked correction: one rounding over both classes. -/
theorem test_dose_word :
    doseWord { layer := 0, stripe := 0, classes := [(65536, true), (65536, true), (65536, true), (81920, true), (65536, true), (49152, false)],
               factor := 65536, doseMax := 0x3FFFF } 78643 [(3, 65536), (5, 16384)] = (110592, false) := by decide +kernel

/-! ## Commands -/

/-- No row of the table has fields, so no word spells a command (the table's rows give no bits). -/
theorem test_no_word_spells_a_command : decodeTableWord 32 0x12345678 = none ∧ State.reset.withFetchWord 32 0 = State.reset := ⟨rfl, rfl⟩

/-- One ill-formed term for each check of WellFormed. -/
theorem test_ill_formed :
    [Instr.powerGood { load := goodLoad, supply := { lowMv := 2, highMv := 1, us := 0, rails := true } }, .inputOutOfRange { lowMv := 2, highMv := 1, us := 0, rails := true },
     .startUpComplete [.cascade 0, .cascade 0] 0, .registerWrite 2 0, .wideReadCapture 1, .readClear 3, .bar0AccessError true 0 0,
     .bar0AccessError true 8 4, .cisternRefillComplete cisternLines false, .cisternScrub [{ line := cisternLines, pair := 0, double := false }],
     .cisternScrub [{ line := 0, pair := 0, double := false }, { line := 0, pair := 0, double := true }],
     .rillFlashStart 0 [{ line := cisternLines, pair := 0, double := false }] none,
     .laneTrainingDone 0 { someTraining with port := 256 }, .laneTrainingDone 0 { someTraining with depth := 32 },
     .dramRequest .dma 0 (.writeWords [(5, 0), (5, 1)]) [], .dramRequest .dma 0 .read [{ codeword := 0, device := 0, diff := 0 }],
     .patrolScrub [{ codeword := 1, device := 1, diff := 1 }, { codeword := 1, device := 1, diff := 2 }],
     .channelTrainingDone 0 { commandFail := false, cause := 0, failed := [1, 1] }, .announce { someHdr with version := 16 } someMaster.info,
     .announce { someHdr with minor := 16 } someMaster.info, .announce { someHdr with sdo := 4096 } someMaster.info,
     .announce { someHdr with domain := 256 } someMaster.info, .announce someHdr { someMaster.info with priority1 := 256 },
     .announce someHdr { someMaster.info with clockClass := 256 }, .announce someHdr { someMaster.info with accuracy := 256 },
     .announce someHdr { someMaster.info with variance := 65536 }, .announce someHdr { someMaster.info with priority2 := 256 },
     .announce someHdr { someMaster.info with stepsRemoved := 65536 }, .announce someHdr { someMaster.info with logInterval := 128 },
     .announce someHdr { someMaster.info with logInterval := -129 }, .ptpSync someHdr false 0 0 0 65536, .followUp someHdr 0 0 65536,
     .delayResp someHdr 0 0 65536 0, .delayResp someHdr 0 0 0 128, .delayResp someHdr 0 0 0 (-129), .monBadLine 0].any Instr.wf = false := by
  decide +kernel

/-- Datagrams and responses beyond their largest sizes. -/
theorem test_too_long :
    (∀ bs : List Byte, bs.length = ndfMax + 1 → Instr.wf (.data 0 bs) = false ∧ Instr.wf (.err 0 bs) = false) ∧
      (∀ bs : List Byte, bs.length = 65541 → Instr.wf (.passportResponse bs) = false) := by
  constructor <;> intro bs h <;> simp [Instr.wf, h]

/-! ## Witnesses: for each statement with hypotheses, states and operands that meet them, clause by clause -/

theorem test_witness_EmptyQueueIsOneTick :
    ∃ (s : State) (d : Device) (d1 : Device) (e : Device) (e1 : Device) (e2 : Device) (e3 : Device) (e4 : Device), s.finds d ∧ s.pending = [] ∧ d.released 13 = true ∧ d1 = d.clockEnds.countClocks.lineTick.meshTick.countApart.noteRun ∧ e = { d1.todTick with clock := (d1.todTick.clock + 1) % 18446744073709551616, atTick := d1.todTick.regs } ∧ e1 = (if e.lne.moves = [] then e else e.movesDue) ∧ e2 = (if e1.rst.jqueue = [] then e1 else e1.journalTick) ∧ e3 = (if e2.noPass = true ∧ e2.flag fAllServed = false then e2.stopEarly else e2) ∧ e4 = (if e3.mem.held = [] then e3 else e3.drain) ∧ d1.ptp.load = none ∧ d1.ptp.step = 0 :=
  ⟨{ dev := upDev }, upDev, _, _, _, _, _, _, finds_at _ (by decide +kernel), by and_intros <;> first | decide +kernel | rfl⟩

theorem test_witness_OffIgnoresEveryCommandButPowerGood :
    ∃ (c : Instr) (s : State), s.dev.powered = false ∧ (∀ p, c ≠ .powerGood p) :=
  ⟨.nop 0, State.reset, by and_intros <;> first | decide +kernel | (simp; done)⟩

theorem test_witness_EveryStepKeepsTheModuleSettled :
    ∃ (s : State) (t : State), s.settled ∧ step s = .next t :=
  ⟨{ dev := upDev.settle }, nextOf (step { dev := upDev.settle }), by and_intros <;> first | decide +kernel | exact ⟨by decide +kernel, by decide +kernel⟩ | exact rfl⟩

theorem test_witness_ResetsClearTheModule :
    (∃ (s : State) (ol : OptionLoad) (v : SupplyView), s.dev.powered = false ∧ 40000 ≤ v.lowMv ∧ v.highMv ≤ 60000 ∧ 20000 ≤ v.us ∧ v.rails = true) ∧
    (∃ (s : State) (d : Device) (v : SupplyView), s.finds d ∧ 20 ≤ v.us ∧ ((v.highMv < 38500 ∨ 61500 < v.lowMv))) ∧
    (∃ (s : State) (d : Device) (v : SupplyView), s.finds d ∧ 20 ≤ v.us ∧ ((v.highMv < 38500 ∨ 61500 < v.lowMv))) ∧
    (∃ (s : State) (d : Device) (v : SupplyView), s.finds d ∧ ((v.us < 20 ∨ (39500 ≤ v.highMv ∧ v.lowMv ≤ 60500)))) ∧
    (∃ (s : State) (d : Device) (v : SupplyView), s.finds d ∧ ((v.us < 20 ∨ (39500 ≤ v.highMv ∧ v.lowMv ≤ 60500)))) ∧
    (∃ (s : State) (d : Device) (n : Nat), s.finds d ∧ 150 ≤ n) ∧
    (∃ (s : State) (d : Device) (n : Nat), s.finds d ∧ 150 ≤ n ∧ d.get { off := POOL_COMMIT_STATUS, lo := 0, w := 4 } = 0 ∧ d.get { off := RIL_COMMIT_STATUS, lo := 0, w := 4 } = 0 ∧ d.ril.check = none ∧ d.flag fFlsPending = false) ∧
    (∃ (s : State) (d : Device) (n : Nat) (k : Nat), s.finds d ∧ 150 ≤ n ∧ k < 4 ∧ d.flag (fPoolPending k) = true) ∧
    (∃ (s : State) (d : Device) (n : Nat) (ol : OptionLoad), s.finds d ∧ d.rst.resetLow = true ∧ 150 ≤ n) ∧
    (∃ (s : State) (d : Device) (ol : OptionLoad), s.finds d ∧ d.rst.resetLow = false ∧ d.softTaken = true) :=
  ⟨⟨State.reset, goodLoad, { lowMv := 40000, highMv := 60000, us := 20000, rails := true }, by decide +kernel⟩,
   ⟨{ dev := upDev }, upDev, { lowMv := 61501, highMv := 61501, us := 20, rails := true }, finds_at _ (by decide +kernel), by decide +kernel⟩,
   ⟨{ dev := upDev }, upDev, { lowMv := 38499, highMv := 38499, us := 20, rails := true }, finds_at _ (by decide +kernel), by decide +kernel⟩,
   ⟨{ dev := upDev }, upDev, { lowMv := 0, highMv := 39500, us := 20, rails := true }, finds_at _ (by decide +kernel), by decide +kernel⟩,
   ⟨{ dev := upDev }, upDev, { lowMv := 0, highMv := 0, us := 19, rails := true }, finds_at _ (by decide +kernel), by decide +kernel⟩,
   ⟨{ dev := upDev }, upDev, 150, finds_at _ (by decide +kernel), by decide +kernel⟩,
   ⟨{ dev := upDev }, upDev, 150, finds_at _ (by decide +kernel), by decide +kernel⟩,
   ⟨{ dev := (upDev.putFlag (fPoolPending 3) true).setReg (POOL_DFT_ACT 5) 7 }, (upDev.putFlag (fPoolPending 3) true).setReg (POOL_DFT_ACT 5) 7, 150, 3, finds_at _ (by decide +kernel), by decide +kernel⟩,
   ⟨{ dev := { upDev with rst := { resetLow := true } } }, { upDev with rst := { resetLow := true } }, 150, goodLoad, finds_at _ (by decide +kernel), by decide +kernel⟩,
   ⟨{ dev := upDev }, upDev, goodLoad, finds_at _ (by decide +kernel), by decide +kernel⟩⟩

theorem test_witness_IslandsAreReleasedAndReset :
    (∃ (s : State) (d : Device) (k : Fin 22) (v : ClockView), s.finds d ∧ d.clkGood k = true ∧ clockFalls k v = false ∧ (∀ i ∈ d.releaseGroup k, d.clkGoodBefore i = true ∧ d.mayRelease i = true)) ∧
    (∃ (s : State) (d : Device), s.finds d) ∧
    (∃ (s : State) (d : Device) (d1 : Device) (v : ClockView), s.finds d ∧ d1 = ({ d with rst := { d.rst with perstLow := false } } : Device) ∧ d1.clkGood 21 = true ∧ clockFalls 21 v = false ∧ d1.clkGoodBefore 21 = true ∧ d1.mayRelease 21 = true) ∧
    (∃ (s : State) (d : Device) (k : Fin 22) (v : ClockView) (ol : OptionLoad), s.finds d ∧ d.clkGood k = true ∧ clockFalls k v = true) ∧
    (∃ (s : State) (d : Device) (v : ClockView) (ol : OptionLoad), s.finds d ∧ (List.range 20).any d.clkGood = true ∧ refFails v = true) ∧
    (∃ (s : State) (d : Device) (k : Fin 18), s.finds d ∧ d.coresRun = true ∧ d.released k = false ∧ d.clkGoodBefore k = true ∧ d.rst.held.contains k.val = true) ∧
    (∃ (s : State) (d : Device) (v : Word), s.finds d ∧ d.coresRun = true ∧ bitOf v.toNat 17 = true ∧ d.blockFault (v.toNat % 32) = none) ∧
    (∃ (s : State) (d : Device) (k : Nat) (rest : List Nat) (v : ClockView), s.finds d ∧ d.rst.blocks = k :: rest ∧ d.clkGood k = true ∧ clockFalls k v = false ∧ d.clkGoodBefore k = true) :=
  ⟨⟨{ dev := upDev.setReleased 21 false }, upDev.setReleased 21 false, 21, clockOf 21, finds_at _ (by decide +kernel), by and_intros <;> first | decide +kernel | (simp; done)⟩,
   ⟨{ dev := upDev }, upDev, finds_at _ (by decide +kernel)⟩,
   ⟨{ dev := ({ upDev with rst := { perstLow := true } } : Device).setReleased 21 false }, ({ upDev with rst := { perstLow := true } } : Device).setReleased 21 false, _, clockOf 21, finds_at _ (by decide +kernel), by and_intros <;> first | decide +kernel | rfl⟩,
   ⟨{ dev := upDev }, upDev, 21, { locked := false, counts := [] }, goodLoad, finds_at _ (by decide +kernel), by decide +kernel⟩,
   ⟨{ dev := upDev }, upDev, { locked := false, counts := [] }, goodLoad, finds_at _ (by decide +kernel), by decide +kernel⟩,
   ⟨{ dev := ({ upDev with rst := { held := [17] } } : Device).setReleased 17 false }, ({ upDev with rst := { held := [17] } } : Device).setReleased 17 false, 17, finds_at _ (by decide +kernel), by decide +kernel⟩,
   ⟨{ dev := upDev }, upDev, 0x20001, finds_at _ (by decide +kernel), by decide +kernel⟩,
   ⟨{ dev := ({ upDev with rst := { blocks := [1] } } : Device).setReleased 1 false }, ({ upDev with rst := { blocks := [1] } } : Device).setReleased 1 false, 1, [], clockOf 1, finds_at _ (by decide +kernel), by decide +kernel⟩⟩

theorem test_witness_StartUpAndControlPairsComplete :
    (∃ (s : State) (d : Device) (d1 : Device) (d2 : Device) (us : List TestUnit) (ms : Nat), s.finds d ∧ (d.inBoot && !d.rst.loading && d.loadOk && d.released 13 && !d.rst.resetLow) = true ∧ d.get fBootPhase = 6 ∧ d.lanesTraining = false ∧ d1 = (d.each us Device.failTest).assignLanes ∧ d2 = d1.setReg RST_READY_TIME (min ms 262143)) ∧
    (∃ (s : State) (d : Device) (p : Fin 2) (ol : OptionLoad), s.finds d ∧ d.coresRun = true) ∧
    (∃ (s : State) (d : Device), s.finds d) ∧
    (∃ (s : State) (d : Device) (p : Fin 2), s.finds d ∧ d.get (fPairState p) = 2 ∧ d.rst.retested.contains p.val = false) ∧
    (∃ (s : State) (d : Device) (p : Fin 2), s.finds d ∧ d.get (fPairState p) = 2 ∧ d.rst.retested.contains p.val = true) :=
  ⟨⟨{ dev := (upDev.setState 1).put fBootPhase 6 }, (upDev.setState 1).put fBootPhase 6, _, _, [.cascade 15], 500, finds_at _ (by decide +kernel), by and_intros <;> first | decide +kernel | rfl⟩,
   ⟨{ dev := upDev }, upDev, 1, goodLoad, finds_at _ (by decide +kernel), by decide +kernel⟩,
   ⟨{ dev := upDev }, upDev, finds_at _ (by decide +kernel)⟩,
   ⟨{ dev := upDev.put (fPairState 1) 2 }, upDev.put (fPairState 1) 2, 1, finds_at _ (by decide +kernel), by decide +kernel⟩,
   ⟨{ dev := ({ upDev with rst := { retested := [1] } } : Device).put (fPairState 1) 2 }, ({ upDev with rst := { retested := [1] } } : Device).put (fPairState 1) 2, 1, finds_at _ (by decide +kernel), by decide +kernel⟩⟩

theorem test_witness_UnmappedAndMisalignedAccesses :
    (∃ (s : State) (d : Device) (off : BitVec 26), s.finds d ∧ d.released 21 = true ∧ 0x1600000 ≤ off.toNat) ∧
    (∃ (s : State) (d : Device) (off : BitVec 26), s.finds d ∧ d.released 21 = true ∧ 0x1600000 ≤ off.toNat ∧ d.unitUp 0 = true) ∧
    (∃ (s : State) (d : Device) (off : BitVec 26) (size : Nat), s.finds d ∧ d.released 21 = true ∧ ((size ≠ 4 ∨ off.toNat % 4 ≠ 0))) ∧
    (∃ (s : State) (d : Device) (off : BitVec 26) (size : Nat), s.finds d ∧ d.released 21 = true ∧ ((size ≠ 4 ∨ off.toNat % 4 ≠ 0)) ∧ d.unitUp 0 = true) ∧
    (∃ (s : State) (d : Device) (w : Bool) (off : BitVec 26) (size : Nat) (v : Dword), s.finds d ∧ d.released 21 = false) :=
  ⟨⟨{ dev := upDev }, upDev, 0x1600000, finds_at _ (by decide +kernel), by decide +kernel⟩,
   ⟨{ dev := upDev }, upDev, 0x3FFFFFC, finds_at _ (by decide +kernel), by decide +kernel⟩,
   ⟨{ dev := upDev }, upDev, 0, 8, finds_at _ (by decide +kernel), by decide +kernel⟩,
   ⟨{ dev := upDev }, upDev, 2, 4, finds_at _ (by decide +kernel), by decide +kernel⟩,
   ⟨{ dev := upDev.setReleased 21 false }, upDev.setReleased 21 false, true, 0x100, 8, 5, finds_at _ (by decide +kernel), by decide +kernel⟩⟩

theorem test_witness_RegisterAccessesComplete :
    (∃ (s : State) (d : Device) (off : BitVec 26), s.finds d ∧ d.released 21 = true) ∧
    (∃ (d : Device) (off : Nat), d.regUp off = false) ∧
    (∃ (s : State) (d : Device) (off : BitVec 26) (v : Dword) (l : RegLoc), s.finds d ∧ d.released 21 = true ∧ off.toNat < 0x1600000 ∧ d.regUp off.toNat = true ∧ locate off.toNat = some l ∧ actionWrite l (v.toNat % 262144) = none ∧ l.row.base ≠ RIL_BT 0 ∧ l.row.base ≠ FLS_TEMP_WARN) ∧
    (∃ (s : State) (d : Device) (off : BitVec 26) (v : Dword) (l : RegLoc), s.finds d ∧ d.released 21 = true ∧ off.toNat < 0x1600000 ∧ d.regUp off.toNat = true ∧ locate off.toNat = some l ∧ l.row.base = RIL_BT 0) ∧
    (∃ (s : State) (d : Device) (off : BitVec 26) (v : Dword) (l : RegLoc), s.finds d ∧ d.released 21 = true ∧ off.toNat < 0x1600000 ∧ d.regUp off.toNat = true ∧ locate off.toNat = some l ∧ l.row.base = FLS_TEMP_WARN) ∧
    (∃ (s : State) (d : Device) (off : BitVec 26) (v : Dword) (l : RegLoc) (f : Device → Device), s.finds d ∧ d.released 21 = true ∧ off.toNat < 0x1600000 ∧ d.regUp off.toNat = true ∧ locate off.toNat = some l ∧ actionWrite l (v.toNat % 262144) = some f) ∧
    (∃ (s : State) (d : Device) (off : BitVec 26) (v : Dword), s.finds d ∧ d.released 21 = true ∧ d.regUp off.toNat = true ∧ locate off.toNat = none) ∧
    (∃ (s : State) (d : Device) (off : BitVec 26) (v : Dword), s.finds d ∧ d.released 21 = true ∧ off.toNat < 0x1600000 ∧ d.regUp off.toNat = false) ∧
    (∃ (s : State) (d : Device) (off : Dword), s.finds d ∧ off.toNat < 0x200000) ∧
    (∃ (s : State) (d : Device) (off : Dword), s.finds d ∧ 0x200000 ≤ off.toNat) ∧
    (∃ (s : State) (d : Device), s.finds d) :=
  ⟨⟨{ dev := upDev }, upDev, 0x100, finds_at _ (by decide +kernel), by decide +kernel⟩,
   ⟨upDev.setReleased 20 false, 0x1100000, by decide +kernel⟩,
   ⟨{ dev := upDev }, upDev, BitVec.ofNat 26 MOT_SETTLE, 0xFFFFFFFF, (locate MOT_SETTLE).getD { row := { base := 0, dws := [] }, elem := 0, dw := 0 }, finds_at _ (by decide +kernel), by decide +kernel⟩,
   ⟨{ dev := upDev }, upDev, BitVec.ofNat 26 (RIL_BT 65535), 0xFFFFFFFF, (locate (RIL_BT 65535)).getD { row := { base := 0, dws := [] }, elem := 0, dw := 0 }, finds_at _ (by decide +kernel), by decide +kernel⟩,
   ⟨{ dev := upDev }, upDev, BitVec.ofNat 26 FLS_TEMP_WARN, 0xFFFFFFFF, (locate FLS_TEMP_WARN).getD { row := { base := 0, dws := [] }, elem := 0, dw := 0 }, finds_at _ (by decide +kernel), by decide +kernel⟩,
   ⟨{ dev := upDev }, upDev, BitVec.ofNat 26 EVT_DOORBELL, 0xFFFFFFFF, (locate EVT_DOORBELL).getD { row := { base := 0, dws := [] }, elem := 0, dw := 0 }, writeDoorbell 0x3FFFF, finds_at _ (by decide +kernel), by and_intros <;> first | decide +kernel | exact rfl⟩,
   ⟨{ dev := upDev }, upDev, 0x15FFFFC, 0xFFFFFFFF, finds_at _ (by decide +kernel), by decide +kernel⟩,
   ⟨{ dev := upDev.setReleased 20 false }, upDev.setReleased 20 false, 0x1100000, 0xFFFFFFFF, finds_at _ (by decide +kernel), by decide +kernel⟩,
   ⟨{ dev := upDev }, upDev, 0x1FFFFC, finds_at _ (by decide +kernel), by decide +kernel⟩,
   ⟨{ dev := upDev }, upDev, 0x200000, finds_at _ (by decide +kernel), by decide +kernel⟩,
   ⟨{ dev := upDev }, upDev, finds_at _ (by decide +kernel)⟩⟩

theorem test_witness_QueueRegistersTakeTheirWrites :
    (∃ (s : State) (d : Device) (q : Fin 4), s.finds d ∧ d.unitUp 0 = true ∧ d.flag (fEn q) = false ∧ 2 ≤ d.reg (ULP_SQ_SIZE q) ∧ d.reg (ULP_SQ_SIZE q) ≤ 4096 ∧ d.get54 (ULP_SQ_BASE q) % 64 = 0 ∧ 2 ≤ d.reg (ULP_CQ_SIZE q) ∧ d.reg (ULP_CQ_SIZE q) ≤ 4096 ∧ d.get54 (ULP_CQ_BASE q) % 32 = 0) ∧
    (∃ (s : State) (d : Device) (q : Fin 4), s.finds d ∧ d.unitUp 0 = true ∧ d.flag (fEn q) = true) ∧
    (∃ (s : State) (d : Device) (q : Fin 4) (v : Word), s.finds d ∧ d.unitUp 0 = true ∧ d.flag (fEn q) = true ∧ v.toNat % 4096 < d.reg (ULP_SQ_SIZE q)) ∧
    (∃ (s : State) (d : Device) (q : Fin 4) (v : Word), s.finds d ∧ d.unitUp 0 = true ∧ v.toNat % 4096 < d.reg (ULP_CQ_SIZE q)) ∧
    (∃ (s : State) (d : Device) (q : Fin 4) (v : Word), s.finds d ∧ d.unitUp 0 = true ∧ d.flag (fEn q) = true ∧ d.reg (ULP_SQ_SIZE q) ≤ v.toNat % 4096) ∧
    (∃ (s : State) (d : Device) (q : Fin 4) (v : Word), s.finds d ∧ d.unitUp 0 = true ∧ d.flag (fEn q) = false) ∧
    (∃ (s : State) (d : Device) (q : Fin 4) (v : Word), s.finds d ∧ d.unitUp 0 = true ∧ d.reg (ULP_CQ_SIZE q) ≤ v.toNat % 4096) :=
  ⟨⟨{ dev := regsAt upDev [(ULP_SQ_SIZE 3, 2), (ULP_CQ_SIZE 3, 4096)] }, regsAt upDev [(ULP_SQ_SIZE 3, 2), (ULP_CQ_SIZE 3, 4096)], 3, finds_at _ (by decide +kernel), by decide +kernel⟩,
   ⟨{ dev := upDev.putFlag (fEn 3) true }, upDev.putFlag (fEn 3) true, 3, finds_at _ (by decide +kernel), by decide +kernel⟩,
   ⟨{ dev := (regsAt upDev [(ULP_SQ_SIZE 3, 4096)]).putFlag (fEn 3) true }, (regsAt upDev [(ULP_SQ_SIZE 3, 4096)]).putFlag (fEn 3) true, 3, 4095, finds_at _ (by decide +kernel), by decide +kernel⟩,
   ⟨{ dev := regsAt upDev [(ULP_CQ_SIZE 3, 2)] }, regsAt upDev [(ULP_CQ_SIZE 3, 2)], 3, 1, finds_at _ (by decide +kernel), by decide +kernel⟩,
   ⟨{ dev := (regsAt upDev [(ULP_SQ_SIZE 3, 2)]).putFlag (fEn 3) true }, (regsAt upDev [(ULP_SQ_SIZE 3, 2)]).putFlag (fEn 3) true, 3, 2, finds_at _ (by decide +kernel), by decide +kernel⟩,
   ⟨{ dev := upDev }, upDev, 3, 1, finds_at _ (by decide +kernel), by decide +kernel⟩,
   ⟨{ dev := regsAt upDev [(ULP_CQ_SIZE 3, 2)] }, regsAt upDev [(ULP_CQ_SIZE 3, 2)], 3, 2, finds_at _ (by decide +kernel), by decide +kernel⟩⟩

theorem test_witness_PacketsAreFetchedAndCompletionsWritten :
    (∃ (s : State) (d : Device) (q : Fin 4) (hostErr : Bool) (w : List Nat) (ps : List Nat), s.finds d ∧ (d.unitUp 0 && d.unitUp 21 && d.servesPair q) = true ∧ d.inflight < 256 ∧ d.ulp.takeover = false ∧ w = d.hostDwords (d.get54 (ULP_SQ_BASE q) + 64 * d.reg (ULP_SQ_HEAD q)) 16 ∧ plenOk (bits (w.getD 0 0) 20 12) (bits (w.getD 0 0) 0 12) = some true ∧ d.tagBusy (bits (w.getD 0 0) 12 8) = false ∧ bits (w.getD 1 0) 5 27 = 0 ∧ (if bitOf (w.getD 1 0) 3 then hostErr = false ∧ addrOk (w.getD 2 0) (w.getD 3 0) = true else bits (w.getD 0 0) 0 12 ≤ 14) ∧ ps = (if bitOf (w.getD 1 0) 3 then d.hostDwords (hostAddr (w.getD 2 0) (w.getD 3 0)) (bits (w.getD 0 0) 0 12) else (w.drop 2).take (bits (w.getD 0 0) 0 12)) ∧ ((∀ i, addrParam (bits (w.getD 0 0) 20 12) = some i → addrOk (ps.getD i 0) (ps.getD (i + 1) 0) = true))) ∧
    (∃ (s : State) (d : Device) (q : Fin 4) (hostErr : Bool) (w : List Nat), s.finds d ∧ (d.unitUp 0 && d.unitUp 21 && d.servesPair q) = true ∧ d.inflight < 256 ∧ d.ulp.takeover = false ∧ w = d.hostDwords (d.get54 (ULP_SQ_BASE q) + 64 * d.reg (ULP_SQ_HEAD q)) 16 ∧ ((plenOk (bits (w.getD 0 0) 20 12) (bits (w.getD 0 0) 0 12) = none ∨ d.tagBusy (bits (w.getD 0 0) 12 8) = true))) ∧
    (∃ (s : State) (d : Device) (q : Fin 4) (hostErr : Bool) (w : List Nat), s.finds d ∧ (d.unitUp 0 && d.unitUp 21 && d.servesPair q) = true ∧ d.inflight < 256 ∧ d.ulp.takeover = false ∧ w = d.hostDwords (d.get54 (ULP_SQ_BASE q) + 64 * d.reg (ULP_SQ_HEAD q)) 16 ∧ ((plenOk (bits (w.getD 0 0) 20 12) (bits (w.getD 0 0) 0 12) = none ∨ d.tagBusy (bits (w.getD 0 0) 12 8) = true))) ∧
    (∃ (s : State) (d : Device) (q : Fin 4) (c : Completion), s.finds d ∧ (d.unitUp 0 && d.unitUp 21 && !d.ulp.takeover && !d.cqFull q) = true ∧ d.ulp.waiting.find? (fun x => x.q == q.val) = some c ∧ d.ulp.resetTag = none) :=
  ⟨⟨{ dev := (regsAt { upDev with hostMem := [(1, 0xF0), (2, 0x1F), (4, 6)] } [(ULP_SQ_SIZE 3, 2), (ULP_SQ_HEAD 3, 1), (ULP_SQ_BASE 3, 0x3FFC0)]).putFlag (fEn 3) true }, (regsAt { upDev with hostMem := [(1, 0xF0), (2, 0x1F), (4, 6)] } [(ULP_SQ_SIZE 3, 2), (ULP_SQ_HEAD 3, 1), (ULP_SQ_BASE 3, 0x3FFC0)]).putFlag (fEn 3) true, 3, false, _, _, finds_at _ (by decide +kernel), by and_intros <;> first | decide +kernel | (simp; done) | rfl⟩,
   ⟨{ dev := (regsAt { upDev with hostMem := [(0x40002, 0xF0), (0x40003, 0xFF)] } [(ULP_SQ_SIZE 3, 2), (ULP_SQ_HEAD 3, 1), (ULP_SQ_BASE 3, 0x3FFC0)]).putFlag (fEn 3) true }, (regsAt { upDev with hostMem := [(0x40002, 0xF0), (0x40003, 0xFF)] } [(ULP_SQ_SIZE 3, 2), (ULP_SQ_HEAD 3, 1), (ULP_SQ_BASE 3, 0x3FFC0)]).putFlag (fEn 3) true, 3, false, _, finds_at _ (by decide +kernel), by and_intros <;> first | decide +kernel | rfl⟩,
   ⟨{ dev := (regsAt { upDev with ulp := { flights := [{ cmd 0 [] with tag := 0 }] } } [(ULP_SQ_SIZE 3, 2), (ULP_SQ_HEAD 3, 1), (ULP_SQ_BASE 3, 0x3FFC0)]).putFlag (fEn 3) true }, (regsAt { upDev with ulp := { flights := [{ cmd 0 [] with tag := 0 }] } } [(ULP_SQ_SIZE 3, 2), (ULP_SQ_HEAD 3, 1), (ULP_SQ_BASE 3, 0x3FFC0)]).putFlag (fEn 3) true, 3, false, _, finds_at _ (by decide +kernel), by and_intros <;> first | decide +kernel | rfl⟩,
   ⟨{ dev := regsAt ({ upDev with ulp := { waiting := [{ q := 3, tag := 255, status := 0 }] } } : Device) [(ULP_CQ_SIZE 3, 2), (ULP_CQ_BASE 3, 0x1000)] }, regsAt ({ upDev with ulp := { waiting := [{ q := 3, tag := 255, status := 0 }] } } : Device) [(ULP_CQ_SIZE 3, 2), (ULP_CQ_BASE 3, 0x1000)], 3, { q := 3, tag := 255, status := 0 }, finds_at _ (by decide +kernel), by decide +kernel⟩⟩

theorem test_witness_AnyStateCommandsComplete :
    (∃ (s : State) (d : Device) (tag : Byte) (f : Flight), s.finds d ∧ d.begins tag.toNat 0x001 = some f) ∧
    (∃ (s : State) (d : Device) (tag : Byte) (f : Flight) (es : List Nat) (body : List Nat), s.finds d ∧ d.begins tag.toNat 0x800 = some f ∧ es = sortBy d.logLseq ((List.range 64).filter d.logValid) ∧ body = es.flatMap (fun i => (List.range 11).map (fun k => d.reg (SYS_EL i + 4 * k)) ++ [0])) ∧
    (∃ (s : State) (d : Device) (tag : Byte) (f : Flight), s.finds d ∧ d.begins tag.toNat 0x801 = some f) ∧
    (∃ (s : State) (d : Device) (tag : Byte) (f : Flight) (ps : List RegPair), s.finds d ∧ d.begins tag.toNat 0x200 = some f ∧ readPairs 0 f.params = .ok ps ∧ pairTables ps = [] ∧ d.inJob = false ∧ d.readyOk = true) ∧
    (∃ (s : State) (d : Device) (tag : Byte) (f : Flight) (ps : List RegPair), s.finds d ∧ d.begins tag.toNat 0x200 = some f ∧ readPairs 0 f.params = .ok ps ∧ pairTables ps ≠ [] ∧ (pairTables ps).any d.loadBars = false ∧ d.inJob = false ∧ d.readyOk = true) ∧
    (∃ (s : State) (d : Device) (tag : Byte) (f : Flight) (ps : List RegPair), s.finds d ∧ d.begins tag.toNat 0x200 = some f ∧ readPairs 0 f.params = .ok ps ∧ pairTables ps = [] ∧ d.inJob = true ∧ ps.all (fun p => !p.isJob) = true ∧ d.ulp.deferred.length ≤ 64) ∧
    (∃ (s : State) (d : Device) (tag : Byte) (f : Flight) (ps : List RegPair), s.finds d ∧ d.begins tag.toNat 0x200 = some f ∧ readPairs 0 f.params = .ok ps ∧ pairTables ps = [] ∧ d.inJob = true ∧ ps ≠ [] ∧ ps.all (fun p => p.isJob && !p.loc.isClassCtrl) = true ∧ f.deferOk = true ∧ d.ulp.deferred.length + ps.length ≤ 64) ∧
    (∃ (s : State) (d : Device) (tag : Byte) (f : Flight), s.finds d ∧ d.begins tag.toNat 0x201 = some f) ∧
    (∃ (s : State) (d : Device) (tag : Byte) (f : Flight), s.finds d ∧ d.begins tag.toNat 0x000 = some f ∧ f.sq < 4) :=
  ⟨⟨{ dev := withCmd upDev 0x001 [] }, withCmd upDev 0x001 [], 255, cmd 0x001 [], finds_at _ (by decide +kernel), by decide +kernel⟩,
   ⟨{ dev := withCmd upDev 0x800 [0x1000, 0] }, withCmd upDev 0x800 [0x1000, 0], 255, cmd 0x800 [0x1000, 0], _, _, finds_at _ (by decide +kernel), by and_intros <;> first | decide +kernel | rfl⟩,
   ⟨{ dev := withCmd upDev 0x801 [0x1000, 0] }, withCmd upDev 0x801 [0x1000, 0], 255, cmd 0x801 [0x1000, 0], finds_at _ (by decide +kernel), by decide +kernel⟩,
   ⟨{ dev := withCmd upDev 0x200 [0xD00008, 7] }, withCmd upDev 0x200 [0xD00008, 7], 255, cmd 0x200 [0xD00008, 7], [{ loc := (locate 0xD00008).getD { row := { base := 0, dws := [] }, elem := 0, dw := 0 }, off := 0xD00008, value := 7 }], finds_at _ (by decide +kernel), by and_intros <;> first | decide +kernel | exact ok_of _ _ (by decide +kernel)⟩,
   ⟨{ dev := withCmd upDev 0x200 [0x803000, 7] }, withCmd upDev 0x200 [0x803000, 7], 255, cmd 0x200 [0x803000, 7], [{ loc := (locate 0x803000).getD { row := { base := 0, dws := [] }, elem := 0, dw := 0 }, off := 0x803000, value := 7 }], finds_at _ (by decide +kernel), by and_intros <;> first | decide +kernel | exact ok_of _ _ (by decide +kernel)⟩,
   ⟨{ dev := withCmd (wrDev 3) 0x200 [0xD00008, 7] }, withCmd (wrDev 3) 0x200 [0xD00008, 7], 255, cmd 0x200 [0xD00008, 7], [{ loc := (locate 0xD00008).getD { row := { base := 0, dws := [] }, elem := 0, dw := 0 }, off := 0xD00008, value := 7 }], finds_at _ (by decide +kernel), by and_intros <;> first | decide +kernel | exact ok_of _ _ (by decide +kernel)⟩,
   ⟨{ dev := withCmd (wrDev 3) 0x200 [0xD00034, 7] true }, withCmd (wrDev 3) 0x200 [0xD00034, 7] true, 255, cmd 0x200 [0xD00034, 7] true, [{ loc := (locate 0xD00034).getD { row := { base := 0, dws := [] }, elem := 0, dw := 0 }, off := 0xD00034, value := 7 }], finds_at _ (by decide +kernel), by and_intros <;> first | decide +kernel | exact ok_of _ _ (by decide +kernel)⟩,
   ⟨{ dev := withCmd upDev 0x201 [0x2000, 0, 0x100] }, withCmd upDev 0x201 [0x2000, 0, 0x100], 255, cmd 0x201 [0x2000, 0, 0x100], finds_at _ (by decide +kernel), by decide +kernel⟩,
   ⟨{ dev := withCmd upDev 0x000 [] }, withCmd upDev 0x000 [], 255, cmd 0x000 [], finds_at _ (by decide +kernel), by decide +kernel⟩⟩

theorem test_witness_SystemCommandsComplete :
    (∃ (s : State) (d : Device) (tag : Byte) (f : Flight) (ol : OptionLoad), s.finds d ∧ d.begins tag.toNat 0x002 = some f ∧ d.softTaken = true ∧ f.p 0 = 0x15A5A ∧ f.sq < 4) ∧
    (∃ (s : State) (d : Device) (tag : Byte) (f : Flight), s.finds d ∧ d.begins tag.toNat 0x003 = some f ∧ d.readyOk = true ∧ d.frostHeldOff = false) ∧
    (∃ (s : State) (d : Device) (tag : Byte) (f : Flight), s.finds d ∧ d.begins tag.toNat 0x010 = some f ∧ d.readyOk = true ∧ (d.rst.slots.toList.getD 20 {}).used = false) ∧
    (∃ (s : State) (d : Device) (tag : Byte) (f : Flight) (k : Nat), s.finds d ∧ d.begins tag.toNat 0x011 = some f ∧ d.readyOk = true ∧ (List.range 4).find? (fun i => !(d.rst.slots.toList.getD (16 + i) {}).used) = some k ∧ f.params.foldr (fun p acc => p % 4294967296 + acc * 4294967296) 0 ≠ 0) ∧
    (∃ (s : State) (d : Device) (tag : Byte) (f : Flight) (k : Nat) (ok : Bool), s.finds d ∧ d.begins tag.toNat 0x700 = some f ∧ d.readyOk = true ∧ f.p 0 < 16 ∧ (List.range 16).find? (fun i => !(d.rst.slots.toList.getD i {}).used) = some k) ∧
    (∃ (s : State) (d : Device) (tag : Byte) (f : Flight), s.finds d ∧ d.begins tag.toNat 0x802 = some f ∧ d.readyOk = true ∧ f.p 0 < 32 ∧ d.blockFault (f.p 0) = none) ∧
    (∃ (s : State) (d : Device) (tag : Byte) (f : Flight) (r : Nat), s.finds d ∧ d.begins tag.toNat 0x802 = some f ∧ d.readyOk = true ∧ f.p 0 < 32 ∧ d.blockFault (f.p 0) = some r) :=
  ⟨⟨{ dev := withCmd upDev 0x002 [0x15A5A] }, withCmd upDev 0x002 [0x15A5A], 255, cmd 0x002 [0x15A5A], goodLoad, finds_at _ (by decide +kernel), by decide +kernel⟩,
   ⟨{ dev := withCmd upDev 0x003 [] }, withCmd upDev 0x003 [], 255, cmd 0x003 [], finds_at _ (by decide +kernel), by decide +kernel⟩,
   ⟨{ dev := withCmd upDev 0x010 [] }, withCmd upDev 0x010 [], 255, cmd 0x010 [], finds_at _ (by decide +kernel), by decide +kernel⟩,
   ⟨{ dev := withCmd upDev 0x011 [1, 0, 0, 0, 0, 0, 0, 0] }, withCmd upDev 0x011 [1, 0, 0, 0, 0, 0, 0, 0], 255, cmd 0x011 [1, 0, 0, 0, 0, 0, 0, 0], 0, finds_at _ (by decide +kernel), by decide +kernel⟩,
   ⟨{ dev := withCmd upDev 0x700 [15] }, withCmd upDev 0x700 [15], 255, cmd 0x700 [15], 0, true, finds_at _ (by decide +kernel), by decide +kernel⟩,
   ⟨{ dev := withCmd upDev 0x802 [1] }, withCmd upDev 0x802 [1], 255, cmd 0x802 [1], finds_at _ (by decide +kernel), by decide +kernel⟩,
   ⟨{ dev := withCmd upDev 0x802 [31] }, withCmd upDev 0x802 [31], 255, cmd 0x802 [31], 3, finds_at _ (by decide +kernel), by decide +kernel⟩⟩

theorem test_witness_JobCommandsTakeEffect :
    (∃ (s : State) (d : Device) (tag : Byte) (f : Flight) (j : Job) (l : List Stripe), s.finds d ∧ d.begins tag.toNat 0x100 = some f ∧ d.readyOk = true ∧ d.start = none ∧ f.jobFault = none ∧ d.flag fPermit = true ∧ d.readStripes f.geometry.adv f.geometry.width (f.p 8) (hostAddr (f.p 9) (f.p 10)) none = some l ∧ j = { f.geometry with stripes := l } ∧ l.all (fun x => x.tallyOnly) = false ∧ d.needs ((List.range 13).drop 1 ++ [18]) = true ∧ ((l.any (fun x => x.source.isNdf) = true → d.needs [20] = true)) ∧ d.settingsRefused = false ∧ d.derivedOk j = true ∧ d.rillCheck j (fun _ => false) = none ∧ (List.range 4).any (fun c => d.get (fChState c) == 3) = false ∧ d.flag fSelftestFail = false ∧ d.unserved = false) ∧
    (∃ (s : State) (d : Device) (d1 : Device) (tag : Byte) (f : Flight), s.finds d ∧ d.begins tag.toNat 0x101 = some f ∧ d.inWriting = true ∧ d.isWorker = false ∧ d1 = (d.await f .pause).mapJob (fun j => { j with pausing := true })) ∧
    (∃ (s : State) (d : Device) (tag : Byte) (f : Flight), s.finds d ∧ d.begins tag.toNat 0x102 = some f ∧ d.inHeld = true ∧ d.isWorker = false ∧ d.job.any (fun j => j.aborting) = false ∧ d.msh.asking = false ∧ d.flag fDeferResume = false ∧ d.lne.pp.forResume = false ∧ d.columnLost = none ∧ d.lne.pp.blocked = false) ∧
    (∃ (s : State) (d : Device) (tag : Byte) (f : Flight), s.finds d ∧ d.begins tag.toNat 0x103 = some f ∧ d.inJob = true) ∧
    (∃ (s : State) (d : Device) (tag : Byte) (f : Flight) (slot : Fin 16) (src : Source), s.finds d ∧ d.begins tag.toNat 0x110 = some f ∧ d.readyOk = true ∧ d.needs [1, 2] = true ∧ ((src.isNdf = true → d.needs [20] = true)) ∧ d.readSource (f.p 0) (f.p 1) (f.p 2) = some src ∧ d.someWaits (fun w => w == .library) = false ∧ d.start = none ∧ (d.slot slot).isOpen = false) ∧
    (∃ (s : State) (d : Device) (d1 : Device) (d2 : Device) (d3 : Device) (j : Job), s.finds d ∧ d.job = some j ∧ d.released 13 = true ∧ d.inJob = true ∧ j.aborting = true ∧ d.atRest = true ∧ d.fls.decided = none ∧ d.fls.high = none ∧ d.mot.layer.toList.any (fun m => m.any (fun (v : LayerMove) => v.running)) = false ∧ d1 = (d.when d.inWriting (fun d => d.putS36 MOT_REST_X d.mot.x)) ∧ d2 = (((d1.when (d.flag fStopPending || d.inHeld) (fun d => d.setFrames [])).each [0, 1] (fun d e => if (d.engine e).running then d.endEngine e sABORTED else d)).each (List.range 16) Device.closeSlot).clearPath ∧ d3 = ({ d2 with mot := { d2.mot with layer := Vector.replicate 2 none } } : Device).enterReady) :=
  ⟨⟨{ dev := withCmd jobDev 0x100 [0, 1, 10000, 1, 0, 0, 0, 0, 1, 0x1000, 0, 0] }, withCmd jobDev 0x100 [0, 1, 10000, 1, 0, 0, 0, 0, 1, 0x1000, 0, 0], 255, cmd 0x100 [0, 1, 10000, 1, 0, 0, 0, 0, 1, 0x1000, 0, 0], _, [{ x0 := 1073741824, y0 := 1073741824, len := 256, tallyOnly := false, source := .host [(0x3000, 1)], streamId := 0 }], finds_at _ (by decide +kernel), by and_intros <;> first | decide +kernel | exact rill_check_passes _ _ (by decide +kernel) rfl rfl rfl (by decide +kernel) | rfl⟩,
   ⟨{ dev := withCmd { upDev.setState 3 with job := some someJob } 0x101 [] }, withCmd { upDev.setState 3 with job := some someJob } 0x101 [], _, 255, cmd 0x101 [], finds_at _ (by decide +kernel), by and_intros <;> first | decide +kernel | rfl⟩,
   ⟨{ dev := withCmd { jobDev.setState 4 with job := some someJob } 0x102 [] }, withCmd { jobDev.setState 4 with job := some someJob } 0x102 [], 255, cmd 0x102 [], finds_at _ (by decide +kernel), by decide +kernel⟩,
   ⟨{ dev := withCmd { upDev.setState 4 with job := some someJob } 0x103 [] }, withCmd { upDev.setState 4 with job := some someJob } 0x103 [], 255, cmd 0x103 [], finds_at _ (by decide +kernel), by decide +kernel⟩,
   ⟨{ dev := withCmd jobDev 0x110 [0, 0x2000, 0] }, withCmd jobDev 0x110 [0, 0x2000, 0], 255, cmd 0x110 [0, 0x2000, 0], 15, .host [(0x3000, 1)], finds_at _ (by decide +kernel), by decide +kernel⟩,
   ⟨{ dev := { upDev.setState 3 with job := some { someJob with aborting := true } } }, { upDev.setState 3 with job := some { someJob with aborting := true } }, _, _, _, { someJob with aborting := true }, finds_at _ (by decide +kernel), by and_intros <;> first | decide +kernel | rfl⟩⟩

theorem test_witness_LaneRillAndHeadCommandsTakeEffect :
    (∃ (s : State) (d : Device) (tag : Byte) (f : Flight), s.finds d ∧ d.begins tag.toNat 0x300 = some f ∧ d.runOk = true ∧ d.needs [18] = true ∧ f.p 0 < 72 ∧ ((d.laneSt (f.p 0) = 2 ∨ d.laneSt (f.p 0) = 3))) ∧
    (∃ (s : State) (d : Device) (tag : Byte) (f : Flight), s.finds d ∧ d.begins tag.toNat 0x301 = some f ∧ d.runOk = true ∧ d.needs [18] = true ∧ f.p 0 < 72 ∧ d.unitUp 18 = true ∧ d.retrainTaken (f.p 0) = true) ∧
    (∃ (s : State) (d : Device) (tag : Byte) (f : Flight) (g : Fin 8) (k : Fin 32), s.finds d ∧ d.begins tag.toNat 0x302 = some f ∧ d.inJob = true ∧ d.runs = true ∧ f.p 0 = 256 * k.val + g.val ∧ d.unitUp (5 + g.val) = true ∧ d.forceTaken g (131072 + k.val) = true) ∧
    (∃ (s : State) (d : Device) (tag : Byte) (f : Flight), s.finds d ∧ d.begins tag.toNat 0x303 = some f ∧ d.inHeld = true ∧ d.unitUp 5 = true ∧ d.ackTaken = true) ∧
    (∃ (s : State) (d : Device) (tag : Byte) (f : Flight), s.finds d ∧ d.begins tag.toNat 0x304 = some f ∧ d.restOk = true ∧ f.p 0 < 6 ∧ d.released 13 = true ∧ d.restoreTaken (f.p 0) = true) :=
  ⟨⟨{ dev := (withCmd upDev 0x300 [71]).put (fLaneState 71) 3 }, (withCmd upDev 0x300 [71]).put (fLaneState 71) 3, 255, cmd 0x300 [71], finds_at _ (by decide +kernel), by decide +kernel⟩,
   ⟨{ dev := withCmd upDev 0x301 [71] }, withCmd upDev 0x301 [71], 255, cmd 0x301 [71], finds_at _ (by decide +kernel), by decide +kernel⟩,
   ⟨{ dev := withCmd (upDev.setState 4) 0x302 [0x1F07] }, withCmd (upDev.setState 4) 0x302 [0x1F07], 255, cmd 0x302 [0x1F07], 7, 31, finds_at _ (by decide +kernel), by decide +kernel⟩,
   ⟨{ dev := (withCmd { upDev.setState 4 with job := some someJob } 0x303 []).putFlag fStuckHold true }, (withCmd { upDev.setState 4 with job := some someJob } 0x303 []).putFlag fStuckHold true, 255, cmd 0x303 [], finds_at _ (by decide +kernel), by decide +kernel⟩,
   ⟨{ dev := (withCmd upDev 0x304 [5]) }, (withCmd upDev 0x304 [5]), 255, cmd 0x304 [5], finds_at _ (by decide +kernel), by decide +kernel⟩⟩

theorem test_witness_MotionCommandsTakeEffect :
    (∃ (s : State) (d : Device) (tag : Byte) (f : Flight), s.finds d ∧ d.begins tag.toNat 0x400 = some f ∧ d.readyOk = true ∧ f.badParam [m32, 0xF, m32, 0xF] = none ∧ d.mot.readyMove = false ∧ d.released 13 = true ∧ d.badLimits = false) ∧
    (∃ (s : State) (d : Device) (tag : Byte) (f : Flight), s.finds d ∧ d.begins tag.toNat 0x401 = some f ∧ d.restOk = true ∧ f.badParam [1, m32, 0xF] = none ∧ d.gotoTaken (f.p 0) = true) ∧
    (∃ (s : State) (d : Device) (tag : Byte) (f : Flight), s.finds d ∧ d.begins tag.toNat 0x402 = some f ∧ d.readyOk = true ∧ d.mot.readyMove = true) ∧
    (∃ (s : State) (d : Device) (tag : Byte) (f : Flight), s.finds d ∧ d.begins tag.toNat 0x402 = some f ∧ d.readyOk = true ∧ d.mot.readyMove = false) :=
  ⟨⟨{ dev := withCmd jobDev 0x400 [1000, 0, 2000, 0] }, withCmd jobDev 0x400 [1000, 0, 2000, 0], 255, cmd 0x400 [1000, 0, 2000, 0], finds_at _ (by decide +kernel), by decide +kernel⟩,
   ⟨{ dev := (withCmd upDev 0x401 [1, 500, 0]).putFlag (fLaxEn 1) true }, (withCmd upDev 0x401 [1, 500, 0]).putFlag (fLaxEn 1) true, 255, cmd 0x401 [1, 500, 0], finds_at _ (by decide +kernel), by decide +kernel⟩,
   ⟨{ dev := withCmd { upDev with mot := { readyMove := true } } 0x402 [] }, withCmd { upDev with mot := { readyMove := true } } 0x402 [], 255, cmd 0x402 [], finds_at _ (by decide +kernel), by decide +kernel⟩,
   ⟨{ dev := withCmd upDev 0x402 [] }, withCmd upDev 0x402 [], 255, cmd 0x402 [], finds_at _ (by decide +kernel), by decide +kernel⟩⟩

theorem test_witness_UnitCommandsTakeEffect :
    (∃ (s : State) (d : Device) (tag : Byte) (f : Flight), s.finds d ∧ d.begins tag.toNat 0x500 = some f ∧ d.readyOk = true) ∧
    (∃ (s : State) (d : Device) (tag : Byte) (f : Flight), s.finds d ∧ d.begins tag.toNat 0x501 = some f ∧ d.readyOk = true ∧ f.badParam [0x1FFFFF] = none) ∧
    (∃ (s : State) (d : Device) (tag : Byte) (f : Flight), s.finds d ∧ d.begins tag.toNat 0x510 = some f ∧ d.runOk = true ∧ f.badParam [0x131F, m32, 0x3FFFFF] = none ∧ d.dmaState (bits (f.p 0) 0 5) = 0) ∧
    (∃ (s : State) (d : Device) (tag : Byte) (f : Flight), s.finds d ∧ d.begins tag.toNat 0x511 = some f ∧ d.runOk = true ∧ f.badParam [0xFF03, m32, 0xF, m32, 0xF, m18, m18, m32, m32] = none ∧ d.chkBusy (bits (f.p 0) 0 2) = false) ∧
    (∃ (s : State) (d : Device) (tag : Byte) (f : Flight), s.finds d ∧ d.begins tag.toNat 0x600 = some f ∧ d.readyOk = true ∧ d.needs [20] = true ∧ f.badParam [m32, 0xFFFF, m32] = none ∧ f.p 2 ≤ 999999999) ∧
    (∃ (s : State) (d : Device) (tag : Byte) (f : Flight), s.finds d ∧ d.begins tag.toNat 0x601 = some f ∧ d.restOk = true ∧ d.needs [20] = true) ∧
    (∃ (s : State) (d : Device) (tag : Byte) (f : Flight), s.finds d ∧ d.begins tag.toNat 0x610 = some f ∧ d.runOk = true ∧ d.needs [20] = true ∧ f.badParam (0x7 :: List.replicate 10 m18) = none ∧ d.spr.slots.toList.any (fun x => x.isOpen && x.source == .ndf (f.p 0)) = false) ∧
    (∃ (s : State) (d : Device) (tag : Byte) (f : Flight), s.finds d ∧ d.begins tag.toNat 0x701 = some f ∧ d.runOk = true ∧ d.needs [19] = true ∧ f.p 0 < 4 ∧ d.unitUp 19 = true ∧ d.portRetrainTaken (f.p 0) = true) :=
  ⟨⟨{ dev := withCmd upDev 0x500 [] }, withCmd upDev 0x500 [], 255, cmd 0x500 [], finds_at _ (by decide +kernel), by decide +kernel⟩,
   ⟨{ dev := withCmd upDev 0x501 [0x1FFFFF] }, withCmd upDev 0x501 [0x1FFFFF], 255, cmd 0x501 [0x1FFFFF], finds_at _ (by decide +kernel), by decide +kernel⟩,
   ⟨{ dev := withCmd upDev 0x510 [31, 0x100, 0] }, withCmd upDev 0x510 [31, 0x100, 0], 255, cmd 0x510 [31, 0x100, 0], finds_at _ (by decide +kernel), by decide +kernel⟩,
   ⟨{ dev := withCmd upDev 0x511 [3, 0, 0, 1, 0, 0, 0, 0, 0] }, withCmd upDev 0x511 [3, 0, 0, 1, 0, 0, 0, 0, 0], 255, cmd 0x511 [3, 0, 0, 1, 0, 0, 0, 0, 0], finds_at _ (by decide +kernel), by decide +kernel⟩,
   ⟨{ dev := withCmd upDev 0x600 [100, 0, 999999999] }, withCmd upDev 0x600 [100, 0, 999999999], 255, cmd 0x600 [100, 0, 999999999], finds_at _ (by decide +kernel), by decide +kernel⟩,
   ⟨{ dev := withCmd upDev 0x601 [] }, withCmd upDev 0x601 [], 255, cmd 0x601 [], finds_at _ (by decide +kernel), by decide +kernel⟩,
   ⟨{ dev := withCmd upDev 0x610 [7, 1, 2, 3, 4, 5, 6, 7, 8, 9, 10] }, withCmd upDev 0x610 [7, 1, 2, 3, 4, 5, 6, 7, 8, 9, 10], 255, cmd 0x610 [7, 1, 2, 3, 4, 5, 6, 7, 8, 9, 10], finds_at _ (by decide +kernel), by decide +kernel⟩,
   ⟨{ dev := (withCmd upDev 0x701 [3]).put fColumns 1 }, (withCmd upDev 0x701 [3]).put fColumns 1, 255, cmd 0x701 [3], finds_at _ (by decide +kernel), by decide +kernel⟩⟩

theorem test_witness_TableAndCompressCommandsTakeEffect :
    (∃ (s : State) (d : Device) (tag : Byte) (f : Flight), s.finds d ∧ d.begins tag.toNat 0x210 = some f ∧ d.runOk = true ∧ f.p 0 ≤ 0x1FF ∧ f.p 0 % 256 ≤ 9 ∧ f.p 1 + f.p 2 ≤ (tableShape (f.p 0 % 256)).1 ∧ d.loadBars (f.p 0 % 256) = false ∧ d.needs (tableIslands (f.p 0 % 256)) = true ∧ ((bitOf (f.p 0) 8 = true → d.classRefused f = false))) ∧
    (∃ (s : State) (d : Device) (tag : Byte) (f : Flight) (ts : List Nat), s.finds d ∧ d.begins tag.toNat 0x211 = some f ∧ d.runOk = true ∧ f.badParam [0x3FF] = none ∧ ts = (List.range 10).filter (fun t => bitOf (f.p 0) t) ∧ ts ≠ [] ∧ ts.any d.tableTaken = false ∧ d.needs (ts.flatMap tableIslands) = true ∧ d.classRefused f = false) ∧
    (∃ (s : State) (d : Device) (tag : Byte) (f : Flight) (vs : List Nat), s.finds d ∧ d.begins tag.toNat 0x212 = some f ∧ d.runs = true ∧ f.p 2 ≤ 9 ∧ f.p 3 ≤ 1 ∧ f.p 4 + f.p 5 ≤ (tableShape (f.p 2)).1 ∧ f.p 5 * (tableShape (f.p 2)).2 ≤ 4095 ∧ d.needs (tableIslands (f.p 2)) = true ∧ vs = (List.range (f.p 5 * (tableShape (f.p 2)).2)).map (fun i => d.tableDword (f.p 2) (f.p 3 == 1) (f.p 4 * (tableShape (f.p 2)).2 + i))) ∧
    (∃ (s : State) (d : Device) (tag : Byte) (f : Flight), s.finds d ∧ d.begins tag.toNat 0x111 = some f ∧ d.runOk = true ∧ d.needs [1] = true ∧ d.compressFault f = none ∧ (d.engine (f.p 0 % 2)).retired = false ∧ d.unitUp 1 = true ∧ bitOf (f.p 0) 1 = true ∧ (d.engine (f.p 0 % 2)).running = false) ∧
    (∃ (s : State) (d : Device) (tag : Byte) (f : Flight) (src : Source) (n : Nat), s.finds d ∧ d.begins tag.toNat 0x111 = some f ∧ d.runOk = true ∧ d.needs [1] = true ∧ d.compressFault f = none ∧ (d.engine (f.p 0 % 2)).retired = false ∧ d.unitUp 1 = true ∧ bitOf (f.p 0) 1 = false ∧ d.readSource (f.p 4) (f.p 5) (f.p 6) = some src ∧ ((src.isNdf = true → d.needs [20] = true)) ∧ (d.engine (f.p 0 % 2)).running = false ∧ d.closedSlot = some n) :=
  ⟨⟨{ dev := withCmd { upDev with hostMem := [(0x1000, 5)] } 0x210 [9, 0, 1, 0x1000, 0] }, withCmd { upDev with hostMem := [(0x1000, 5)] } 0x210 [9, 0, 1, 0x1000, 0], 255, cmd 0x210 [9, 0, 1, 0x1000, 0], finds_at _ (by decide +kernel), by decide +kernel⟩,
   ⟨{ dev := withCmd upDev 0x211 [1] }, withCmd upDev 0x211 [1], 255, cmd 0x211 [1], _, finds_at _ (by decide +kernel), by and_intros <;> first | decide +kernel | rfl⟩,
   ⟨{ dev := withCmd upDev 0x212 [0x1000, 0, 9, 1, 0, 1] }, withCmd upDev 0x212 [0x1000, 0, 9, 1, 0, 1], 255, cmd 0x212 [0x1000, 0, 9, 1, 0, 1], _, finds_at _ (by decide +kernel), by and_intros <;> first | decide +kernel | rfl⟩,
   ⟨{ dev := withCmd (regsAt upDev [(CST_DB_BASE, 0), (CST_DB_LINES + 4, 1)]) 0x111 [3, 0x7FFFFF00, 0, 0x100, 0] }, withCmd (regsAt upDev [(CST_DB_BASE, 0), (CST_DB_LINES + 4, 1)]) 0x111 [3, 0x7FFFFF00, 0, 0x100, 0], 255, cmd 0x111 [3, 0x7FFFFF00, 0, 0x100, 0], finds_at _ (by decide +kernel), by decide +kernel⟩,
   ⟨{ dev := withCmd (regsAt upDev [(SPR_SPOOL_LINES, 1)]) 0x111 [0, 0x7FFFFF00, 0, 0x100, 0x40000000, 0, 0] }, withCmd (regsAt upDev [(SPR_SPOOL_LINES, 1)]) 0x111 [0, 0x7FFFFF00, 0, 0x100, 0x40000000, 0, 0], 255, cmd 0x111 [0, 0x7FFFFF00, 0, 0x100, 0x40000000, 0, 0], .spool 0, 0, finds_at _ (by decide +kernel), by decide +kernel⟩⟩

theorem test_witness_PositionInputsTakeEffect :
    (∃ (s : State) (d : Device) (d1 : Device) (d2 : Device) (c : Fin 6) (a : Bool) (b : Bool) (na : Nat) (nb : Nat) (h : Head), s.finds d ∧ d.released 13 = true ∧ 3 ≤ na ∧ 3 ≤ nb ∧ h = { d.head c with a := a, b := b } ∧ (((h.q + 4 - (d.head c).q) % 4 = 1 ∨ (h.q + 4 - (d.head c).q) % 4 = 3)) ∧ d1 = (d.setHead c h).put (fChLevels c) (b2n a * 4 + b2n b * 2 + b2n h.z) ∧ d2 = d1.countStep c ((h.q + 4 - (d.head c).q) % 4 == 1)) ∧
    (∃ (s : State) (d : Device) (c : Fin 6) (n : Nat), s.finds d ∧ d.released 13 = true ∧ (d.head c).z = true ∧ 3 ≤ n) ∧
    (∃ (s : State) (d : Device) (c : Fin 6) (n : Nat), s.finds d ∧ d.released 13 = true ∧ (d.head c).z = false ∧ 3 ≤ n) ∧
    (∃ (s : State) (d : Device) (d0 : Device) (d1 : Device) (p : Fin 2) (level : Bool) (n : Nat), s.finds d ∧ d.released 13 = true ∧ 3 ≤ n ∧ d.pos.probes.toList.getD p false ≠ level ∧ d0 = ({ d with pos := { d.pos with probes := d.pos.probes.set! p level } } : Device).wakeLatch (1 + p) ∧ ((bits (d0.reg (POS_PRB_CTRL p)) 14 2 = 3 ∨ bits (d0.reg (POS_PRB_CTRL p)) 14 2 = (if level then 1 else 2))) ∧ d0.flag (bitAt (POS_PRB_CTRL p) 17) = false ∧ d1 = (d0.put36 (POS_PRB_TICK p) d0.tick).each (List.range 6) (fun d c => d.put36 (POS_PRB_POS p + 8 * c) (d.get36 (POS_CH_POS c)))) ∧
    (∃ (s : State) (d : Device) (p : Fin 2) (level : Bool) (n : Nat), s.finds d ∧ ((n < 3 ∨ d.pos.probes.toList.getD p false = level))) ∧
    (∃ (s : State) (d : Device) (p : Fin 2) (level : Bool) (n : Nat), s.finds d ∧ ((n < 3 ∨ d.pos.probes.toList.getD p false = level))) ∧
    (∃ (s : State) (d : Device) (c : Fin 6), s.finds d ∧ d.released 13 = true) ∧
    (∃ (s : State) (d : Device) (y : Bool), s.finds d ∧ d.released 13 = true ∧ d.diverged (b2n y) = true ∧ d.flag (fDiv (b2n y)) = false ∧ (((d.qerrWin (2 * b2n y) = 0) ↔ (d.qerrWin (2 * b2n y + 1) = 0)))) :=
  ⟨⟨{ dev := upDev }, upDev, _, _, 5, true, false, 3, 3, _, finds_at _ (by decide +kernel), by and_intros <;> first | decide +kernel | rfl⟩,
   ⟨{ dev := upDev.setHead 5 { z := true } }, upDev.setHead 5 { z := true }, 5, 3, finds_at _ (by decide +kernel), by decide +kernel⟩,
   ⟨{ dev := upDev }, upDev, 5, 3, finds_at _ (by decide +kernel), by decide +kernel⟩,
   ⟨{ dev := upDev.put { off := POS_PRB_CTRL 1, lo := 14, w := 2 } 1 }, upDev.put { off := POS_PRB_CTRL 1, lo := 14, w := 2 } 1, _, _, 1, true, 3, finds_at _ (by decide +kernel), by and_intros <;> first | decide +kernel | rfl⟩,
   ⟨{ dev := upDev }, upDev, 0, true, 2, finds_at _ (by decide +kernel), by decide +kernel⟩,
   ⟨{ dev := upDev }, upDev, 1, false, 9, finds_at _ (by decide +kernel), by decide +kernel⟩,
   ⟨{ dev := upDev }, upDev, 5, finds_at _ (by decide +kernel), by decide +kernel⟩,
   ⟨{ dev := ((upDev.put fXchkTicks 1).put fXchkTol 255).putS36 (POS_CH_POS 2) 1021 }, ((upDev.put fXchkTicks 1).put fXchkTol 255).putS36 (POS_CH_POS 2) 1021, true, finds_at _ (by decide +kernel), by decide +kernel⟩⟩

theorem test_witness_HeadControlAndComparesTakeEffect :
    (∃ (s : State) (d : Device) (c : Fin 6), s.finds d ∧ d.released 13 = true) ∧
    (∃ (s : State) (d : Device) (c : Fin 6), s.finds d ∧ d.released 13 = true ∧ d.restoreTaken c = true) ∧
    (∃ (s : State) (d : Device) (k : Fin 4), s.finds d ∧ d.released 13 = true ∧ d.delta (d.get36 (POS_TCMP_TARGET k)) < 0) ∧
    (∃ (s : State) (d : Device) (k : Fin 4), s.finds d ∧ d.released 13 = true ∧ 0 ≤ d.delta (d.get36 (POS_TCMP_TARGET k))) ∧
    (∃ (s : State) (d : Device) (k : Fin 4) (v : Word) (d1 : Device), s.finds d ∧ d.released 13 = true ∧ bitOf v.toNat 17 = true ∧ d1 = d.setReg (POS_PCMP_CTRL k) ((bits (d.reg (POS_PCMP_CTRL k)) 15 2 &&& ((3 - bits v.toNat 15 2) ||| bits (d.justSet (POS_PCMP_CTRL k)) 15 2)) * 32768 + (v.toNat &&& 0x7800))) ∧
    (∃ (s : State) (d : Device) (d1 : Device) (k : Fin 4), s.finds d ∧ d.released 13 = true ∧ d.flag (bitAt (POS_TCMP_CTRL k) 17) = true ∧ 0 ≤ d.delta (d.get36 (POS_TCMP_TARGET k)) ∧ d1 = (((d.putFlag (bitAt (POS_TCMP_CTRL k) 17) false).putFlag (bitAt (POS_TCMP_CTRL k) 15) true).itemIn 9).raise 157) :=
  ⟨⟨{ dev := upDev }, upDev, 5, finds_at _ (by decide +kernel), by decide +kernel⟩,
   ⟨{ dev := upDev }, upDev, 5, finds_at _ (by decide +kernel), by decide +kernel⟩,
   ⟨{ dev := upDev.put36 (POS_TCMP_TARGET 3) 1 }, upDev.put36 (POS_TCMP_TARGET 3) 1, 3, finds_at _ (by decide +kernel), by decide +kernel⟩,
   ⟨{ dev := upDev }, upDev, 3, finds_at _ (by decide +kernel), by decide +kernel⟩,
   ⟨{ dev := upDev.put36 (POS_PCMP_TARGET 3) 1 }, upDev.put36 (POS_PCMP_TARGET 3) 1, 3, 0x20000, _, finds_at _ (by decide +kernel), by and_intros <;> first | decide +kernel | rfl⟩,
   ⟨{ dev := upDev.putFlag (bitAt (POS_TCMP_CTRL 3) 17) true }, upDev.putFlag (bitAt (POS_TCMP_CTRL 3) 17) true, _, 3, finds_at _ (by decide +kernel), by and_intros <;> first | decide +kernel | rfl⟩⟩

theorem test_witness_StrobesAndThePermit :
    (∃ (s : State) (d : Device) (d1 : Device) (d2 : Device) (d3 : Device) (x : Decided) (j : Job), s.finds d ∧ d.fls.decided = some x ∧ d.job = some j ∧ x.rise ≤ d.clock ∧ d.strobeGated = false ∧ d1 = { d with fls := { d.fls with decided := none, flash := true, high := some (x.fseq, d.clock, d.clock + d.get fWindow), recent := (d.clock, x.fseq) :: d.fls.recent.filter (fun p => decide (d.clock ≤ p.1 + 12800)) } } ∧ d2 = ((((d1.put36 FLS_FIRED ((d1.get36 FLS_FIRED + 1) % pairMod)).put36 FLS_LAST_FSEQ x.fseq).countUsage x.fseq).mapJob (fun j => { j with firedN := x.n })) ∧ d3 = (((d2.setFrames (d2.lne.frames.filter (fun f => f.fseq != x.fseq))).itemOut 9).releaseRows).showCistern.each (List.range 72) Device.laneSettle) ∧
    (∃ (s : State) (d : Device) (fseq : Nat) (t0 : Nat) (t1 : Nat), s.finds d ∧ d.fls.high = some (fseq, t0, t1) ∧ t1 ≤ d.clock) ∧
    (∃ (s : State) (d : Device) (n : Nat) (d1 : Device), s.finds d ∧ 10 ≤ n ∧ d.flag fBlanked = false ∧ d1 = ({ d with fls := { d.fls with permit := false, fell := true } } : Device).putFlag fPermit false) ∧
    (∃ (s : State) (d : Device) (n : Nat), s.finds d ∧ 10 ≤ n ∧ d.inWriting = false) ∧
    (∃ (s : State) (d : Device), s.finds d ∧ d.released 13 = true) :=
  ⟨⟨{ dev := { (wrDev 3).putFlag fBlanked false with clock := 900, fls := { decided := some { n := 0, fseq := 0, tick := 100, rise := 900 } } } }, { (wrDev 3).putFlag fBlanked false with clock := 900, fls := { decided := some { n := 0, fseq := 0, tick := 100, rise := 900 } } }, _, _, _, { n := 0, fseq := 0, tick := 100, rise := 900 }, someJob, finds_at _ (by decide +kernel), by and_intros <;> first | decide +kernel | rfl⟩,
   ⟨{ dev := { wrDev 3 with clock := 1284, fls := { flash := true, high := some (0, 900, 1284) } } }, { wrDev 3 with clock := 1284, fls := { flash := true, high := some (0, 900, 1284) } }, 0, 900, 1284, finds_at _ (by decide +kernel), by decide +kernel⟩,
   ⟨{ dev := { upDev with fls := { permit := true } } }, { upDev with fls := { permit := true } }, 10, _, finds_at _ (by decide +kernel), by and_intros <;> first | decide +kernel | rfl⟩,
   ⟨{ dev := upDev }, upDev, 10, finds_at _ (by decide +kernel), by decide +kernel⟩,
   ⟨{ dev := upDev }, upDev, finds_at _ (by decide +kernel), by decide +kernel⟩⟩

theorem test_witness_StageAndLayerAxesTakeEffect :
    (∃ (s : State) (d : Device), s.finds d ∧ d.released 13 = true ∧ d.mot.nextBoundary ≤ d.clock ∧ ((d.mot.wrote.1 ≠ d.clock ∨ d.mot.wrote.2 = []))) ∧
    (∃ (d : Device) (d1 : Device) (tb : Nat), d.isWorker = true ∧ d1 = (if d.motionFirst.inReady then d.motionFirst.beginMotion tb else d.motionFirst).sendReport) ∧
    (∃ (s : State) (d : Device), s.finds d ∧ d.released 13 = true ∧ d.settled = true ∧ d.mot.readyMove = true ∧ d.someWaits (fun w => w == .motionStop) = false ∧ d.inWriting = false) ∧
    (∃ (s : State) (d : Device), s.finds d ∧ d.released 13 = true ∧ d.settled = true ∧ d.mot.readyMove = false ∧ d.inWriting = true ∧ d.phase = phStep) ∧
    (∃ (s : State) (d : Device), s.finds d ∧ d.released 13 = true ∧ d.inWriting = true ∧ d.mot.backupDue = true ∧ d.settled = true ∧ d.flag fStopPending = false) ∧
    (∃ (s : State) (d : Device) (d1 : Device) (d2 : Device) (d3 : Device) (j : Job) (t0 : Nat), s.finds d ∧ d.job = some j ∧ d.released 13 = true ∧ d.mot.nextBoundary ≤ d.clock ∧ d.isWorker = false ∧ d.inWriting = true ∧ d.awaitsRun = true ∧ d.mot.backupDue = false ∧ d.settled = true ∧ d.canRun = true ∧ d.runHeld j = (false, d1) ∧ (d1.isManager && !d1.workersReady) = false ∧ d1.mot.runSince = some t0 ∧ t0 < d1.mot.nextBoundary ∧ d2 = d1.armRun j ∧ d2.flag fStopPending = false ∧ d3 = d2.planRun j d2.mot.nextBoundary) ∧
    (∃ (s : State) (d : Device) (v : Word), s.finds d ∧ d.released 13 = true ∧ bitOf v.toNat 0 = true ∧ d.flag fSinePending = false ∧ ((d.putFlag fSinePending true).pendTable 9).inJob = false) ∧
    (∃ (s : State) (d : Device) (k : Fin 2) (v : Word) (lo : Word), s.finds d ∧ d.gotoTaken k = true ∧ cellFind d.heldWrites (MOT_LAX_GOTO k) = some lo) ∧
    (∃ (s : State) (d : Device) (n : Nat), s.finds d ∧ d.released 13 = true ∧ 800 ≤ n ∧ d.flag fLayerReady = true) ∧
    (∃ (s : State) (d : Device) (d1 : Device) (n : Nat), s.finds d ∧ d.released 13 = true ∧ 800 ≤ n ∧ d.flag fLayerReady = false ∧ d1 = (d.putFlag fLayerReady true).mapMot (fun m => { m with readyRise := some (d.putFlag fLayerReady true).clock })) ∧
    (∃ (s : State) (d : Device) (v : Word), s.finds d ∧ d.released 13 = true ∧ bitOf v.toNat 17 = true ∧ d.flag fGoSrc = true) ∧
    (∃ (s : State) (d : Device) (k : Fin 2) (mv : LayerMove), s.finds d ∧ d.released 13 = true ∧ d.layerMove k = some mv ∧ mv.sent = true ∧ mv.ended + d.reg MOT_SETTLE % 65536 * 800 ≤ d.clock ∧ ((bitOf (d.laxSet k).1 16 = false ∨ (d.getS36 (POS_CH_POS (4 + k)) - d.getS36 (MOT_LAX_CMD k)).natAbs ≤ bits (d.laxSet k).1 8 8))) :=
  ⟨⟨{ dev := upDev }, upDev, finds_at _ (by decide +kernel), by decide +kernel⟩,
   ⟨meshDev 1, _, 800, by and_intros <;> first | decide +kernel | rfl⟩,
   ⟨{ dev := { upDev with mot := { readyMove := true } , clock := 80000000 } }, { upDev with mot := { readyMove := true } , clock := 80000000 }, finds_at _ (by decide +kernel), by decide +kernel⟩,
   ⟨{ dev := { wrDev 5 with clock := 80000000 } }, { wrDev 5 with clock := 80000000 }, finds_at _ (by decide +kernel), by decide +kernel⟩,
   ⟨{ dev := { wrDev 1 with clock := 80000000, mot := { backupDue := true } } }, { wrDev 1 with clock := 80000000, mot := { backupDue := true } }, finds_at _ (by decide +kernel), by decide +kernel⟩,
   ⟨{ dev := { (((wrDev 1).put fArrayDepth 1).put36 FLS_FIRED 63).put36 FLS_LAST_FSEQ 62 with clock := 80000000, mot := { nextBoundary := 80000000, runSince := some 79999999, captured := some (131072, 131072, 131072) }, job := some { someJob with decidedN := 62 }, lne := { frames := flash0.map (fun f => { f with n := 63, fseq := 63 }) } } }, { (((wrDev 1).put fArrayDepth 1).put36 FLS_FIRED 63).put36 FLS_LAST_FSEQ 62 with clock := 80000000, mot := { nextBoundary := 80000000, runSince := some 79999999, captured := some (131072, 131072, 131072) }, job := some { someJob with decidedN := 62 }, lne := { frames := flash0.map (fun f => { f with n := 63, fseq := 63 }) } }, { (((wrDev 1).put fArrayDepth 1).put36 FLS_FIRED 63).put36 FLS_LAST_FSEQ 62 with clock := 80000000, mot := { nextBoundary := 80000000, runSince := some 79999999, captured := some (131072, 131072, 131072) }, job := some { someJob with decidedN := 62 }, lne := { frames := flash0.map (fun f => { f with n := 63, fseq := 63 }) } }, _, _, { someJob with decidedN := 62 }, 79999999, finds_at _ (by decide +kernel), by and_intros <;> first | decide +kernel | rfl⟩,
   ⟨{ dev := upDev }, upDev, 1, finds_at _ (by decide +kernel), by decide +kernel⟩,
   ⟨{ dev := { upDev.putFlag (fLaxEn 1) true with heldWrites := [(MOT_LAX_GOTO 1, 5)] } }, { upDev.putFlag (fLaxEn 1) true with heldWrites := [(MOT_LAX_GOTO 1, 5)] }, 1, 0, 5, finds_at _ (by decide +kernel), by decide +kernel⟩,
   ⟨{ dev := upDev.putFlag fLayerReady true }, upDev.putFlag fLayerReady true, 800, finds_at _ (by decide +kernel), by decide +kernel⟩,
   ⟨{ dev := upDev }, upDev, _, 800, finds_at _ (by decide +kernel), by and_intros <;> first | decide +kernel | rfl⟩,
   ⟨{ dev := { (wrDev 6).putFlag fGoSrc true with mot := { layerStep := 3 } } }, { (wrDev 6).putFlag fGoSrc true with mot := { layerStep := 3 } }, 0x20000, finds_at _ (by decide +kernel), by decide +kernel⟩,
   ⟨{ dev := { upDev.putFlag (fLaxVerify 1) false with clock := 80000000, mot := { layer := #v[none, some { p0 := 0, p1 := 5, vmax := 100, acc := 100, goto := true, sent := true }] } } }, { upDev.putFlag (fLaxVerify 1) false with clock := 80000000, mot := { layer := #v[none, some { p0 := 0, p1 := 5, vmax := 100, acc := 100, goto := true, sent := true }] } }, 1, { p0 := 0, p1 := 5, vmax := 100, acc := 100, goto := true, sent := true }, finds_at _ (by decide +kernel), by decide +kernel⟩⟩

theorem test_witness_JobEventsTakeEffect :
    (∃ (s : State) (d : Device) (j : Job), s.finds d ∧ d.job = some j ∧ d.released 13 = true ∧ d.inWriting = true ∧ d.flag fStopPending = false ∧ (j.nFlashes : Int) ≤ j.firedN + 1 ∧ d.fls.high = none ∧ d.phase = phRunOut ∧ ((d.isWorker = true ∨ (d.mot.runOut = true ∧ d.atRest = true)))) ∧
    (∃ (s : State) (d : Device) (d1 : Device) (d2 : Device) (d3 : Device) (j : Job), s.finds d ∧ d.job = some j ∧ d.released 13 = true ∧ d.inWriting = true ∧ d.flag fStopPending = true ∧ j.aborting = false ∧ d.stopRests = true ∧ d1 = ((d.setState stHeld).setPhase phIdle).putFlag fStopPending false ∧ d2 = (((d1.putFlag fArmed false).raise 161).putS36 MOT_REST_X ((d1.putFlag fArmed false).raise 161).mot.x).discardAfter (j.fseq j.decidedN) ∧ d3 = (({ d2 with fls := { d2.fls with flushDue := false, stopArmed := false } } : Device).completeWhere (fun w => w == .pause) sOK 0 []).mapJob (fun j => { j with pausing := false })) ∧
    (∃ (s : State) (d : Device) (j : Job) (c : Nat), s.finds d ∧ d.start = some (.join, j) ∧ d.msh.joinSince + 8000000000 ≤ d.clock ∧ d.workers.find? (fun c => !(d.msh.joins.any (fun x => x.1 == c))) = some c) ∧
    (∃ (s : State) (d : Device) (v : Word), s.finds d ∧ d.released 13 = true ∧ bitOf v.toNat 0 = true ∧ d.flag fFlsPending = false ∧ ((d.putFlag fFlsPending true).pendTable 8).inJob = false) :=
  ⟨⟨{ dev := { wrDev 4 with job := some { someJob with firedN := 63, decidedN := 63 }, mot := { runOut := true } } }, { wrDev 4 with job := some { someJob with firedN := 63, decidedN := 63 }, mot := { runOut := true } }, { someJob with firedN := 63, decidedN := 63 }, finds_at _ (by decide +kernel), by decide +kernel⟩,
   ⟨{ dev := (wrDev 7).putFlag fStopPending true }, (wrDev 7).putFlag fStopPending true, _, _, _, someJob, finds_at _ (by decide +kernel), by and_intros <;> first | decide +kernel | rfl⟩,
   ⟨{ dev := { upDev.put fColumns 1 with clock := 8000000000, start := some (.join, someJob) } }, { upDev.put fColumns 1 with clock := 8000000000, start := some (.join, someJob) }, someJob, 1, finds_at _ (by decide +kernel), by decide +kernel⟩,
   ⟨{ dev := upDev }, upDev, 1, finds_at _ (by decide +kernel), by decide +kernel⟩⟩

set_option maxRecDepth 100000 in
theorem test_witness_PassportBusTakesEffect :
    (∃ (s : State) (d : Device) (bytes : List Byte) (p : List Nat), s.finds d ∧ d.lne.pp.cmd = 1 ∧ ppPayload (bytes.map (fun b => b.toNat)) 208 = some p ∧ bytes ≠ []) ∧
    (∃ (s : State) (d : Device), s.finds d ∧ d.lne.pp.cmd ≠ 0 ∧ d.lne.pp.since + 400000000 ≤ d.clock) ∧
    (∃ (s : State) (d : Device) (t : Nat), s.finds d ∧ d.lne.pp.retryAt = some t ∧ t ≤ d.clock) :=
  ⟨⟨{ dev := { upDev with lne := { pp := { cmd := 1 } } } }, { upDev with lne := { pp := { cmd := 1 } } }, ([0, 208, 0] ++ List.replicate 208 0 ++ leBytes 2 (crc16 ([0, 208, 0] ++ List.replicate 208 0))).map (BitVec.ofNat 8), List.replicate 208 0, finds_at _ (by decide +kernel), by decide +kernel⟩,
   ⟨{ dev := { upDev with clock := 400000000, lne := { pp := { cmd := 1 } } } }, { upDev with clock := 400000000, lne := { pp := { cmd := 1 } } }, finds_at _ (by decide +kernel), by decide +kernel⟩,
   ⟨{ dev := { upDev with clock := 100, lne := { pp := { retryAt := some 100 } } } }, { upDev with clock := 100, lne := { pp := { retryAt := some 100 } } }, 100, finds_at _ (by decide +kernel), by decide +kernel⟩⟩

set_option maxRecDepth 100000 in
theorem test_witness_FramesAreSentAnsweredAndReplayed :
    (∃ (s : State) (d : Device) (d1 : Device) (n : Fin 72) (g : Nat) (k : Nat) (j : Job) (codes : List Nat) (f : Frame) (f1 : Frame), s.finds d ∧ d.carried n = some g ∧ d.groupCodes g (d.nextSend g) = some (j, k, codes) ∧ (d.unitUp 18 && d.dataRuns && d.laneSt n == laneActive && d.laneFree n) = true ∧ d.creditsUsed g < d.get fArrayDepth ∧ d.lne.frames.any (fun f => f.lane == n.val && f.state == .replay) = false ∧ f = { group := g, n := k, fseq := d.nextSend g, head := g * 4096 + d.get fCodeBits * 1024 + b2n j.reverse * 256 + j.pass * 32, payload := packCodes (d.get fCodeBits) codes, sum := codes.foldl (· + ·) 0, lane := n, crc := 0, endTick := 0, state := .awaiting } ∧ d.transmit f n = (d1, f1)) ∧
    (∃ (s : State) (d : Device) (d1 : Device) (n : Fin 72) (b : RxBlock) (w : BitVec 5140) (x : LaneRx) (err : Option (Nat × Nat × Nat)), s.finds d ∧ d.laneHears n = true ∧ d.laneSt n ≠ laneLoopback ∧ b.codeword = .message w ∧ blockClean (d.arrayPort n) w.toNat = true ∧ msgType w.toNat = btACK ∧ x = (d.rxOf n).skip b.idles ∧ (d.setRx n (x.take w.toNat)).takeAcks n (ackEntries w.toNat) = (err, d1)) ∧
    (∃ (s : State) (d : Device) (g : Fin 64) (fseq : BitVec 36) (f : Frame), s.finds d ∧ d.unitUp 18 = true ∧ d.lne.frames.find? (fun f => f.group == g.val && f.fseq == fseq.toNat && f.state == .awaiting) = some f ∧ f.endTick + 8 * (d.reg LNE_ACK_TIMEOUT % 2048) < d.clock) ∧
    (∃ (s : State) (d : Device) (d1 : Device) (n : Fin 72) (f : Frame) (f1 : Frame), s.finds d ∧ d.replayNext n = some f ∧ d.unitUp 18 = true ∧ d.laneSt n = laneActive ∧ d.laneFree n = true ∧ d.transmit { f with head := setBits f.head 9 1 1 } n = (d1, f1)) ∧
    (∃ (s : State) (d : Device) (g : Fin 64) (x : Flush) (n : Nat) (t0 : Nat), s.finds d ∧ d.unitUp 18 = true ∧ d.lne.flushes.find? (fun x => x.group == g.val) = some x ∧ x.tick = some t0 ∧ t0 + 80000 < d.clock ∧ d.carryingLane g = some n) :=
  ⟨⟨{ dev := ((wrDev 3).put fArrayDepth 16).setLaneSt 70 2 }, ((wrDev 3).put fArrayDepth 16).setLaneSt 70 2, _, 70, 63, 0, someJob, List.replicate 4096 0, _, _, finds_at _ (by decide +kernel), by and_intros <;> first | decide +kernel | exact rfl | rfl⟩,
   ⟨{ dev := upDev.setLaneSt 71 2 }, upDev.setLaneSt 71 2, _, 71, { idles := 0, codeword := .message (blockOf 0x5010000 229665 12366) }, blockOf 0x5010000 229665 12366, _, none, finds_at _ (by decide +kernel), by and_intros <;> first | decide +kernel | rfl⟩,
   ⟨{ dev := { wrDev 3 with clock := 100000, lne := { frames := flash0.map (fun f => { f with state := .awaiting }) } } }, { wrDev 3 with clock := 100000, lne := { frames := flash0.map (fun f => { f with state := .awaiting }) } }, 63, 0, { group := 63, n := 0, fseq := 0, head := 0, payload := [], sum := 0, lane := 63, crc := 0, endTick := 0, state := .awaiting }, finds_at _ (by decide +kernel), by decide +kernel⟩,
   ⟨{ dev := { (wrDev 3).setLaneSt 71 2 with lne := { frames := [{ group := 63, n := 0, fseq := 0, head := 0, payload := [], sum := 0, lane := 71, crc := 0, endTick := 0, state := .replay }] } } }, { (wrDev 3).setLaneSt 71 2 with lne := { frames := [{ group := 63, n := 0, fseq := 0, head := 0, payload := [], sum := 0, lane := 71, crc := 0, endTick := 0, state := .replay }] } }, _, 71, { group := 63, n := 0, fseq := 0, head := 0, payload := [], sum := 0, lane := 71, crc := 0, endTick := 0, state := .replay }, _, finds_at _ (by decide +kernel), by and_intros <;> first | decide +kernel | exact rfl | rfl⟩,
   ⟨{ dev := { wrDev 3 with clock := 80001, lne := { flushes := [{ group := 63, next := 5, all := false, tick := some 0 }] } } }, { wrDev 3 with clock := 80001, lne := { flushes := [{ group := 63, next := 5, all := false, tick := some 0 }] } }, 63, { group := 63, next := 5, all := false, tick := some 0 }, 70, 0, finds_at _ (by decide +kernel), by decide +kernel⟩⟩

set_option maxRecDepth 100000 in
theorem test_witness_LaneInputsTakeEffect :
    (∃ (s : State) (d : Device) (n : Fin 72) (b : RxBlock) (w : BitVec 5140) (x : LaneRx), s.finds d ∧ d.laneHears n = true ∧ d.laneSt n ≠ laneLoopback ∧ b.codeword = .message w ∧ blockClean (d.arrayPort n) w.toNat = true ∧ x = (d.rxOf n).skip b.idles ∧ msgType w.toNat = btSTATUS) ∧
    (∃ (s : State) (d : Device) (n : Fin 72) (b : RxBlock) (w : BitVec 5140) (x : LaneRx), s.finds d ∧ d.laneHears n = true ∧ d.laneSt n ≠ laneLoopback ∧ b.codeword = .message w ∧ blockClean (d.arrayPort n) w.toNat = true ∧ x = (d.rxOf n).skip b.idles ∧ msgType w.toNat = btMARKER) ∧
    (∃ (s : State) (d : Device), s.finds d ∧ d.unitUp 18 = true ∧ d.lne.lastStatus + 800000 ≤ d.clock ∧ d.flag fStale = false) ∧
    (∃ (s : State) (d : Device) (n : Fin 72), s.finds d ∧ d.unitUp 18 = true) ∧
    (∃ (s : State) (d : Device) (n : Fin 72) (b : RxBlock) (w : BitVec 5140) (x : LaneRx), s.finds d ∧ d.laneHears n = true ∧ d.laneSt n ≠ laneLoopback ∧ b.codeword = .message w ∧ blockClean (d.arrayPort n) w.toNat = false ∧ x = (d.rxOf n).skip b.idles) ∧
    (∃ (s : State) (d : Device) (n : Fin 72) (b : RxBlock) (x : LaneRx), s.finds d ∧ d.laneHears n = true ∧ d.laneSt n ≠ laneLoopback ∧ b.codeword = .uncorrectable ∧ x = (d.rxOf n).skip b.idles) ∧
    (∃ (s : State) (d : Device) (n : Fin 72) (b : RxBlock) (w : BitVec 5140) (g : Nat) (c : Nat) (body : List Nat) (c1 : Nat), s.finds d ∧ d.unitUp 18 = true ∧ d.laneSt n = laneLoopback ∧ b.idles = 0 ∧ b.codeword = .message w ∧ msgType w.toNat ≠ btMARKER ∧ d.prbsOf n = (g, c) ∧ prbsBody c = (body, c1) ∧ msgBody w.toNat ≠ body) :=
  ⟨⟨{ dev := upDev.setLaneSt 71 2 }, upDev.setLaneSt 71 2, 71, { idles := 63, codeword := .message (blockOf 0x6010000 235015 4646) }, blockOf 0x6010000 235015 4646, _, finds_at _ (by decide +kernel), by and_intros <;> first | decide +kernel | rfl⟩,
   ⟨{ dev := upDev.setLaneSt 71 2 }, upDev.setLaneSt 71 2, 71, { idles := 0, codeword := .message (blockOf (0x2400000 + 71 * 2 ^ 28 + 2 ^ 46) 149055 8129) }, blockOf (0x2400000 + 71 * 2 ^ 28 + 2 ^ 46) 149055 8129, _, finds_at _ (by decide +kernel), by and_intros <;> first | decide +kernel | rfl⟩,
   ⟨{ dev := clockAt ((upDev.setReg LNE_ZONE_STATUS 0)) 800000 }, clockAt ((upDev.setReg LNE_ZONE_STATUS 0)) 800000, finds_at _ (by decide +kernel), by decide +kernel⟩,
   ⟨{ dev := upDev.setLaneSt 71 2 }, upDev.setLaneSt 71 2, 71, finds_at _ (by decide +kernel), by decide +kernel⟩,
   ⟨{ dev := upDev.setLaneSt 71 2 }, upDev.setLaneSt 71 2, 71, { idles := 0, codeword := .message 1 }, 1, _, finds_at _ (by decide +kernel), by and_intros <;> first | decide +kernel | rfl⟩,
   ⟨{ dev := upDev.setLaneSt 71 2 }, upDev.setLaneSt 71 2, 71, { idles := 5, codeword := .uncorrectable }, _, finds_at _ (by decide +kernel), by and_intros <;> first | decide +kernel | rfl⟩,
   ⟨{ dev := upDev.setLaneSt 71 laneLoopback }, upDev.setLaneSt 71 laneLoopback, 71, { idles := 0, codeword := .message 0 }, 0, prbsStart, prbsStart, (prbsBody prbsStart).1, (prbsBody prbsStart).2, finds_at _ (by decide +kernel), by decide +kernel⟩⟩

theorem test_witness_LanesAreTrainedAndCalibrated :
    (∃ (s : State) (d : Device) (n : Fin 72) (t : Nat), s.finds d ∧ d.lne.retrying.find? (fun p => p.1 == n.val) = some (n.val, t) ∧ d.unitUp 18 = true ∧ t + 80000000 ≤ d.clock ∧ d.laneSt n = laneDown) ∧
    (∃ (s : State) (d : Device) (d1 : Device) (d2 : Device) (n : Fin 72) (r : LaneTraining), s.finds d ∧ d.unitUp 18 = true ∧ d.laneSt n = laneTraining ∧ d.turned n = none ∧ r.locked = true ∧ d1 = ((d.putFlag (fLanePolRx n) r.invertRx).putFlag (fLanePolTx n) r.invertTx).trainExchange n r ∧ d1.laneSt n = laneTraining ∧ d2 = ((d1.searchTaps n r.scan).setReg (LNE_LANE_EYE_FAR n) r.eyeFar.toNat).setReg (LNE_LANE_EYE_NEAR n) r.eyeNear.toNat ∧ d2.eyesPass r.eyeFar.toNat r.eyeNear.toNat = true) ∧
    (∃ (s : State) (d : Device) (n : Fin 72) (r : LaneTraining), s.finds d ∧ d.unitUp 18 = true ∧ d.laneSt n = laneTraining ∧ d.turned n = none ∧ r.locked = false) ∧
    (∃ (s : State) (d : Device) (n : Fin 72), s.finds d ∧ d.unitUp 18 = true ∧ d.retrainTaken n = true) ∧
    (∃ (s : State) (d : Device) (n : Fin 72), s.finds d ∧ d.unitUp 18 = true) ∧
    (∃ (s : State) (d : Device) (d1 : Device) (d2 : Device) (n : Fin 72) (v : Word), s.finds d ∧ d.unitUp 18 = true ∧ d.loopTaken n = true ∧ d1 = (d.noteTurn n).put (fLaneLoop n) (bits v.toNat 16 2) ∧ d2 = ((if d1.laneSt n = laneLoopback then d1 else d1.laneOut n laneLoopback).groupTrained (laneGroup n)).setPrbs n (prbsStart, prbsStart)) ∧
    (∃ (s : State) (d : Device) (q : Device) (n : Fin 72), s.finds d ∧ d.calMay n = true ∧ d.released 13 = true ∧ q = { d with lne := { d.lne with calQueue := d.lne.calQueue.filter (fun m => m != n.val) } } ∧ (d.carried n = none ∨ d.inWriting = false)) ∧
    (∃ (s : State) (d : Device) (q : Device) (n : Fin 72), s.finds d ∧ d.calMay n = true ∧ d.released 13 = true ∧ q = { d with lne := { d.lne with calQueue := d.lne.calQueue.filter (fun m => m != n.val) } }) ∧
    (∃ (s : State) (d : Device) (d1 : Device) (n : Fin 72) (scan : TapScan) (far : Word) (near : Word), s.finds d ∧ d.unitUp 18 = true ∧ d.laneSt n = laneCal ∧ d1 = ((d.searchTaps n scan).setReg (LNE_LANE_EYE_FAR n) far.toNat).setReg (LNE_LANE_EYE_NEAR n) near.toNat ∧ d1.eyesPass far.toNat near.toNat = true) :=
  ⟨⟨{ dev := { upDev with clock := 80000000, lne := { retrying := [(71, 0)] } } }, { upDev with clock := 80000000, lne := { retrying := [(71, 0)] } }, 71, 0, finds_at _ (by decide +kernel), by decide +kernel⟩,
   ⟨{ dev := upDev.setLaneSt 71 1 }, upDev.setLaneSt 71 1, _, _, 71, { someTraining with arrival := 1023, invertRx := true }, finds_at _ (by decide +kernel), by and_intros <;> first | decide +kernel | rfl⟩,
   ⟨{ dev := upDev.setLaneSt 71 1 }, upDev.setLaneSt 71 1, 71, { someTraining with locked := false }, finds_at _ (by decide +kernel), by decide +kernel⟩,
   ⟨{ dev := upDev }, upDev, 71, finds_at _ (by decide +kernel), by decide +kernel⟩,
   ⟨{ dev := upDev }, upDev, 71, finds_at _ (by decide +kernel), by decide +kernel⟩,
   ⟨{ dev := upDev }, upDev, _, _, 71, 0x30000, finds_at _ (by decide +kernel), by and_intros <;> first | decide +kernel | rfl⟩,
   ⟨{ dev := { upDev.setLaneSt 71 3 with lne := { calQueue := [71] } } }, { upDev.setLaneSt 71 3 with lne := { calQueue := [71] } }, _, 71, finds_at _ (by decide +kernel), by and_intros <;> first | decide +kernel | rfl⟩,
   ⟨{ dev := { (upDev.setState 3).setLaneSt 71 2 with lne := { calQueue := [71] } } }, { (upDev.setState 3).setLaneSt 71 2 with lne := { calQueue := [71] } }, _, 71, finds_at _ (by decide +kernel), by and_intros <;> first | decide +kernel | rfl⟩,
   ⟨{ dev := upDev.setLaneSt 71 4 }, upDev.setLaneSt 71 4, _, 71, Vector.replicate 4 (Vector.replicate 9 0), 0x3FFFF, 0x3FFFF, finds_at _ (by decide +kernel), by and_intros <;> first | decide +kernel | rfl⟩⟩

set_option maxRecDepth 100000 in
theorem test_witness_RillsTakeEffect :
    (∃ (s : State) (d : Device) (d1 : Device) (j0 : Job) (j : Job) (k : Fin 256) (n : Nat) (rill : Nat) (cells : List CellError) (f : Option RillFault), s.finds d ∧ d.job = some j0 ∧ j0.atFseq (d.nextRill j0 k) = some (j, n) ∧ d.ril.loading.contains k.val = false ∧ d.rillReady j k n = true ∧ rill = 33 * (k / 32) + d.reg (RIL_GRP_SLOT k) % 64 ∧ d1 = d.rillReads rill (d.slotLines j k n) cells ∧ (d.slotLines j k n).find? (fun l => !d1.lineWritten l) = none ∧ f.bind (d1.faultBeam j k n) = none) ∧
    (∃ (s : State) (d : Device) (d1 : Device) (j0 : Job) (j : Job) (k : Fin 256) (n : Nat) (rill : Nat) (cells : List CellError) (f : Option RillFault) (b : Nat), s.finds d ∧ d.job = some j0 ∧ j0.atFseq (d.nextRill j0 k) = some (j, n) ∧ d.ril.loading.contains k.val = false ∧ d.rillReady j k n = true ∧ rill = 33 * (k / 32) + d.reg (RIL_GRP_SLOT k) % 64 ∧ d1 = d.rillReads rill (d.slotLines j k n) cells ∧ (d.slotLines j k n).find? (fun l => !d1.lineWritten l) = none ∧ f.bind (d1.faultBeam j k n) = some b) ∧
    (∃ (s : State) (d : Device) (d1 : Device) (j0 : Job) (j : Job) (k : Fin 256) (n : Nat) (rill : Nat) (cells : List CellError) (f : Option RillFault) (l : Nat), s.finds d ∧ d.job = some j0 ∧ j0.atFseq (d.nextRill j0 k) = some (j, n) ∧ d.ril.loading.contains k.val = false ∧ d.rillReady j k n = true ∧ rill = 33 * (k / 32) + d.reg (RIL_GRP_SLOT k) % 64 ∧ d1 = d.rillReads rill (d.slotLines j k n) cells ∧ (d.slotLines j k n).find? (fun l => !d1.lineWritten l) = some l) ∧
    (∃ (s : State) (d : Device) (d1 : Device) (d2 : Device) (j : Job) (k : Fin 256) (x : RillJob), s.finds d ∧ d.job = some j ∧ d.ril.jobs.find? (fun x => x.slot == k.val) = some x ∧ d.unitUp (5 + k / 32) = true ∧ d1 = (({ d with ril := { d.ril with jobs := d.ril.jobs.filter (fun y => y.slot != k.val) }, slotBuf := d.slotBuf ++ [({ slot := k, n := x.n, fseq := x.fseq, codes := x.codes } : SlotFlash)] } : Device).recovered 7 x.rill).itemOut 7 ∧ d2 = d1.countClamps ((j.atFseq x.fseq).map (fun p => p.1.key)) x.clamps) ∧
    (∃ (s : State) (d : Device) (g : Fin 8), s.finds d ∧ d.unitUp (5 + g) = true) ∧
    (∃ (s : State) (d : Device) (d1 : Device) (j : Job), s.finds d ∧ d.boundaryDue = some j ∧ d1 = (({ d with ril := { d.ril with boundary := some j.key, old := if d.job.any j.samePass then none else some d.rillTables }, tbl := { d.tbl with rill := some (d.clock, j.stripe, j.layer) } } : Device).setReg RIL_BOUNDARY j.stripe).setReg (RIL_BOUNDARY + 4) j.layer) ∧
    (∃ (s : State) (d : Device) (v : Word), s.finds d ∧ d.unitUp 5 = true ∧ v.toNat % 16 ≠ 0 ∧ d.inJob = false ∧ (if maskBit (v.toNat % 16) 1 then d.maskRange RIL_MASK else none) = none) ∧
    (∃ (s : State) (d : Device) (d1 : Device) (d2 : Device) (d3 : Device) (m : Nat) (mine : List Nat) (fail : Option (Nat × Nat)) (ranges : Option (Nat × Nat)), s.finds d ∧ d.ril.check = some m ∧ d.unitUp 5 = true ∧ mine = (List.range 4).filter (fun t => maskBit m t) ∧ d1 = ({ d with ril := { d.ril with check := none } } : Device).putFlag fCheckRun false ∧ ranges = (if maskBit m 1 || d.flag (fRilPending 1) then (d1.maskRange RIL_MASK).map (fun i => (ckMASK_RANGE, i)) else none) ∧ fail = (if d1.inJob then d1.job.elim ranges (fun j => d1.rillCheck j (fun t => maskBit m t || d.flag (fRilPending t))) else ranges) ∧ d2 = ((d1.each mine (fun d t => d.putFlag (fRilRefused t) false)).pendRill mine).checkEnds m none ∧ d3 = (match fail with | some (cause, item) => ((d1.each mine (fun d t => d.putFlag (fRilRefused t) true)).checkFailed cause item).checkEnds m (some cause) | none => if d2.inJob then d2.rillMeets else d2.switchRill wordMax wordMax clsJob)) ∧
    (∃ (s : State) (d : Device) (d1 : Device) (g : Fin 8) (v : Word), s.finds d ∧ d.unitUp (5 + g) = true ∧ d.forceTaken g v.toNat = true ∧ d1 = d.switchIn (32 * g + v.toNat % 32) (d.reg (RIL_GRP_SLOT (32 * g + v.toNat % 32)) % 64)) ∧
    (∃ (s : State) (d : Device) (v : Word), s.finds d ∧ d.unitUp 5 = true ∧ bitOf v.toNat 0 = true ∧ d.ackTaken = true) :=
  ⟨⟨{ dev := { wrDev 3 with cst := { rows := [8], written := [0, 1, 2, 3, 4, 5, 6, 7] }, ril := { boundary := some someJob.key } } }, { wrDev 3 with cst := { rows := [8], written := [0, 1, 2, 3, 4, 5, 6, 7] }, ril := { boundary := some someJob.key } }, _, someJob, someJob, 0, 0, _, [], none, finds_at _ (by decide +kernel), by and_intros <;> first | decide +kernel | rfl⟩,
   ⟨{ dev := { wrDev 3 with cst := { rows := [8], written := [0, 1, 2, 3, 4, 5, 6, 7] }, ril := { boundary := some someJob.key } } }, { wrDev 3 with cst := { rows := [8], written := [0, 1, 2, 3, 4, 5, 6, 7] }, ril := { boundary := some someJob.key } }, _, someJob, someJob, 0, 0, _, [{ line := 49151, pair := 31, double := true }], some (.parity 1023), 1023, finds_at _ (by decide +kernel), by and_intros <;> first | decide +kernel | rfl⟩,
   ⟨{ dev := { wrDev 3 with cst := { rows := [8], written := [1, 2, 3, 4, 5, 6, 7] }, ril := { boundary := some someJob.key } } }, { wrDev 3 with cst := { rows := [8], written := [1, 2, 3, 4, 5, 6, 7] }, ril := { boundary := some someJob.key } }, _, someJob, someJob, 0, 0, _, [], none, 0, finds_at _ (by decide +kernel), by and_intros <;> first | decide +kernel | rfl⟩,
   ⟨{ dev := { wrDev 3 with ril := { jobs := [{ slot := 255, rill := 255, n := 0, fseq := 0, codes := [], clamps := 0 }] } } }, { wrDev 3 with ril := { jobs := [{ slot := 255, rill := 255, n := 0, fseq := 0, codes := [], clamps := 0 }] } }, _, _, someJob, 255, { slot := 255, rill := 255, n := 0, fseq := 0, codes := [], clamps := 0 }, finds_at _ (by decide +kernel), by and_intros <;> first | decide +kernel | rfl⟩,
   ⟨{ dev := upDev }, upDev, 7, finds_at _ (by decide +kernel), by decide +kernel⟩,
   ⟨{ dev := { wrDev 1 with cst := { rows := [8] } } }, { wrDev 1 with cst := { rows := [8] } }, _, someJob, finds_at _ (by decide +kernel), by and_intros <;> first | decide +kernel | rfl⟩,
   ⟨{ dev := upDev }, upDev, 1, finds_at _ (by decide +kernel), by decide +kernel⟩,
   ⟨{ dev := { upDev with ril := { check := some 1 } } }, { upDev with ril := { check := some 1 } }, _, _, _, 1, _, _, _, finds_at _ (by decide +kernel), by and_intros <;> first | decide +kernel | rfl⟩,
   ⟨{ dev := upDev }, upDev, _, 7, 0x2001F, finds_at _ (by decide +kernel), by and_intros <;> first | decide +kernel | rfl⟩,
   ⟨{ dev := (upDev.setState 4).putFlag fStuckHold true }, (upDev.setState 4).putFlag fStuckHold true, 1, finds_at _ (by decide +kernel), by decide +kernel⟩⟩

set_option maxRecDepth 100000 in
theorem test_witness_StreamSlotsTakeEffect :
    (∃ (s : State) (d : Device) (d1 : Device) (n : Fin 16) (j : Job) (layer : Nat) (k : Nat), s.finds d ∧ d.job = some j ∧ d.unitUp 1 = true ∧ (d.slot n).isOpen = false ∧ d.inJob = true ∧ d.flag fSprFailed = false ∧ d.csc.failed = false ∧ d.mem.libLost = false ∧ d.tallyNext j = some (layer, k) ∧ d1 = ({ d with csc := { d.csc with tally := some { layer := layer, stripe := k, pass := 0, slot := some n.val }, tallyLayer := layer, tallyDone := k }, pool := { d.pool with acc := [], dens := if layer == d.csc.tallyLayer then d.pool.dens else [] } } : Device).putFlag (bitAt CSC_STATUS 17) true) ∧
    (∃ (s : State) (d : Device) (n : Fin 16) (j : Job) (p : PassRead), s.finds d ∧ d.job = some j ∧ d.unitUp 1 = true ∧ (d.slot n).isOpen = false ∧ d.inJob = true ∧ d.flag fSprFailed = false ∧ d.csc.failed = false ∧ d.mem.libLost = false ∧ d.csc.raster = some p ∧ p.slot = none ∧ p.ended = false) ∧
    (∃ (s : State) (d : Device) (d1 : Device) (n : Fin 16) (e : Bool) (ws : List Nat) (b : Block), s.finds d ∧ d.unitUp 1 = true ∧ (d.slot n).isOpen = true ∧ (d.slot n).failed = false ∧ (d.slot n).lastSeen = false ∧ (d.slot n).use ≠ .recode ∧ d.nextBlock n e = some (.ok ws) ∧ headerErr ws = none ∧ d1 = ({ (d.sourceMet n).itemIn 1 with spr := { ((d.sourceMet n).itemIn 1).spr with ndf := ((d.sourceMet n).itemIn 1).spr.ndf.filter (fun x => !(x.1 == n.val && x.2.1 == (d.slot n).next)) } } : Device).when (d.slot n).refetch (fun d => d.recovered 1 n) ∧ b = { seq := (d.slot n).next, words := ws, last := hLast (ws.getD 1 0), tick := d1.showBufs.clock, stage := .stored [] }) ∧
    (∃ (s : State) (d : Device) (d1 : Device) (n : Fin 16) (x : Bool) (e : NdsErr), s.finds d ∧ d.unitUp 1 = true ∧ (d.slot n).isOpen = true ∧ (d.slot n).failed = false ∧ (d.slot n).lastSeen = false ∧ (d.slot n).use ≠ .recode ∧ d.nextBlock n x = some (.error e) ∧ d1 = (d.sourceMet n).itemIn 1) ∧
    (∃ (s : State) (d : Device) (n : Fin 16) (k : Fin 8) (b : Block) (avoid : List Nat), s.finds d ∧ d.unitUp 1 = true ∧ (d.slot n).isOpen = true ∧ d.flag (fDecRetired k) = false ∧ d.decoding k = none ∧ (d.slot n).blocks.find? (fun b => match b.stage with | .stored _ => true | _ => false) = some b ∧ b.stage = .stored avoid ∧ d.mayDecode k avoid = true) ∧
    (∃ (s : State) (d : Device) (k : Fin 8) (n : Nat) (b : Block) (ws : List Nat), s.finds d ∧ d.unitUp 1 = true ∧ d.decoding k = some (n, b) ∧ decodeBlock b.words = .ok ws) ∧
    (∃ (s : State) (d : Device) (k : Fin 8) (n : Nat) (b : Block) (e : NdsErr), s.finds d ∧ d.unitUp 1 = true ∧ d.decoding k = some (n, b) ∧ decodeBlock b.words = .error e) ∧
    (∃ (s : State) (d : Device) (d1 : Device) (d2 : Device) (d3 : Device) (k : Fin 8) (n : Nat) (b : Block) (v : Verdict), s.finds d ∧ d.unitUp 1 = true ∧ d.decoding k = some (n, b) ∧ d1 = d.setSlot n ((d.slot n).stage b.seq (.stored (k.val :: b.avoid.filter (fun m => m != k.val)))) ∧ d1.charge 2 k 0 b.seq = (v, d2) ∧ d3 = (d2.putFlag (fDecRetired k) true).raise 34) ∧
    (∃ (s : State) (d : Device) (d1 : Device) (d2 : Device) (n : Fin 16) (b : Block) (rest : List Block) (ws : List Nat) (recs : List LRec), s.finds d ∧ d.unitUp 1 = true ∧ (d.slot n).isOpen = true ∧ (d.slot n).blocks = b :: rest ∧ b.stage = .parsed ws recs ∧ d.libraryServes (d.slot n) recs = true ∧ d1 = d.setSlot n { d.slot n with blocks := rest } ∧ d2 = ((d1.setReg (SPR_SLOT n + 12) (seqAfter (d1.reg (SPR_SLOT n + 12)))).itemOut 1).capturePoint (fun x => x.point == 0 && x.slot == n.val) ws (fun _ => b.last)) :=
  ⟨⟨{ dev := wrDev 1 }, wrDev 1, _, 15, someJob, 0, 0, finds_at _ (by decide +kernel), by and_intros <;> first | decide +kernel | rfl⟩,
   ⟨{ dev := { wrDev 1 with csc := { raster := some { layer := 0, stripe := 0, pass := 0 } } } }, { wrDev 1 with csc := { raster := some { layer := 0, stripe := 0, pass := 0 } } }, 15, someJob, { layer := 0, stripe := 0, pass := 0 }, finds_at _ (by decide +kernel), by decide +kernel⟩,
   ⟨{ dev := { (wrDev 1).setSlot 15 { isOpen := true, use := .raster, source := .ndf 7, streamId := 5 } with spr := { ((wrDev 1).setSlot 15 { isOpen := true, use := .raster, source := .ndf 7, streamId := 5 }).spr with ndf := [(15, 0, some storedBlock)] } } }, { (wrDev 1).setSlot 15 { isOpen := true, use := .raster, source := .ndf 7, streamId := 5 } with spr := { ((wrDev 1).setSlot 15 { isOpen := true, use := .raster, source := .ndf 7, streamId := 5 }).spr with ndf := [(15, 0, some storedBlock)] } }, _, 15, false, storedBlock, _, finds_at _ (by decide +kernel), by and_intros <;> first | decide +kernel | exact some_ok_of _ _ (by decide +kernel) | rfl⟩,
   ⟨{ dev := (wrDev 1).setSlot 15 { isOpen := true, use := .raster, source := .ndf 7, streamId := 5 } |> fun d => { d with spr := { d.spr with ndf := [(15, 0, none)] } } }, (wrDev 1).setSlot 15 { isOpen := true, use := .raster, source := .ndf 7, streamId := 5 } |> fun d => { d with spr := { d.spr with ndf := [(15, 0, none)] } }, _, 15, false, ⟨eSHORT, noWord⟩, finds_at _ (by decide +kernel), by and_intros <;> first | decide +kernel | rfl⟩,
   ⟨{ dev := (wrDev 1).setSlot 15 { isOpen := true, use := .raster, blocks := [blockAt (.stored [])] } }, (wrDev 1).setSlot 15 { isOpen := true, use := .raster, blocks := [blockAt (.stored [])] }, 15, 7, blockAt (.stored []), [], finds_at _ (by decide +kernel), by decide +kernel⟩,
   ⟨{ dev := (wrDev 1).setSlot 15 { isOpen := true, use := .raster, blocks := [blockAt (.decoding 7 [])] } }, (wrDev 1).setSlot 15 { isOpen := true, use := .raster, blocks := [blockAt (.decoding 7 [])] }, 7, 15, blockAt (.decoding 7 []), [1, 2, 3, 4], finds_at _ (by decide +kernel), by and_intros <;> first | decide +kernel | exact ok_of _ _ (by decide +kernel)⟩,
   ⟨{ dev := (wrDev 1).setSlot 15 { isOpen := true, use := .raster, blocks := [{ blockAt (.decoding 7 []) with words := (storedBlock.set 1 0x16000).set 8 0x3FFFF }] } }, (wrDev 1).setSlot 15 { isOpen := true, use := .raster, blocks := [{ blockAt (.decoding 7 []) with words := (storedBlock.set 1 0x16000).set 8 0x3FFFF }] }, 7, 15, { blockAt (.decoding 7 []) with words := (storedBlock.set 1 0x16000).set 8 0x3FFFF }, ⟨eLZ_TOKEN, 8⟩, finds_at _ (by decide +kernel), by and_intros <;> first | decide +kernel | exact err_of _ _ (by decide +kernel)⟩,
   ⟨{ dev := (wrDev 1).setSlot 15 { isOpen := true, use := .raster, blocks := [blockAt (.decoding 7 [])] } }, (wrDev 1).setSlot 15 { isOpen := true, use := .raster, blocks := [blockAt (.decoding 7 [])] }, _, _, _, 7, 15, blockAt (.decoding 7 []), .transient, finds_at _ (by decide +kernel), by and_intros <;> first | decide +kernel | rfl⟩,
   ⟨{ dev := { (wrDev 1).setSlot 15 { isOpen := true, use := .raster, blocks := [blockAt (.parsed [1, 2, 3, 4] [someRec])] } with csc := { raster := some { layer := 0, stripe := 0, pass := 0, slot := some 15 } } } }, { (wrDev 1).setSlot 15 { isOpen := true, use := .raster, blocks := [blockAt (.parsed [1, 2, 3, 4] [someRec])] } with csc := { raster := some { layer := 0, stripe := 0, pass := 0, slot := some 15 } } }, _, _, 15, blockAt (.parsed [1, 2, 3, 4] [someRec]), [], [1, 2, 3, 4], [someRec], finds_at _ (by decide +kernel), by and_intros <;> first | decide +kernel | rfl⟩⟩

theorem test_witness_CompressionEnginesTakeEffect :
    (∃ (s : State) (d : Device) (e : Fin 2) (srcErr : Bool), s.finds d ∧ d.unitUp 1 = true ∧ (d.engine e).running = true ∧ (d.engine e).outcome = none ∧ (d.engine e).hold = [] ∧ d.outServes (d.engine e) = true ∧ (d.engine e).capture = true) ∧
    (∃ (s : State) (d : Device) (e : Fin 2) (srcErr : Bool), s.finds d ∧ d.unitUp 1 = true ∧ (d.engine e).running = true ∧ (d.engine e).outcome = none ∧ (d.engine e).hold = [] ∧ d.outServes (d.engine e) = true ∧ (d.engine e).capture = false ∧ (d.engine e).inputDone = false) ∧
    (∃ (s : State) (d : Device) (d1 : Device) (d2 : Device) (e : Fin 2) (k : Nat), s.finds d ∧ d.eligible = some k ∧ d.unitUp 1 = true ∧ (d.engine e).running = true ∧ (d.engine e).hold ≠ [] ∧ (d.engine e).outcome = none ∧ d.outServes (d.engine e) = true ∧ d1 = (((d.when (d.engine e).chain.isEmpty (fun d => d.raise (42 + e))).keepBuffer k).setReg (SPR_SPILL_STATE k) (131072 + e * 65536 + (d.engine e).chain.length * 4096)).put36 (SPR_SPILL_FILL k) 0 ∧ d2 = (d1.setEngine e { d.engine e with chain := (d.engine e).chain ++ [k] }).placeGroups e 17 (d.engine e).hold) ∧
    (∃ (s : State) (d : Device) (e : Fin 2) (st : Nat), s.finds d ∧ d.unitUp 1 = true ∧ (d.engine e).outcome = some st ∧ (d.engine e).running = true) ∧
    (∃ (s : State) (d : Device) (n : Fin 16) (v : Word), s.finds d ∧ d.unitUp 1 = true ∧ bitOf v.toNat 17 = true ∧ d.flag (fSpillUsed n) = true ∧ ((d.engine (b2n (d.flag (bitAt (SPR_SPILL_STATE n) 16)))).running && (d.engine (b2n (d.flag (bitAt (SPR_SPILL_STATE n) 16)))).chain.contains n.val) = false) :=
  ⟨⟨{ dev := memDev.setEngine 1 { running := true, capture := true } }, memDev.setEngine 1 { running := true, capture := true }, 1, false, finds_at _ (by decide +kernel), by decide +kernel⟩,
   ⟨{ dev := memDev.setEngine 1 { running := true } }, memDev.setEngine 1 { running := true }, 1, true, finds_at _ (by decide +kernel), by decide +kernel⟩,
   ⟨{ dev := (memDev.setEngine 1 { running := true, hold := [1, 2, 3, 4], chain := [0] }).setReg (SPR_SPILL_LINES 15) 1 |> fun d => { d with atTick := [(SPR_SPILL_LINES 15, 1)] } }, (memDev.setEngine 1 { running := true, hold := [1, 2, 3, 4], chain := [0] }).setReg (SPR_SPILL_LINES 15) 1 |> fun d => { d with atTick := [(SPR_SPILL_LINES 15, 1)] }, _, _, 1, 15, finds_at _ (by decide +kernel), by and_intros <;> first | decide +kernel | rfl⟩,
   ⟨{ dev := upDev.setEngine 1 { running := true, outcome := some 0 } }, upDev.setEngine 1 { running := true, outcome := some 0 }, 1, 0, finds_at _ (by decide +kernel), by decide +kernel⟩,
   ⟨{ dev := upDev.putFlag (fSpillUsed 15) true }, upDev.putFlag (fSpillUsed 15) true, 15, 0x20000, finds_at _ (by decide +kernel), by decide +kernel⟩⟩

theorem test_witness_CascadeTakesEffect :
    (∃ (s : State) (d : Device) (e : Fin 16) (j : Job) (p : PassRead) (r : LRec) (rest : List LRec), s.finds d ∧ d.job = some j ∧ d.csc.raster = some p ∧ d.unitUp 2 = true ∧ d.engineRetired e = false ∧ d.inJob = true ∧ d.mem.libLost = false ∧ p.recs = r :: rest ∧ d.libraryReads r = true) ∧
    (∃ (s : State) (d : Device) (e : Fin 16) (j : Job) (p : PassRead) (r : LRec) (rest : List LRec), s.finds d ∧ d.job = some j ∧ d.csc.tally = some p ∧ d.unitUp 2 = true ∧ d.engineRetired e = false ∧ d.inJob = true ∧ d.mem.libLost = false ∧ p.recs = r :: rest ∧ (d.csc.raster.all (fun x => x.recs.isEmpty)) = true ∧ d.csc.tallyLeft = [] ∧ d.libraryReads r = true) ∧
    (∃ (s : State) (d : Device) (e : Fin 16) (j : Job) (p : PassRead) (r : LRec) (rest : List LRec) (bs : List Nat), s.finds d ∧ d.job = some j ∧ d.csc.raster = some p ∧ d.unitUp 2 = true ∧ d.engineRetired e = false ∧ d.inJob = true ∧ d.mem.libLost = false ∧ p.recs = r :: rest ∧ d.libraryReads r = true ∧ bs = ((d.itemIn 3).contribsOf j (j.stripeAt p.stripe) p.layer false r).map (fun c => c.band)) ∧
    (∃ (s : State) (d : Device) (j : Job) (p : PassRead), s.finds d ∧ d.job = some j ∧ d.csc.tally = some p ∧ d.unitUp 2 = true ∧ d.csc.tallyLeft ≠ []) ∧
    (∃ (s : State) (d : Device) (d1 : Device) (j : Job) (p : PassRead) (pool : Bool), s.finds d ∧ d.job = some j ∧ d.csc.tally = some p ∧ d.unitUp 2 = true ∧ p.ended = true ∧ p.recs = [] ∧ d.csc.tallyLeft = [] ∧ pool = (d.pcEn && !d.pool.acc.isEmpty) ∧ ((pool = true → d.regionServes (d.ringAt j p.stripe) (d.stripLines j) = true)) ∧ d1 = ({ d with csc := { d.csc with tally := none, tallyDone := d.csc.tallyDone + 1 } } : Device).putFlag fTallyRun false) ∧
    (∃ (s : State) (d : Device) (d1 : Device) (j : Job), s.finds d ∧ d.job = some j ∧ d.unitUp 2 = true ∧ d.inJob = true ∧ d.rasterReady j = true ∧ d1 = (if !d.pcEn && d.csc.nextPass == 0 then d.rasterBoundary d.csc.nextStripe d.csc.nextLayer else d)) :=
  ⟨⟨{ dev := { wrDev 1 with csc := { raster := some { layer := 0, stripe := 0, pass := 0, recs := [someRec] } } } }, { wrDev 1 with csc := { raster := some { layer := 0, stripe := 0, pass := 0, recs := [someRec] } } }, 15, someJob, { layer := 0, stripe := 0, pass := 0, recs := [someRec] }, someRec, [], finds_at _ (by decide +kernel), by decide +kernel⟩,
   ⟨{ dev := { wrDev 1 with csc := { tally := some { layer := 0, stripe := 0, pass := 0, recs := [someRec] } } } }, { wrDev 1 with csc := { tally := some { layer := 0, stripe := 0, pass := 0, recs := [someRec] } } }, 15, someJob, { layer := 0, stripe := 0, pass := 0, recs := [someRec] }, someRec, [], finds_at _ (by decide +kernel), by decide +kernel⟩,
   ⟨{ dev := { wrDev 1 with csc := { raster := some { layer := 0, stripe := 0, pass := 0, recs := [someRec] } } } }, { wrDev 1 with csc := { raster := some { layer := 0, stripe := 0, pass := 0, recs := [someRec] } } }, 15, someJob, { layer := 0, stripe := 0, pass := 0, recs := [someRec] }, someRec, [], _, finds_at _ (by decide +kernel), by and_intros <;> first | decide +kernel | rfl⟩,
   ⟨{ dev := { wrDev 1 with csc := { tally := some { layer := 0, stripe := 0, pass := 0 }, tallyLeft := [{ band := 0, tile := 0, cls := 0, edges := [], area := 0, cross := 0, cells := [] }] } } }, { wrDev 1 with csc := { tally := some { layer := 0, stripe := 0, pass := 0 }, tallyLeft := [{ band := 0, tile := 0, cls := 0, edges := [], area := 0, cross := 0, cells := [] }] } }, someJob, { layer := 0, stripe := 0, pass := 0 }, finds_at _ (by decide +kernel), by decide +kernel⟩,
   ⟨{ dev := { wrDev 1 with csc := { tally := some { layer := 0, stripe := 0, pass := 0, ended := true } } } }, { wrDev 1 with csc := { tally := some { layer := 0, stripe := 0, pass := 0, ended := true } } }, _, someJob, { layer := 0, stripe := 0, pass := 0, ended := true }, _, finds_at _ (by decide +kernel), by and_intros <;> first | decide +kernel | rfl⟩,
   ⟨{ dev := { (wrDev 1).putFlag fPcEn true with csc := { tallyDone := 1 }, pool := { q := [((0, 0), [])] } } }, { (wrDev 1).putFlag fPcEn true with csc := { tallyDone := 1 }, pool := { q := [((0, 0), [])] } }, _, someJob, finds_at _ (by decide +kernel), by and_intros <;> first | decide +kernel | rfl⟩⟩

theorem test_witness_BasinsAndBandsTakeEffect :
    (∃ (s : State) (d : Device) (b : Fin 32) (t : Tile), s.finds d ∧ d.unitUp 3 = true ∧ d.stripThere = true ∧ d.tilesInOrder.find? (fun t => t.state == .issued && d.basinFor t == some b.val) = some t) ∧
    (∃ (s : State) (d : Device) (b : Fin 32) (u : Int) (j : Job) (p : PassRead) (t : Tile), s.finds d ∧ d.job = some j ∧ d.csc.raster = some p ∧ d.unitUp 3 = true ∧ d.stripThere = true ∧ d.tallyServes = true ∧ d.csc.tiles.find? (fun t => t.state == .raster && t.basin == b.val) = some t ∧ (d.pcEn = true → d.badIn (d.stripAt j p.stripe) (d.stripLines j) = none)) ∧
    (∃ (s : State) (d : Device) (band : Nat) (tile : Nat) (u : Int) (j : Job) (p : PassRead) (t : Tile) (r : BasinResult), s.finds d ∧ d.job = some j ∧ d.csc.raster = some p ∧ d.unitUp 2 = true ∧ d.csc.tiles.find? (fun t => t.state == .retally && t.band == band && t.tile == tile) = some t ∧ t.noRec = false ∧ (List.range 16).any (fun e => e != d.engineFrom (d.tallyOf p.layer p.stripe band tile).owner && !d.engineRetired e) = true ∧ t.tries.reverse.find? (fun r => passes r (retally (j.stripeAt p.stripe) t u)) = some r) ∧
    (∃ (s : State) (d : Device) (d1 : Device) (d2 : Device) (d3 : Device) (j : Job) (p : PassRead) (lo : Nat) (hi : Nat) (rows : List (Nat × List Nat)), s.finds d ∧ d.job = some j ∧ d.csc.raster = some p ∧ d.unitUp 3 = true ∧ d.unitUp 4 = true ∧ d.bandReady j p = true ∧ d.bandServes j p = true ∧ bandRows (j.stripeAt p.stripe).len d.csc.committed = (lo, hi) ∧ rows = (List.range (hi - lo)).map (fun i => (lo + i, d.bandRow j (j.stripeAt p.stripe).len d.csc.committed (lo + i))) ∧ d1 = d.each rows (fun d r => d.putWords 5 (d.lookAddr j r.1) r.2) ∧ d2 = (({ d1 with csc := { d1.csc with committed := d.csc.committed + 1, tiles := d1.csc.tiles.filter (fun t => t.band != d.csc.committed) } } : Device).count 4 4 ((d.csc.tiles.filter (fun t => t.band == d.csc.committed)).length)).showTiles ∧ d3 = (if d.bypasses j p lo hi then ((d2.each rows (fun d r => d.rowIntoCistern j r.1 r.2)).when (!(d2.each rows (fun d r => d.rowIntoCistern j r.1 r.2)).flag fBypass) (fun d => d.raise 67)).putFlag fBypass true else d2)) :=
  ⟨⟨{ dev := { wrDev 1 with csc := { tiles := [{ someTile .issued with tries := [{ basin := 0, sums := [], doses := [], overlaps := 0, clamps := 0, overflow := false }], skip := List.range 31 }] } } }, { wrDev 1 with csc := { tiles := [{ someTile .issued with tries := [{ basin := 0, sums := [], doses := [], overlaps := 0, clamps := 0, overflow := false }], skip := List.range 31 }] } }, 31, { someTile .issued with tries := [{ basin := 0, sums := [], doses := [], overlaps := 0, clamps := 0, overflow := false }], skip := List.range 31 }, finds_at _ (by decide +kernel), by decide +kernel⟩,
   ⟨{ dev := { wrDev 1 with csc := { raster := some { layer := 0, stripe := 0, pass := 0 }, tiles := [someTile .raster] } } }, { wrDev 1 with csc := { raster := some { layer := 0, stripe := 0, pass := 0 }, tiles := [someTile .raster] } }, 31, 0, someJob, { layer := 0, stripe := 0, pass := 0 }, someTile .raster, finds_at _ (by decide +kernel), by decide +kernel⟩,
   ⟨{ dev := { wrDev 1 with csc := { raster := some { layer := 0, stripe := 0, pass := 0 }, tiles := [{ someTile .retally with tries := [{ basin := 0, sums := [], doses := [], overlaps := 0, clamps := 0, overflow := false }] }] } } }, { wrDev 1 with csc := { raster := some { layer := 0, stripe := 0, pass := 0 }, tiles := [{ someTile .retally with tries := [{ basin := 0, sums := [], doses := [], overlaps := 0, clamps := 0, overflow := false }] }] } }, 0, 0, 0, someJob, { layer := 0, stripe := 0, pass := 0 }, { someTile .retally with tries := [{ basin := 0, sums := [], doses := [], overlaps := 0, clamps := 0, overflow := false }] }, { basin := 0, sums := [], doses := [], overlaps := 0, clamps := 0, overflow := false }, finds_at _ (by decide +kernel), by decide +kernel⟩,
   ⟨{ dev := { memWr 1 with job := some longJob, csc := { raster := some { layer := 0, stripe := 0, pass := 0 }, bands := 1 }, cst := { rows := [0] } } }, { memWr 1 with job := some longJob, csc := { raster := some { layer := 0, stripe := 0, pass := 0 }, bands := 1 }, cst := { rows := [0] } }, _, _, _, longJob, { layer := 0, stripe := 0, pass := 0 }, 0, 256, _, finds_at _ (by decide +kernel), by and_intros <;> first | decide +kernel | rfl⟩⟩

theorem test_witness_PoolAndCisternTakeEffect :
    (∃ (s : State) (d : Device) (d1 : Device) (j : Job) (k : Nat), s.finds d ∧ d.job = some j ∧ d.unitUp 3 = true ∧ d.inJob = true ∧ d.pcEn = true ∧ d.pool.corr = none ∧ d.flag fPoolFailed = false ∧ d.correctionNext j = some k ∧ d1 = ({ d with pool := { d.pool with corr := some (d.csc.nextLayer, k) } } : Device).putFlag fCorrRun true) ∧
    (∃ (s : State) (d : Device) (d1 : Device) (j : Job) (layer : Nat) (k : Nat) (n : Nat) (dft : List Nat), s.finds d ∧ d.job = some j ∧ d.unitUp 3 = true ∧ d.pool.corr = some (layer, k) ∧ d.regionServes (d.get36 POOL_REGION_BASE) (d.poolNeed j) = true ∧ d.ringBad j k = none ∧ n = ((d.filtered j k).filter (fun f => decide (f.2 < 0) || decide (131071 < f.2))).length ∧ dft = ((d.pool.snaps.find? (fun x => x.layer == layer && x.stripe == k)).getD (d.poolSnap k layer)).dft ∧ d1 = (if 0 < n then (d.bumpBy (whole POOL_F_CLAMP) n).raise 76 else d.bumpBy (whole POOL_F_CLAMP) n)) ∧
    (∃ (s : State) (d : Device) (j : Job) (layer : Nat) (k : Nat) (ringE : Bool) (stripE : Bool), s.finds d ∧ d.job = some j ∧ d.unitUp 3 = true ∧ d.pool.corr = some (layer, k) ∧ d.regionServes (d.get36 POOL_REGION_BASE) (d.poolNeed j) = true ∧ ((ringE = true ∨ (d.ringBad j k).isSome = true))) ∧
    (∃ (s : State) (d : Device) (j : Job) (layer : Nat) (k : Nat) (ringE : Bool) (stripE : Bool), s.finds d ∧ d.job = some j ∧ d.unitUp 3 = true ∧ d.pool.corr = some (layer, k) ∧ d.regionServes (d.get36 POOL_REGION_BASE) (d.poolNeed j) = true ∧ ringE = false ∧ d.ringBad j k = none ∧ stripE = true) ∧
    (∃ (s : State) (d : Device) (d1 : Device) (v : Word), s.finds d ∧ d.unitUp 3 = true ∧ d1 = d.each (List.range 4) (fun d t => if bitOf v.toNat t && !d.flag (fPoolPending t) then (d.putFlag (fPoolPending t) true).pendTable t else d)) ∧
    (∃ (s : State) (d : Device) (d1 : Device) (v : Word), s.finds d ∧ d.unitUp 3 = true ∧ d1 = d.each (List.range 4) (fun d t => if bitOf v.toNat t && !d.flag (fPoolPending t) then (d.putFlag (fPoolPending t) true).pendTable t else d)) ∧
    (∃ (s : State) (d : Device) (j : Job) (k : Job) (u : Nat), s.finds d ∧ d.job = some j ∧ d.unitUp 4 = true ∧ d.inJob = true ∧ j.cur.tallyOnly = false ∧ d.mem.bandLost = false ∧ d.nextRead j = some (k, u) ∧ d.memServes (d.lookAddr k u) k.width = true ∧ d.memServes (d.mirrorAddr (k.rowAddr u)) k.width = true ∧ d.readBad 6 (d.lookAddr k u) k.width = false) ∧
    (∃ (s : State) (d : Device) (j : Job) (k : Job) (u : Nat) (e : Bool), s.finds d ∧ d.job = some j ∧ d.unitUp 4 = true ∧ d.inJob = true ∧ j.cur.tallyOnly = false ∧ d.mem.bandLost = false ∧ d.nextRead j = some (k, u) ∧ d.memServes (d.lookAddr k u) k.width = true ∧ d.memServes (d.mirrorAddr (k.rowAddr u)) k.width = true ∧ ((e = true ∨ d.readBad 6 (d.lookAddr k u) k.width = true))) ∧
    (∃ (s : State) (d : Device) (d1 : Device) (d2 : Device) (line : Nat) (bank : Nat), s.finds d ∧ d.cst.refill.find? (fun r => r.1 == line) = some (line, bank) ∧ d.unitUp 4 = true ∧ d.memServes (d.mirrorAddr (64 * line)) 64 = true ∧ d1 = ({ d with cst := { d.cst with refill := d.cst.refill.filter (fun r => r.1 != line), first := d.cst.first.filter (fun l => l != line) } } : Device).putFlag fRefill (!(d.cst.refill.filter (fun r => r.1 != line)).isEmpty) ∧ d2 = ((d1.memUse (d1.mirrorAddr (64 * line)) 64).putCistern (64 * line) (d1.dramWords (d1.mirrorAddr (64 * line)) 64)).setWritten [line] ∧ d1.readBad 7 (d1.mirrorAddr (64 * line)) 64 = false) ∧
    (∃ (s : State) (d : Device) (d1 : Device) (d2 : Device) (line : Nat) (bank : Nat) (e : Bool), s.finds d ∧ d.cst.refill.find? (fun r => r.1 == line) = some (line, bank) ∧ d.unitUp 4 = true ∧ d.memServes (d.mirrorAddr (64 * line)) 64 = true ∧ d1 = ({ d with cst := { d.cst with refill := d.cst.refill.filter (fun r => r.1 != line), first := d.cst.first.filter (fun l => l != line) } } : Device).putFlag fRefill (!(d.cst.refill.filter (fun r => r.1 != line)).isEmpty) ∧ d2 = ((d1.memUse (d1.mirrorAddr (64 * line)) 64).putCistern (64 * line) (d1.dramWords (d1.mirrorAddr (64 * line)) 64)).setWritten [line] ∧ ((e = true ∨ d1.readBad 7 (d1.mirrorAddr (64 * line)) 64 = true))) ∧
    (∃ (s : State) (d : Device) (d1 : Device) (es : List CellError), s.finds d ∧ d.unitUp 4 = true ∧ d1 = d.each (es.filter (fun e => (32 * e.line + e.pair.val) / 1024 == d.cst.scrub)) (fun d e => d.cellError e 0x1FF)) :=
  ⟨⟨{ dev := { (wrDev 1).putFlag fPcEn true with csc := { tallyDone := 1 } } }, { (wrDev 1).putFlag fPcEn true with csc := { tallyDone := 1 } }, _, someJob, 0, finds_at _ (by decide +kernel), by and_intros <;> first | decide +kernel | rfl⟩,
   ⟨{ dev := { (memWr 1).put { off := POOL_CFG, lo := 3, w := 8 } 1 with pool := { corr := some (0, 0) } } }, { (memWr 1).put { off := POOL_CFG, lo := 3, w := 8 } 1 with pool := { corr := some (0, 0) } }, _, someJob, 0, 0, _, _, finds_at _ (by decide +kernel), by and_intros <;> first | decide +kernel | rfl⟩,
   ⟨{ dev := { (memWr 1).put { off := POOL_CFG, lo := 3, w := 8 } 1 with pool := { corr := some (0, 0) } } }, { (memWr 1).put { off := POOL_CFG, lo := 3, w := 8 } 1 with pool := { corr := some (0, 0) } }, someJob, 0, 0, true, false, finds_at _ (by decide +kernel), by decide +kernel⟩,
   ⟨{ dev := { (memWr 1).put { off := POOL_CFG, lo := 3, w := 8 } 1 with pool := { corr := some (0, 0) } } }, { (memWr 1).put { off := POOL_CFG, lo := 3, w := 8 } 1 with pool := { corr := some (0, 0) } }, someJob, 0, 0, false, true, finds_at _ (by decide +kernel), by decide +kernel⟩,
   ⟨{ dev := upDev }, upDev, _, 0xF, finds_at _ (by decide +kernel), by and_intros <;> first | decide +kernel | rfl⟩,
   ⟨{ dev := { wrDev 1 with tbl := { raster := some (0, 0, 0) } } }, { wrDev 1 with tbl := { raster := some (0, 0, 0) } }, _, 0xF, finds_at _ (by decide +kernel), by and_intros <;> first | decide +kernel | rfl⟩,
   ⟨{ dev := { memWr 1 with cst := { runs := [{ layer := 0, stripe := 0, pass := 0, lo := 0, hi := 64 }] } } }, { memWr 1 with cst := { runs := [{ layer := 0, stripe := 0, pass := 0, lo := 0, hi := 64 }] } }, someJob, someJob, 0, finds_at _ (by decide +kernel), by decide +kernel⟩,
   ⟨{ dev := { memWr 1 with cst := { runs := [{ layer := 0, stripe := 0, pass := 0, lo := 0, hi := 64 }] } } }, { memWr 1 with cst := { runs := [{ layer := 0, stripe := 0, pass := 0, lo := 0, hi := 64 }] } }, someJob, someJob, 0, true, finds_at _ (by decide +kernel), by decide +kernel⟩,
   ⟨{ dev := { memWr 1 with cst := { refill := [(49151, 1024)] } } }, { memWr 1 with cst := { refill := [(49151, 1024)] } }, _, _, 49151, 1024, finds_at _ (by decide +kernel), by and_intros <;> first | decide +kernel | rfl⟩,
   ⟨{ dev := { memWr 1 with cst := { refill := [(49151, 1023)] } } }, { memWr 1 with cst := { refill := [(49151, 1023)] } }, _, _, 49151, 1023, true, finds_at _ (by decide +kernel), by and_intros <;> first | decide +kernel | rfl⟩,
   ⟨{ dev := upDev }, upDev, _, [{ line := 0, pair := 31, double := false }], finds_at _ (by decide +kernel), by and_intros <;> first | decide +kernel | rfl⟩⟩

theorem test_witness_MemoryChannelsTakeEffect :
    (∃ (s : State) (d : Device) (q : Requester) (la : BitVec 31) (a : DramAccess) (es : List SymbolError) (r : MemReq), s.finds d ∧ q ≠ .zeroFill ∧ r = { req := q, la := la.toNat, access := a, errors := es, tick := d.clock } ∧ d.mem.held = [] ∧ d.closeRows.mayServe 0 r = true) ∧
    (∃ (s : State) (d : Device) (d1 : Device) (q : Requester) (la : BitVec 31) (a : DramAccess) (es : List SymbolError), s.finds d ∧ q ≠ .zeroFill ∧ d1 = { d.closeRows with mem := { d.closeRows.mem with held := d.mem.held ++ [{ req := q, la := la.toNat, access := a, errors := es, tick := d.clock }] } } ∧ d1.nextRequest (chanOf la.toNat) = none) ∧
    (∃ (s : State) (d : Device) (d1 : Device) (la : BitVec 31) (a : DramAccess) (es : List SymbolError), s.finds d ∧ d.flag fFillRun = true ∧ d.inFrost = false ∧ la.toNat = d.fillNext ∧ d.chanServes (chanOf la.toNat) = true ∧ d1 = (d.putFlag (fSelfRefresh (chanOf la.toNat)) false).put36 MEM_FILL_FRONT (la.toNat + 1) ∧ d1.fillNext < memLines ∧ d1.mem.held = []) ∧
    (∃ (s : State) (d : Device) (d0 : Device) (d1 : Device) (d2 : Device) (la : BitVec 31) (q : Nat) (devs : List Nat) (left : List Nat) (bad : Bool), s.finds d ∧ d.mem.recovering.find? (fun p => p.1 == la.toNat) = some (la.toNat, q, devs) ∧ d0 = { d with mem := { d.mem with recovering := d.mem.recovering.filter (fun p => p.1 != la.toNat) } } ∧ left = devs.filter (fun k => some k != d0.marked (chanOf la.toNat)) ∧ d1 = (if bad && !left.isEmpty && d0.remapOf la.toNat == none then d0.hardLine la.toNat q left else d0) ∧ d2 = d1.each devs (fun d k => if d.mem.recovering.any (fun p => chanOf p.1 == chanOf la.toNat && p.2.2.contains k) then d else d.recovered 9 (21 * chanOf la.toNat + k))) ∧
    (∃ (s : State) (d : Device) (c : Fin 4), s.finds d ∧ d.chanRuns c = true ∧ d.chanUp c = true ∧ d.flag (fSelfRefresh c) = false) ∧
    (∃ (s : State) (d : Device) (c : Fin 4) (hot : Bool), s.finds d ∧ d.chanRuns c = true ∧ d.chanUp c = true) ∧
    (∃ (s : State) (d : Device) (c : Fin 4), s.finds d ∧ d.chanRuns c = true ∧ d.chanUp c = true ∧ (d.inReady || d.inHeld) = true ∧ d.flag fFillRun = false ∧ d.reg MEM_SR_IDLE % 65536 ≠ 0 ∧ d.mem.lastReq.toList.getD c 0 + 800 * (d.reg MEM_SR_IDLE % 65536) ≤ d.clock ∧ d.mem.held.any (fun r => chanOf r.la == c.val) = false) ∧
    (∃ (s : State) (d : Device) (d1 : Device) (c : Fin 4) (r : ChannelTraining) (kept : Nat) (failed : List Nat) (devs : List Nat), s.finds d ∧ d.chanRuns c = true ∧ d.get (fChState c) = chTRAINING ∧ kept = d.get (fFailedDev c) ∧ failed = (r.failed.map (fun k => k.val)).eraseDups ∧ devs = (failed ++ (if kept < 21 then [kept] else [])).eraseDups ∧ d1 = d.put (fChTrainCause c) (if r.commandFail then 1 else if failed.isEmpty then 0 else r.cause.val) ∧ r.commandFail = false ∧ devs.length < 2) ∧
    (∃ (s : State) (d : Device) (d1 : Device) (c : Fin 4) (r : ChannelTraining) (kept : Nat) (failed : List Nat) (devs : List Nat), s.finds d ∧ d.chanRuns c = true ∧ d.get (fChState c) = chTRAINING ∧ kept = d.get (fFailedDev c) ∧ failed = (r.failed.map (fun k => k.val)).eraseDups ∧ devs = (failed ++ (if kept < 21 then [kept] else [])).eraseDups ∧ d1 = d.put (fChTrainCause c) (if r.commandFail then 1 else if failed.isEmpty then 0 else r.cause.val) ∧ r.commandFail = false ∧ devs.length < 2) ∧
    (∃ (s : State) (d : Device) (d1 : Device) (c : Fin 4) (r : ChannelTraining) (kept : Nat) (failed : List Nat) (devs : List Nat), s.finds d ∧ d.chanRuns c = true ∧ d.get (fChState c) = chTRAINING ∧ kept = d.get (fFailedDev c) ∧ failed = (r.failed.map (fun k => k.val)).eraseDups ∧ devs = (failed ++ (if kept < 21 then [kept] else [])).eraseDups ∧ d1 = d.put (fChTrainCause c) (if r.commandFail then 1 else if failed.isEmpty then 0 else r.cause.val) ∧ ((r.commandFail = true ∨ 2 ≤ devs.length))) ∧
    (∃ (s : State) (d : Device) (c : Fin 4) (n : Nat), s.finds d ∧ d.chanRuns c = true ∧ d.chanUp c = true ∧ (((bits (d.reg MEM_RETUNE) 10 8 ≠ 0 ∧ 1 ≤ n) ∨ d.retuneByTemp c = true))) ∧
    (∃ (s : State) (d : Device) (d1 : Device) (d2 : Device) (d3 : Device) (c : Fin 4), s.finds d ∧ d.flag (fRetuning c) = true ∧ d1 = (d.putFlag (fRetuning c) false).bump (whole (MEM_CH_RETUNE_COUNT c)) ∧ d2 = ((d1.setRegs (MEM_CH_RETUNE_TOD c) d1.stamp).setReg (MEM_CH_RETUNE_TEMP c) (wrap 18 ((d1.setRegs (MEM_CH_RETUNE_TOD c) d1.stamp).dieTemp c))).raise 201 ∧ d3 = (match d2.mem.retuneWant with | [] => d2 | k :: rest => ({ d2 with mem := { d2.mem with retuneWant := rest } } : Device).startRetune k)) ∧
    (∃ (s : State) (d : Device), s.finds d ∧ d.flag fFillRun = true ∧ (List.range 4).all (fun c => d.get (fChState c) != chTRAINING) = true ∧ d.inFrost = false) ∧
    (∃ (s : State) (d : Device) (d1 : Device) (la : Nat) (skip : Bool) (es : List SymbolError), s.finds d ∧ d.get36 MEM_SCRUB_FRONT = la ∧ d.reg MEM_SCRUB % 256 ≠ 0 ∧ d.chanServes (chanOf la) = true ∧ skip = (decide (d.get36 MEM_FILL_FRONT ≤ la) || (d.remapOf la).isSome || d.get (fChState (chanOf la)) == chDOWN) ∧ ((skip = true ∨ d.lineClear la = true)) ∧ d1 = (if skip then d else (((d.putFlag (fSelfRefresh (chanOf la)) false).touchRow la).readCodewords (reqCode .patrolScrub) la es (List.range 8)).2)) ∧
    (∃ (s : State) (d : Device) (d1 : Device) (la : Nat) (skip : Bool) (es : List SymbolError), s.finds d ∧ d.get36 MEM_SCRUB_FRONT = la ∧ d.reg MEM_SCRUB % 256 ≠ 0 ∧ d.chanServes (chanOf la) = true ∧ skip = (decide (d.get36 MEM_FILL_FRONT ≤ la) || (d.remapOf la).isSome || d.get (fChState (chanOf la)) == chDOWN) ∧ ((skip = true ∨ d.lineClear la = true)) ∧ d1 = (if skip then d else (((d.putFlag (fSelfRefresh (chanOf la)) false).touchRow la).readCodewords (reqCode .patrolScrub) la es (List.range 8)).2)) ∧
    (∃ (s : State) (d : Device) (d1 : Device) (la : Nat) (skip : Bool) (es : List SymbolError), s.finds d ∧ d.get36 MEM_SCRUB_FRONT = la ∧ d.reg MEM_SCRUB % 256 ≠ 0 ∧ d.chanServes (chanOf la) = true ∧ skip = (decide (d.get36 MEM_FILL_FRONT ≤ la) || (d.remapOf la).isSome || d.get (fChState (chanOf la)) == chDOWN) ∧ ((skip = true ∨ d.lineClear la = true)) ∧ d1 = (if skip then d else (((d.putFlag (fSelfRefresh (chanOf la)) false).touchRow la).readCodewords (reqCode .patrolScrub) la es (List.range 8)).2)) ∧
    (∃ (s : State) (d : Device) (v : Word), s.finds d ∧ d.regUp MEM_LOG_STATUS = true ∧ bitOf v.toNat 17 = true) :=
  ⟨⟨{ dev := memDev }, memDev, .dma, 0x7FFFFFFF, .writeLine (Vector.replicate 64 0x3FFFF), [], _, finds_at _ (by decide +kernel), by and_intros <;> first | decide +kernel | rfl⟩,
   ⟨{ dev := upDev }, upDev, _, .dma, 0x7FFFFFFF, .read, [], finds_at _ (by decide +kernel), by and_intros <;> first | decide +kernel | rfl⟩,
   ⟨{ dev := ((memDev.putFlag fFilled false).putFlag fFillRun true).put36 MEM_FILL_FRONT 5 }, ((memDev.putFlag fFilled false).putFlag fFillRun true).put36 MEM_FILL_FRONT 5, _, 5, .writeLine (Vector.replicate 64 0), [], finds_at _ (by decide +kernel), by and_intros <;> first | decide +kernel | rfl⟩,
   ⟨{ dev := { memDev with mem := { recovering := [(5, 8, [20])] } } }, { memDev with mem := { recovering := [(5, 8, [20])] } }, _, _, _, 5, 8, [20], _, true, finds_at _ (by decide +kernel), by and_intros <;> first | decide +kernel | rfl⟩,
   ⟨{ dev := memDev }, memDev, 3, finds_at _ (by decide +kernel), by decide +kernel⟩,
   ⟨{ dev := memDev }, memDev, 3, true, finds_at _ (by decide +kernel), by decide +kernel⟩,
   ⟨{ dev := clockAt ((memDev.setReg MEM_SR_IDLE 1)) 800 }, clockAt ((memDev.setReg MEM_SR_IDLE 1)) 800, 3, finds_at _ (by decide +kernel), by decide +kernel⟩,
   ⟨{ dev := upDev.put (fFailedDev 3) 31 }, upDev.put (fFailedDev 3) 31, _, 3, { failed := [], cause := 4, commandFail := false }, _, _, _, finds_at _ (by decide +kernel), by and_intros <;> first | decide +kernel | rfl⟩,
   ⟨{ dev := upDev.put (fFailedDev 3) 31 }, upDev.put (fFailedDev 3) 31, _, 3, { failed := [20, 20], cause := 4, commandFail := false }, _, _, _, finds_at _ (by decide +kernel), by and_intros <;> first | decide +kernel | rfl⟩,
   ⟨{ dev := upDev.put (fFailedDev 3) 0 }, upDev.put (fFailedDev 3) 0, _, 3, { failed := [20], cause := 4, commandFail := false }, _, _, _, finds_at _ (by decide +kernel), by and_intros <;> first | decide +kernel | rfl⟩,
   ⟨{ dev := memDev.setReg MEM_RETUNE 0x400 }, memDev.setReg MEM_RETUNE 0x400, 3, 1, finds_at _ (by decide +kernel), by decide +kernel⟩,
   ⟨{ dev := memDev.putFlag (fRetuning 3) true }, memDev.putFlag (fRetuning 3) true, _, _, _, 3, finds_at _ (by decide +kernel), by and_intros <;> first | decide +kernel | rfl⟩,
   ⟨{ dev := (memDev.putFlag fFilled false).putFlag fFillRun true }, (memDev.putFlag fFilled false).putFlag fFillRun true, finds_at _ (by decide +kernel), by decide +kernel⟩,
   ⟨{ dev := (((memDev.putFlag fFilled false).put36 MEM_SCRUB_FRONT (memLines - 1)).put36 MEM_FILL_FRONT (memLines - 1)).setReg MEM_SCRUB 1 }, (((memDev.putFlag fFilled false).put36 MEM_SCRUB_FRONT (memLines - 1)).put36 MEM_FILL_FRONT (memLines - 1)).setReg MEM_SCRUB 1, _, memLines - 1, _, [], finds_at _ (by decide +kernel), by and_intros <;> first | decide +kernel | rfl⟩,
   ⟨{ dev := (memDev.putFlag fFilled false).setReg MEM_SCRUB 1 }, (memDev.putFlag fFilled false).setReg MEM_SCRUB 1, _, 0, _, [], finds_at _ (by decide +kernel), by and_intros <;> first | decide +kernel | rfl⟩,
   ⟨{ dev := memDev.setReg MEM_SCRUB 1 |> fun d => d.put36 MEM_FILL_FRONT 1 }, memDev.setReg MEM_SCRUB 1 |> fun d => d.put36 MEM_FILL_FRONT 1, _, 0, _, [{ codeword := 7, device := 20, diff := 255 }], finds_at _ (by decide +kernel), by and_intros <;> first | decide +kernel | rfl⟩,
   ⟨{ dev := upDev }, upDev, 0x20000, finds_at _ (by decide +kernel), by decide +kernel⟩⟩

theorem test_witness_DmaAndCheckUnitControlsTakeEffect :
    (∃ (s : State) (d : Device) (d1 : Device) (d2 : Device) (d3 : Device) (d4 : Device) (d5 : Device) (d6 : Device) (n : Fin 32) (v : Word) (a : Nat) (w : Nat), s.finds d ∧ d.unitUp 0 = true ∧ w = v.toNat ||| a ∧ d1 = d.put { off := DMA_CH_CTRL n, lo := 10, w := 3 } (bits w 10 3) ∧ d2 = (if bitOf w 17 then d1.dmaGo n else d1) ∧ d3 = (if bitOf w 16 then d2.dmaPoke n else d2) ∧ d4 = (if bitOf w 15 then d3.dmaContinue n else d3) ∧ d5 = (if bitOf w 14 then d4.dmaStop n else d4) ∧ d6 = (if bitOf w 13 then d5.dmaAbort n else d5) ∧ a = 0x20000) ∧
    (∃ (s : State) (d : Device) (d1 : Device) (d2 : Device) (d3 : Device) (d4 : Device) (d5 : Device) (d6 : Device) (n : Fin 32) (v : Word) (a : Nat) (w : Nat), s.finds d ∧ d.unitUp 0 = true ∧ w = v.toNat ||| a ∧ d1 = d.put { off := DMA_CH_CTRL n, lo := 10, w := 3 } (bits w 10 3) ∧ d2 = (if bitOf w 17 then d1.dmaGo n else d1) ∧ d3 = (if bitOf w 16 then d2.dmaPoke n else d2) ∧ d4 = (if bitOf w 15 then d3.dmaContinue n else d3) ∧ d5 = (if bitOf w 14 then d4.dmaStop n else d4) ∧ d6 = (if bitOf w 13 then d5.dmaAbort n else d5) ∧ a = 0x10000) ∧
    (∃ (s : State) (d : Device) (d1 : Device) (d2 : Device) (d3 : Device) (d4 : Device) (d5 : Device) (d6 : Device) (n : Fin 32) (v : Word) (a : Nat) (w : Nat), s.finds d ∧ d.unitUp 0 = true ∧ w = v.toNat ||| a ∧ d1 = d.put { off := DMA_CH_CTRL n, lo := 10, w := 3 } (bits w 10 3) ∧ d2 = (if bitOf w 17 then d1.dmaGo n else d1) ∧ d3 = (if bitOf w 16 then d2.dmaPoke n else d2) ∧ d4 = (if bitOf w 15 then d3.dmaContinue n else d3) ∧ d5 = (if bitOf w 14 then d4.dmaStop n else d4) ∧ d6 = (if bitOf w 13 then d5.dmaAbort n else d5) ∧ a = 0x8000) ∧
    (∃ (s : State) (d : Device) (d1 : Device) (d2 : Device) (d3 : Device) (d4 : Device) (d5 : Device) (d6 : Device) (n : Fin 32) (v : Word) (a : Nat) (w : Nat), s.finds d ∧ d.unitUp 0 = true ∧ w = v.toNat ||| a ∧ d1 = d.put { off := DMA_CH_CTRL n, lo := 10, w := 3 } (bits w 10 3) ∧ d2 = (if bitOf w 17 then d1.dmaGo n else d1) ∧ d3 = (if bitOf w 16 then d2.dmaPoke n else d2) ∧ d4 = (if bitOf w 15 then d3.dmaContinue n else d3) ∧ d5 = (if bitOf w 14 then d4.dmaStop n else d4) ∧ d6 = (if bitOf w 13 then d5.dmaAbort n else d5) ∧ a = 0x4000) ∧
    (∃ (s : State) (d : Device) (d1 : Device) (d2 : Device) (d3 : Device) (d4 : Device) (d5 : Device) (d6 : Device) (n : Fin 32) (v : Word) (a : Nat) (w : Nat), s.finds d ∧ d.unitUp 0 = true ∧ w = v.toNat ||| a ∧ d1 = d.put { off := DMA_CH_CTRL n, lo := 10, w := 3 } (bits w 10 3) ∧ d2 = (if bitOf w 17 then d1.dmaGo n else d1) ∧ d3 = (if bitOf w 16 then d2.dmaPoke n else d2) ∧ d4 = (if bitOf w 15 then d3.dmaContinue n else d3) ∧ d5 = (if bitOf w 14 then d4.dmaStop n else d4) ∧ d6 = (if bitOf w 13 then d5.dmaAbort n else d5) ∧ a = 0x2000) ∧
    (∃ (s : State) (d : Device) (d1 : Device) (n : Fin 32) (v : Word) (d2 : Device) (d3 : Device), s.finds d ∧ d.unitUp 0 = true ∧ bits v.toNat 13 5 = 0 ∧ d1 = d.put { off := DMA_CH_CTRL n, lo := 10, w := 3 } (bits v.toNat 10 3) ∧ d1.inRun = true ∧ d1.dmaState n = dmaIDLE ∧ d2 = (d1.chan n).pcWas.elim d1 (fun p => if p.1 == d1.clock then d1.put54 (DMA_CH_PC n) p.2 else d1) ∧ d3 = ((d2.putFlag (fWaitLate n) false).put (fDmaCause n) 0).put36 (DMA_CH_MOVED n) 0) ∧
    (∃ (s : State) (d : Device) (d1 : Device) (n : Fin 32) (v : Word), s.finds d ∧ d.unitUp 0 = true ∧ bits v.toNat 13 5 = 0 ∧ d1 = d.put { off := DMA_CH_CTRL n, lo := 10, w := 3 } (bits v.toNat 10 3) ∧ d1.inRun = true ∧ d1.dmaState n = dmaPARKED) ∧
    (∃ (s : State) (d : Device) (d1 : Device) (n : Fin 32) (v : Word), s.finds d ∧ d.unitUp 0 = true ∧ bits v.toNat 13 5 = 0 ∧ d1 = d.put { off := DMA_CH_CTRL n, lo := 10, w := 3 } (bits v.toNat 10 3) ∧ d1.inRun = true ∧ d1.dmaState n = dmaHALTED ∧ (d1.chan n).instr.isSome = false) ∧
    (∃ (s : State) (d : Device) (d1 : Device) (n : Fin 32) (v : Word), s.finds d ∧ d.unitUp 0 = true ∧ bits v.toNat 13 5 = 0 ∧ d1 = d.put { off := DMA_CH_CTRL n, lo := 10, w := 3 } (bits v.toNat 10 3) ∧ d1.inRun = true ∧ d1.dmaState n = dmaWAITING ∧ (d1.chan n).endAt = none ∧ (d1.chan n).staged = []) ∧
    (∃ (s : State) (d : Device) (d1 : Device) (n : Fin 32) (v : Word), s.finds d ∧ d.unitUp 0 = true ∧ bits v.toNat 13 5 = 0 ∧ d1 = d.put { off := DMA_CH_CTRL n, lo := 10, w := 3 } (bits v.toNat 10 3) ∧ d1.inRun = true ∧ d1.dmaState n = dmaHALTED) ∧
    (∃ (s : State) (d : Device) (v : Word), s.finds d ∧ d.unitUp 0 = true) ∧
    (∃ (s : State) (d : Device) (d1 : Device) (d2 : Device) (d3 : Device) (u : Fin 4) (v : Word) (a : Nat) (w : Nat), s.finds d ∧ d.unitUp 0 = true ∧ w = v.toNat ||| a ∧ d1 = (if d.chkBusy u then d else d.put { off := CHK_U_CTRL u, lo := 8, w := 8 } (bits w 8 8)) ∧ d2 = (if bitOf w 17 then d1.chkStart u else d1) ∧ d3 = (if bitOf w 16 then (({ d2 with dma := { d2.dma with ended := d2.dma.ended.filter (fun x => x != u.val) } } : Device).put (fChkState u) chkIDLE).completeWhere (fun x => x == Wait.check u) sABORTED 0 [] else d2) ∧ a = 0x20000) ∧
    (∃ (s : State) (d : Device) (d1 : Device) (d2 : Device) (d3 : Device) (u : Fin 4) (v : Word) (a : Nat) (w : Nat), s.finds d ∧ d.unitUp 0 = true ∧ w = v.toNat ||| a ∧ d1 = (if d.chkBusy u then d else d.put { off := CHK_U_CTRL u, lo := 8, w := 8 } (bits w 8 8)) ∧ d2 = (if bitOf w 17 then d1.chkStart u else d1) ∧ d3 = (if bitOf w 16 then (({ d2 with dma := { d2.dma with ended := d2.dma.ended.filter (fun x => x != u.val) } } : Device).put (fChkState u) chkIDLE).completeWhere (fun x => x == Wait.check u) sABORTED 0 [] else d2) ∧ a = 0x10000) ∧
    (∃ (s : State) (d : Device) (u : Fin 4), s.finds d ∧ d.unitUp 0 = true ∧ d.inRun = true ∧ d.chkState u = chkSCANNING ∧ d.memServes (4 * d.get36 (CHK_U_START u)) (4 * min (d.get36 (CHK_U_LENGTH u)) (dramGroups - d.get36 (CHK_U_START u))) = true) :=
  ⟨⟨{ dev := upDev }, upDev, _, _, _, _, _, _, 31, 0x1C00, 0x20000, _, finds_at _ (by decide +kernel), by and_intros <;> first | decide +kernel | rfl⟩,
   ⟨{ dev := upDev }, upDev, _, _, _, _, _, _, 31, 0x3FFFF, 0x10000, _, finds_at _ (by decide +kernel), by and_intros <;> first | decide +kernel | rfl⟩,
   ⟨{ dev := upDev }, upDev, _, _, _, _, _, _, 31, 0, 0x8000, _, finds_at _ (by decide +kernel), by and_intros <;> first | decide +kernel | rfl⟩,
   ⟨{ dev := upDev }, upDev, _, _, _, _, _, _, 31, 0, 0x4000, _, finds_at _ (by decide +kernel), by and_intros <;> first | decide +kernel | rfl⟩,
   ⟨{ dev := upDev }, upDev, _, _, _, _, _, _, 31, 0, 0x2000, _, finds_at _ (by decide +kernel), by and_intros <;> first | decide +kernel | rfl⟩,
   ⟨{ dev := upDev.mapChan 31 (fun c => { c with pcWas := some (0, 5) }) }, upDev.mapChan 31 (fun c => { c with pcWas := some (0, 5) }), _, 31, 0x1C00, _, _, finds_at _ (by decide +kernel), by and_intros <;> first | decide +kernel | rfl⟩,
   ⟨{ dev := upDev.put (fDmaState 31) dmaPARKED }, upDev.put (fDmaState 31) dmaPARKED, _, 31, 0, finds_at _ (by decide +kernel), by and_intros <;> first | decide +kernel | rfl⟩,
   ⟨{ dev := upDev.put (fDmaState 31) dmaHALTED }, upDev.put (fDmaState 31) dmaHALTED, _, 31, 0, finds_at _ (by decide +kernel), by and_intros <;> first | decide +kernel | rfl⟩,
   ⟨{ dev := (dmaDev [0xD000, 0, 0, 0]).put (fDmaState 31) dmaWAITING }, (dmaDev [0xD000, 0, 0, 0]).put (fDmaState 31) dmaWAITING, _, 31, 0, finds_at _ (by decide +kernel), by and_intros <;> first | decide +kernel | rfl⟩,
   ⟨{ dev := upDev.put (fDmaState 31) dmaHALTED }, upDev.put (fDmaState 31) dmaHALTED, _, 31, 0, finds_at _ (by decide +kernel), by and_intros <;> first | decide +kernel | rfl⟩,
   ⟨{ dev := upDev }, upDev, 0xFFFF, finds_at _ (by decide +kernel), by decide +kernel⟩,
   ⟨{ dev := upDev }, upDev, _, _, _, 3, 0, 0x20000, _, finds_at _ (by decide +kernel), by and_intros <;> first | decide +kernel | rfl⟩,
   ⟨{ dev := upDev.put (fChkState 3) 1 }, upDev.put (fChkState 3) 1, _, _, _, 3, 0, 0x10000, _, finds_at _ (by decide +kernel), by and_intros <;> first | decide +kernel | rfl⟩,
   ⟨{ dev := (memDev.put (fChkState 3) chkSCANNING).put36 (CHK_U_LENGTH 3) 1 }, (memDev.put (fChkState 3) chkSCANNING).put36 (CHK_U_LENGTH 3) 1, 3, finds_at _ (by decide +kernel), by decide +kernel⟩⟩

theorem test_witness_DmaInstructionsTakeEffect :
    (∃ (s : State) (d : Device) (d1 : Device) (d2 : Device) (d3 : Device) (n : Fin 32) (e : Bool) (ws : List Nat), s.finds d ∧ d.dmaInstr n 0 = some ws ∧ (e && (d.chan n).host && d.justFetched n) = false ∧ d1 = (if bitOf (ws.headD 0) 13 then (d.setDmaState n dmaIDLE).mapChan n (fun _ => {}) else (d.setDmaState n dmaPARKED).mapChan n (fun c => { c with instr := none, poke := false, stopping := false, endAt := some d.clock })) ∧ d2 = (if bitOf (ws.headD 0) 12 then d1.raise (208 + n) else d1) ∧ d3 = d2.dmaCommandEnds n sOK 0 (d2.dmaMoved n)) ∧
    (∃ (s : State) (d : Device) (n : Fin 32), s.finds d ∧ (d.chan n).host = true ∧ d.justFetched n = true) ∧
    (∃ (s : State) (d : Device) (d1 : Device) (d2 : Device) (n : Fin 32) (b : MoveBeats) (ws : List Nat) (m : Move), s.finds d ∧ d.dmaInstr n 1 = some ws ∧ readMove (d.chan n) ws = some m ∧ (((d.chan n).done < m.count → b.count ≠ 0 ∧ d.granted n = true ∧ d.moveServes n m = true)) ∧ (match m.unit with | some u => if (d.chan n).done = 0 then d.chkTake n u else some d | none => some d) = some d1 ∧ d2 = d1.moveGroups n m b.hostErr (d.chan n).staged.length (min b.count (m.count - (d.chan n).done))) ∧
    (∃ (s : State) (d : Device) (n : Fin 32) (b : MoveBeats) (ws : List Nat) (m : Move) (u : Nat), s.finds d ∧ d.dmaInstr n 1 = some ws ∧ readMove (d.chan n) ws = some m ∧ b.count ≠ 0 ∧ d.granted n = true ∧ d.moveServes n m = true ∧ m.unit = some u ∧ (d.chan n).done = 0 ∧ d.chkTake n u = none) ∧
    (∃ (s : State) (d : Device) (n : Fin 32) (b : MoveBeats) (ws : List Nat) (m : Move), s.finds d ∧ d.dmaInstr n 1 = some ws ∧ readMove (d.chan n) ws = some m ∧ (d.chan n).done < m.count ∧ ((d.granted n = false ∨ b.count = 0 ∨ d.moveServes n m = false))) ∧
    (∃ (s : State) (d : Device) (n : Fin 32) (b : MoveBeats) (ws : List Nat), s.finds d ∧ d.dmaInstr n 1 = some ws ∧ readMove (d.chan n) ws = none) ∧
    (∃ (s : State) (d : Device) (n : Fin 32) (m : Move), s.finds d ∧ d.unitUp 0 = true ∧ d.inRun = true ∧ d.dmaState n = dmaRUNNING ∧ (d.chan n).readAt + 40000000 ≤ d.clock ∧ (d.dmaInstr n 1).bind (readMove (d.chan n)) = some m ∧ m.ssp = spHOST ∧ (d.chan n).staged = [] ∧ (d.chan n).stopping = false) ∧
    (∃ (s : State) (d : Device) (n : Fin 32) (m : Move), s.finds d ∧ d.unitUp 0 = true ∧ d.inRun = true ∧ d.dmaState n = dmaRUNNING ∧ (d.chan n).readAt + 40000000 ≤ d.clock ∧ (d.dmaInstr n 1).bind (readMove (d.chan n)) = some m ∧ m.ssp = spHOST ∧ (d.chan n).staged ≠ []) ∧
    (∃ (s : State) (d : Device) (n : Fin 32), s.finds d ∧ d.unitUp 0 = true ∧ d.inRun = true ∧ d.dmaState n = dmaRUNNING ∧ (d.chan n).readAt + 40000000 ≤ d.clock ∧ (d.dmaInstr n 1).bind (readMove (d.chan n)) = none ∧ (d.chan n).host = true) ∧
    (∃ (s : State) (d : Device) (n : Fin 32) (ws : List Nat) (k : Nat) (v : Nat) (others : List (Nat × Nat)), s.finds d ∧ d.dmaInstr n 2 = some ws ∧ k = bits (ws.headD 0) 12 2 ∧ others = (d.chan n).ctrs.filter (fun (p : Nat × Nat) => p.1 != k) ∧ v = ((d.chan n).ctrs.find? (fun (p : Nat × Nat) => p.1 == k)).elim (ws.getD 1 0) (fun (p : Nat × Nat) => p.2)) ∧
    (∃ (s : State) (d : Device) (n : Fin 32) (ws : List Nat), s.finds d ∧ d.dmaInstr n 3 = some ws) ∧
    (∃ (s : State) (d : Device) (n : Fin 32) (ws : List Nat), s.finds d ∧ d.unitUp 0 = true ∧ d.inRun = true ∧ d.dmaState n = dmaWAITING ∧ (d.chan n).instr = some ws ∧ d.waitOver n ws = true) ∧
    (∃ (s : State) (d : Device) (d1 : Device) (d2 : Device) (n : Fin 32) (ws : List Nat), s.finds d ∧ d.dmaInstr n 4 = some ws ∧ d1 = (if bitOf (ws.headD 0) 13 then writeDoorbell (ws.getD 1 0) d else d) ∧ d2 = (if bitOf (ws.headD 0) 12 then d1.putFlag (fDmaFlag (ws.getD 2 0)) true else d1)) ∧
    (∃ (s : State) (d : Device) (n : Fin 32) (ws : List Nat), s.finds d ∧ d.dmaInstr n 5 = some ws) :=
  ⟨⟨{ dev := dmaDev [0x2000, 0, 0, 0, 0, 0, 0, 0] }, dmaDev [0x2000, 0, 0, 0, 0, 0, 0, 0], _, _, _, 31, true, [0x2000, 0, 0, 0, 0, 0, 0, 0], finds_at _ (by decide +kernel), by and_intros <;> first | decide +kernel | rfl⟩,
   ⟨{ dev := (dmaDev [0xD000, 0, 0, 0]).mapChan 31 (fun c => { c with host := true }) }, (dmaDev [0xD000, 0, 0, 0]).mapChan 31 (fun c => { c with host := true }), 31, finds_at _ (by decide +kernel), by decide +kernel⟩,
   ⟨{ dev := dmaDev [0x5000, 1, 0, 0, 0, 16, 0, 0] }, dmaDev [0x5000, 1, 0, 0, 0, 16, 0, 0], _, _, 31, { count := 64, hostErr := some 5 }, [0x5000, 1, 0, 0, 0, 16, 0, 0], { ssp := 1, src := 0, sfix := false, dsp := 0, dst := 16, dfix := false, count := 2, unit := none }, finds_at _ (by decide +kernel), by and_intros <;> first | decide +kernel | rfl⟩,
   ⟨{ dev := dmaDev [0x5020, 1, 0, 0, 0, 16, 0, 0] }, dmaDev [0x5020, 1, 0, 0, 0, 16, 0, 0], 31, { count := 64, hostErr := none }, [0x5020, 1, 0, 0, 0, 16, 0, 0], { ssp := 1, src := 0, sfix := false, dsp := 0, dst := 16, dfix := false, count := 2, unit := some 3 }, 3, finds_at _ (by decide +kernel), by decide +kernel⟩,
   ⟨{ dev := dmaDev [0x5000, 1, 0, 0, 0, 16, 0, 0] }, dmaDev [0x5000, 1, 0, 0, 0, 16, 0, 0], 31, { count := 0, hostErr := none }, [0x5000, 1, 0, 0, 0, 16, 0, 0], { ssp := 1, src := 0, sfix := false, dsp := 0, dst := 16, dfix := false, count := 2, unit := none }, finds_at _ (by decide +kernel), by decide +kernel⟩,
   ⟨{ dev := dmaDev [0x5080, 1, 0, 0, 0, 16, 0, 0] }, dmaDev [0x5080, 1, 0, 0, 0, 16, 0, 0], 31, { count := 64, hostErr := none }, [0x5080, 1, 0, 0, 0, 16, 0, 0], finds_at _ (by decide +kernel), by decide +kernel⟩,
   ⟨{ dev := clockAt ((dmaDev [0x5000, 0, 0, 0, 0, 0, 0, 0])) 40000000 }, clockAt ((dmaDev [0x5000, 0, 0, 0, 0, 0, 0, 0])) 40000000, 31, { ssp := 1, src := 0, sfix := false, dsp := 0, dst := 0, dfix := false, count := 1, unit := none }, finds_at _ (by decide +kernel), by decide +kernel⟩,
   ⟨{ dev := clockAt ((dmaDev [0x5000, 0, 0, 0, 0, 0, 0, 0]).mapChan 31 (fun c => { c with staged := [[1, 2, 3, 4]] })) 40000000 }, clockAt ((dmaDev [0x5000, 0, 0, 0, 0, 0, 0, 0]).mapChan 31 (fun c => { c with staged := [[1, 2, 3, 4]] })) 40000000, 31, { ssp := 1, src := 0, sfix := false, dsp := 0, dst := 0, dfix := false, count := 1, unit := none }, finds_at _ (by decide +kernel), by decide +kernel⟩,
   ⟨{ dev := clockAt ((dmaDev [0xD000, 0, 0, 0]).mapChan 31 (fun c => { c with host := true })) 40000000 }, clockAt ((dmaDev [0xD000, 0, 0, 0]).mapChan 31 (fun c => { c with host := true })) 40000000, 31, finds_at _ (by decide +kernel), by decide +kernel⟩,
   ⟨{ dev := (dmaDev [0x8000, 0, 1, 0]).mapChan 31 (fun c => { c with ctrs := [(0, 1)] }) }, (dmaDev [0x8000, 0, 1, 0]).mapChan 31 (fun c => { c with ctrs := [(0, 1)] }), 31, [0x8000, 0, 1, 0], _, _, _, finds_at _ (by decide +kernel), by and_intros <;> first | decide +kernel | rfl⟩,
   ⟨{ dev := dmaDev [0xC000, 5, 0, 0] }, dmaDev [0xC000, 5, 0, 0], 31, [0xC000, 5, 0, 0], finds_at _ (by decide +kernel), by decide +kernel⟩,
   ⟨{ dev := (dmaDev [0xD000, 0, 0, 0]).put (fDmaState 31) dmaWAITING }, (dmaDev [0xD000, 0, 0, 0]).put (fDmaState 31) dmaWAITING, 31, [0xD000, 0, 0, 0], finds_at _ (by decide +kernel), by decide +kernel⟩,
   ⟨{ dev := dmaDev [0x13000, 256, 15, 0] }, dmaDev [0x13000, 256, 15, 0], _, _, 31, [0x13000, 256, 15, 0], finds_at _ (by decide +kernel), by and_intros <;> first | decide +kernel | rfl⟩,
   ⟨{ dev := dmaDev [0x14000, 0, 0, 0] }, dmaDev [0x14000, 0, 0, 0], 31, [0x14000, 0, 0, 0], finds_at _ (by decide +kernel), by decide +kernel⟩⟩

theorem test_witness_EthernetAndNdfTakeEffect :
    (∃ (s : State) (d : Device) (p : Fin 2) (up : Bool) (los : Bool), s.finds d ∧ d.unitUp 20 = true) ∧
    (∃ (s : State) (d : Device) (d1 : Device) (p : Fin 2) (v : Word), s.finds d ∧ d.unitUp 20 = true ∧ d.inReady = true ∧ d1 = (((d.putFlag (fPortEn p) (bitOf v.toNat 17)).putFlag (fPortMode p) (bitOf v.toNat 16)).setReg (ETH_P_TX_LAT p) (if bitOf v.toNat 16 then 864 else 608)).setReg (ETH_P_RX_LAT p) (if bitOf v.toNat 16 then 2336 else 1472)) ∧
    (∃ (s : State) (d : Device) (d1 : Device) (p : Fin 2) (frame : List Byte) (x : EthFrame), s.finds d ∧ d.unitUp 20 = true ∧ d.flag (fLink p) = true ∧ d1 = d.fecCounts p ∧ x = d1.judgeFrame p (frame.map (fun b => b.toNat))) ∧
    (∃ (s : State) (d : Device) (d1 : Device) (p : Fin 2) (frame : List Byte) (x : EthFrame), s.finds d ∧ d.unitUp 20 = true ∧ d.flag (fLink p) = true ∧ d1 = d.fecCounts p ∧ x = d1.judgeFrame p (frame.map (fun b => b.toNat))) ∧
    (∃ (s : State) (d : Device) (d1 : Device) (p : Fin 2) (frame : List Byte) (x : EthFrame), s.finds d ∧ d.unitUp 20 = true ∧ d.flag (fLink p) = true ∧ d1 = d.fecCounts p ∧ x = d1.judgeFrame p (frame.map (fun b => b.toNat))) ∧
    (∃ (s : State) (d : Device) (d1 : Device) (p : Fin 2) (x : Neighbour), s.finds d ∧ d.unitUp 20 = true ∧ d.flag (fLink p) = true ∧ d.eth.neighbours = [x] ∧ x.port = p.val ∧ x.asked + 48000000000 ≤ d.clock ∧ d1 = { d with eth := { d.eth with neighbours := [] } } ∧ ((d1.serverUsed p x.v6 x.addr = false ∨ d1.speaks p x.v6 = false))) ∧
    (∃ (s : State) (d : Device) (d1 : Device) (p : Fin 2) (x : Neighbour), s.finds d ∧ d.unitUp 20 = true ∧ d.flag (fLink p) = true ∧ d.eth.neighbours = [x] ∧ x.port = p.val ∧ x.asked + 48000000000 ≤ d.clock ∧ d1 = { d with eth := { d.eth with neighbours := [] } } ∧ d1.serverUsed p x.v6 x.addr = true ∧ d1.speaks p x.v6 = true) ∧
    (∃ (s : State) (d : Device) (n : Fin 16) (q : Nat) (f : NdfFetch), s.finds d ∧ d.unitUp 20 = true ∧ d.slotTurn = some n.val ∧ d.nextWanted n = some q ∧ f = { slot := n, seq := q, attempt := if q == (d.slot n).next then (d.slot n).attempt else 0, port := d.serverPort (d.slot n).server, size := d.segSize, count := none, reqAt := d.clock }) ∧
    (∃ (s : State) (d : Device) (p : Fin 2) (b : List Byte), s.finds d ∧ d.unitUp 20 = true ∧ d.flag (fLink p) = true ∧ (d.speaks p false || d.speaks p true) = true) ∧
    (∃ (s : State) (d : Device) (n : Fin 16) (q : Word) (f : NdfFetch), s.finds d ∧ d.fetch n q.toNat = some f ∧ d.unitUp 20 = true ∧ f.segAt = none ∧ f.busyAt = none ∧ f.reqAt + 8000 * d.get fReqTmo < d.clock) ∧
    (∃ (s : State) (d : Device) (n : Fin 16) (q : Word) (f : NdfFetch) (t : Nat), s.finds d ∧ d.fetch n q.toNat = some f ∧ d.unitUp 20 = true ∧ f.segAt = some t ∧ f.busyAt = none ∧ t + 8000 * d.get fGapTmo < d.clock) ∧
    (∃ (s : State) (d : Device) (n : Fin 16) (q : Word) (f : NdfFetch) (t : Nat), s.finds d ∧ d.fetch n q.toNat = some f ∧ d.unitUp 20 = true ∧ f.busyAt = some t ∧ t + 800000 ≤ d.clock) :=
  ⟨⟨{ dev := upDev }, upDev, 1, true, false, finds_at _ (by decide +kernel), by decide +kernel⟩,
   ⟨{ dev := upDev }, upDev, _, 1, 0x30000, finds_at _ (by decide +kernel), by and_intros <;> first | decide +kernel | rfl⟩,
   ⟨{ dev := ethDev }, ethDev, _, 1, arpFrame, _, finds_at _ (by decide +kernel), by and_intros <;> first | decide +kernel | rfl⟩,
   ⟨{ dev := ethDev }, ethDev, _, 1, List.replicate 64 0, _, finds_at _ (by decide +kernel), by and_intros <;> first | decide +kernel | rfl⟩,
   ⟨{ dev := ethDev }, ethDev, _, 1, strangeFrame, _, finds_at _ (by decide +kernel), by and_intros <;> first | decide +kernel | rfl⟩,
   ⟨{ dev := { ethDev with clock := 48000000000, eth := { neighbours := [{ port := 1, v6 := false, addr := 7, asked := 0 }] } } }, { ethDev with clock := 48000000000, eth := { neighbours := [{ port := 1, v6 := false, addr := 7, asked := 0 }] } }, _, 1, { port := 1, v6 := false, addr := 7, asked := 0 }, finds_at _ (by decide +kernel), by and_intros <;> first | decide +kernel | rfl⟩,
   ⟨{ dev := ({ (ethDev.setReg (ETH_SRV_CTRL 7) 0x28000) with clock := 48000000000, eth := { neighbours := [{ port := 1, v6 := false, addr := 0, asked := 0 }] } } : Device).setSlot 15 { isOpen := true, source := .ndf 7 } }, ({ (ethDev.setReg (ETH_SRV_CTRL 7) 0x28000) with clock := 48000000000, eth := { neighbours := [{ port := 1, v6 := false, addr := 0, asked := 0 }] } } : Device).setSlot 15 { isOpen := true, source := .ndf 7 }, _, 1, { port := 1, v6 := false, addr := 0, asked := 0 }, finds_at _ (by decide +kernel), by and_intros <;> first | decide +kernel | rfl⟩,
   ⟨{ dev := upDev.setSlot 15 { isOpen := true, source := .ndf 7, next := 0x3FFFF } }, upDev.setSlot 15 { isOpen := true, source := .ndf 7, next := 0x3FFFF }, 15, 0x3FFFF, _, finds_at _ (by decide +kernel), by and_intros <;> first | decide +kernel | rfl⟩,
   ⟨{ dev := ethDev }, ethDev, 1, [], finds_at _ (by decide +kernel), by decide +kernel⟩,
   ⟨{ dev := { upDev with clock := 100000000, eth := { fetches := [someFetch] } } }, { upDev with clock := 100000000, eth := { fetches := [someFetch] } }, 15, 0x3FFFF, someFetch, finds_at _ (by decide +kernel), by decide +kernel⟩,
   ⟨{ dev := { upDev with clock := 100000000, eth := { fetches := [{ someFetch with segAt := some 0 }] } } }, { upDev with clock := 100000000, eth := { fetches := [{ someFetch with segAt := some 0 }] } }, 15, 0x3FFFF, { someFetch with segAt := some 0 }, 0, finds_at _ (by decide +kernel), by decide +kernel⟩,
   ⟨{ dev := { upDev with clock := 100000000, eth := { fetches := [{ someFetch with busyAt := some 0 }] } } }, { upDev with clock := 100000000, eth := { fetches := [{ someFetch with busyAt := some 0 }] } }, 15, 0x3FFFF, { someFetch with busyAt := some 0 }, 0, finds_at _ (by decide +kernel), by decide +kernel⟩⟩

theorem test_witness_PtpTakesEffect :
    (∃ (s : State) (d : Device) (h : PtpHeader) (i : AnnounceInfo), s.finds d ∧ d.ptpOk h = true ∧ i.stepsRemoved < 255) ∧
    (∃ (s : State) (d : Device) (m : Master), s.finds d ∧ d.meshTimed = false ∧ d.ptp.best = some m ∧ m.deadline ≤ d.clock) ∧
    (∃ (s : State) (d : Device), s.finds d ∧ d.meshTimed = true ∧ d.msh.timeRing.isSome = true ∧ d.ptp.syncAt + 2400000 ≤ d.clock) ∧
    (∃ (s : State) (d : Device) (h : PtpHeader) (t1 : Int) (mac : Int) (c : Int) (q : Nat), s.finds d ∧ d.follows h = true) ∧
    (∃ (s : State) (d : Device) (h : PtpHeader) (t1 : Int) (c : Int) (t2 : Int) (c2 : Int) (q : Nat), s.finds d ∧ d.follows h = true ∧ d.ptp.sync = some (q, t2, c2)) ∧
    (∃ (s : State) (d : Device) (m : Master) (mac : Int), s.finds d ∧ d.ptp.best = some m ∧ d.unitUp 20 = true ∧ d.meshTimed = false ∧ d.flag fPtpEn = true ∧ d.flag (fLink m.port) = true ∧ d.transportOn m.port = true ∧ ptpUNCALIBRATED ≤ d.ptpState ∧ ((∀ t, d.ptp.requestAt = some t → t + logTicks d.ptp.logInterval ≤ d.clock))) ∧
    (∃ (s : State) (d : Device) (d1 : Device) (h : PtpHeader) (t4 : Int) (c : Int) (t3 : Int) (l : Int) (q : Nat), s.finds d ∧ d.follows h = true ∧ d.ptp.request = some (q, t3) ∧ d1 = (d.itemIn 17).mapPtp (fun p => { p with up := some (t4 - t3 - c), request := none, logInterval := l })) ∧
    (∃ (s : State) (d : Device) (d1 : Device), s.finds d ∧ ((d.ptpState = ptpSLAVE ∨ d.ptpState = ptpUNCALIBRATED)) ∧ d.ptp.syncAt + 800000 * (d.reg PTP_HOLD_TMO % 65536) ≤ d.clock ∧ d1 = ((if d.ptp.rates = [] then d else d.setReg PTP_RATE (wrap 18 (ratRound (mkRat d.ptp.rates.sum d.ptp.rates.length)))).setPtpState ptpHOLDOVER)) ∧
    (∃ (s : State) (d : Device), s.finds d ∧ d.unitUp 20 = true) ∧
    (∃ (s : State) (d : Device) (v : Word), s.finds d ∧ d.unitUp 20 = true ∧ bits v.toNat 7 2 ≠ 3 ∧ bits v.toNat 4 2 ≠ 3) :=
  ⟨⟨{ dev := ptpDev 1 }, ptpDev 1, someHdr, { someMaster.info with stepsRemoved := 254 }, finds_at _ (by decide +kernel), by decide +kernel⟩,
   ⟨{ dev := ptpDev 3 }, ptpDev 3, someMaster, finds_at _ (by decide +kernel), by decide +kernel⟩,
   ⟨{ dev := { (meshDev 1).putFlag fMeshTime true with clock := 2400000, msh := { timeRing := some true } } }, { (meshDev 1).putFlag fMeshTime true with clock := 2400000, msh := { timeRing := some true } }, finds_at _ (by decide +kernel), by decide +kernel⟩,
   ⟨{ dev := ptpDev 2 }, ptpDev 2, someHdr, 5, 6, 0, 65535, finds_at _ (by decide +kernel), by decide +kernel⟩,
   ⟨{ dev := (ptpDev 2).mapPtp (fun p => { p with sync := some (65535, 3, 4) }) }, (ptpDev 2).mapPtp (fun p => { p with sync := some (65535, 3, 4) }), someHdr, 5, 6, 3, 4, 65535, finds_at _ (by decide +kernel), by decide +kernel⟩,
   ⟨{ dev := ptpDev 2 }, ptpDev 2, someMaster, 9, finds_at _ (by decide +kernel), by and_intros <;> first | decide +kernel | (simp; done)⟩,
   ⟨{ dev := (ptpDev 2).mapPtp (fun p => { p with request := some (65535, 3) }) }, (ptpDev 2).mapPtp (fun p => { p with request := some (65535, 3) }), _, someHdr, 8, 1, 3, 0, 65535, finds_at _ (by decide +kernel), by and_intros <;> first | decide +kernel | rfl⟩,
   ⟨{ dev := ptpDev ptpSLAVE }, ptpDev ptpSLAVE, _, finds_at _ (by decide +kernel), by and_intros <;> first | decide +kernel | rfl⟩,
   ⟨{ dev := upDev }, upDev, finds_at _ (by decide +kernel), by decide +kernel⟩,
   ⟨{ dev := upDev }, upDev, 0x20000, finds_at _ (by decide +kernel), by decide +kernel⟩⟩

theorem test_witness_ManagerMessagesTakeEffect :
    (∃ (s : State) (d : Device) (d1 : Device) (m : MeshMsg) (ty : Nat), s.finds d ∧ d.hearsFrom m = true ∧ d.msh.seen.contains (m.src.val, m.mseq.toNat) = false ∧ d1 = ((d.relay m ty).hearsManager m).firstCopy m ∧ d1.forMe m = true ∧ d1.isManager = true ∧ ty = mJOIN ∧ d1.inJob = false) ∧
    (∃ (s : State) (d : Device) (d1 : Device) (m : MeshMsg) (ty : Nat), s.finds d ∧ d.hearsFrom m = true ∧ d.msh.seen.contains (m.src.val, m.mseq.toNat) = false ∧ d1 = ((d.relay m ty).hearsManager m).firstCopy m ∧ d1.forMe m = true ∧ d1.isManager = true ∧ ty = mREPORT) ∧
    (∃ (s : State) (d : Device) (d1 : Device) (m : MeshMsg) (ty : Nat), s.finds d ∧ d.hearsFrom m = true ∧ d.msh.seen.contains (m.src.val, m.mseq.toNat) = false ∧ d1 = ((d.relay m ty).hearsManager m).firstCopy m ∧ d1.forMe m = true ∧ d1.isManager = true ∧ ty = mSTOP_REQ) ∧
    (∃ (s : State) (d : Device) (d1 : Device) (m : MeshMsg) (ty : Nat), s.finds d ∧ d.hearsFrom m = true ∧ d.msh.seen.contains (m.src.val, m.mseq.toNat) = false ∧ d1 = ((d.relay m ty).hearsManager m).firstCopy m ∧ d1.forMe m = true ∧ d1.isManager = true ∧ ty = mRESUME_ACK) ∧
    (∃ (s : State) (d : Device) (d1 : Device) (m : MeshMsg) (ty : Nat), s.finds d ∧ d.hearsFrom m = true ∧ d.msh.seen.contains (m.src.val, m.mseq.toNat) = false ∧ d1 = ((d.relay m ty).hearsManager m).firstCopy m ∧ d1.forMe m = true ∧ d1.isManager = true ∧ ty = mTIME_REQ) ∧
    (∃ (s : State) (d : Device) (d1 : Device) (m : MeshMsg) (ty : Nat), s.finds d ∧ d.hearsFrom m = true ∧ d.msh.seen.contains (m.src.val, m.mseq.toNat) = false ∧ d1 = ((d.relay m ty).hearsManager m).firstCopy m ∧ d1.forMe m = true ∧ d1.isManager = true ∧ ty = mEVT) ∧
    (∃ (s : State) (d : Device) (d1 : Device) (m : MeshMsg) (ty : Nat), s.finds d ∧ d.hearsFrom m = true ∧ d.msh.seen.contains (m.src.val, m.mseq.toNat) = false ∧ d1 = ((d.relay m ty).hearsManager m).firstCopy m ∧ d1.forMe m = true ∧ d1.isManager = true ∧ ty = mEVT) :=
  ⟨⟨{ dev := upMesh 0 }, upMesh 0, _, msgOf 0 1, mJOIN, finds_at _ (by decide +kernel), by and_intros <;> first | decide +kernel | rfl⟩,
   ⟨{ dev := upMesh 0 }, upMesh 0, _, msgOf 0 1, mREPORT, finds_at _ (by decide +kernel), by and_intros <;> first | decide +kernel | rfl⟩,
   ⟨{ dev := (upMesh 0).setState 3 }, (upMesh 0).setState 3, _, msgOf 0 1, mSTOP_REQ, finds_at _ (by decide +kernel), by and_intros <;> first | decide +kernel | rfl⟩,
   ⟨{ dev := upMesh 0 }, upMesh 0, _, msgOf 0 1, mRESUME_ACK, finds_at _ (by decide +kernel), by and_intros <;> first | decide +kernel | rfl⟩,
   ⟨{ dev := upMesh 0 }, upMesh 0, _, msgOf 0 1, mTIME_REQ, finds_at _ (by decide +kernel), by and_intros <;> first | decide +kernel | rfl⟩,
   ⟨{ dev := upMesh 0 }, upMesh 0, _, msgOf 0 1, mEVT, finds_at _ (by decide +kernel), by and_intros <;> first | decide +kernel | rfl⟩,
   ⟨{ dev := ({ upMesh 0 with msh := { fwd := List.replicate 64 (1, 0) } } : Device) }, ({ upMesh 0 with msh := { fwd := List.replicate 64 (1, 0) } } : Device), _, msgOf 0 1, mEVT, finds_at _ (by decide +kernel), by and_intros <;> first | decide +kernel | rfl⟩⟩

theorem test_witness_WorkerMessagesTakeEffect :
    (∃ (s : State) (d : Device) (d1 : Device) (m : MeshMsg) (ty : Nat), s.finds d ∧ d.hearsFrom m = true ∧ d.msh.seen.contains (m.src.val, m.mseq.toNat) = false ∧ d1 = ((d.relay m ty).hearsManager m).firstCopy m ∧ d1.forMe m = true ∧ ty = mABORT) ∧
    (∃ (s : State) (d : Device) (d1 : Device) (m : MeshMsg) (ty : Nat), s.finds d ∧ d.hearsFrom m = true ∧ d.msh.seen.contains (m.src.val, m.mseq.toNat) = false ∧ d1 = ((d.relay m ty).hearsManager m).firstCopy m ∧ d1.forMe m = true ∧ ty = mBEAT) ∧
    (∃ (s : State) (d : Device) (d1 : Device) (m : MeshMsg) (ty : Nat), s.finds d ∧ d.hearsFrom m = true ∧ d.msh.seen.contains (m.src.val, m.mseq.toNat) = false ∧ d1 = ((d.relay m ty).hearsManager m).firstCopy m ∧ d1.forMe m = true ∧ ty = mSTART ∧ d1.isWorker = true ∧ d1.inJob = true) ∧
    (∃ (s : State) (d : Device) (d1 : Device) (m : MeshMsg) (ty : Nat), s.finds d ∧ d.hearsFrom m = true ∧ d.msh.seen.contains (m.src.val, m.mseq.toNat) = false ∧ d1 = ((d.relay m ty).hearsManager m).firstCopy m ∧ d1.forMe m = true ∧ ty = mRUN ∧ d1.isWorker = true ∧ d1.job.any (fun j => j.pass == (bodyWords m).getD 0 0 / 2 && j.reverse == bitOf ((bodyWords m).getD 0 0) 0) = true) ∧
    (∃ (s : State) (d : Device) (d1 : Device) (m : MeshMsg) (ty : Nat), s.finds d ∧ d.hearsFrom m = true ∧ d.msh.seen.contains (m.src.val, m.mseq.toNat) = false ∧ d1 = ((d.relay m ty).hearsManager m).firstCopy m ∧ d1.forMe m = true ∧ ty = mSTOP ∧ d1.isWorker = true) ∧
    (∃ (s : State) (d : Device) (d1 : Device) (m : MeshMsg) (ty : Nat), s.finds d ∧ d.hearsFrom m = true ∧ d.msh.seen.contains (m.src.val, m.mseq.toNat) = false ∧ d1 = ((d.relay m ty).hearsManager m).firstCopy m ∧ d1.forMe m = true ∧ ty = mREST ∧ d1.isWorker = true ∧ d1.inWriting = true) ∧
    (∃ (s : State) (d : Device) (d1 : Device) (m : MeshMsg) (ty : Nat), s.finds d ∧ d.hearsFrom m = true ∧ d.msh.seen.contains (m.src.val, m.mseq.toNat) = false ∧ d1 = ((d.relay m ty).hearsManager m).firstCopy m ∧ d1.forMe m = true ∧ ty = mRESUME ∧ d1.isWorker = true) ∧
    (∃ (s : State) (d : Device) (d1 : Device) (m : MeshMsg) (ty : Nat), s.finds d ∧ d.hearsFrom m = true ∧ d.msh.seen.contains (m.src.val, m.mseq.toNat) = false ∧ d1 = ((d.relay m ty).hearsManager m).firstCopy m ∧ d1.forMe m = true ∧ ty = mEND ∧ d1.isWorker = true ∧ d1.inJob = true) ∧
    (∃ (s : State) (d : Device) (d1 : Device) (m : MeshMsg) (ty : Nat), s.finds d ∧ d.hearsFrom m = true ∧ d.msh.seen.contains (m.src.val, m.mseq.toNat) = false ∧ d1 = ((d.relay m ty).hearsManager m).firstCopy m ∧ d1.forMe m = true ∧ ty = mPAUSE ∧ d1.isWorker = true ∧ d1.inWriting = true) ∧
    (∃ (s : State) (d : Device) (d1 : Device) (m : MeshMsg) (ty : Nat), s.finds d ∧ d.hearsFrom m = true ∧ d.msh.seen.contains (m.src.val, m.mseq.toNat) = false ∧ d1 = ((d.relay m ty).hearsManager m).firstCopy m ∧ d1.forMe m = true ∧ ty = mTIME ∧ d1.meshTimed = true) ∧
    (∃ (s : State) (d : Device) (d1 : Device) (m : MeshMsg) (ty : Nat) (q : Nat) (t3 : Int) (sm : Int), s.finds d ∧ d.hearsFrom m = true ∧ d.msh.seen.contains (m.src.val, m.mseq.toNat) = false ∧ d1 = ((d.relay m ty).hearsManager m).firstCopy m ∧ d1.forMe m = true ∧ ty = mTIME_RESP ∧ d1.meshTimed = true ∧ d1.ptp.request = some (q, t3) ∧ sm = timeAt (bodyWords m) - t3 - corrAt (bodyWords m)) :=
  ⟨⟨{ dev := ({ (upMesh 1).setState 3 with job := some someJob } : Device) }, ({ (upMesh 1).setState 3 with job := some someJob } : Device), _, msgOf 1 0, mABORT, finds_at _ (by decide +kernel), by and_intros <;> first | decide +kernel | rfl⟩,
   ⟨{ dev := ({ (upMesh 1).setState 3 with job := some someJob } : Device) }, ({ (upMesh 1).setState 3 with job := some someJob } : Device), _, msgOf 1 0, mBEAT, finds_at _ (by decide +kernel), by and_intros <;> first | decide +kernel | rfl⟩,
   ⟨{ dev := ({ (upMesh 1).setState 3 with job := some someJob } : Device) }, ({ (upMesh 1).setState 3 with job := some someJob } : Device), _, msgOf 1 0, mSTART, finds_at _ (by decide +kernel), by and_intros <;> first | decide +kernel | rfl⟩,
   ⟨{ dev := ({ (upMesh 1).setState 3 with job := some someJob } : Device) }, ({ (upMesh 1).setState 3 with job := some someJob } : Device), _, msgOf 1 0, mRUN, finds_at _ (by decide +kernel), by and_intros <;> first | decide +kernel | rfl⟩,
   ⟨{ dev := ({ (upMesh 1).setState 3 with job := some someJob } : Device) }, ({ (upMesh 1).setState 3 with job := some someJob } : Device), _, msgOf 1 0, mSTOP, finds_at _ (by decide +kernel), by and_intros <;> first | decide +kernel | rfl⟩,
   ⟨{ dev := ({ (upMesh 1).setState 3 with job := some someJob } : Device) }, ({ (upMesh 1).setState 3 with job := some someJob } : Device), _, msgOf 1 0, mREST, finds_at _ (by decide +kernel), by and_intros <;> first | decide +kernel | rfl⟩,
   ⟨{ dev := ({ (upMesh 1).setState 4 with job := some someJob } : Device) }, ({ (upMesh 1).setState 4 with job := some someJob } : Device), _, msgOf 1 0, mRESUME, finds_at _ (by decide +kernel), by and_intros <;> first | decide +kernel | rfl⟩,
   ⟨{ dev := ({ (upMesh 1).setState 3 with job := some someJob } : Device) }, ({ (upMesh 1).setState 3 with job := some someJob } : Device), _, msgOf 1 0, mEND, finds_at _ (by decide +kernel), by and_intros <;> first | decide +kernel | rfl⟩,
   ⟨{ dev := ({ (upMesh 1).setState 3 with job := some someJob } : Device) }, ({ (upMesh 1).setState 3 with job := some someJob } : Device), _, msgOf 1 0, mPAUSE, finds_at _ (by decide +kernel), by and_intros <;> first | decide +kernel | rfl⟩,
   ⟨{ dev := (upMesh 1).putFlag fMeshTime true }, (upMesh 1).putFlag fMeshTime true, _, msgOf 1 0, mTIME, finds_at _ (by decide +kernel), by and_intros <;> first | decide +kernel | rfl⟩,
   ⟨{ dev := ({ (upMesh 1).putFlag fMeshTime true with ptp := { request := some (0, 3) } } : Device) }, ({ (upMesh 1).putFlag fMeshTime true with ptp := { request := some (0, 3) } } : Device), _, msgOf 1 0, mTIME_RESP, 0, 3, _, finds_at _ (by decide +kernel), by and_intros <;> first | decide +kernel | rfl⟩⟩

set_option maxRecDepth 100000 in
theorem test_witness_MeshWatchesAndPortsTakeEffect :
    (∃ (s : State) (d : Device), s.finds d ∧ d.meshOn = true ∧ d.isManager = true ∧ d.msh.timeSent.any (fun t => decide (d.clock < t + 800000)) = false) ∧
    (∃ (s : State) (d : Device), s.finds d ∧ d.isWorker = true ∧ d.msh.cut = false ∧ d.msh.heard + 800000 ≤ d.clock) ∧
    (∃ (s : State) (d : Device) (c : Fin 16), s.finds d ∧ d.isManager = true ∧ d.workers.contains c.val = true ∧ d.msh.lost.contains c.val = false ∧ d.colLive c = false ∧ 800000 ≤ d.clock) ∧
    (∃ (s : State) (d : Device) (p : Fin 4) (c : Fin 3), s.finds d ∧ d.unitUp 19 = true) ∧
    (∃ (s : State) (d : Device) (d1 : Device) (p : Fin 4), s.finds d ∧ d.unitUp 19 = true ∧ (d.msh.tried.toList.getD p none).all (fun t => decide (t + 80000000 ≤ d.clock)) = true ∧ d1 = (if d.portSt p = portTRAINING then d.portFails p pcNO_LOCK else d)) ∧
    (∃ (s : State) (d : Device) (d1 : Device) (p : Fin 4), s.finds d ∧ d.unitUp 19 = true ∧ (d.msh.tried.toList.getD p none).all (fun t => decide (t + 80000000 ≤ d.clock)) = true ∧ d1 = (if d.portSt p = portTRAINING then d.portFails p pcNO_LOCK else d)) ∧
    (∃ (s : State) (d : Device) (d1 : Device) (p : Fin 4) (c : Fin 16), s.finds d ∧ d.unitUp 19 = true ∧ d.portSt p = portTRAINING ∧ d1 = (if d.isPermanent 10 p then d.dropDomain 10 p else d.recovered 10 p)) ∧
    (∃ (s : State) (d : Device) (d1 : Device) (p : Fin 4) (c : Fin 16), s.finds d ∧ d.unitUp 19 = true ∧ d.portSt p = portTRAINING ∧ d1 = (if d.isPermanent 10 p then d.dropDomain 10 p else d.recovered 10 p)) ∧
    (∃ (s : State) (d : Device) (p : Fin 4) (v : Word), s.finds d ∧ bitOf v.toNat 17 = true ∧ d.portRetrainTaken p = true) ∧
    (∃ (s : State) (d : Device) (p : Fin 4), s.finds d ∧ d.unitUp 19 = true ∧ d.portSt p = portUP) ∧
    (∃ (s : State) (d : Device) (p : Fin 4) (b : BitVec 5140), s.finds d ∧ d.unitUp 19 = true ∧ d.portSt p = portUP ∧ d.meshBlockClean p b.toNat = false) ∧
    (∃ (s : State) (d : Device) (p : Fin 4) (b : BitVec 5140), s.finds d ∧ d.unitUp 19 = true ∧ d.portSt p = portUP ∧ d.meshBlockClean p b.toNat = true) ∧
    (∃ (s : State) (d : Device) (d1 : Device) (m : MeshMsg) (c : Instr) (ty : Nat), s.finds d ∧ d.hearsFrom m = true ∧ (c, ty) ∈ [(Instr.join m.origin m.words, mJOIN), (.start m, mSTART), (.report m.origin m.words, mREPORT), (.run m.port m.route m.mseq m.body, mRUN), (.stopReq m.port m.route m.words, mSTOP_REQ), (.stop m.port m.route m.words, mSTOP), (.rest m, mREST), (.meshResume m, mRESUME), (.resumeAck m.origin m.words, mRESUME_ACK), (.meshAbort m, mABORT), (.meshEnd m, mEND), (.meshPause m, mPAUSE), (.time m.port m.route m.mseq m.body, mTIME), (.timeReq m, mTIME_REQ), (.timeResp m.port m.route m.words, mTIME_RESP), (.evt m.origin m.words, mEVT), (.beat m, mBEAT)] ∧ d.msh.seen.contains (m.src.val, m.mseq.toNat) = true ∧ d1 = (d.relay m ty).hearsManager m) :=
  ⟨⟨{ dev := meshDev 0 }, meshDev 0, finds_at _ (by decide +kernel), by decide +kernel⟩,
   ⟨{ dev := { meshDev 1 with clock := 800000 } }, { meshDev 1 with clock := 800000 }, finds_at _ (by decide +kernel), by decide +kernel⟩,
   ⟨{ dev := { (meshDev 0).put fColumns 15 with clock := 800000 } }, { (meshDev 0).put fColumns 15 with clock := 800000 }, 15, finds_at _ (by decide +kernel), by decide +kernel⟩,
   ⟨{ dev := meshDev 0 }, meshDev 0, 3, 2, finds_at _ (by decide +kernel), by decide +kernel⟩,
   ⟨{ dev := { (meshDev 0).setPort 3 portDOWN with clock := 80000000, msh := { tried := #v[none, none, none, some 0] } } }, { (meshDev 0).setPort 3 portDOWN with clock := 80000000, msh := { tried := #v[none, none, none, some 0] } }, _, 3, finds_at _ (by decide +kernel), by and_intros <;> first | decide +kernel | rfl⟩,
   ⟨{ dev := { (meshDev 0).setPort 3 portTRAINING with clock := 80000000, msh := { tried := #v[none, none, none, some 0] } } }, { (meshDev 0).setPort 3 portTRAINING with clock := 80000000, msh := { tried := #v[none, none, none, some 0] } }, _, 3, finds_at _ (by decide +kernel), by and_intros <;> first | decide +kernel | rfl⟩,
   ⟨{ dev := (meshDev 0).setPort 3 portTRAINING }, (meshDev 0).setPort 3 portTRAINING, _, 3, 1, finds_at _ (by decide +kernel), by and_intros <;> first | decide +kernel | rfl⟩,
   ⟨{ dev := (meshDev 0).setPort 3 portTRAINING }, (meshDev 0).setPort 3 portTRAINING, _, 3, 0, finds_at _ (by decide +kernel), by and_intros <;> first | decide +kernel | rfl⟩,
   ⟨{ dev := (meshDev 0).setPort 3 portRETIRED }, (meshDev 0).setPort 3 portRETIRED, 3, 0x20000, finds_at _ (by decide +kernel), by decide +kernel⟩,
   ⟨{ dev := (meshDev 0).setPort 3 portUP }, (meshDev 0).setPort 3 portUP, 3, finds_at _ (by decide +kernel), by decide +kernel⟩,
   ⟨{ dev := (meshDev 0).setPort 3 portUP }, (meshDev 0).setPort 3 portUP, 3, 1, finds_at _ (by decide +kernel), by decide +kernel⟩,
   ⟨{ dev := (meshDev 0).setPort 3 portUP }, (meshDev 0).setPort 3 portUP, 3, blockOf 0x10000 196529 15400, finds_at _ (by decide +kernel), by decide +kernel⟩,
   ⟨{ dev := ({ upMesh 1 with msh := { seen := [(0, 0x3FFFF)] } } : Device) }, ({ upMesh 1 with msh := { seen := [(0, 0x3FFFF)] } } : Device), _, msgOf 1 0, .beat (msgOf 1 0), mBEAT, finds_at _ (by decide +kernel), by and_intros <;> first | decide +kernel | (simp; done) | rfl⟩⟩

theorem test_witness_EventCommandsTakeEffect :
    (∃ (s : State) (d : Device) (d1 : Device) (v : Word), s.finds d ∧ d.released 0 = true ∧ bitOf v.toNat 17 = true ∧ d1 = d.each ((List.range 64).filter (fun i => d.logValid i && !d.rst.logAt.any (fun x => x.1 == d.clock && fseqGe (d.logLseq i) (x.2 + 1)))) Device.dropLog) ∧
    (∃ (s : State) (d : Device) (k : Nat), s.finds d ∧ d.released 0 = true ∧ d.evt.serving = none ∧ d.ulp.takeover = false ∧ d.flag fHold = false ∧ d.topSource d.dueOnCores = some k) ∧
    (∃ (s : State) (d : Device) (k : Nat), s.finds d ∧ d.evt.serving = some k ∧ ({ d with evt := { d.evt with serving := none } } : Device).target k = 1) ∧
    (∃ (s : State) (d : Device) (v : Fin 64) (t : Nat), s.finds d ∧ d.evt.timers.find? (fun t => t.1 == v.val) = some (v.val, t) ∧ t ≤ d.clock ∧ ({ d with evt := { d.evt with timers := d.evt.timers.filter (fun x => x.1 != v.val) } } : Device).vectorPending v = true) ∧
    (∃ (s : State) (d : Device) (v : Word), s.finds d ∧ d.released 0 = true) ∧
    (∃ (s : State) (d : Device), s.finds d ∧ d.released 21 = true ∧ d.levelsShown = true ∧ d.evt.timers = []) ∧
    (∃ (s : State) (d : Device) (v : Fin 64), s.finds d ∧ d.released 21 = true ∧ d.evt.vecMask.getLsbD v = true) ∧
    (∃ (s : State) (d : Device), s.finds d ∧ d.released 21 = true) :=
  ⟨⟨{ dev := upDev }, upDev, _, 0x20000, finds_at _ (by decide +kernel), by and_intros <;> first | decide +kernel | rfl⟩,
   ⟨{ dev := (upDev.setReg (EVT_SRC 255) 0x1F000).putFlag (fPending 255) true }, (upDev.setReg (EVT_SRC 255) 0x1F000).putFlag (fPending 255) true, 255, finds_at _ (by decide +kernel), by decide +kernel⟩,
   ⟨{ dev := { (upDev.setReg (EVT_SRC 255) 0x1F000).putFlag (fPending 255) true with evt := { serving := some 255 } } }, { (upDev.setReg (EVT_SRC 255) 0x1F000).putFlag (fPending 255) true with evt := { serving := some 255 } }, 255, finds_at _ (by decide +kernel), by decide +kernel⟩,
   ⟨{ dev := { (upDev.setReg (EVT_SRC 255) 0x20FC0).putFlag (fPending 255) true with clock := 800, evt := { timers := [(63, 800)] } } }, { (upDev.setReg (EVT_SRC 255) 0x20FC0).putFlag (fPending 255) true with clock := 800, evt := { timers := [(63, 800)] } }, 63, 800, finds_at _ (by decide +kernel), by decide +kernel⟩,
   ⟨{ dev := upDev }, upDev, 0x20000, finds_at _ (by decide +kernel), by decide +kernel⟩,
   ⟨{ dev := upDev.settle }, upDev.settle, finds_at _ (by decide +kernel), by decide +kernel⟩,
   ⟨{ dev := upDev }, upDev, 63, finds_at _ (by decide +kernel), by decide +kernel⟩,
   ⟨{ dev := upDev }, upDev, finds_at _ (by decide +kernel), by decide +kernel⟩⟩

theorem test_witness_DoorbellRaisesItsSource :
    (∃ (s : State) (d : Device) (v : Word), s.finds d ∧ d.released 0 = true ∧ v.toNat < 256) ∧
    (∃ (s : State) (d : Device) (v : Word), s.finds d ∧ d.released 0 = true ∧ 256 ≤ v.toNat) :=
  ⟨⟨{ dev := upDev }, upDev, 255, finds_at _ (by decide +kernel), by decide +kernel⟩,
   ⟨{ dev := upDev }, upDev, 256, finds_at _ (by decide +kernel), by decide +kernel⟩⟩

theorem test_witness_PowerAndCountersTakeEffect :
    (∃ (s : State) (d : Device), s.finds d ∧ d.get fFState = fsENTERING ∧ d.pwr.undoing = false) ∧
    (∃ (s : State) (d : Device) (k : Fin 7), s.finds d ∧ d.get fFState ≠ fsRUN ∧ bitOf (d.putFlag (bitAt PWR_LATCH k) true).wakeEn k = true) ∧
    (∃ (s : State) (d : Device) (v : Word), s.finds d ∧ d.released 0 = true ∧ bitOf v.toNat 17 = true) ∧
    (∃ (s : State) (d : Device), s.finds d ∧ d.get fFState = fsTHAWING ∧ d.lanesTraining = false) ∧
    (∃ (s : State) (d : Device) (d1 : Device) (r : HwReading), s.finds d ∧ d1 = hwSampleCore r d ∧ d1.flag (bitAt SYS_HW_STATUS 13) = false) ∧
    (∃ (s : State) (d : Device), s.finds d ∧ d.unitUp 0 = true) ∧
    (∃ (s : State) (d : Device) (v : Word), s.finds d ∧ d.unitUp 0 = true ∧ bits v.toNat 16 2 = 0) ∧
    (∃ (s : State) (d : Device), s.finds d ∧ d.unitUp 0 = true ∧ d.levelsShown = true) :=
  ⟨⟨{ dev := upDev.put fFState fsENTERING }, upDev.put fFState fsENTERING, finds_at _ (by decide +kernel), by decide +kernel⟩,
   ⟨{ dev := (upDev.put fFState fsENTERING).setReg PWR_WAKE_EN 0x3FF }, (upDev.put fFState fsENTERING).setReg PWR_WAKE_EN 0x3FF, 6, finds_at _ (by decide +kernel), by decide +kernel⟩,
   ⟨{ dev := upDev }, upDev, 0x20000, finds_at _ (by decide +kernel), by decide +kernel⟩,
   ⟨{ dev := (upDev.setState 5).put fFState fsTHAWING }, (upDev.setState 5).put fFState fsTHAWING, finds_at _ (by decide +kernel), by decide +kernel⟩,
   ⟨{ dev := upDev }, upDev, _, { vin := 0, iin := 0, pin := 0, rails := 0, temps := Vector.replicate 14 0 }, finds_at _ (by decide +kernel), by and_intros <;> first | decide +kernel | rfl⟩,
   ⟨{ dev := upDev }, upDev, finds_at _ (by decide +kernel), by decide +kernel⟩,
   ⟨{ dev := upDev }, upDev, 0x8000, finds_at _ (by decide +kernel), by decide +kernel⟩,
   ⟨{ dev := upDev.settle }, upDev.settle, finds_at _ (by decide +kernel), by decide +kernel⟩⟩

theorem test_witness_MonitorReadsAndSessionComplete :
    (∃ (s : State) (d : Device) (d1 : Device), s.finds d ∧ d.coresRun = true ∧ d.ulp.takeover = false ∧ d1 = { d with pwr := { d.pwr with monAt := d.clock } }) ∧
    (∃ (s : State) (d : Device) (d1 : Device) (off : Nat) (n : Nat), s.finds d ∧ d.coresRun = true ∧ d.ulp.takeover = false ∧ d1 = { d with pwr := { d.pwr with monAt := d.clock } } ∧ off % 4 = 0 ∧ 1 ≤ n ∧ n ≤ 64 ∧ off + 4 * n ≤ 0x4000000) ∧
    (∃ (s : State) (d : Device) (d1 : Device) (b : Nat), s.finds d ∧ d.coresRun = true ∧ d.ulp.takeover = false ∧ d1 = { d with pwr := { d.pwr with monAt := d.clock } } ∧ b < 20) ∧
    (∃ (s : State) (d : Device) (d1 : Device) (rate : Nat) (c : Nat), s.finds d ∧ d.coresRun = true ∧ d.ulp.takeover = false ∧ d1 = { d with pwr := { d.pwr with monAt := d.clock } } ∧ baudCode rate = some c) ∧
    (∃ (s : State) (d : Device), s.finds d ∧ d.coresRun = true ∧ d.ulp.takeover = false) ∧
    (∃ (s : State) (d : Device), s.finds d ∧ d.coresRun = true ∧ d.ulp.takeover = false ∧ d.flag fL1Open = true) ∧
    (∃ (s : State) (d : Device), s.finds d ∧ d.coresRun = true ∧ d.ulp.takeover = false ∧ d.flag fL2Open = true ∧ d.strict = false) ∧
    (∃ (s : State) (d : Device), s.finds d ∧ d.coresRun = true ∧ d.ulp.takeover = false ∧ ((d.flag fL2Open = false ∨ d.strict = true))) ∧
    (∃ (s : State) (d : Device) (n : Nat), s.finds d ∧ d.coresRun = true ∧ d.ulp.takeover = false ∧ n ≤ 127) ∧
    (∃ (s : State) (d : Device) (n : Nat), s.finds d ∧ d.coresRun = true ∧ 100 ≤ n) ∧
    (∃ (s : State) (d : Device), s.finds d ∧ d.coresRun = true ∧ d.get fIdleMin ≠ 0 ∧ d.pwr.monAt + d.get fIdleMin * 48000000000 ≤ d.clock) :=
  ⟨⟨{ dev := upDev }, upDev, _, finds_at _ (by decide +kernel), by and_intros <;> first | decide +kernel | rfl⟩,
   ⟨{ dev := upDev }, upDev, _, 0x3FFFF00, 64, finds_at _ (by decide +kernel), by and_intros <;> first | decide +kernel | rfl⟩,
   ⟨{ dev := upDev }, upDev, _, 19, finds_at _ (by decide +kernel), by and_intros <;> first | decide +kernel | rfl⟩,
   ⟨{ dev := upDev }, upDev, _, 115200, 0, finds_at _ (by decide +kernel), by and_intros <;> first | decide +kernel | rfl⟩,
   ⟨{ dev := upDev }, upDev, finds_at _ (by decide +kernel), by decide +kernel⟩,
   ⟨{ dev := upDev.putFlag fL1Open true }, upDev.putFlag fL1Open true, finds_at _ (by decide +kernel), by decide +kernel⟩,
   ⟨{ dev := upDev.putFlag fL2Open true }, upDev.putFlag fL2Open true, finds_at _ (by decide +kernel), by decide +kernel⟩,
   ⟨{ dev := { upDev with rst := { strict := true } } }, { upDev with rst := { strict := true } }, finds_at _ (by decide +kernel), by decide +kernel⟩,
   ⟨{ dev := upDev }, upDev, 127, finds_at _ (by decide +kernel), by decide +kernel⟩,
   ⟨{ dev := upDev }, upDev, 100, finds_at _ (by decide +kernel), by decide +kernel⟩,
   ⟨{ dev := { upDev with clock := 600000000000 } }, { upDev with clock := 600000000000 }, finds_at _ (by decide +kernel), by decide +kernel⟩⟩

theorem test_witness_MonitorWritesComplete :
    (∃ (s : State) (d : Device) (d1 : Device) (off : Nat) (v : Nat), s.finds d ∧ d.coresRun = true ∧ d.ulp.takeover = false ∧ 1 ≤ d.get fMonLevel ∧ d1 = { d with pwr := { d.pwr with monAt := d.clock } } ∧ off % 4 = 0 ∧ off < 0x4000000 ∧ v < 4294967296) ∧
    (∃ (s : State) (d : Device) (d1 : Device) (k : Nat), s.finds d ∧ d.coresRun = true ∧ d.ulp.takeover = false ∧ 1 ≤ d.get fMonLevel ∧ d1 = { d with pwr := { d.pwr with monAt := d.clock } } ∧ k < 262144) ∧
    (∃ (s : State) (d : Device) (d1 : Device), s.finds d ∧ d.coresRun = true ∧ d.ulp.takeover = false ∧ 1 ≤ d.get fMonLevel ∧ d1 = { d with pwr := { d.pwr with monAt := d.clock } } ∧ d.get fFState ≠ fsRUN) ∧
    (∃ (s : State) (d : Device) (d1 : Device) (la : Nat) (n : Nat), s.finds d ∧ d.coresRun = true ∧ d.ulp.takeover = false ∧ 2 ≤ d.get fMonLevel ∧ d1 = { d with pwr := { d.pwr with monAt := d.clock } } ∧ (d.inReady || d.inHeld) = true ∧ 1 ≤ n ∧ n ≤ 16 ∧ la + n ≤ memLines ∧ d.memServes (64 * la) (64 * n) = true) ∧
    (∃ (s : State) (d : Device) (g : Nat) (w : Vector Nat 4) (i : Fin 4), s.finds d ∧ d.coresRun = true ∧ d.ulp.takeover = false ∧ 2 ≤ d.get fMonLevel ∧ d.inReady = true ∧ g < 16 * memLines ∧ w.toList.all (fun v => decide (v < 262144)) = true ∧ d.lineBad (g / 16) = false ∧ d.memServes (4 * g) 4 = true) ∧
    (∃ (s : State) (d : Device) (d1 : Device) (ol : OptionLoad), s.finds d ∧ d.coresRun = true ∧ d.ulp.takeover = false ∧ 2 ≤ d.get fMonLevel ∧ d1 = { d with pwr := { d.pwr with monAt := d.clock } } ∧ d1.softTaken = true) ∧
    (∃ (s : State) (d : Device) (d1 : Device) (k : Nat), s.finds d ∧ d.coresRun = true ∧ d.ulp.takeover = false ∧ 2 ≤ d.get fMonLevel ∧ d1 = { d with pwr := { d.pwr with monAt := d.clock } } ∧ k < 32) :=
  ⟨⟨{ dev := upDev.put fMonLevel 1 }, upDev.put fMonLevel 1, _, 0x3FFFFFC, 0xFFFFFFFF, finds_at _ (by decide +kernel), by and_intros <;> first | decide +kernel | rfl⟩,
   ⟨{ dev := upDev.put fMonLevel 1 }, upDev.put fMonLevel 1, _, 0x3FFFF, finds_at _ (by decide +kernel), by and_intros <;> first | decide +kernel | rfl⟩,
   ⟨{ dev := (upDev.put fMonLevel 1).put fFState 2 }, (upDev.put fMonLevel 1).put fFState 2, _, finds_at _ (by decide +kernel), by and_intros <;> first | decide +kernel | rfl⟩,
   ⟨{ dev := memDev.put fMonLevel 2 }, memDev.put fMonLevel 2, _, memLines - 16, 16, finds_at _ (by decide +kernel), by and_intros <;> first | decide +kernel | rfl⟩,
   ⟨{ dev := memDev.put fMonLevel 2 }, memDev.put fMonLevel 2, 16 * memLines - 1, #v[0, 1, 2, 0x3FFFF], 3, finds_at _ (by decide +kernel), by decide +kernel⟩,
   ⟨{ dev := upDev.put fMonLevel 2 }, upDev.put fMonLevel 2, _, goodLoad, finds_at _ (by decide +kernel), by and_intros <;> first | decide +kernel | rfl⟩,
   ⟨{ dev := upDev.put fMonLevel 2 }, upDev.put fMonLevel 2, _, 31, finds_at _ (by decide +kernel), by and_intros <;> first | decide +kernel | rfl⟩⟩

theorem test_witness_ErrorsAreClassifiedByCountAndWindow :
    (∃ (d : Device) (code : Nat) (unit : Nat) (cause : Nat) (data : Nat), d.isPermanent code unit = true) ∧
    (∃ (d : Device) (code : Nat) (unit : Nat) (cause : Nat) (data : Nat), d.isPermanent code unit = false ∧ (d.released 13 && (d.domain code unit).times.head? == some d.clock) = true) ∧
    (∃ (d : Device) (code : Nat) (unit : Nat) (cause : Nat) (data : Nat), d.isPermanent code unit = false ∧ (d.released 13 && (d.domain code unit).times.head? == some d.clock) = false) :=
  ⟨⟨{ upDev with domains := [{ code := 8, unit := 71, permanent := true }] }, 8, 71, 0, 0, by decide +kernel⟩,
   ⟨{ upDev with domains := [{ code := 8, unit := 71, times := [0] }] }, 8, 71, 0, 0, by decide +kernel⟩,
   ⟨upDev, 8, 71, 0, 0, by decide +kernel⟩⟩

theorem test_witness_PlainWritesTakeTheirFields :
    ∃ (s : State) (d : Device) (off : BitVec 26) (v : Dword) (l : RegLoc), s.finds d ∧ d.released 21 = true ∧ off.toNat < 0x1600000 ∧ d.regUp off.toNat = true ∧ locate off.toNat = some l ∧ actionWrite l (v.toNat % 262144) = none ∧ l.row.hold = false ∧ l.row.guard ≠ .ready ∧ off.toNat / 0x100000 ≠ 2 ∧ off.toNat / 0x100000 ≠ 21 ∧ shadowTable l.row.base = none ∧ l.masks.rws = 0 ∧ clearedWith l.row.base = [] ∧ d.takesWrite l.row.base l.elem [fieldWrite l.masks (d.reg off.toNat) (d.justSet off.toNat) (v.toNat % 262144)] = true ∧ ([RIL_BT 0, SYS_MON_CFG, POS_CH_SCALE 0, POS_CH_OFFSET 0, FLS_TEMP_WARN, FLS_TEMP_LIMIT, MOT_CFG, MOT_LAX_CTRL 0, MOT_LAX_CUR 0, MSH_CFG, DMA_CH_PC 0].contains l.row.base) = false :=
  ⟨{ dev := upDev }, upDev, BitVec.ofNat 26 MOT_SETTLE, 0xFFFFFFFF, (locate MOT_SETTLE).getD { row := { base := 0, dws := [] }, elem := 0, dw := 0 }, finds_at _ (by decide +kernel), by decide +kernel⟩

theorem test_witness_DramLineWritesAreExact :
    ∃ (s : State) (d : Device) (q : Requester) (la : BitVec 31) (ws : Vector Word 64), s.finds d ∧ q ≠ .zeroFill ∧ d.mem.held = [] ∧ d.chanServes (chanOf la.toNat) = true ∧ d.lineFilled la.toNat = true ∧ d.get (fChState (chanOf la.toNat)) = chNORMAL ∧ d.mem.recovering = [] :=
  ⟨{ dev := memDev }, memDev, .spool, 0x7FFFFFFF, Vector.replicate 64 0x3FFFF, finds_at _ (by decide +kernel), by decide +kernel⟩

theorem test_witness_SnapshotCopiesEveryCounter :
    (∃ (s : State) (d : Device) (v : Word), s.finds d ∧ d.unitUp 0 = true ∧ d.levelsShown = true ∧ d.pmcNow.cleared = none ∧ bitOf v.toNat 16 = false ∧ bitOf v.toNat 15 = false) ∧
    (∃ (s : State) (d : Device) (v : Word), s.finds d ∧ d.unitUp 0 = true ∧ d.levelsShown = true ∧ d.pmcNow.cleared = none ∧ bitOf v.toNat 17 = true ∧ bitOf v.toNat 15 = false) :=
  ⟨⟨{ dev := upDev.settle }, upDev.settle, 0x20000, finds_at _ (by decide +kernel), by decide +kernel⟩,
   ⟨{ dev := upDev.settle }, upDev.settle, 0x20000, finds_at _ (by decide +kernel), by decide +kernel⟩⟩

theorem test_witness_RegisterCommandsLeaveMemoryAndJob :
    ∃ (s : State) (t : State) (c : Instr) (ch : Fin 6) (k : Fin 4) (p : Fin 2) (g : Fin 8) (q : Fin 4) (v : Word) (i : Nat) (b : Bool) (e : Bool), c ∈ [Instr.indexLatch { ch := ch, level := b, samples := i }, .headLosClear ch, .probeLatch p { level := b, samples := i }, .timeCompareArm k v, .positionCompareArm k v, .timeCompareFire k, .strobeFall, .beamPermitRise, .spareLoadDone g, .cisternScrub [], .refresh q, .mr4Read q b, .selfRefreshEntry q, .memLogClear v, .dmaFlagSet v, .sqTail q v, .cqHead q v, .pmcSnap v, .pmcClear v, .pmcFreeze v, .psbClear v, .monHelp, .monId, .monState, .monLog, .monEvt, .monCtr i, .monBaud i, .monLock, .monUnlock i, .takeoverComplete, .evtDoorbell v, .errlogClear v, .smbusIdentify b, .linkChange p b e, .coreDelivery] ∧ exec c s = .next t :=
  ⟨{ dev := upDev }, nextOf (exec (.evtDoorbell 255) { dev := upDev }), .evtDoorbell 255, 0, 0, 0, 0, 0, 255, 0, false, false, by and_intros <;> first | decide +kernel | (simp; done) | exact rfl⟩

theorem test_witness_IndexEdgeLatchesTheCount :
    ∃ (s : State) (d : Device) (d1 : Device) (d2 : Device) (d3 : Device) (c : Fin 6) (n : Nat), s.finds d ∧ d.released 13 = true ∧ (d.head c).z = false ∧ 3 ≤ n ∧ d1 = (d.setHead c { d.head c with z := true }).put (fChLevels c) (b2n (d.head c).a * 4 + b2n (d.head c).b * 2 + 1) ∧ d2 = (d1.put36 (POS_CH_INDEX c) (d1.get36 (POS_CH_COUNT c))).putFlag (fIndexValid c) true ∧ d3 = { d2 with pos := { d2.pos with indexAt := (c.val, d2.clock) :: d2.pos.indexAt.filter (fun p => p.1 != c.val) } } :=
  ⟨{ dev := regsAt upDev [(POS_CH_CTRL 5, 0x10000), (POS_CH_COUNT 5, 0x3FFFF), (POS_CH_COUNT 5 + 4, 0x20001)] }, regsAt upDev [(POS_CH_CTRL 5, 0x10000), (POS_CH_COUNT 5, 0x3FFFF), (POS_CH_COUNT 5 + 4, 0x20001)], _, _, _, 5, 3, finds_at _ (by decide +kernel), by and_intros <;> first | decide +kernel | rfl⟩

theorem test_witness_FrostIsAcceptedOnlyInReady :
    (∃ (s : State) (d : Device) (tag : Byte) (f : Flight), s.finds d ∧ d.begins tag.toNat 0x003 = some f ∧ d.inReady = false) ∧
    (∃ (s : State) (d : Device) (tag : Byte) (f : Flight), s.finds d ∧ d.begins tag.toNat 0x003 = some f ∧ d.inReady = true ∧ d.runs = true ∧ d.frostHeldOff = false) :=
  ⟨⟨{ dev := withCmd (wrDev 3) 0x003 [] }, withCmd (wrDev 3) 0x003 [], 255, cmd 0x003 [], finds_at _ (by decide +kernel), by decide +kernel⟩,
   ⟨{ dev := withCmd upDev 0x003 [] }, withCmd upDev 0x003 [], 255, cmd 0x003 [], finds_at _ (by decide +kernel), by decide +kernel⟩⟩

theorem test_witness_MonitorCommandsNeedTheirLevel :
    (∃ (s : State) (d d1 : Device), s.finds d ∧ d.coresRun = true ∧ d1 = { d with pwr := { d.pwr with monAt := d.clock } } ∧
      d.ulp.takeover = false ∧ d.get fMonLevel < 1) ∧
    (∃ (s : State) (d d1 : Device), s.finds d ∧ d.coresRun = true ∧ d1 = { d with pwr := { d.pwr with monAt := d.clock } } ∧
      d.ulp.takeover = false ∧ d.get fMonLevel < 2 ∧ 1 ≤ d.get fMonLevel) ∧
    (∃ (s : State) (d d1 : Device), s.finds d ∧ d.coresRun = true ∧ d1 = { d with pwr := { d.pwr with monAt := d.clock } } ∧ d.ulp.takeover = true) :=
  ⟨⟨{ dev := upDev }, upDev, _, finds_at _ (by decide +kernel), by decide +kernel, rfl, by decide +kernel, by decide +kernel⟩,
   ⟨{ dev := upDev.put fMonLevel 1 }, upDev.put fMonLevel 1, _, finds_at _ (by decide +kernel), by decide +kernel, rfl, by decide +kernel,
    by decide +kernel, by decide +kernel⟩,
   ⟨{ dev := { upDev with ulp := { takeover := true } } }, { upDev with ulp := { takeover := true } }, _, finds_at _ (by decide +kernel),
    by decide +kernel, rfl, by decide +kernel⟩⟩

theorem test_witness_CommandsOutsideTheirStateAreBusy :
    (∃ (s : State) (d : Device) (tag : Byte) (f : Flight), s.finds d ∧ d.begins tag.toNat 0x802 = some f ∧ d.readyOk = false) ∧
    (∃ (s : State) (d : Device) (tag : Byte) (f : Flight), s.finds d ∧ d.begins tag.toNat 0x701 = some f ∧ d.runOk = false) ∧
    (∃ (s : State) (d : Device) (tag : Byte) (f : Flight), s.finds d ∧ d.begins tag.toNat 0x303 = some f ∧ d.inHeld = false) ∧
    (∃ (s : State) (d : Device) (tag : Byte) (f : Flight), s.finds d ∧ d.begins tag.toNat 0x302 = some f ∧ d.inJob = false) ∧
    (∃ (s : State) (d : Device) (tag : Byte) (f : Flight), s.finds d ∧ d.begins tag.toNat 0x101 = some f ∧ d.inWriting = false) :=
  ⟨⟨{ dev := withCmd (upDev.setState 3) 0x802 [1] }, _, 255, cmd 0x802 [1], finds_at _ (by decide +kernel), by decide +kernel, by decide +kernel⟩,
   ⟨{ dev := withCmd (upDev.setState 1) 0x701 [1] }, _, 255, cmd 0x701 [1], finds_at _ (by decide +kernel), by decide +kernel, by decide +kernel⟩,
   ⟨{ dev := withCmd upDev 0x303 [] }, _, 255, cmd 0x303 [], finds_at _ (by decide +kernel), by decide +kernel, by decide +kernel⟩,
   ⟨{ dev := withCmd upDev 0x302 [0] }, _, 255, cmd 0x302 [0], finds_at _ (by decide +kernel), by decide +kernel, by decide +kernel⟩,
   ⟨{ dev := withCmd upDev 0x101 [] }, _, 255, cmd 0x101 [], finds_at _ (by decide +kernel), by decide +kernel, by decide +kernel⟩⟩

/-- Every register of that statement answers while all islands run. -/
theorem test_witness_ActionRegistersAreTheirCommands :
    upDev.powered = true ∧ ([EVT_DOORBELL, SYS_ERRLOG_STATUS, EVT_CTRL, FLS_COMMIT, MOT_COMMIT, MOT_LAYER, POOL_COMMIT, RIL_COMMIT, RIL_STUCK_ACK,
      DMA_FLAG_SET, PTP_CFG, PWR_CTRL, MEM_LOG_STATUS, ULP_SQ_TAIL 3, POS_TCMP_CTRL 3, ETH_P_CTRL 1, RIL_GRP_FORCE 7].all upDev.regUp) = true := by
  decide +kernel

end Sys2Proof.Tests
end

section
/-! PROOFS: the accesses of BAR0 over PCIe and the accesses of SMBus (00_scope.md). -/
namespace Sys2Proof.Machine

/-! ## Accesses over PCIe: what a command finds -/

/-- An effect under a guard that holds is the effect. -/
theorem run_guarded {s : State} {d : Device} (h : s.finds d) {g : Device → Bool} (hg : g d = true) (f : Device → Device) :
    s.run (fun d => if g d then f d else d) = s.run f := by
  rw [run_finds h, run_finds h, if_pos hg]

/-- With the PCIe island released an access has its effect on the module (R439). -/
theorem run_overPcie {s : State} {d : Device} (h : s.finds d) (hp : d.released 21 = true) (f : Device → Device) :
    s.run (fun d => d.overPcie f) = s.run f := run_guarded h (g := fun d => d.released 21) hp f

/-- While the PCIe island is in reset no access reaches the module (R442). -/
theorem run_overPcie_down {s : State} {d : Device} (h : s.finds d) (hp : d.released 21 = false) (f : Device → Device) :
    s.run (fun d => d.overPcie f) = .next (s.gives d) := by
  rw [run_finds h, Device.overPcie, hp]
  rfl

/-! ### The commands that are accesses, each as the run of its effect -/

theorem exec_registerWrite (off : BitVec 26) (v : Dword) (s : State) :
    exec (.registerWrite off v) s = s.run (fun d => d.overPcie (fun d => d.busWrite .host off.toNat v.toNat)) := rfl

theorem exec_wideReadCapture (off : BitVec 26) (s : State) :
    exec (.wideReadCapture off) s =
      s.run (fun d => d.overPcie (fun d => (d.busRead off.toNat).2.emit (.readData (d.busRead off.toNat).1))) := rfl

theorem exec_readClear (off : BitVec 26) (s : State) :
    exec (.readClear off) s =
      s.run (fun d => d.overPcie (fun d => (d.busRead off.toNat).2.emit (.readData (d.busRead off.toNat).1))) := rfl

theorem exec_unmappedAccess (w : Bool) (off : BitVec 26) (s : State) :
    exec (.unmappedAccess w off) s = s.run (fun d => d.overPcie (unmappedEffect w off.toNat)) := rfl

theorem exec_bar0AccessError (w : Bool) (off : BitVec 26) (size : Nat) (s : State) :
    exec (.bar0AccessError w off size) s = s.run (fun d => d.overPcie (accessErrorEffect w off.toNat size)) := rfl

theorem exec_smbusRead (off : Dword) (pecOk : Bool) (s : State) :
    exec (.smbusRead off pecOk) s = s.run (smbusReadEffect off.toNat pecOk) := rfl

theorem exec_smbusIdentify (pecOk : Bool) (s : State) :
    exec (.smbusIdentify pecOk) s = s.run (smbusIdentifyEffect pecOk) := rfl

/-! ## Accesses that reach no register (R8, R9) -/

variable {d : Device}

theorem strayWrite_up (h : d.unitUp 0 = true) : d.strayWrite = d.raise 0 := if_pos h

theorem unmappedEffect_of_le {off : Nat} (w : Bool) (h : mapEnd ≤ off) :
    unmappedEffect w off d = if w then d.strayWrite else d.emit (.readData 0) := by
  simp [unmappedEffect, Nat.not_lt.2 h]

theorem accessErrorEffect_of_odd {off size : Nat} (w : Bool) (h : size ≠ 4 ∨ off % 4 ≠ 0) :
    accessErrorEffect w off size d = if w then d.strayWrite else d.emit (.readData 0) := by
  have hc : (size == 4 && off % 4 == 0) = false := by
    rcases h with h | h <;> simp [h]
  rw [accessErrorEffect, hc]
  rfl

/-- Settles O11: an access either reaches no register, and reads 0 or is a stray write, or does not reach the module. -/
theorem unmappedAndMisalignedAccesses : Obligations.UnmappedAndMisalignedAccesses := by
  refine ⟨?_, ?_, ?_, ?_, ?_⟩
  · intro s d off h hp ho
    rw [exec_unmappedAccess, run_overPcie h hp, run_finds h, unmappedEffect_of_le _ ho]
    rfl
  · intro s d off h hp ho hu
    rw [exec_unmappedAccess, run_overPcie h hp, run_finds h, unmappedEffect_of_le _ ho, if_pos rfl, strayWrite_up hu]
  · intro s d off size h hp ho
    rw [exec_bar0AccessError, run_overPcie h hp, run_finds h, accessErrorEffect_of_odd _ ho]
    rfl
  · intro s d off size h hp ho hu
    rw [exec_bar0AccessError, run_overPcie h hp, run_finds h, accessErrorEffect_of_odd _ ho, if_pos rfl, strayWrite_up hu]
  · intro s d w off size v h hp
    rw [exec_unmappedAccess, exec_bar0AccessError, exec_registerWrite, exec_wideReadCapture, exec_readClear]
    exact ⟨run_overPcie_down h hp _, run_overPcie_down h hp _, run_overPcie_down h hp _, run_overPcie_down h hp _,
      run_overPcie_down h hp _⟩

/-! ## The write of a located register, by its rule (R11) -/

/-- What a write of a register does is read off its base, its element and its dword alone. -/
def RegLoc.bare (base elem dw : Nat) : RegLoc := { row := { base := base, dws := [] }, elem := elem, dw := dw }

theorem actionWrite_bare (l : RegLoc) (v : Nat) : actionWrite l v = actionWrite (.bare l.row.base l.elem l.dw) v := rfl

theorem actionWrite_beamTable {l : RegLoc} (v : Nat) (h : l.row.base = RIL_BT 0) : actionWrite l v = none := by
  rw [actionWrite_bare, h]
  rfl

theorem actionWrite_tempWarn {l : RegLoc} (v : Nat) (h : l.row.base = FLS_TEMP_WARN) : actionWrite l v = none := by
  rw [actionWrite_bare, h]
  rfl

/-- The map lists no offset at or above its end (R9). -/
theorem lt_mapEnd_of_locate {off : Nat} {l : RegLoc} (h : locate off = some l) : off < mapEnd := by
  by_contra hge
  have hb : ∃ k, off / 0x100000 = k + 22 := ⟨off / 0x100000 - 22, by unfold mapEnd at hge; omega⟩
  obtain ⟨k, hk⟩ := hb
  have hrows : blockRows off = [] := by
    unfold blockRows
    rw [hk]
    rfl
  simp [locate, hrows] at h

section busWrite
variable {src : WriteFrom} {off v : Nat} {l : RegLoc}

theorem busWrite_down (ho : off < mapEnd) (hu : d.regUp off = false) : d.busWrite src off v = d := by
  simp [Device.busWrite, Nat.not_le.2 ho, hu]

theorem busWrite_unlisted (hu : d.regUp off = true) (hl : locate off = none) : d.busWrite src off v = d.strayWrite := by
  simp [Device.busWrite, hu, hl]

theorem busWrite_action {f : Device → Device} (hu : d.regUp off = true) (hl : locate off = some l)
    (ha : actionWrite l (v % wordMod) = some f) : d.busWrite src off v = f d := by
  simp [Device.busWrite, Nat.not_le.2 (lt_mapEnd_of_locate hl), hu, hl, ha]

theorem busWrite_beamTable (hu : d.regUp off = true) (hl : locate off = some l) (hb : l.row.base = RIL_BT 0) :
    d.busWrite src off v = d.beamWindow off (v % wordMod) := by
  simp [Device.busWrite, Nat.not_le.2 (lt_mapEnd_of_locate hl), hu, hl, actionWrite_beamTable _ hb, hb]

theorem busWrite_tempWarn (hu : d.regUp off = true) (hl : locate off = some l) (hb : l.row.base = FLS_TEMP_WARN) :
    d.busWrite src off v = (d.plainWrite src off (v % wordMod)).pendingResume := by
  have hne : FLS_TEMP_WARN ≠ RIL_BT 0 := by decide
  simp [Device.busWrite, Nat.not_le.2 (lt_mapEnd_of_locate hl), hu, hl, actionWrite_tempWarn _ hb, hb, hne, Device.when]

theorem busWrite_plain (hu : d.regUp off = true) (hl : locate off = some l) (ha : actionWrite l (v % wordMod) = none)
    (hb : l.row.base ≠ RIL_BT 0) (hw : l.row.base ≠ FLS_TEMP_WARN) :
    d.busWrite src off v = d.plainWrite src off (v % wordMod) := by
  simp [Device.busWrite, Nat.not_le.2 (lt_mapEnd_of_locate hl), hu, hl, ha, hb, hw, Device.when]

end busWrite

theorem busRead_down {off : Nat} (h : d.regUp off = false) : d.busRead off = (0, d) := by
  simp [Device.busRead, h]

/-- The SMBus reads BAR0 in the SYS and RST blocks alone (R560). -/
theorem smbusReadEffect_ok (off : Nat) :
    smbusReadEffect off true d =
      if off < 0x200000 then (d.busRead off).2.emit (.smbus (leBytes 4 (d.busRead off).1)) else d.emit (.smbus [0, 0, 0, 0]) := rfl

/-- With the PCIe island released a write over PCIe is the write of the bus. -/
theorem registerWrite_finds {s : State} (h : s.finds d) (hp : d.released 21 = true) (off : BitVec 26) (v : Dword) :
    exec (.registerWrite off v) s = .next (s.gives (d.busWrite .host off.toNat v.toNat)) := by
  rw [exec_registerWrite, run_overPcie h hp, run_finds h]

/-- Settles O12: each access is the bus read or the bus write of its register's rule. -/
theorem registerAccessesComplete : Obligations.RegisterAccessesComplete := by
  refine ⟨?_, ?_, ?_, ?_, ?_, ?_, ?_, ?_, ?_, ?_, ?_⟩
  · intro s d off h hp
    rw [exec_wideReadCapture, exec_readClear, run_overPcie h hp, run_finds h]
    exact ⟨rfl, rfl⟩
  · exact fun d off hu => busRead_down hu
  · intro s d off v l h hp _ hu hl ha hb hw
    rw [registerWrite_finds h hp, busWrite_plain hu hl ha hb hw]
    rfl
  · intro s d off v l h hp _ hu hl hb
    rw [registerWrite_finds h hp, busWrite_beamTable hu hl hb]
    rfl
  · intro s d off v l h hp _ hu hl hb
    rw [registerWrite_finds h hp, busWrite_tempWarn hu hl hb]
    rfl
  · intro s d off v l f h hp _ hu hl ha
    rw [registerWrite_finds h hp, busWrite_action hu hl ha]
  · intro s d off v h hp hu hl
    rw [registerWrite_finds h hp, busWrite_unlisted hu hl]
  · intro s d off v h hp ho hu
    rw [registerWrite_finds h hp, busWrite_down ho hu]
  · intro s d off h ho
    rw [exec_smbusRead, run_finds h, smbusReadEffect_ok, if_pos ho]
  · intro s d off h ho
    rw [exec_smbusRead, run_finds h, smbusReadEffect_ok, if_neg (Nat.not_lt.2 ho)]
  · intro s d h
    rw [exec_smbusIdentify, run_finds h]
    rfl

end Sys2Proof.Machine
end

section
/-! PROOFS: the registers of 00_scope.md with an action, as the commands of the table. -/
namespace Sys2Proof.Machine

/-! ## The registers with an action -/

/-- The base, the element and the dword of an offset, where the map lists it. -/
def placeOf (off : Nat) : Option (Nat × Nat × Nat) := (locate off).map (fun l => (l.row.base, l.elem, l.dw))

/-- The island of a register runs where the register answers (R442). -/
theorem unitUp_of_regUp {d : Device} {off k : Nat} (hi : islandOf off = some k) (hu : d.regUp off = true) : d.unitUp k = true := by
  rw [Device.regUp, hi] at hu
  exact hu

theorem released_of_unitUp {d : Device} {k : Nat} (h : d.unitUp k = true) : d.released k = true :=
  (Bool.and_eq_true_iff.1 h).1

/-- What a command finds in a powered module answers as the module does. -/
theorem finds_of_powered {s : State} (hpow : s.dev.powered = true) :
    ∃ d, s.finds d ∧ (∀ k, d.released k = s.dev.released k) ∧ ∀ off, d.regUp off = s.dev.regUp off :=
  ⟨_, ⟨hpow, rfl⟩, fun _ => rfl, fun _ => rfl⟩

section action
variable {s : State} {d : Device} (h : s.finds d) (hp : d.released 21 = true) {off b e k : Nat} {v : Dword} (f : Device → Device)
include h hp

/-- A write of a register with an action runs that action. -/
theorem registerWrite_action (hu : d.regUp off = true) (hplace : placeOf off = some (b, e, k))
    (ha : actionWrite (.bare b e k) (v.setWidth 18).toNat = some f) :
    exec (.registerWrite (BitVec.ofNat 26 off) v) s = s.run f := by
  obtain ⟨l, hl, hb⟩ := Option.map_eq_some_iff.1 hplace
  simp only [Prod.mk.injEq] at hb
  obtain ⟨rfl, rfl, rfl⟩ := hb
  have ho : (BitVec.ofNat 26 off).toNat = off := by
    have hlt := lt_mapEnd_of_locate hl
    unfold mapEnd at hlt
    exact Nat.mod_eq_of_lt (by omega)
  have ha' : actionWrite l (v.toNat % wordMod) = some f := by
    rw [actionWrite_bare, ← ha, BitVec.toNat_setWidth]
    rfl
  rw [registerWrite_finds h hp, run_finds h, ho, busWrite_action hu hl ha']

end action

/-! ### Where the registers with one element per queue, compare, port or group lie -/

theorem placeOf_sqTail : ∀ q : Fin 4, placeOf (ULP_SQ_TAIL q) = some (ULP_SQ_TAIL 0, q.val, 0) := by decide +kernel
theorem placeOf_cqHead : ∀ q : Fin 4, placeOf (ULP_CQ_HEAD q) = some (ULP_CQ_HEAD 0, q.val, 0) := by decide +kernel
theorem placeOf_timeCompare : ∀ k : Fin 4, placeOf (POS_TCMP_CTRL k) = some (POS_TCMP_CTRL 0, k.val, 0) := by decide +kernel
theorem placeOf_positionCompare : ∀ k : Fin 4, placeOf (POS_PCMP_CTRL k) = some (POS_PCMP_CTRL 0, k.val, 0) := by decide +kernel
theorem placeOf_portCtrl : ∀ p : Fin 2, placeOf (ETH_P_CTRL p) = some (ETH_P_CTRL 0, p.val, 0) := by decide +kernel
theorem placeOf_grpForce : ∀ g : Fin 8, placeOf (RIL_GRP_FORCE g) = some (RIL_GRP_FORCE 0, g.val, 0) := by decide +kernel

theorem islandOf_grpForce : ∀ g : Fin 8, islandOf (RIL_GRP_FORCE g) = some (5 + g.val) := by decide +kernel
theorem islandOf_cqHead : ∀ q : Fin 4, islandOf (ULP_CQ_HEAD q) = islandOf (ULP_SQ_TAIL q) := by decide +kernel
theorem islandOf_positionCompare : ∀ k : Fin 4, islandOf (POS_PCMP_CTRL k) = islandOf (POS_TCMP_CTRL k) := by decide +kernel

/-- Registers of one island answer together (R442). -/
theorem regUp_congr {d : Device} {off off' : Nat} (hi : islandOf off' = islandOf off) (hu : d.regUp off = true) : d.regUp off' = true := by
  rw [Device.regUp, hi]
  exact hu

/-- Settles O53: the action of each register is the effect of its command, and the unit that the command asks for runs where the
register answers. -/
theorem actionRegistersAreTheirCommands : Obligations.ActionRegistersAreTheirCommands := by
  intro s v hpow hp
  obtain ⟨d, h, hrel, hreg⟩ := finds_of_powered hpow
  rw [← hrel] at hp
  simp only [← hreg]
  have unit {off k : Nat} (hi : islandOf off = some k) (hu : d.regUp off = true) : d.unitUp k = true := unitUp_of_regUp hi hu
  refine ⟨?doorbell, ?errlog, ?hold, ?flsCommit, ?sine, ?layer, ?pool, ?rill, ?stuck, ?flag, ?ptp, ?thaw, ?memLog, ?queues, ?compares,
    ?ports, ?groups⟩
  case doorbell => exact fun hu => registerWrite_action h hp (writeDoorbell _) hu (by decide +kernel : _ = some (EVT_DOORBELL, 0, 0)) rfl
  case errlog => exact fun hu => registerWrite_action h hp (writeErrlogClear _) hu (by decide +kernel : _ = some (SYS_ERRLOG_STATUS, 0, 0)) rfl
  case hold => exact fun hu => registerWrite_action h hp (writeEvtCtrl _) hu (by decide +kernel : _ = some (EVT_CTRL, 0, 0)) rfl
  case sine => exact fun hu => registerWrite_action h hp (writeSineCommit _) hu (by decide +kernel : _ = some (MOT_COMMIT, 0, 0)) rfl
  case layer => exact fun hu => registerWrite_action h hp (writeMotLayer _) hu (by decide +kernel : _ = some (MOT_LAYER, 0, 0)) rfl
  case flag => exact fun hu => registerWrite_action h hp (writeDmaFlagSet _) hu (by decide +kernel : _ = some (DMA_FLAG_SET, 0, 0)) rfl
  case ptp => exact fun hu => registerWrite_action h hp (writePtpCfg _) hu (by decide +kernel : _ = some (PTP_CFG, 0, 0)) rfl
  case thaw => exact fun hu => registerWrite_action h hp (writeThaw _) hu (by decide +kernel : _ = some (PWR_CTRL, 0, 0)) rfl
  case memLog =>
    intro hu
    rw [registerWrite_action h hp (writeMemLogStatus _) hu (by decide +kernel : _ = some (MEM_LOG_STATUS, 0, 0)) rfl]
    exact (run_guarded h (g := fun d => d.regUp MEM_LOG_STATUS) (hu) _).symm
  case flsCommit =>
    intro hu
    have hi : islandOf FLS_COMMIT = some 13 := by decide +kernel
    rw [registerWrite_action h hp (writeFlsCommit _) hu (by decide +kernel : _ = some (FLS_COMMIT, 0, 0)) rfl]
    exact (run_guarded h (g := fun d => d.released 13) (released_of_unitUp (unit hi hu)) _).symm
  case pool =>
    intro hu
    have hi : islandOf POOL_COMMIT = some 3 := by decide +kernel
    rw [registerWrite_action h hp (writePoolCommit _) hu (by decide +kernel : _ = some (POOL_COMMIT, 0, 0)) rfl]
    exact (run_guarded h (g := fun d => d.unitUp 3) (unit hi hu) _).symm
  case rill =>
    intro hu
    have hi : islandOf RIL_COMMIT = some 5 := by decide +kernel
    rw [registerWrite_action h hp (writeRilCommit _) hu (by decide +kernel : _ = some (RIL_COMMIT, 0, 0)) rfl]
    exact (run_guarded h (g := fun d => d.unitUp 5) (unit hi hu) _).symm
  case stuck =>
    intro hu
    have hi : islandOf RIL_STUCK_ACK = some 5 := by decide +kernel
    rw [registerWrite_action h hp (writeStuckAck _) hu (by decide +kernel : _ = some (RIL_STUCK_ACK, 0, 0)) rfl]
    exact (run_guarded h (g := fun d => d.unitUp 5) (unit hi hu) _).symm
  case queues =>
    exact fun q hu => ⟨registerWrite_action h hp (writeSqTail q _) hu (placeOf_sqTail q) rfl,
      registerWrite_action h hp (writeCqHead q _) (regUp_congr (islandOf_cqHead q) hu) (placeOf_cqHead q) rfl⟩
  case compares =>
    exact fun k hu => ⟨registerWrite_action h hp (writeTimeCompare k _) hu (placeOf_timeCompare k) rfl,
      registerWrite_action h hp (writePositionCompare k _) (regUp_congr (islandOf_positionCompare k) hu) (placeOf_positionCompare k) rfl⟩
  case ports => exact fun p hu => registerWrite_action h hp (writePortCtrl p _) hu (placeOf_portCtrl p) rfl
  case groups =>
    intro g hu
    rw [registerWrite_action h hp (writeRilForce g _) hu (placeOf_grpForce g) rfl]
    exact (run_guarded h (g := fun d => d.unitUp (5 + g.val)) (unit (islandOf_grpForce g) hu) _).symm

end Sys2Proof.Machine
end

section
/-! PROOFS: the write of a plain register, and what `Device.kept` names. -/
namespace Sys2Proof.Machine

/-! ## What an effect leaves: memory, the job, the fuse slots, the packets in flight and the fault clock -/

/-- The state beside the registers that a command of a single register leaves. -/
structure Kept where
  dram : List (Nat × Word)
  laidOut : List (Nat × Nat × Nat)
  hostMem : List Host.Cell
  job : Option Job
  slots : Vector FuseSlot 21
  flights : List Flight
  clock : Nat

def Device.kept (d : Device) : Kept := ⟨d.dram, d.laidOut, d.hostMem, d.job, d.rst.slots, d.ulp.flights, d.clock⟩

variable (d : Device)

theorem kept_of_raisesOnly {d d' : Device} (h : d.raisesOnly d') : d'.kept = d.kept := (congrArg Device.kept h.1).trans rfl

theorem kept_settle : d.settle.kept = d.kept := (kept_of_raisesOnly (settle_raisesOnly d)).trans rfl

/-! ## The write of a plain register (R11) -/

/-- `d'` has the registers of `d`, and what `kept` names. -/
def Device.sameStore (d d' : Device) : Prop := d'.regs = d.regs ∧ d'.kept = d.kept

theorem sameStore_trans {a b c : Device} (h1 : a.sameStore b) (h2 : b.sameStore c) : a.sameStore c :=
  ⟨h2.1.trans h1.1, h2.2.trans h1.2⟩

theorem reg_of_sameStore {d d' : Device} (h : d.sameStore d') (off : Nat) : d'.reg off = d.reg off := by
  rw [Device.reg, h.1]
  rfl

theorem sameStore_noteSetting (off old : Nat) : d.sameStore (d.noteSetting off old) := by
  unfold Device.noteSetting
  split <;> exact ⟨rfl, rfl⟩

/-- The registers whose new value changes other registers or a unit's state at once. -/
def actingRegs : List Nat :=
  [RIL_BT 0, SYS_MON_CFG, POS_CH_SCALE 0, POS_CH_OFFSET 0, FLS_TEMP_WARN, FLS_TEMP_LIMIT, MOT_CFG, MOT_LAX_CTRL 0, MOT_LAX_CUR 0, MSH_CFG,
    DMA_CH_PC 0]

/-- What follows the write of any other register is a note of the write beside the registers. -/
theorem sameStore_afterWrite (d0 : Device) {base : Nat} (elem : Nat) (hb : actingRegs.contains base = false) (hc : base ≠ POOL_CLASS 0) :
    d.sameStore (Device.afterWrite d0 d base elem) := by
  simp only [actingRegs, List.contains_cons, List.contains_nil, Bool.or_false, Bool.or_eq_false_iff, beq_eq_false_iff_ne] at hb
  obtain ⟨-, -, hscale, hoffset, hwarn, hlimit, hmot, hctrl, hcur, hmsh, hpc⟩ := hb
  simp only [Device.afterWrite, hscale, hoffset, hwarn, hlimit, hmot, hctrl, hcur, hmsh, hpc, hc, decide_false, Bool.or_false,
    Bool.false_eq_true, if_false]
  split_ifs <;> exact ⟨rfl, rfl⟩

/-- Storing a dword without RWS bits sets its register. -/
theorem sameStore_storeDwords {m : Dw} (hm : m.rws = 0) (off v : Nat) :
    (d.setReg off (fieldWrite m (d.reg off) (d.justSet off) v)).sameStore (d.storeDwords off [m] [v]) := by
  simp only [Device.storeDwords, hm, Nat.and_zero, bne_self_eq_false, Device.when, Bool.false_eq_true, if_false]
  split
  · exact sameStore_noteSetting _ _ _
  · exact ⟨rfl, rfl⟩

theorem ne_poolClass_of_noShadow {base : Nat} (hs : shadowTable base = none) : base ≠ POOL_CLASS 0 := by
  rintro rfl
  simp [shadowTable] at hs

/-- Over PCIe a register that is no shadow takes its dword under its own masks. -/
theorem writeMasks_host {base : Nat} (m : Dw) (hs : shadowTable base = none) : d.writeMasks .host base m = m := by
  simp [Device.writeMasks, ne_poolClass_of_noShadow hs]

/-- A taken write of one dword that is not held, is no shadow and clears nothing beside it stores the dword. -/
theorem plainWrite_dword {off v : Nat} {l : RegLoc} (hl : locate off = some l) (hhold : l.row.hold = false) (hg : l.row.guard ≠ .ready)
    (hs : shadowTable l.row.base = none) (hc : clearedWith l.row.base = [])
    (ht : d.takesWrite l.row.base l.elem [fieldWrite l.masks (d.reg off) (d.justSet off) v] = true) :
    d.plainWrite .host off v = Device.afterWrite d (d.storeDwords off [l.masks] [v]) l.row.base l.elem := by
  simp [Device.plainWrite, hl, hhold, hg, hs, hc, writeMasks_host d l.masks hs, ht]

/-- Settles O51: the write is the plain write of the register's dword, and what follows it, settling included, reaches no other
quiet register. -/
theorem plainWritesTakeTheirFields : Obligations.PlainWritesTakeTheirFields := by
  intro s d off v l h hp _ hu hl ha hhold hg hevt hpmc hs hrws hc ht hb
  have hb' : actingRegs.contains l.row.base = false := hb
  have hbt : l.row.base ≠ RIL_BT 0 := by intro e; simp [actingRegs, e] at hb'
  have hw : l.row.base ≠ FLS_TEMP_WARN := by intro e; simp [actingRegs, e] at hb'
  have hstore : (d.setReg off.toNat (fieldWrite l.masks (d.reg off.toNat) (d.justSet off.toNat) (v.toNat % wordMod))).sameStore
      (d.busWrite .host off.toNat v.toNat) := by
    rw [busWrite_plain hu hl ha hbt hw, plainWrite_dword d (v := v.toNat % wordMod) hl hhold hg hs hc ht]
    exact sameStore_trans (sameStore_storeDwords d hrws _ _) (sameStore_afterWrite _ d _ hb' (ne_poolClass_of_noShadow hs))
  refine ⟨_, registerWrite_finds h hp off v, ?_, ?_, ?_⟩
  · rw [gives_dev, settle_reg _ ⟨hevt, hpmc⟩, reg_of_sameStore hstore, reg_setReg_same]
    rfl
  · intro o h2 h21 hne
    rw [gives_dev, settle_reg _ ⟨h2, h21⟩, reg_of_sameStore hstore, reg_setReg_ne _ _ hne]
  · have hk : (s.gives (d.busWrite .host off.toNat v.toNat)).dev.kept = d.kept := (kept_settle _).trans hstore.2
    exact ⟨congrArg Kept.dram hk, congrArg Kept.laidOut hk, congrArg Kept.hostMem hk, congrArg Kept.job hk⟩

end Sys2Proof.Machine
end

section
/-! PROOFS: the frame of the commands of single registers. -/
namespace Sys2Proof.Machine

/-! ## The shared operations leave what `kept` names -/

variable (d : Device)

theorem kept_setReg (off v : Nat) : (d.setReg off v).kept = d.kept := rfl
theorem kept_put (f : Fld) (v : Nat) : (d.put f v).kept = d.kept := rfl
theorem kept_putFlag (f : Fld) (b : Bool) : (d.putFlag f b).kept = d.kept := rfl
theorem kept_put36 (off v : Nat) : (d.put36 off v).kept = d.kept := rfl
theorem kept_bump (f : Fld) : (d.bump f).kept = d.kept := rfl
theorem kept_bumpBy (f : Fld) (n : Nat) : (d.bumpBy f n).kept = d.kept := rfl
theorem kept_emit (o : Out) : (d.emit o).kept = d.kept := rfl
theorem kept_nextFree : d.nextFree.kept = d.kept := rfl
theorem kept_mapPtp (f : PtpState → PtpState) : (d.mapPtp f).kept = d.kept := rfl
theorem kept_mapNeighbours (f : List Neighbour → List Neighbour) : (d.mapNeighbours f).kept = d.kept := rfl
theorem kept_setHead (c : Nat) (h : Head) : (d.setHead c h).kept = d.kept := rfl
theorem kept_journal (item : JItem) (value : List Nat) : (d.journal item value).kept = d.kept := rfl

/-! A change of the state that a unit has beside its registers leaves it too. -/

theorem kept_withEvt (x : EvtState) : ({ d with evt := x } : Device).kept = d.kept := rfl
theorem kept_withPos (x : PosState) : ({ d with pos := x } : Device).kept = d.kept := rfl
theorem kept_withPwr (x : PwrState) : ({ d with pwr := x } : Device).kept = d.kept := rfl
theorem kept_withLne (x : LneState) : ({ d with lne := x } : Device).kept = d.kept := rfl
theorem kept_withSpr (x : SprState) : ({ d with spr := x } : Device).kept = d.kept := rfl
theorem kept_withEth (x : EthState) : ({ d with eth := x } : Device).kept = d.kept := rfl
theorem kept_withFls (x : FlsState) : ({ d with fls := x } : Device).kept = d.kept := rfl
theorem kept_withMem (x : MemState) : ({ d with mem := x } : Device).kept = d.kept := rfl
theorem kept_withCst (x : CstState) : ({ d with cst := x } : Device).kept = d.kept := rfl
theorem kept_withRil (x : RilState) : ({ d with ril := x } : Device).kept = d.kept := rfl
theorem kept_withPmc (x : PmcState) : ({ d with pmc := x } : Device).kept = d.kept := rfl

/-- Of the packet unit the packets in flight are kept. -/
theorem kept_withUlp {x : UlpState} (hx : x.flights = d.ulp.flights) : ({ d with ulp := x } : Device).kept = d.kept := by
  unfold Device.kept
  rw [hx]

theorem kept_raise {s : Nat} (hs : s < 256) : (d.raise s).kept = d.kept := kept_of_raisesOnly (raisesOnly_raise d s hs)

theorem kept_itemOut {b : Nat} (hb : b < 20) : (d.itemOut b).kept = d.kept := kept_of_raisesOnly (raisesOnly_count d b 4 1 hb)

theorem kept_itemIn {b : Nat} (hb : b < 20) : (d.itemIn b).kept = d.kept := kept_of_raisesOnly (raisesOnly_count d b 3 1 hb)

theorem kept_when {c : Bool} {f : Device → Device} (hf : ∀ d, (f d).kept = d.kept) : (d.when c f).kept = d.kept := by
  unfold Device.when
  split
  · exact hf d
  · rfl

theorem kept_each {α : Type} {f : Device → α → Device} {l : List α} (hf : ∀ d a, (f d a).kept = d.kept) :
    (d.each l f).kept = d.kept :=
  each_keeps (fun d' => d'.kept = d.kept) f (fun d' a h => (hf d' a).trans h) l d rfl

theorem kept_setRegs (off : Nat) (vs : List Nat) : (d.setRegs off vs).kept = d.kept := by
  induction vs generalizing d off with
  | nil => rfl
  | cons v vs ih => exact ih (d.setReg off v) (off + 4)

/-! ### Wake latches (R531, R533) -/

theorem kept_showSpares : d.showSpares.kept = d.kept := by
  unfold Device.showSpares
  rw [kept_putFlag]
  exact kept_each d (fun d g => by rw [kept_putFlag, kept_putFlag])

theorem kept_trainLane (n : Nat) : (d.trainLane n).kept = d.kept := by
  unfold Device.trainLane Device.setLaneSt
  rw [kept_showSpares, kept_put, kept_withLne]

theorem kept_undoCommit : d.undoCommit.kept = d.kept := by
  unfold Device.undoCommit Device.setState
  rw [kept_put, kept_setReg, kept_withPwr]

theorem kept_selfRefreshAll (b : Bool) : (d.selfRefreshAll b).kept = d.kept :=
  kept_each d (fun d c => kept_putFlag d (bitAt (MEM_CH_STATE c) 4) b)

theorem kept_wakeBy (causes : Nat) : (d.wakeBy causes).kept = d.kept := by
  unfold Device.wakeBy
  extract_lets fs
  split
  · rw [kept_each _ (fun d n => kept_when d (fun d => kept_trainLane d n)), kept_withPwr, kept_selfRefreshAll, kept_put, kept_setReg,
      kept_when d kept_undoCommit]
  split
  · rw [kept_setReg]
  · rfl

theorem kept_latchWake (src : Nat) : (d.latchWake src).kept = d.kept := by
  have hl : (d.when (decide (src < 7)) (fun d => d.putFlag (bitAt PWR_LATCH src) true)).kept = d.kept :=
    kept_when d (fun d => kept_putFlag d _ _)
  unfold Device.latchWake
  extract_lets d'
  split
  · rw [kept_wakeBy]
    exact hl
  · exact hl

theorem kept_wakeEffect (src width : Nat) : (wakeEffect src width d).kept = d.kept := by
  unfold wakeEffect
  extract_lets taken d'
  have hd : d'.kept = d.kept := by
    unfold d'
    split
    · rw [kept_nextFree]
    · rfl
  split
  · exact hd
  split
  · rw [kept_withPwr, hd]
  · rw [kept_latchWake, hd]

/-! ### The counters (R539) -/

theorem kept_snapshot : d.snapshot.kept = d.kept := by
  unfold Device.snapshot
  rw [kept_withPmc, kept_put36]
  exact kept_each d (fun d x => kept_put36 d _ _)

theorem kept_clearCounts : d.clearCounts.kept = d.kept := by
  unfold Device.clearCounts
  rw [kept_withPmc]
  exact kept_each d (fun d x => kept_put36 d _ _)

theorem kept_freeze : d.freeze.kept = d.kept := by
  unfold Device.freeze
  exact kept_each d (fun d x => kept_put36 d _ _)

/-! ### Frames, fetches and the choice of a master (R375, R382, R392) -/

theorem kept_sendEth (p dst type : Nat) (body : List Nat) : (d.sendEth p dst type body).kept = d.kept := by
  unfold Device.sendEth
  rw [kept_itemOut _ (by omega), kept_emit]

theorem kept_sendIp (p mac : Nat) (v6 : Bool) (dst proto : Nat) (hop : Option Nat) (data : List Nat) :
    (d.sendIp p mac v6 dst proto hop data).kept = d.kept := by
  unfold Device.sendIp
  rw [kept_sendEth, kept_nextFree]

theorem kept_sendAsk (p : Nat) (v6 : Bool) (addr : Nat) : (d.sendAsk p v6 addr).kept = d.kept := by
  unfold Device.sendAsk Device.sendIcmp Device.sendArp
  split
  · rw [kept_sendIp]
  · rw [kept_sendEth]

theorem kept_resolve (p : Nat) (v6 : Bool) (addr : Nat) : (d.resolve p v6 addr).kept = d.kept := by
  unfold Device.resolve
  split
  · rfl
  · rw [kept_mapNeighbours, kept_sendAsk]

theorem kept_sendUdp (p mac : Nat) (v6 : Bool) (dst sport dport : Nat) (bare : Bool) (data : List Nat) :
    (d.sendUdp p mac v6 dst sport dport bare data).kept = d.kept := by
  unfold Device.sendUdp
  rw [kept_sendIp]

theorem kept_sendNdf (port srv : Nat) (bytes : List Nat) : (d.sendNdf port srv bytes).kept = d.kept := by
  unfold Device.sendNdf
  extract_lets v6 addr dport
  split
  · split
    · rw [kept_sendUdp]
      exact kept_resolve d _ _ _
    · rw [kept_mapNeighbours]
      exact kept_resolve d _ _ _
  · rfl

theorem kept_setFetches (l : List NdfFetch) : (d.setFetches l).kept = d.kept := by
  unfold Device.setFetches Device.showBufs
  rw [kept_put, kept_withEth]

theorem kept_request (f : NdfFetch) : (d.request f).kept = d.kept := by
  unfold Device.request Device.sendReq Device.putFetch Device.abandon Device.dropFetch
  split
  · rw [kept_sendNdf, kept_bump, kept_setFetches]
  · rw [kept_raise _ (by omega), kept_bump, kept_setFetches, kept_withSpr]

theorem kept_setPtpState (st : Nat) : (d.setPtpState st).kept = d.kept := by
  unfold Device.setPtpState
  rw [kept_put, kept_when d (fun d => kept_setReg d _ _)]

theorem kept_chooseMaster : d.chooseMaster.kept = d.kept := by
  unfold Device.chooseMaster
  split
  · rw [kept_mapPtp]
  · extract_lets same d' id d''
    have hd : d'.kept = d.kept := kept_mapPtp d _
    split
    · exact hd
    · rw [kept_raise _ (by omega), kept_setPtpState, kept_mapPtp, kept_put, kept_setRegs, hd]

theorem kept_ptpLinkLost (p : Nat) : (d.ptpLinkLost p).kept = d.kept := by
  unfold Device.ptpLinkLost
  extract_lets lost d'
  split
  · rw [kept_chooseMaster, kept_mapPtp]
  · rw [kept_mapPtp]

theorem kept_setLink {p : Nat} (hp : p < 2) (up : Bool) : (d.setLink p up).kept = d.kept := by
  have hr : ((d.putFlag (fLink p) up).raise (244 + p)).kept = d.kept := by rw [kept_raise _ (by omega), kept_putFlag]
  unfold Device.setLink Device.moveFetches
  split
  · rfl
  split
  · exact hr
  · rw [kept_ptpLinkLost, kept_each _ kept_request, kept_mapNeighbours, hr]

/-! ### The monitor (R536) -/

theorem kept_answer (r : Except Nat (List MonLine)) : (d.answer r).kept = d.kept := by
  cases r <;> rfl

theorem kept_monDo {lines : Device → List MonLine} {f : Device → Device} (hf : ∀ d, (f d).kept = d.kept) :
    (monDo lines f d).2.kept = d.kept := hf d

/-- A monitor command that shows lines alone. -/
theorem kept_monShow (lines : Device → List MonLine) : ∀ d : Device, (monDo lines (fun d => d) d).2.kept = d.kept := fun _ => rfl

theorem kept_monIf {ok : Device → Bool} {code : Nat} {act : MonAct} (ha : ∀ d, (act d).2.kept = d.kept) :
    (monIf ok code act d).2.kept = d.kept := by
  unfold monIf
  split
  · exact ha d
  · rfl

/-- A monitor command keeps what its action keeps. -/
theorem kept_monitor {level : Nat} {act : MonAct} (ha : ∀ d, (act d).2.kept = d.kept) : (d.monitor level act).kept = d.kept := by
  unfold Device.monitor
  split
  · rfl
  dsimp only
  split
  · exact kept_answer _ _
  split
  · exact kept_answer _ _
  · exact (kept_answer _ _).trans (ha _)

/-! ## The effects of the commands -/

theorem kept_indexLatch (c : Nat) (level : Bool) (n : Nat) : (indexLatchEffect c level n d).kept = d.kept := by
  unfold indexLatchEffect
  extract_lets h h'
  split
  · rfl
  split
  · rw [kept_put, kept_setHead]
  · rw [kept_when _ (fun d => kept_raise d (by omega)), kept_withPos, kept_putFlag, kept_put36, kept_put, kept_setHead]

theorem kept_headLosClear (c : Nat) : (headLosClearEffect c d).kept = d.kept := by
  unfold headLosClearEffect Device.setLos
  split
  · rfl
  · rw [kept_putFlag, kept_putFlag]

theorem kept_wakeLatch (i : Nat) : (d.wakeLatch i).kept = d.kept := kept_when d (fun d => kept_latchWake d i)

theorem kept_latchPos (p : Nat) : (d.latchPos p).kept = d.kept := kept_each d (fun d _ => kept_put36 d _ _)

theorem kept_probeLatch {p : Nat} (hp : p < 2) (level : Bool) (n : Nat) : (probeLatchEffect p level n d).kept = d.kept := by
  have hw (x : PosState) : (({ d with pos := x } : Device).wakeLatch (1 + p)).kept = d.kept := by
    rw [kept_wakeLatch, kept_withPos]
  unfold probeLatchEffect
  extract_lets old rising
  split
  · rfl
  · split
    · exact hw _
    split
    · exact (kept_putFlag _ _ _).trans (hw _)
    · rw [kept_raise _ (by omega), kept_putFlag, kept_withPos]
      exact (kept_latchPos _ p).trans ((kept_put36 _ _ _).trans (hw _))

theorem kept_armWrite (ctrl keep : Nat) (behind : Device → Bool) (v : Nat) : (armWrite ctrl keep behind v d).kept = d.kept := by
  unfold armWrite
  split
  · rfl
  extract_lets old flags d'
  have hd : d'.kept = d.kept := kept_setReg d _ _
  split
  · exact hd
  split
  · rw [kept_raise _ (by omega), kept_putFlag, hd]
  · rw [kept_putFlag, hd]

theorem kept_writeTimeCompare (k v : Nat) : (writeTimeCompare k v d).kept = d.kept := kept_armWrite d _ _ _ v

theorem kept_writePositionCompare (k v : Nat) : (writePositionCompare k v d).kept = d.kept := by
  unfold writePositionCompare
  rw [kept_when _ (fun d => kept_withPos d _), kept_armWrite]

theorem kept_timeCompareFire (k : Nat) : (timeCompareFireEffect k d).kept = d.kept := by
  unfold timeCompareFireEffect
  split
  · rw [kept_when _ (fun d => kept_wakeEffect d 7 0), kept_raise _ (by omega), kept_itemIn _ (by omega), kept_putFlag, kept_putFlag]
  · rfl

theorem kept_strobeFall : (strobeFallEffect d).kept = d.kept := by
  unfold strobeFallEffect
  split
  · split
    · rfl
    · rw [kept_withFls]
  · rfl

theorem kept_beamPermitRise : (beamPermitRiseEffect d).kept = d.kept := by
  unfold beamPermitRiseEffect
  extract_lets fls d'
  have hd : d'.kept = d.kept := kept_withFls d _
  split
  · rw [kept_raise _ (by omega), kept_putFlag, hd]
  · exact hd

theorem kept_spareLoadDone (g : Nat) : (spareLoadDoneEffect g d).kept = d.kept := by
  unfold spareLoadDoneEffect
  split
  · rfl
  · rw [kept_withRil]

/-- A scrub that meets no cell error moves its pointer alone. -/
theorem kept_cisternScrub : (cisternScrubEffect [] d).kept = d.kept := by
  unfold cisternScrubEffect
  split
  · rfl
  · exact kept_withCst d _

theorem kept_refresh (c : Nat) : (refreshEffect c d).kept = d.kept := by
  unfold refreshEffect
  split
  · rfl
  · rw [kept_withMem]

theorem kept_mr4 (c : Nat) (hot : Bool) : (mr4Effect c hot d).kept = d.kept := by
  unfold mr4Effect
  split
  · rfl
  · rw [kept_when _ (fun d => kept_raise d (by omega)), kept_putFlag]

theorem kept_selfRefresh (c : Nat) : (selfRefreshEffect c d).kept = d.kept := by
  unfold selfRefreshEffect
  extract_lets idle
  split
  · rw [kept_withMem, kept_putFlag]
  · rfl

theorem kept_writeMemLogStatus (v : Nat) : (writeMemLogStatus v d).kept = d.kept := by
  unfold writeMemLogStatus
  split
  · rw [kept_setReg, kept_each d (fun d i => kept_setRegs d _ _)]
  · rfl

theorem kept_memLogClear (v : Nat) : (if d.regUp MEM_LOG_STATUS then writeMemLogStatus v d else d).kept = d.kept := by
  split
  · rw [kept_writeMemLogStatus]
  · rfl

theorem kept_writeDmaFlagSet (v : Nat) : (writeDmaFlagSet v d).kept = d.kept := by
  unfold writeDmaFlagSet
  split
  · rw [kept_setReg]
  · rfl

theorem kept_writeSqTail (q v : Nat) : (writeSqTail q v d).kept = d.kept := by
  unfold writeSqTail
  extract_lets tail
  split
  · rfl
  split
  · rw [kept_raise _ (by omega)]
  · exact (kept_withUlp _ rfl).trans (kept_setReg d _ _)

theorem kept_writeCqHead (q v : Nat) : (writeCqHead q v d).kept = d.kept := by
  unfold writeCqHead
  extract_lets head
  split
  · rfl
  · rw [kept_setReg]

theorem kept_writePmcCtrl (v : Nat) : (writePmcCtrl v d).kept = d.kept := by
  unfold writePmcCtrl
  split
  · rfl
  · rw [kept_putFlag, kept_when _ kept_freeze, kept_when _ kept_clearCounts, kept_when _ kept_snapshot]

theorem kept_writePsbCtrl (v : Nat) : (writePsbCtrl v d).kept = d.kept := by
  unfold writePsbCtrl
  split
  · rfl
  extract_lets d'
  have hd : d'.kept = d.kept := kept_put d _ _
  split
  · rw [kept_setReg, kept_setReg, kept_putFlag, hd]
  · exact hd

theorem kept_monCtrAct (b : Nat) : (monCtrAct b d).2.kept = d.kept := kept_monIf d kept_snapshot

theorem kept_monBaudAct (rate : Nat) : (monBaudAct rate d).2.kept = d.kept := by
  unfold monBaudAct
  split
  · exact kept_put d _ _
  · rfl

theorem kept_monLockAct : (monDo (fun _ => []) Device.monLock d).2.kept = d.kept := kept_monDo d (fun d => kept_put d fMonLevel 0)

theorem kept_monUnlockAct (l : Nat) : (monUnlockAct l d).2.kept = d.kept :=
  kept_monIf d (fun d => kept_monIf d (fun d => kept_monDo d (fun d => kept_put d fMonLevel l)))

theorem kept_writeDoorbell (v : Nat) : (writeDoorbell v d).kept = d.kept := by
  unfold writeDoorbell
  split
  · rfl
  split
  · rw [kept_raise _ ‹v < 256›]
  · rw [kept_raise _ (by omega)]

theorem kept_dropLog (i : Nat) : (d.dropLog i).kept = d.kept := by
  unfold Device.dropLog
  rw [kept_setRegs, kept_when _ (fun d => kept_journal d _ _)]

theorem kept_writeErrlogClear (v : Nat) : (writeErrlogClear v d).kept = d.kept := by
  unfold writeErrlogClear
  split
  · rw [kept_put, kept_each d kept_dropLog]
  · rfl

theorem kept_smbusIdentify (pecOk : Bool) : (smbusIdentifyEffect pecOk d).kept = d.kept := by
  unfold smbusIdentifyEffect
  split
  · rw [kept_emit]
  · rw [kept_emit]

theorem kept_linkChange {p : Nat} (hp : p < 2) (up los : Bool) : (linkChangeEffect p up los d).kept = d.kept := by
  unfold linkChangeEffect Device.fecCounts
  split
  · rfl
  · rw [kept_setLink _ hp, kept_putFlag, kept_bumpBy, kept_bumpBy, kept_nextFree]

theorem kept_coreDelivery : (coreDeliveryEffect d).kept = d.kept := by
  unfold coreDeliveryEffect
  split
  · rfl
  split
  · rfl
  · rw [kept_itemOut _ (by omega), kept_emit, kept_withEvt]

theorem kept_takeoverComplete : ({ d with ulp := { d.ulp with takeover := false } } : Device).kept = d.kept := kept_withUlp d rfl

/-! ## The frame of a command -/

/-- The command is the run of an effect that leaves what `kept` names. -/
def Keeps (c : Instr) : Prop := ∃ f : Device → Device, (∀ d, (f d).kept = d.kept) ∧ ∀ s, exec c s = s.run f

/-- Such a command leaves it in every state, and the queue; in OFF it leaves all but the outputs. -/
theorem frame_of_keeps {c : Instr} (hc : Keeps c) {s t : State} (h : exec c s = .next t) :
    t.dev.kept = s.dev.kept ∧ t.pending = s.pending := by
  obtain ⟨f, hf, hrun⟩ := hc
  rw [hrun] at h
  cases hpow : s.dev.powered
  · rw [run_off hpow] at h
    cases h
    exact ⟨rfl, rfl⟩
  · rw [run_finds ⟨hpow, rfl⟩] at h
    cases h
    exact ⟨(kept_settle _).trans (hf _), rfl⟩

/-- Settles O58: each of these commands is the run of an effect that keeps what the frame names. -/
theorem registerCommandsLeaveMemoryAndJob : Obligations.RegisterCommandsLeaveMemoryAndJob := by
  intro s t c ch k p g q v i b e hc ht
  have keeps : Keeps c := by
    clear ht
    revert c
    simp only [List.forall_mem_cons, List.not_mem_nil, false_implies, implies_true, and_true]
    exact ⟨⟨_, fun d => kept_indexLatch d ch b i, fun _ => rfl⟩,
      ⟨_, fun d => kept_headLosClear d ch, fun _ => rfl⟩,
      ⟨_, fun d => kept_probeLatch d p.isLt b i, fun _ => rfl⟩,
      ⟨_, fun d => kept_writeTimeCompare d k v.toNat, fun _ => rfl⟩,
      ⟨_, fun d => kept_writePositionCompare d k v.toNat, fun _ => rfl⟩,
      ⟨_, fun d => kept_timeCompareFire d k, fun _ => rfl⟩,
      ⟨_, kept_strobeFall, fun _ => rfl⟩,
      ⟨_, kept_beamPermitRise, fun _ => rfl⟩,
      ⟨_, fun d => kept_spareLoadDone d g, fun _ => rfl⟩,
      ⟨_, kept_cisternScrub, fun _ => rfl⟩,
      ⟨_, fun d => kept_refresh d q, fun _ => rfl⟩,
      ⟨_, fun d => kept_mr4 d q b, fun _ => rfl⟩,
      ⟨_, fun d => kept_selfRefresh d q, fun _ => rfl⟩,
      ⟨_, fun d => kept_memLogClear d v.toNat, fun _ => rfl⟩,
      ⟨_, fun d => kept_writeDmaFlagSet d v.toNat, fun _ => rfl⟩,
      ⟨_, fun d => kept_writeSqTail d q v.toNat, fun _ => rfl⟩,
      ⟨_, fun d => kept_writeCqHead d q v.toNat, fun _ => rfl⟩,
      ⟨_, fun d => kept_writePmcCtrl d (v.toNat ||| 0x20000), fun _ => rfl⟩,
      ⟨_, fun d => kept_writePmcCtrl d (v.toNat ||| 0x10000), fun _ => rfl⟩,
      ⟨_, fun d => kept_writePmcCtrl d v.toNat, fun _ => rfl⟩,
      ⟨_, fun d => kept_writePsbCtrl d (v.toNat ||| 0x200), fun _ => rfl⟩,
      ⟨_, fun d => kept_monitor d (act := monHelpAct) (kept_monShow _), fun _ => rfl⟩,
      ⟨_, fun d => kept_monitor d (act := monIdAct) (kept_monShow _), fun _ => rfl⟩,
      ⟨_, fun d => kept_monitor d (act := monStateAct) (kept_monShow _), fun _ => rfl⟩,
      ⟨_, fun d => kept_monitor d (act := monLogAct) (kept_monShow _), fun _ => rfl⟩,
      ⟨_, fun d => kept_monitor d (act := monEvtAct) (kept_monShow _), fun _ => rfl⟩,
      ⟨_, fun d => kept_monitor d (fun d => kept_monCtrAct d i), fun _ => rfl⟩,
      ⟨_, fun d => kept_monitor d (fun d => kept_monBaudAct d i), fun _ => rfl⟩,
      ⟨_, fun d => kept_monitor d kept_monLockAct, fun _ => rfl⟩,
      ⟨_, fun d => kept_monitor d (fun d => kept_monUnlockAct d i), fun _ => rfl⟩,
      ⟨_, kept_takeoverComplete, fun _ => rfl⟩,
      ⟨_, fun d => kept_writeDoorbell d v.toNat, fun _ => rfl⟩,
      ⟨_, fun d => kept_writeErrlogClear d v.toNat, fun _ => rfl⟩,
      ⟨_, fun d => kept_smbusIdentify d b, fun _ => rfl⟩,
      ⟨_, fun d => kept_linkChange d p.isLt b e, fun _ => rfl⟩,
      ⟨_, kept_coreDelivery, fun _ => rfl⟩⟩
  obtain ⟨hk, hq⟩ := frame_of_keeps keeps ht
  exact ⟨congrArg Kept.dram hk, congrArg Kept.laidOut hk, congrArg Kept.hostMem hk, congrArg Kept.job hk, congrArg Kept.slots hk,
    congrArg Kept.flights hk, congrArg Kept.clock hk, hq⟩

end Sys2Proof.Machine
end

section
/-! PROOFS: what every command answers, the state after reset, and the command FROST (01_writing_model.md). -/
namespace Sys2Proof.Machine

/-! ## What every command answers -/

/-- Settles O4: POWER_GOOD answers a next state by its own rule, and every other command as the run of an effect. -/
theorem everyCommandAnswersAndKeepsTheQueue : Obligations.EveryCommandAnswersAndKeepsTheQueue := by
  intro c s
  by_cases hc : ∃ p, c = .powerGood p
  · obtain ⟨p, rfl⟩ := hc
    exact ⟨_, exec_powerGood p s, rfl⟩
  · obtain ⟨f, hrun⟩ := exec_runs c (not_exists.1 hc)
    rw [hrun]
    exact run_next s f

/-- Settles O5: such a command is the run of an effect, and in OFF no effect is run. -/
theorem offIgnoresEveryCommandButPowerGood : Obligations.OffIgnoresEveryCommandButPowerGood := by
  intro c s hoff hc
  obtain ⟨f, hrun⟩ := exec_runs c hc
  rw [hrun, run_off hoff]

/-! ## The state after reset (R440) -/

/-- After reset every register reads the reset value that the map gives it. -/
theorem reg_reset (off : Nat) : State.reset.dev.reg off = regReset off % wordMod := BitVec.toNat_ofNat _ _

/-- Settles O3: the fields of the module and the queue by definition, the registers by the map's reset values. -/
theorem resetStateIsAsStated : Obligations.ResetStateIsAsStated := by
  have registers : State.reset.dev.st = 1 ∧ State.reset.dev.get fBootPhase = 1 ∧ State.reset.dev.reg RST_CAUSE = 0x20000 ∧
      State.reset.dev.reg SYS_DEVICE_ID = 0x04618 ∧ State.reset.dev.reg SYS_SILICON_REL = 0x000A2 ∧
      State.reset.dev.reg SYS_FLT_CFG = 0x30A00 ∧ State.reset.dev.reg SYS_MON_CFG = 0x20A00 ∧
      State.reset.dev.reg (EVT_SRC 11) = 0x20 ∧ State.reset.dev.reg (EVT_SRC 0) = 0 := by
    simp only [Device.st, Device.get, reg_reset]
    decide +kernel
  obtain ⟨st, phase, cause, device, silicon, flt, mon, level, edge⟩ := registers
  exact ⟨rfl, rfl, rfl, rfl, rfl, st, phase, cause, device, silicon, flt, mon, level, edge, rfl⟩

/-! ## A packet command, by the step of R476 that it reaches -/

section command
variable {d : Device} {tag op : Nat} {f : Flight} (hb : d.begins tag op = some f) (act : Device → Flight → Device)
include hb

/-- A command outside its states completes BUSY_JOB (step 5). -/
theorem command_notAccepted (masks : List Nat) : d.command tag op false masks act = d.complete f sBUSY_JOB 0 [] := by
  simp [Device.command, hb]

/-- A command in its states, with no bit of a parameter outside its mask, follows its own rule. -/
theorem command_accepted {masks : List Nat} (hm : f.badParam masks = none) : d.command tag op true masks act = act d f := by
  simp [Device.command, hb, hm]

end command

theorem badParam_nil (f : Flight) : f.badParam [] = none := rfl

/-! ## FROST (R31, R527) -/

theorem exec_frost (tag : Byte) (s : State) :
    exec (.frost tag) s = s.run (fun d => d.command tag.toNat 0x003 d.readyOk [] frost) := rfl

theorem readyOk_of_not_inReady {d : Device} (h : d.inReady = false) : d.readyOk = false := by
  rw [Device.readyOk, h, Bool.false_and]

theorem readyOk_of_inReady_runs {d : Device} (hr : d.inReady = true) (hf : d.runs = true) : d.readyOk = true :=
  Bool.and_eq_true_iff.2 ⟨hr, hf⟩

/-- FROST that nothing holds off begins the entry to Frost. -/
theorem frost_of_not_heldOff {d : Device} (f : Flight) (h : d.frostHeldOff = false) : frost d f = (d.await f .frost).frostEntry := by
  simp [frost, h]

/-- Settles O60: outside READY the command stops at its state, and in READY it follows its own rule. -/
theorem frostIsAcceptedOnlyInReady : Obligations.FrostIsAcceptedOnlyInReady := by
  refine ⟨?otherState, ?ready⟩
  case otherState =>
    intro s d tag f h hb hr
    rw [exec_frost, run_finds h, readyOk_of_not_inReady hr, command_notAccepted hb]
  case ready =>
    intro s d tag f h hb hr hf hfree
    rw [exec_frost, run_finds h, readyOk_of_inReady_runs hr hf, command_accepted hb _ (badParam_nil f), frost_of_not_heldOff f hfree]

end Sys2Proof.Machine
end

section
/-! PROOFS: the compression engines and the spill banks (02_layout_streams.md). -/
namespace Sys2Proof.Machine

/-! ## The commands of the engines and the spill banks, each as the run of its effect -/

theorem exec_compressBlock (e : Fin 2) (srcErr : Bool) (s : State) :
    exec (.compressBlock e srcErr) s = s.run (compressBlockEffect e srcErr) := rfl

theorem exec_engineContinue (e : Fin 2) (s : State) : exec (.engineContinue e) s = s.run (engineContinueEffect e) := rfl

theorem exec_compressComplete (e : Fin 2) (s : State) : exec (.compressComplete e) s = s.run (compressCompleteEffect e) := rfl

theorem exec_spillUsedRelease (n : Fin 16) (v : Word) (s : State) :
    exec (.spillUsedRelease n v) s = s.run (fun d => if d.unitUp 1 then writeSpillState n v.toNat d else d) := rfl

/-! ## A running engine (R67, R69, R488) -/

section engine
variable {d : Device} {e : Nat} (hup : d.unitUp 1 = true) (hrun : (d.engine e).running = true)
include hup hrun

/-- An engine with an outcome ends its command with it. -/
theorem compressCompleteEffect_of_outcome {st : Nat} (ho : (d.engine e).outcome = some st) :
    compressCompleteEffect e d = d.endEngine e st := by
  simp [compressCompleteEffect, ho, hup, hrun]

variable (hnone : (d.engine e).outcome = none) (hserve : d.outServes (d.engine e) = true)
include hnone hserve

/-- An engine that holds nothing writes its next block, by its mode. -/
theorem compressBlockEffect_of_free (srcErr : Bool) (hfree : (d.engine e).hold = []) :
    compressBlockEffect e srcErr d =
      if (d.engine e).capture then d.captureBlock e else if (d.engine e).inputDone then d else d.recodeBlock e srcErr := by
  simp [compressBlockEffect, hup, hrun, hnone, hserve, hfree]

/-- A HOLDING engine places what it holds from the eligible buffer on; what finds no room even so raises event 44. -/
theorem engineContinueEffect_of_eligible {k : Nat} (hk : d.eligible = some k) (hhold : (d.engine e).hold ≠ []) {d2 : Device}
    (hd2 : d2 = (d.takeBuffer e k).placeGroups e 17 (d.engine e).hold) :
    engineContinueEffect e d =
      if (d2.engine e).hold.isEmpty then d2.when (d2.engine e).inputDone (fun d => d.setEngine e { d2.engine e with outcome := some sOK })
      else d2.raise 44 := by
  simp [engineContinueEffect, hk, hup, hrun, hnone, hserve, hhold, hd2]

end engine

/-! ## USED of a spill bank (R70) -/

/-- A one written to USED of a bank whose owner does not run with it clears USED. -/
theorem writeSpillState_of_free {d : Device} {n v : Nat} (hv : bitOf v 17 = true) (hused : d.flag (fSpillUsed n) = true)
    (hfree : ((d.engine (b2n (d.flag (bitAt (SPR_SPILL_STATE n) 16)))).running &&
      (d.engine (b2n (d.flag (bitAt (SPR_SPILL_STATE n) 16)))).chain.contains n) = false) :
    writeSpillState n v d = d.putFlag (fSpillUsed n) false := by
  simp only [writeSpillState, hv, hused, hfree, Bool.not_true, Bool.or_self, Bool.false_eq_true, if_false]

/-- The registers of the spill banks lie outside the event and the counter block. -/
theorem quietReg_spillState (n : Fin 16) : quietReg (SPR_SPILL_STATE n) := by
  unfold quietReg SPR_SPILL_STATE
  omega

/-- Settles O33: each command is the run of an effect whose guard holds, and settling keeps what the release of USED leaves. -/
theorem compressionEnginesTakeEffect : Obligations.CompressionEnginesTakeEffect := by
  refine ⟨?nextBlock, ?goesOn, ?ends, ?release⟩
  case nextBlock =>
    intro s d e srcErr h hup hrun hnone hfree hserve
    rw [exec_compressBlock, run_finds h, compressBlockEffect_of_free hup hrun hnone hserve srcErr hfree]
    refine ⟨fun hcap => ?_, fun hcap hinput => ?_⟩
    · rw [if_pos hcap]
    · rw [hcap, hinput]
      rfl
  case goesOn =>
    intro s d d1 d2 e k h hk hup hrun hhold hnone hserve hd1 hd2
    have htake : d.takeBuffer e k = d1.setEngine e { d.engine e with chain := (d.engine e).chain ++ [k] } := by
      rw [hd1]
      rfl
    rw [← htake] at hd2
    rw [exec_engineContinue, run_finds h, engineContinueEffect_of_eligible hup hrun hnone hserve hk hhold hd2]
    rfl
  case ends =>
    intro s d e st h hup hout hrun
    rw [exec_compressComplete, run_finds h, compressCompleteEffect_of_outcome hup hrun hout]
  case release =>
    intro s d n v h hup hv hused hfree
    refine ⟨s.gives (d.putFlag (fSpillUsed n) false), ?_, ?_, (settle_dram _).trans (putFlag_dram d _ _),
      (settle_laidOut _).trans (putFlag_laidOut d _ _)⟩
    · rw [exec_spillUsedRelease, run_guarded h (g := fun d => d.unitUp 1) hup, run_finds h, writeSpillState_of_free hv hused hfree]
    · rw [gives_dev, Device.flag, settle_get _ (f := fSpillUsed n) (quietReg_spillState n)]
      exact flag_putFlag_same d (fSpillUsed n) false rfl (Nat.lt_succ_self 17)

end Sys2Proof.Machine
end

section
/-! PROOFS: the stream slots, their blocks and the decompressors (02_layout_streams.md). -/
namespace Sys2Proof.Machine

/-! ## The commands of the stream slots, each as the run of its effect -/

theorem exec_streamOpen (n : Fin 16) (raster : Bool) (s : State) : exec (.streamOpen n raster) s = s.run (streamOpenEffect n raster) := rfl

theorem exec_blockFetched (n : Fin 16) (srcErr : Bool) (s : State) :
    exec (.blockFetched n srcErr) s = s.run (blockFetchedEffect n srcErr) := rfl

theorem exec_decodeStart (n : Fin 16) (k : Fin 8) (s : State) : exec (.decodeStart n k) s = s.run (decodeStartEffect n k) := rfl

theorem exec_blockDecoded (k : Fin 8) (parity : Bool) (s : State) :
    exec (.blockDecoded k parity) s = s.run (blockDecodedEffect k parity) := rfl

theorem exec_blockRelease (n : Fin 16) (s : State) : exec (.blockRelease n) s = s.run (blockReleaseEffect n) := rfl

/-! ## A closed slot opens (R90) -/

section opening
variable {d : Device} {n : Nat} {j : Job} (hj : d.job = some j) (hup : d.unitUp 1 = true) (hclosed : (d.slot n).isOpen = false)
  (hjob : d.inJob = true) (hspr : d.flag fSprFailed = false) (hcsc : d.csc.failed = false) (hlib : d.mem.libLost = false)
include hj hup hclosed hjob hspr hcsc hlib

/-- The next tally pass begins at its stripe, with the areas of its stripe and the densities of a new layer empty. -/
theorem streamOpenEffect_tally {layer k : Nat} (hnext : d.tallyNext j = some (layer, k)) :
    streamOpenEffect n false d =
      (({ d with
        csc := { d.csc with
          tally := some { layer := layer, stripe := k, pass := 0, slot := some n }, tallyLayer := layer, tallyDone := k },
        pool := { d.pool with acc := [], dens := if layer == d.csc.tallyLayer then d.pool.dens else [] } } : Device).putFlag
          (bitAt CSC_STATUS 17) true).openSlot n .tally (j.stripeAt k).source (j.stripeAt k).streamId k none := by
  simp [streamOpenEffect, hj, hup, hclosed, hjob, hspr, hcsc, hlib, hnext]

/-- A raster pass without a slot takes this one. -/
theorem streamOpenEffect_raster {p : PassRead} (hp : d.csc.raster = some p) (hslot : p.slot = none) (hend : p.ended = false) :
    streamOpenEffect n true d =
      ({ d with csc := { d.csc with raster := some { p with slot := some n } } } : Device).openSlot
        n .raster (j.stripeAt p.stripe).source (j.stripeAt p.stripe).streamId p.stripe none := by
  simp [streamOpenEffect, hj, hup, hclosed, hjob, hspr, hcsc, hlib, hp, hslot, hend]

end opening

/-! ## A block arrives (R58, R571) -/

section arrival
variable {d : Device} {n : Nat} (hup : d.unitUp 1 = true) (hopen : (d.slot n).isOpen = true) (hfail : (d.slot n).failed = false)
  (hlast : (d.slot n).lastSeen = false) (huse : (d.slot n).use ≠ .recode)
include hup hopen hfail hlast huse

/-- A stored block with a good header joins the slot, as the first of its SEQ. -/
theorem blockFetchedEffect_good {srcErr : Bool} {ws : List Nat} (hnext : d.nextBlock n srcErr = some (.ok ws)) (hgood : headerErr ws = none)
    {d1 : Device} {b : Block}
    (hd1 : d1 = ({ (d.sourceMet n).itemIn 1 with spr := { ((d.sourceMet n).itemIn 1).spr with
      ndf := ((d.sourceMet n).itemIn 1).spr.ndf.filter (fun x => !(x.1 == n && x.2.1 == (d.slot n).next)) } } : Device).when (d.slot n).refetch
        (fun d => d.recovered 1 n))
    (hb : b = { seq := (d.slot n).next, words := ws, last := hLast (ws.getD 1 0), tick := d1.showBufs.clock, stage := .stored [] }) :
    blockFetchedEffect n srcErr d = d1.showBufs.setSlot n { d.slot n with
      next := seqAfter (d.slot n).next, pos := (d.slot n).pos + ws.length / 4, refetch := false, attempt := 0, lastSeen := b.last,
      blocks := (d.slot n).blocks ++ [b] } := by
  subst hb hd1
  simp [blockFetchedEffect, hup, hopen, hfail, hlast, huse, hnext, hgood]

/-- A block that the source does not give ends the stream, or is a transport error (R59). -/
theorem blockFetchedEffect_error {srcErr : Bool} {e : NdsErr} (hnext : d.nextBlock n srcErr = some (.error e)) :
    blockFetchedEffect n srcErr d =
      (if e.code == eSTREAM_END then ((d.sourceMet n).itemIn 1).streamError n e (d.slot n).next false (d.slot n).blocks
        else ((d.sourceMet n).itemIn 1).transportError n e).showBufs := by
  simp [blockFetchedEffect, hup, hopen, hfail, hlast, huse, hnext]

end arrival

/-! ## Decompressors (R65, R66) -/

/-- A free decompressor takes the first stored block of the slot. -/
theorem decodeStartEffect_stored {d : Device} {n k : Nat} {b : Block} {avoid : List Nat} (hup : d.unitUp 1 = true)
    (hopen : (d.slot n).isOpen = true) (hret : d.flag (fDecRetired k) = false) (hfree : d.decoding k = none)
    (hb : (d.slot n).blocks.find? (fun b => match b.stage with | .stored _ => true | _ => false) = some b)
    (hst : b.stage = .stored avoid) (hmay : d.mayDecode k avoid = true) :
    decodeStartEffect n k d = d.setSlot n ((d.slot n).stage b.seq (.decoding k avoid)) := by
  simp only [decodeStartEffect, hup, hopen, hret, hfree, Option.isSome_none, Bool.not_true, Bool.or_self, Bool.false_eq_true, if_false]
  split
  next hnone => exact absurd (hnone.symm.trans hb) nofun
  next b' hsome =>
    obtain rfl : b' = b := Option.some.inj (hsome.symm.trans hb)
    rw [hst]
    exact if_pos hmay

section decoding
variable {d : Device} {k n : Nat} {b : Block} (hup : d.unitUp 1 = true) (hdec : d.decoding k = some (n, b))
include hup hdec

/-- A block that decodes is parsed in its turn. -/
theorem blockDecodedEffect_ok {ws : List Nat} (hws : decodeBlock b.words = .ok ws) :
    blockDecodedEffect k false d =
      ((d.decoderEnds b).setSlot n ((d.slot n).stage b.seq (.decoded ws))).parseReady n ((d.slot n).blocks.length + 1) := by
  simp [blockDecodedEffect, hup, hdec, hws]

/-- A block that does not decode is an error of its stream, which keeps the blocks before it. -/
theorem blockDecodedEffect_error {e : NdsErr} (he : decodeBlock b.words = .error e) :
    blockDecodedEffect k false d =
      (d.decoderEnds b).streamError n e b.seq false ((d.slot n).blocks.takeWhile (fun x => x.seq != b.seq)) := by
  simp [blockDecodedEffect, hup, hdec, he]

/-- A parity error gives the block back and charges the decompressor, which retires where its domain is permanent. -/
theorem blockDecodedEffect_parity {d2 : Device} {v : Verdict}
    (hcharge : (d.setSlot n ((d.slot n).stage b.seq (.stored (k :: b.avoid.filter (fun m => m != k))))).charge 2 k 0 b.seq = (v, d2)) :
    blockDecodedEffect k true d =
      if v = .permanent then
        ((d2.putFlag (fDecRetired k) true).raise 34).when ((d2.putFlag (fDecRetired k) true).raise 34).noDecoder (fun d => d.runDry cWEIR)
      else d2 := by
  cases v <;> simp [blockDecodedEffect, hup, hdec, hcharge]

end decoding

/-! ## Release (R61, R65) -/

/-- A parsed block leaves its slot for the library, or for the pass that reads the stream. -/
theorem blockReleaseEffect_parsed {d d2 : Device} {n : Nat} {b : Block} {rest : List Block} {ws : List Nat} {recs : List LRec}
    (hup : d.unitUp 1 = true) (hopen : (d.slot n).isOpen = true) (hblocks : (d.slot n).blocks = b :: rest) (hst : b.stage = .parsed ws recs)
    (hserve : d.libraryServes (d.slot n) recs = true) {d1 : Device} (hd1 : d1 = d.setSlot n { d.slot n with blocks := rest })
    (hd2 : d2 = ((d1.setReg (SPR_SLOT n + 12) (seqAfter (d1.reg (SPR_SLOT n + 12)))).itemOut 1).capturePoint
      (fun x => x.point == 0 && x.slot == n) ws (fun _ => b.last)) :
    blockReleaseEffect n d =
      if (d.slot n).use = .library then (d2.when b.last (fun d => d.raise 35)).releaseLibrary n recs b.last
      else (d2.when b.last (fun d => d.raise 35)).releaseGeometry n (d.slot n) recs b.last := by
  subst hd1 hd2
  simp [blockReleaseEffect, hup, hopen, hblocks, hst, hserve]

/-- Settles O32: each command is the run of an effect whose guard holds, along the branch that the slot's state names. -/
theorem streamSlotsTakeEffect : Obligations.StreamSlotsTakeEffect := by
  refine ⟨?opensTally, ?opensRaster, ?arrives, ?fails, ?starts, ?decodes, ?undecodable, ?parity, ?released⟩
  case opensTally =>
    intro s d d1 n j layer k h hj hup hclosed hjob hspr hcsc hlib hnext hd1
    rw [exec_streamOpen, run_finds h, streamOpenEffect_tally hj hup hclosed hjob hspr hcsc hlib hnext, hd1]
  case opensRaster =>
    intro s d n j p h hj hup hclosed hjob hspr hcsc hlib hp hslot hend
    rw [exec_streamOpen, run_finds h, streamOpenEffect_raster hj hup hclosed hjob hspr hcsc hlib hp hslot hend]
  case arrives =>
    intro s d d1 n e ws b h hup hopen hfail hlast huse hnext hgood hd1 hb
    rw [exec_blockFetched, run_finds h, blockFetchedEffect_good hup hopen hfail hlast huse hnext hgood hd1 hb]
  case fails =>
    intro s d d1 n x e h hup hopen hfail hlast huse hnext hd1
    rw [exec_blockFetched, run_finds h, blockFetchedEffect_error hup hopen hfail hlast huse hnext, hd1]
  case starts =>
    intro s d n k b avoid h hup hopen hret hfree hb hst hmay
    rw [exec_decodeStart, run_finds h, decodeStartEffect_stored hup hopen hret hfree hb hst hmay]
  case decodes =>
    intro s d k n b ws h hup hdec hws
    rw [exec_blockDecoded, run_finds h, blockDecodedEffect_ok hup hdec hws]
  case undecodable =>
    intro s d k n b e h hup hdec he
    rw [exec_blockDecoded, run_finds h, blockDecodedEffect_error hup hdec he]
  case parity =>
    intro s d d1 d2 d3 k n b v h hup hdec hd1 hcharge hd3
    rw [hd1] at hcharge
    rw [exec_blockDecoded, run_finds h, blockDecodedEffect_parity hup hdec hcharge, hd3]
    rfl
  case released =>
    intro s d d1 d2 n b rest ws recs h hup hopen hblocks hst hserve hd1 hd2
    rw [exec_blockRelease, run_finds h, blockReleaseEffect_parsed hup hopen hblocks hst hserve hd1 hd2]
    rfl

end Sys2Proof.Machine
end

section
/-! PROOFS: the records of the Cascades, the tally pass and the start of a raster pass (03_geometry_and_raster.md). -/
namespace Sys2Proof.Machine

/-! ## The commands of the Cascades, each as the run of its effect -/

theorem exec_cascadeRecord (e : Fin 16) (raster err : Bool) (s : State) :
    exec (.cascadeRecord e raster err) s = s.run (cascadeRecordEffect e raster err) := rfl

theorem exec_tallyResume (s : State) : exec .tallyResume s = s.run tallyResumeEffect := rfl

theorem exec_tallyPassComplete (s : State) : exec .tallyPassComplete s = s.run tallyPassCompleteEffect := rfl

theorem exec_rasterPassStart (s : State) : exec .rasterPassStart s = s.run rasterPassStartEffect := rfl

/-! ## Records (R86, R96) -/

section record
variable {d : Device} {e : Nat} {j : Job} {p : PassRead} {r : LRec} {rest : List LRec} (hj : d.job = some j) (hup : d.unitUp 2 = true)
  (hret : d.engineRetired e = false) (hjob : d.inJob = true) (hlost : d.mem.libLost = false) (hrecs : p.recs = r :: rest)
  (hlib : d.libraryReads r = true)
include hj hup hret hjob hlost hrecs hlib

/-- An engine takes the next record of the raster pass. -/
theorem cascadeRecordEffect_raster (hp : d.csc.raster = some p) :
    cascadeRecordEffect e true false d = (d.itemIn 3).rasterRecord j p r rest := by
  simp [cascadeRecordEffect, hj, hp, hup, hret, hjob, hlost, hrecs, hlib]

/-- An engine's own error leaves the record waiting and is charged to it, at the lowest band of the record. -/
theorem cascadeRecordEffect_engineError (hp : d.csc.raster = some p) {bs : List Nat}
    (hbs : bs = ((d.itemIn 3).contribsOf j (j.stripeAt p.stripe) p.layer false r).map (fun c => c.band)) :
    cascadeRecordEffect e true true d = (d.itemIn 3).cascadeError e (bs.foldl min (bs.headD (d.itemIn 3).csc.bands)) := by
  simp [cascadeRecordEffect, hj, hp, hup, hret, hjob, hlost, hrecs, hlib, hbs]

/-- An engine takes the next record of the tally pass where no raster record waits and no piece waits for room. -/
theorem cascadeRecordEffect_tally (hp : d.csc.tally = some p) (hidle : d.csc.raster.all (fun x => x.recs.isEmpty) = true)
    (hleft : d.csc.tallyLeft = []) :
    cascadeRecordEffect e false false d = ((d.itemIn 3).tallyRecord j p r rest).ifTallies (d.itemIn 3) := by
  cases hraster : d.csc.raster with
  | none => simp [cascadeRecordEffect, hj, hp, hup, hret, hjob, hlost, hrecs, hlib, hleft, hraster]
  | some q =>
    have hq : q.recs = [] := by simpa [hraster] using hidle
    simp [cascadeRecordEffect, hj, hp, hup, hret, hjob, hlost, hrecs, hlib, hleft, hraster, hq]

end record

/-! ## The tally pass (R88, R89) -/

/-- A tally that waits for room goes on with the pieces it left. -/
theorem tallyResumeEffect_left {d : Device} {j : Job} {p : PassRead} (hj : d.job = some j) (hp : d.csc.tally = some p)
    (hup : d.unitUp 2 = true) (hleft : d.csc.tallyLeft ≠ []) :
    tallyResumeEffect d = (d.tallyAll j p.layer p.stripe d.csc.tallyLeft).ifTallies d := by
  simp [tallyResumeEffect, hj, hp, hup, hleft]

/-! ### POOL_CFG, which the end of a tally pass leaves -/

/-- The lines of a stripe's cells follow from POOL_CFG and the job. -/
theorem stripLines_congr {a b : Device} (h : a.reg POOL_CFG = b.reg POOL_CFG) (j : Job) : a.stripLines j = b.stripLines j := by
  have hpix : a.cellPix = b.cellPix := by rw [Device.cellPix, Device.cellLog, h]; rfl
  simp only [Device.stripLines, Device.poolSize, Device.stripeCells, hpix]

theorem pcEn_congr {a b : Device} (h : a.reg POOL_CFG = b.reg POOL_CFG) : a.pcEn = b.pcEn :=
  congrArg (fun r => bits r fPcEn.lo fPcEn.w == 1) h

/-- Storing the densities counts the cells that saturate, with event 75, and leaves the settings of the pool. -/
theorem storeDensities_poolCfg (d : Device) (k : Nat) : (d.storeDensities k).reg POOL_CFG = d.reg POOL_CFG := by
  have hraise : ∀ (x : Device) (c : Bool), (x.when c (fun x => x.raise 75)).reg POOL_CFG = x.reg POOL_CFG := fun x c => by
    cases c
    · rfl
    · exact raisesOnly_reg (raisesOnly_raise x 75 (by decide)) (by unfold quietReg; decide)
  have hfill : ∀ (x : Device) (c : Bool), (x.when c Device.fillPool).reg POOL_CFG = x.reg POOL_CFG := fun x c => by
    cases c <;> rfl
  rw [Device.storeDensities, hraise, Device.bumpBy, reg_put_ne _ _ (by decide), hfill]
  rfl

/-- The state without the tally pass in progress, which is one more stripe tallied. -/
def Device.tallyEnded (d : Device) : Device := { d with csc := { d.csc with tally := none, tallyDone := d.csc.tallyDone + 1 } }

theorem pcEn_tallyEnded (d : Device) : d.tallyEnded.pcEn = d.pcEn := rfl

/-- A tally pass whose records are all taken is one more stripe tallied; with PC_EN its densities are stored, and written to module memory
where the pass has areas. -/
theorem tallyPassCompleteEffect_taken {d d1 : Device} {j : Job} {p : PassRead} {pool : Bool} (hj : d.job = some j) (hp : d.csc.tally = some p)
    (hup : d.unitUp 2 = true) (hend : p.ended = true) (hrecs : p.recs = []) (hleft : d.csc.tallyLeft = [])
    (hpool : pool = (d.pcEn && !d.pool.acc.isEmpty))
    (hserve : pool = true → d.regionServes (d.ringAt j p.stripe) (d.stripLines j) = true)
    (hd1 : d1 = d.tallyEnded.putFlag fTallyRun false) :
    tallyPassCompleteEffect d =
      ((if pool then (d1.storeDensities p.stripe).rewriteRegion (d.ringAt j p.stripe) (d.stripLines j)
        else if d1.pcEn then d1.storeDensities p.stripe else d1).raise 52).showPoolWeir := by
  have hcfg : d1.reg POOL_CFG = d.reg POOL_CFG := by rw [hd1, Device.putFlag, reg_put_ne _ _ (by decide)]; rfl
  have hguard : (pool && !d.regionServes (d.ringAt j p.stripe) (d.stripLines j)) = false := by
    cases hb : pool
    · rfl
    · rw [hserve hb]; rfl
  have hrun : tallyPassCompleteEffect d =
      (((d1.when d.tallyEnded.pcEn (fun x => x.storeDensities p.stripe)).when pool
        (fun x => x.rewriteRegion (d.ringAt j p.stripe) (x.stripLines j))).raise 52).showPoolWeir := by
    rw [hpool] at hguard
    simp [tallyPassCompleteEffect, Device.tallyEnded, hj, hp, hup, hend, hrecs, hleft, hguard, hpool, hd1]
  rw [hrun, pcEn_tallyEnded, pcEn_congr hcfg]
  cases hb : pool
  · rw [when_false, if_neg Bool.false_ne_true, Device.when]
  · have hen : d.pcEn = true := (Bool.and_eq_true_iff.1 (hpool.symm.trans hb)).1
    have hlines : (d1.storeDensities p.stripe).stripLines j = d.stripLines j := stripLines_congr ((storeDensities_poolCfg d1 _).trans hcfg) j
    rw [hen, when_true, when_true, hlines, if_pos rfl]

/-! ## The start of a raster pass (R134, R141) -/

/-- A raster pass that may begin begins at its stripe, with no band complete and no tile; with PC_EN 0 the first of a stripe is its raster
boundary. -/
theorem rasterPassStartEffect_ready {d d1 : Device} {j : Job} (hj : d.job = some j) (hup : d.unitUp 2 = true) (hjob : d.inJob = true)
    (hready : d.rasterReady j = true)
    (hd1 : d1 = if !d.pcEn && d.csc.nextPass == 0 then d.rasterBoundary d.csc.nextStripe d.csc.nextLayer else d) :
    rasterPassStartEffect d =
      (({ d1 with csc := { d1.csc with
        raster := some { layer := d.csc.nextLayer, stripe := d.csc.nextStripe, pass := d1.csc.nextPass },
        bands := 0, committed := 0, tiles := [] } } : Device).putFlag fRasterRun true).showPoolWeir := by
  subst hd1
  simp [rasterPassStartEffect, hj, hup, hjob, hready, Device.when]

/-- Settles O34: each command is the run of an effect whose guard holds. -/
theorem cascadeTakesEffect : Obligations.CascadeTakesEffect := by
  refine ⟨?rasterRecord, ?tallyRecord, ?engineError, ?resume, ?complete, ?start⟩
  case rasterRecord =>
    intro s d e j p r rest h hj hp hup hret hjob hlost hrecs hlib
    rw [exec_cascadeRecord, run_finds h, cascadeRecordEffect_raster hj hup hret hjob hlost hrecs hlib hp]
  case tallyRecord =>
    intro s d e j p r rest h hj hp hup hret hjob hlost hrecs hidle hleft hlib
    rw [exec_cascadeRecord, run_finds h, cascadeRecordEffect_tally hj hup hret hjob hlost hrecs hlib hp hidle hleft]
  case engineError =>
    intro s d e j p r rest bs h hj hp hup hret hjob hlost hrecs hlib hbs
    rw [exec_cascadeRecord, run_finds h, cascadeRecordEffect_engineError hj hup hret hjob hlost hrecs hlib hp hbs]
  case resume =>
    intro s d j p h hj hp hup hleft
    rw [exec_tallyResume, run_finds h, tallyResumeEffect_left hj hp hup hleft]
  case complete =>
    intro s d d1 j p pool h hj hp hup hend hrecs hleft hpool hserve hd1
    rw [exec_tallyPassComplete, run_finds h, tallyPassCompleteEffect_taken hj hp hup hend hrecs hleft hpool hserve hd1]
  case start =>
    intro s d d1 j h hj hup hjob hready hd1
    rw [exec_rasterPassStart, run_finds h, rasterPassStartEffect_ready hj hup hjob hready hd1]

end Sys2Proof.Machine
end

section
/-! PROOFS: what the writes of module memory, the captures and the marks leave of the deep band (03_geometry_and_raster.md, R100 to R103). -/
namespace Sys2Proof.Machine

/-! ## The deep band: its job, its rows, the status register and its lines -/

/-- What the level of the deep band and the flag of bypass follow from. -/
structure DeepBand where
  job : Option Job
  cst : CstState
  status : Nat
  lines : Nat

def Device.deepBand (d : Device) : DeepBand := ⟨d.job, d.cst, d.reg CST_STATUS, d.get36 CST_DB_LINES⟩

/-- An offset outside the registers of the Cistern. -/
def apartCst (off : Nat) : Prop := off < 0x700000 ∨ 0x800000 ≤ off

variable (d : Device)

theorem deepBand_job {a b : Device} (h : a.deepBand = b.deepBand) : a.job = b.job := congrArg DeepBand.job h
theorem deepBand_cst {a b : Device} (h : a.deepBand = b.deepBand) : a.cst = b.cst := congrArg DeepBand.cst h
theorem deepBand_lines {a b : Device} (h : a.deepBand = b.deepBand) : a.get36 CST_DB_LINES = b.get36 CST_DB_LINES := congrArg DeepBand.lines h
theorem deepBand_bypass {a b : Device} (h : a.deepBand = b.deepBand) : a.flag fBypass = b.flag fBypass :=
  congrArg (fun (x : DeepBand) => bits x.status fBypass.lo fBypass.w == 1) h

/-! ### Operations of the state -/

theorem deepBand_of_regs {a b : Device} (hj : b.job = a.job) (hc : b.cst = a.cst)
    (hr : ∀ off, 0x700000 ≤ off → off < 0x800000 → b.reg off = a.reg off) : b.deepBand = a.deepBand := by
  simp only [Device.deepBand, Device.get36, hj, hc, hr CST_STATUS (by decide) (by decide), hr CST_DB_LINES (by decide) (by decide),
    hr (CST_DB_LINES + 4) (by decide) (by decide)]

theorem deepBand_setReg_ne {off : Nat} (hs : CST_STATUS ≠ off) (hl : CST_DB_LINES ≠ off) (hl4 : CST_DB_LINES + 4 ≠ off) (v : Nat) :
    (d.setReg off v).deepBand = d.deepBand := by
  rw [Device.deepBand, Device.get36, reg_setReg_ne d v hs, reg_setReg_ne d v hl, reg_setReg_ne d v hl4]
  rfl

theorem deepBand_setReg {off : Nat} (h : apartCst off) (v : Nat) : (d.setReg off v).deepBand = d.deepBand :=
  deepBand_of_regs rfl rfl fun o hlo hhi => reg_setReg_ne d v (by unfold apartCst at h; omega)

theorem deepBand_put {f : Fld} (h : apartCst f.off) (v : Nat) : (d.put f v).deepBand = d.deepBand := deepBand_setReg d h _

theorem deepBand_putFlag {f : Fld} (h : apartCst f.off) (b : Bool) : (d.putFlag f b).deepBand = d.deepBand := deepBand_put d h _

theorem deepBand_bump {f : Fld} (h : apartCst f.off) : (d.bump f).deepBand = d.deepBand := by
  unfold Device.bump
  exact deepBand_put d h _

theorem deepBand_put36 {off : Nat} (h : apartCst off) (h4 : apartCst (off + 4)) (v : Nat) : (d.put36 off v).deepBand = d.deepBand :=
  (deepBand_setReg _ h4 _).trans (deepBand_setReg d h _)

theorem deepBand_setRegs {off : Nat} {vs : List Nat} (h : off + 4 * vs.length ≤ 0x700000 ∨ 0x800000 ≤ off) :
    (d.setRegs off vs).deepBand = d.deepBand := by
  induction vs generalizing d off with
  | nil => rfl
  | cons v vs ih =>
    rw [List.length_cons] at h
    exact (ih (d.setReg off v) (by omega)).trans (deepBand_setReg d (by unfold apartCst; omega) v)

theorem deepBand_of_raisesOnly {a b : Device} (h : a.raisesOnly b) : b.deepBand = a.deepBand :=
  deepBand_of_regs (raisesOnly_job h) (raisesOnly_cst h) fun _ hlo hhi => raisesOnly_reg h (by unfold quietReg; omega)

theorem deepBand_raise {s : Nat} (hs : s < 256) : (d.raise s).deepBand = d.deepBand := deepBand_of_raisesOnly (raisesOnly_raise d s hs)

theorem deepBand_count {b : Nat} (hb : b < 20) (code n : Nat) : (d.count b code n).deepBand = d.deepBand :=
  deepBand_of_raisesOnly (raisesOnly_count d b code n hb)

theorem deepBand_when {c : Bool} {f : Device → Device} (hf : ∀ d, (f d).deepBand = d.deepBand) : (d.when c f).deepBand = d.deepBand := by
  cases c
  · rfl
  · exact hf d

theorem deepBand_each_mem {α : Type} {f : Device → α → Device} {l : List α} (hf : ∀ d, ∀ a ∈ l, (f d a).deepBand = d.deepBand) :
    (d.each l f).deepBand = d.deepBand := by
  induction l generalizing d with
  | nil => rfl
  | cons a l ih =>
    rw [each_cons, ih _ fun x b hb => hf x b (List.mem_cons_of_mem a hb)]
    exact hf d a List.mem_cons_self

theorem deepBand_each {α : Type} {f : Device → α → Device} {l : List α} (hf : ∀ d a, (f d a).deepBand = d.deepBand) :
    (d.each l f).deepBand = d.deepBand := deepBand_each_mem d fun x a _ => hf x a

theorem deepBand_journal (item : JItem) (value : List Nat) : (d.journal item value).deepBand = d.deepBand := rfl

theorem deepBand_withMem (x : MemState) : ({ d with mem := x } : Device).deepBand = d.deepBand := rfl

theorem deepBand_withRst (x : RstState) : ({ d with rst := x } : Device).deepBand = d.deepBand := rfl

theorem deepBand_withLast (c h : Bool) : ({ d with lastCommitted := c, lastHeld := h } : Device).deepBand = d.deepBand := rfl

theorem deepBand_putDram (a : Nat) (ws : List Nat) : (d.putDram a ws).deepBand = d.deepBand := deepBand_each d fun _ _ => rfl

/-! ### The error log (R504, R505) -/

theorem oldestLog_lt (p : Nat → Bool) {i : Nat} (h : d.oldestLog p = some i) : i < 64 := by
  have hbest : ∀ b, d.oldestLog p = some b → b < 64 := by
    refine List.foldlRecOn (motive := fun best => ∀ b, best = some b → b < 64) (List.range 64) _ nofun fun best hbest i hi => ?_
    intro b hb
    split at hb
    next =>
      split at hb
      next => exact Option.some.inj hb ▸ List.mem_range.1 hi
      next c =>
        split at hb
        next => exact Option.some.inj hb ▸ List.mem_range.1 hi
        next => exact hbest b hb
    next => exact hbest b hb
  exact hbest i h

theorem logSlot_lt : d.logSlot.1 < 64 := by
  unfold Device.logSlot
  split
  next i hi => exact List.mem_range.1 (List.mem_of_find?_eq_some hi)
  next =>
    split
    next i hi => exact oldestLog_lt d _ hi
    next =>
      cases h : d.oldestLog (fun _ => true) with
      | none => decide
      | some i => exact oldestLog_lt d _ h

theorem deepBand_dropLog {i : Nat} (hi : i < 64) : (d.dropLog i).deepBand = d.deepBand := by
  unfold Device.dropLog
  rw [deepBand_setRegs _ (by unfold SYS_EL; simp only [List.length_replicate]; omega), deepBand_when _ fun _ => deepBand_journal _ _ _]

theorem deepBand_log (cls : Nat) (atOnce : Bool) (domain cause unit data : Nat) :
    (d.log cls atOnce domain cause unit data).deepBand = d.deepBand := by
  have hslot := logSlot_lt d
  unfold Device.log
  generalize d.logSlot = p at hslot ⊢
  obtain ⟨slot, replaced⟩ := p
  have hwrite : ∀ (x : Device) (ws : List Nat), ws.length = 11 → ((x.put36 SYS_ERRLOG_LSEQ ((d.get36 SYS_ERRLOG_LSEQ + 1) % pairMod)).setRegs
      (SYS_EL slot) ws).deepBand = x.deepBand := fun x ws hlen => by
    rw [deepBand_setRegs _ (.inl (by unfold SYS_EL; omega)), deepBand_put36 _ (.inl (by decide)) (.inl (by decide))]
  dsimp only
  rw [deepBand_raise _ (by decide), deepBand_when _ fun _ => deepBand_journal _ _ _]
  cases replaced
  · rw [if_neg Bool.false_ne_true, deepBand_put _ (.inl (by decide)), hwrite _ _ rfl, deepBand_withRst, when_false]
  · rw [if_pos rfl, deepBand_when _ fun _ => deepBand_raise _ (by decide), deepBand_bump _ (.inl (by decide)), hwrite _ _ rfl, deepBand_withRst,
      when_true, deepBand_dropLog d hslot]

/-! ### Module memory (R326 to R348) -/

theorem apartCst_memStatus : apartCst MEM_STATUS := .inr (by decide)

theorem apartCst_chState (c : Nat) : apartCst (MEM_CH_STATE c) := .inr (by unfold MEM_CH_STATE; omega)

theorem deepBand_showChannels : d.showChannels.deepBand = d.deepBand :=
  deepBand_each d fun x c => by
    rw [deepBand_put _ (apartCst_chState c), deepBand_putFlag _ apartCst_memStatus, deepBand_putFlag _ apartCst_memStatus]

theorem apartCst_remap (n : Nat) : apartCst (MEM_CH_REMAP n) ∧ apartCst (MEM_CH_REMAP n + 4) := by
  unfold apartCst MEM_CH_REMAP
  omega

theorem deepBand_setRemap (c e st la : Nat) : (d.setRemap c e st la).deepBand = d.deepBand := by
  obtain ⟨hoff, hoff4⟩ := apartCst_remap (32 * c + e)
  unfold Device.setRemap
  dsimp only
  rw [deepBand_showChannels]
  have hentry := (deepBand_setReg _ hoff4 (st * 65536 + la / wordMod % 8192)).trans (deepBand_setReg d hoff (la % wordMod))
  split
  · rw [deepBand_journal, deepBand_journal, hentry]
  · split
    · rw [deepBand_journal, deepBand_journal, hentry]
    · exact hentry

theorem deepBand_memLog (kind dev la req : Nat) : (d.memLog kind dev la req).deepBand = d.deepBand := by
  unfold Device.memLog
  dsimp only
  have hentry : ∀ i v w vs, (((d.setRegs (MEM_LOG i) vs).put fMlNext v).put fMlCount w).deepBand = d.deepBand := fun i v w vs => by
    rw [deepBand_put _ (.inr (by decide)), deepBand_put _ (.inr (by decide)), deepBand_setRegs _ (.inr (by unfold MEM_LOG; omega))]
  split
  · rw [deepBand_when _ fun _ => deepBand_raise _ (by decide), deepBand_bump _ (.inr (by decide)), hentry]
  · exact hentry _ _ _ _

theorem deepBand_uncorrectable (la req : Nat) : (d.uncorrectable la req).deepBand = d.deepBand := by
  have hrecord : ∀ x : Device, (if x.flag (bitAt MEM_UE_INFO 17) then x
      else (x.setReg MEM_UE_INFO (131072 + req % 16 * 8192 + chanOf la * 2048 + b2n (d.lineState la == rmPOISONED) * 1024)).put36
        MEM_UE_LINE la).deepBand = x.deepBand := fun x => by
    split
    · rfl
    · rw [deepBand_put36 _ (.inr (by decide)) (.inr (by decide)), deepBand_setReg _ (.inr (by decide))]
  have hlogged : ∀ x : Device, (((x.raise 196).memLog mkUNCORRECTABLE 31 la req).memErrorLog mkUNCORRECTABLE 31 la).deepBand = x.deepBand :=
    fun x => by rw [Device.memErrorLog, deepBand_log, deepBand_memLog, deepBand_raise _ (by decide)]
  have hmet := (hlogged _).trans ((hrecord _).trans (deepBand_bump d (f := whole MEM_UE_COUNT) (.inr (by decide))))
  unfold Device.uncorrectable
  dsimp only
  generalize Device.memErrorLog _ _ _ _ = x at hmet ⊢
  split
  · exact hmet
  · split
    · rw [deepBand_raise _ (by decide), deepBand_setRemap]
      exact hmet
    · exact hmet

theorem deepBand_touchRow (la : Nat) : (d.touchRow la).deepBand = d.deepBand := by
  unfold Device.touchRow
  dsimp only
  split <;> rfl

theorem deepBand_memUse (a n : Nat) : (d.memUse a n).deepBand = d.deepBand :=
  deepBand_each d fun x la => by rw [deepBand_touchRow, deepBand_putFlag _ (apartCst_chState (chanOf la))]

theorem deepBand_writeLine (la : Nat) (ws : List Nat) : (d.writeLine la ws).deepBand = d.deepBand := by
  unfold Device.writeLine
  split
  · rfl
  · dsimp only
    rw [deepBand_putDram, deepBand_withMem]
    split
    · split
      · rw [deepBand_setRemap]
      · rfl
    · rfl

/-- A unit's writes of module memory leave the deep band. -/
theorem deepBand_putWords (req a : Nat) (ws : List Nat) : (d.putWords req a ws).deepBand = d.deepBand := by
  refine deepBand_each d fun x la => ?_
  have huse := deepBand_memUse x
  dsimp only
  split
  · rw [deepBand_writeLine, huse]
  · split
    · rw [huse]
    · split
      · rw [deepBand_uncorrectable, huse]
      · rw [deepBand_putDram, huse]

/-! ### Captures and marks (R71, R541) -/

theorem deepBand_withSpr (x : SprState) : ({ d with spr := x } : Device).deepBand = d.deepBand := rfl

theorem deepBand_setEngine {e : Nat} (he : e < 2) (x : Engine) : (d.setEngine e x).deepBand = d.deepBand := by
  have hstatus : apartCst (SPR_CMP_STATUS e) := .inl (by unfold SPR_CMP_STATUS; omega)
  unfold Device.setEngine
  rw [deepBand_putFlag _ hstatus, deepBand_putFlag _ hstatus, deepBand_put _ hstatus, deepBand_withSpr]

/-- The capture engines that take words leave the deep band. -/
theorem deepBand_capturePoint (p : Engine → Bool) (ws : List Nat) (last : Engine → Bool) :
    (d.capturePoint p ws last).deepBand = d.deepBand := by
  refine deepBand_each_mem d fun x e he => ?_
  have he : e < 2 := by simp at he; omega
  have hin : apartCst (SPR_CMP_IN e) ∧ apartCst (SPR_CMP_IN e + 4) := by
    unfold apartCst SPR_CMP_IN
    omega
  dsimp only
  split
  · rw [deepBand_put36 _ hin.1 hin.2, deepBand_setEngine _ he]
  · rfl

theorem deepBand_withMarks (l : List Mark) : ({ d with marks := l } : Device).deepBand = d.deepBand := rfl

/-- The entry of marks in the sample buffer leaves the deep band. -/
theorem deepBand_writeMarks (u : Nat) : (d.writeMarks u).deepBand = d.deepBand := by
  unfold Device.writeMarks
  dsimp only
  rw [deepBand_each _ fun x m => ?_, deepBand_withMarks]
  split
  · rfl
  · rw [deepBand_when _ fun _ => deepBand_putFlag _ (.inr (by decide)) _, deepBand_setReg _ (.inr (by decide)), deepBand_setReg _ (.inr (by decide)),
      deepBand_setRegs _ (.inr (by unfold PMC_PSB; omega))]

/-! ## The level of the deep band (R100, R103) -/

/-- The level follows from the job, the rows and the lines of the deep band. -/
theorem dbLevel_congr {a b : Device} (hj : a.job = b.job) (hc : a.cst = b.cst) (hl : a.get36 CST_DB_LINES = b.get36 CST_DB_LINES) :
    a.dbLevel = b.dbLevel := by
  have hwhole : a.wholeStripe = b.wholeStripe := by
    unfold Device.wholeStripe Device.dbRows
    rw [hl]
  have hrun : a.runAhead = b.runAhead := by
    unfold Device.runAhead
    rw [hwhole, hc]
  rw [Device.dbLevel, hj, hc, hrun]
  rfl

theorem dbLevel_of_deepBand {a b : Device} (h : a.deepBand = b.deepBand) : a.dbLevel = b.dbLevel :=
  dbLevel_congr (deepBand_job h) (deepBand_cst h) (deepBand_lines h)

/-- A row of a run lies beyond the write front. -/
def Device.rowAhead (d : Device) (j : Job) (r : DbRun) (u : Nat) : Bool :=
  if r.layer == j.layer && r.stripe == j.stripe && (r.pass == j.pass || d.wholeStripe j j.cur.len) then
    !d.cst.rows.contains u && !j.behind u
  else !(j.ahead.any (fun k => r.layer == k.layer && r.stripe == k.stripe) && d.cst.ahead.contains u)

/-- No row of a range passes a filter by its distance from the first row just where no row of the range does. -/
theorem rowCount_eq_zero_iff (lo hi : Nat) (p : Nat → Bool) :
    ((List.range (hi - lo)).filter (fun i => p (lo + i))).length = 0 ↔ ∀ u, lo ≤ u → u < hi → p u = false := by
  simp only [List.length_eq_zero_iff, List.filter_eq_nil_iff, List.mem_range, Bool.not_eq_true]
  refine ⟨fun h u hlo hhi => ?_, fun h i hi => h (lo + i) (by omega) (by omega)⟩
  have hu := h (u - lo) (by omega)
  rwa [Nat.add_sub_cancel' hlo] at hu

theorem runAhead_eq_zero_iff {j : Job} {r : DbRun} : d.runAhead j r = 0 ↔ ∀ u, r.lo ≤ u → u < r.hi → d.rowAhead j r u = false := by
  unfold Device.runAhead Device.rowAhead
  split
  · exact rowCount_eq_zero_iff _ _ fun u => !d.cst.rows.contains u && !j.behind u
  · exact rowCount_eq_zero_iff _ _ fun u =>
      !(j.ahead.any (fun k => r.layer == k.layer && r.stripe == k.stripe) && d.cst.ahead.contains u)

theorem dbLevel_eq_zero_iff {d : Device} {j : Job} (hj : d.job = some j) : d.dbLevel = 0 ↔ ∀ r ∈ d.cst.runs, d.runAhead j r = 0 := by
  simp [Device.dbLevel, hj, List.sum_eq_zero_iff]

/-- A run is a part of another one of its pass. -/
def DbRun.partOf (r t : DbRun) : Prop := r.layer = t.layer ∧ r.stripe = t.stripe ∧ r.pass = t.pass ∧ t.lo ≤ r.lo ∧ r.hi ≤ t.hi

theorem partOf_refl (r : DbRun) : r.partOf r := ⟨rfl, rfl, rfl, Nat.le_refl _, Nat.le_refl _⟩

theorem partOf_of_mem_dropRow {u : Nat} {serves : DbRun → Bool} {rs : List DbRun} {r : DbRun} (h : r ∈ dropRow u serves rs) :
    ∃ t ∈ rs, r.partOf t := by
  obtain ⟨t, ht, hr⟩ := List.mem_flatMap.1 h
  refine ⟨t, ht, ?_⟩
  unfold DbRun.partOf
  split at hr
  next hcut =>
    simp only [Bool.and_eq_true, decide_eq_true_eq] at hcut
    simp only [List.mem_filter, List.mem_cons, List.not_mem_nil, or_false] at hr
    rcases hr.1 with rfl | rfl
    · exact ⟨rfl, rfl, rfl, Nat.le_refl _, by dsimp only; omega⟩
    · exact ⟨rfl, rfl, rfl, by dsimp only; omega, Nat.le_refl _⟩
  next =>
    obtain rfl := List.mem_singleton.1 hr
    exact partOf_refl r

/-- A drained deep band stays drained where its runs lose rows and the Cistern gains them. -/
theorem dbLevel_zero_of_gains {a b : Device} {j : Job} (ha : a.job = some j) (hb : b.job = some j)
    (hl : b.get36 CST_DB_LINES = a.get36 CST_DB_LINES) (hrows : ∀ u ∈ a.cst.rows, u ∈ b.cst.rows)
    (hahead : ∀ u ∈ a.cst.ahead, u ∈ b.cst.ahead) (hruns : ∀ r ∈ b.cst.runs, ∃ t ∈ a.cst.runs, r.partOf t) (h : a.dbLevel = 0) : b.dbLevel = 0 := by
  rw [dbLevel_eq_zero_iff ha] at h
  rw [dbLevel_eq_zero_iff hb]
  intro r hr
  obtain ⟨t, ht, hlayer, hstripe, hpass, hlo, hhi⟩ := hruns r hr
  rw [runAhead_eq_zero_iff]
  intro u hu hu'
  have hfront := (runAhead_eq_zero_iff a).1 (h t ht) u (by omega) (by omega)
  have hwhole : b.wholeStripe j j.cur.len = a.wholeStripe j j.cur.len := by rw [Device.wholeStripe, Device.dbRows, hl]; rfl
  unfold Device.rowAhead at hfront ⊢
  rw [hlayer, hstripe, hpass, hwhole]
  split
  next hc =>
    rw [if_pos hc] at hfront
    simp only [Bool.and_eq_false_iff, Bool.not_eq_false', List.contains_iff_mem] at hfront ⊢
    exact hfront.imp_left (hrows u)
  next hc =>
    rw [if_neg hc] at hfront
    simp only [Bool.not_eq_false', Bool.and_eq_true, List.contains_iff_mem] at hfront ⊢
    exact ⟨hfront.1, hahead u hfront.2⟩

/-! ## A row that goes past a drained look-ahead (R103, R107) -/

/-- With the deep band drained to below a band, the bypass does not end where the Cistern is shown. -/
theorem showDb_of_drained (h0 : d.dbLevel = 0) (hb : 0 < d.bandLevel) : d.showDb = d.put36 CST_WEIR_DB 0 := by
  rw [Device.showDb, h0, decide_eq_false (by omega), when_false]

/-- The bypass of a job goes on: its deep band is drained, and the flag of bypass is as given. -/
structure Device.passesBy (d : Device) (j : Job) (flag : Bool) : Prop where
  job : d.job = some j
  drained : d.dbLevel = 0
  bypass : d.flag fBypass = flag

variable {d} {j : Job} {flag : Bool}

theorem passesBy_of_deepBand {x : Device} (h : x.deepBand = d.deepBand) (hd : d.passesBy j flag) : x.passesBy j flag :=
  ⟨(deepBand_job h).trans hd.job, (dbLevel_of_deepBand h).trans hd.drained, (deepBand_bypass h).trans hd.bypass⟩

theorem bandLevel_pos (hj : d.job = some j) (hlen : 0 < j.cur.len) : 0 < d.bandLevel := by
  rw [Device.bandLevel, hj]
  exact Nat.lt_min.2 ⟨by decide, hlen⟩

theorem putFlag_wholeStripe_passesBy (b : Bool) (hd : d.passesBy j flag) : (d.putFlag fWholeStripe b).passesBy j flag := by
  have hreg : ∀ off, off ≠ CST_STATUS → (d.putFlag fWholeStripe b).reg off = d.reg off := fun off h => reg_put_ne d _ h
  have hlines : (d.putFlag fWholeStripe b).get36 CST_DB_LINES = d.get36 CST_DB_LINES := by
    simp only [Device.get36, hreg CST_DB_LINES (by decide), hreg (CST_DB_LINES + 4) (by decide)]
  refine ⟨(putFlag_job d _ _).trans hd.job, (dbLevel_congr (putFlag_job d _ _) (putFlag_cst d _ _) hlines).trans hd.drained, ?_⟩
  rw [Device.flag, Device.putFlag, get_put_apart d (f := fWholeStripe) (g := fBypass) _ rfl (by decide) (by decide)]
  exact hd.bypass

/-- The Cistern is shown without an end of the bypass. -/
theorem showCistern_passesBy (hlen : 0 < j.cur.len) (hd : d.passesBy j flag) : d.showCistern.passesBy j flag := by
  have hlead : ∀ v, (d.setReg CST_WEIR_LEAD v).passesBy j flag := fun v =>
    passesBy_of_deepBand (deepBand_setReg_ne d (by decide) (by decide) (by decide) v) hd
  have hweir : ∀ v, (d.setReg CST_WEIR_LEAD v).showDb.passesBy j flag := fun v => by
    rw [showDb_of_drained _ (hlead v).drained (bandLevel_pos (hlead v).job hlen)]
    refine passesBy_of_deepBand ?_ (hlead v)
    rw [Device.put36, deepBand_setReg_ne _ (by decide) (by decide) (by decide), deepBand_setReg_ne _ (by decide) (by decide) (by decide)]
  unfold Device.showCistern
  rw [hd.job]
  dsimp only
  exact passesBy_of_deepBand ((deepBand_withLast _ _ _).trans (deepBand_setReg_ne _ (by decide) (by decide) (by decide) _))
    (putFlag_wholeStripe_passesBy _ (hweir _))

/-- The module after a row reaches the Cistern and its mirror: it leaves the look-ahead where no later pass needs it. -/
def Device.rowPlaced (d : Device) (j : Job) (u : Nat) (ws : List Nat) : Device :=
  let d := ((d.putCistern (j.rowAddr u) ws).putWords 7 (d.mirrorAddr (j.rowAddr u)) ws).setWritten (j.rowLines u)
  let runs := if d.keepsRows j then d.cst.runs else dropRow u (d.runServes j) d.cst.runs
  { d with cst := (if d.job.all j.samePass then { d.cst with rows := d.cst.rows ++ [u], runs := runs }
                   else { d.cst with ahead := d.cst.ahead ++ [u], runs := runs }) }

theorem rowPlaced_passesBy (u : Nat) (ws : List Nat) (hd : d.passesBy j flag) : (d.rowPlaced j u ws).passesBy j flag := by
  have hput := deepBand_putWords (d.putCistern (j.rowAddr u) ws) 7 (d.mirrorAddr (j.rowAddr u)) ws
  unfold Device.rowPlaced
  generalize Device.putWords _ 7 _ ws = x at hput ⊢
  have hjob : x.job = some j := (deepBand_job hput).trans hd.job
  have h0 : x.dbLevel = 0 := dbLevel_zero_of_gains (a := d) hd.job hjob ((deepBand_lines hput).trans rfl)
    (fun u hu => deepBand_cst hput ▸ hu) (fun u hu => deepBand_cst hput ▸ hu)
    (fun r hr => ⟨r, by rwa [deepBand_cst hput] at hr, partOf_refl r⟩) hd.drained
  refine ⟨hjob, dbLevel_zero_of_gains (a := x) hjob hjob rfl (fun v hv => ?rows) (fun v hv => ?ahead) (fun r hr => ?runs) h0,
    (deepBand_bypass hput).trans hd.bypass⟩
  case rows =>
    dsimp only
    split
    · exact List.mem_append_left _ hv
    · exact hv
  case ahead =>
    dsimp only
    split
    · exact hv
    · exact List.mem_append_left _ hv
  case runs =>
    have hr : r ∈ if (x.setWritten (j.rowLines u)).keepsRows j then x.cst.runs
        else dropRow u ((x.setWritten (j.rowLines u)).runServes j) x.cst.runs := by
      dsimp only at hr
      split at hr <;> exact hr
    split at hr
    · exact ⟨r, hr, partOf_refl r⟩
    · exact partOf_of_mem_dropRow hr

/-- The bypass goes on as its rows reach the Cistern. -/
theorem rowIntoCistern_passesBy (hlen : 0 < j.cur.len) (u : Nat) (ws : List Nat) (hd : d.passesBy j flag) :
    (d.rowIntoCistern j u ws).passesBy j flag := by
  refine showCistern_passesBy (d := (((d.rowPlaced j u ws).capturePoint _ ws _).writeMarks u).itemIn 6) hlen
    (passesBy_of_deepBand ?_ (rowPlaced_passesBy u ws hd))
  rw [Device.itemIn, deepBand_count _ (by decide), deepBand_writeMarks, deepBand_capturePoint]

/-- The rows of a band that goes past the look-ahead leave the flag of bypass. -/
theorem rowsIntoCistern_bypass {rows : List (Nat × List Nat)} (hlen : rows ≠ [] → 0 < j.cur.len) (hd : d.passesBy j flag) :
    (d.each rows (fun d r => d.rowIntoCistern j r.1 r.2)).flag fBypass = flag := by
  by_cases hrows : rows = []
  · rw [hrows, each_nil]
    exact hd.bypass
  · exact (each_keeps (fun x => x.passesBy j flag) _ (fun x r hx => rowIntoCistern_passesBy (hlen hrows) r.1 r.2 hx) rows d hd).bypass

end Sys2Proof.Machine
end

section
/-! PROOFS: the tiles of the Basins, the re-tally and the commit of bands (03_geometry_and_raster.md). -/
namespace Sys2Proof.Machine

/-! ## The commands of tiles and bands, each as the run of its effect -/

theorem exec_tileRasterStart (b : Fin 32) (s : State) : exec (.tileRasterStart b) s = s.run (tileRasterStartEffect b) := rfl

theorem exec_tileCheck (b : Fin 32) (u : Int) (err : Bool) (s : State) : exec (.tileCheck b u err) s = s.run (tileCheckEffect b u err) := rfl

theorem exec_tileReTally (band tile : Nat) (u : Int) (s : State) :
    exec (.tileReTally band tile u) s = s.run (tileReTallyEffect band tile u) := rfl

theorem exec_bandCommit (s : State) : exec .bandCommit s = s.run bandCommitEffect := rfl

/-! ## Tiles (R94, R95, R97) -/

/-- A free basin takes the first tile issued that waits for it. -/
theorem tileRasterStartEffect_issued {d : Device} {b : Nat} {t : Tile} (hup : d.unitUp 3 = true) (hstrip : d.stripThere = true)
    (ht : d.tilesInOrder.find? (fun t => t.state == .issued && d.basinFor t == some b) = some t) :
    tileRasterStartEffect b d = (d.setTile { t with state := .raster, basin := b }).itemIn 4 := by
  simp [tileRasterStartEffect, hup, hstrip, ht]

section check
variable {d : Device} {b : Nat} {j : Job} {p : PassRead} {t : Tile} (hj : d.job = some j) (hp : d.csc.raster = some p)
  (hup : d.unitUp 3 = true) (hstrip : d.stripThere = true) (hserve : d.tallyServes = true)
  (ht : d.csc.tiles.find? (fun t => t.state == .raster && t.basin == b) = some t)
include hj hp hup hstrip hserve ht

/-- With a strip that can be read, or the pool not in use, what the basin formed is judged; without a tally record it waits for the
re-tally. -/
theorem tileCheckEffect_readable (u : Int) (err : Bool) (hread : d.pcEn = true → d.badIn (d.stripAt j p.stripe) (d.stripLines j) = none) :
    tileCheckEffect b u err d =
      if err then d.setTile { t with state := .retally, noRec := true, result := some (d.rasterise j p t b u) }
      else d.judge p t (d.rasterise j p t b u) (d.tallyOf p.layer p.stripe t.band t.tile).classes := by
  have hbad : (if d.pcEn then d.badIn (d.stripAt j p.stripe) (d.stripLines j) else none) = none := by
    split
    next hen => exact hread hen
    next => rfl
  simp [tileCheckEffect, hj, hp, hup, hstrip, hserve, ht, hbad]

/-- A strip that cannot be read is an uncorrectable read, which is the pool's error. -/
theorem tileCheckEffect_badStrip (u : Int) (err : Bool) {la : Nat} (hen : d.pcEn = true)
    (hbad : d.badIn (d.stripAt j p.stripe) (d.stripLines j) = some la) :
    tileCheckEffect b u err d = (d.uncorrectable la 4).poolReadError la := by
  simp [tileCheckEffect, hj, hp, hup, hstrip, hserve, ht, hen, hbad]

end check

/-- A re-tally by another engine that agrees with an attempt of the tile takes that attempt's result: the errors of the basins are taken back,
and the engine that owns the tally is charged. -/
theorem tileReTallyEffect_agrees {d : Device} {band tile owner : Nat} {u : Int} {j : Job} {p : PassRead} {t : Tile} {r : BasinResult}
    (hj : d.job = some j) (hp : d.csc.raster = some p) (hup : d.unitUp 2 = true)
    (ht : d.csc.tiles.find? (fun t => t.state == .retally && t.band == band && t.tile == tile) = some t) (hrec : t.noRec = false)
    (howner : owner = d.engineFrom (d.tallyOf p.layer p.stripe band tile).owner)
    (hother : (List.range 16).any (fun e => e != owner && !d.engineRetired e) = true)
    (hr : t.tries.reverse.find? (fun r => passes r (retally (j.stripeAt p.stripe) t u)) = some r) :
    tileReTallyEffect band tile u d =
      (((d.raise 57).each t.tries (fun d r => d.unchargeBasin r.basin)).chargeOwner owner band).tileDone p t r := by
  subst howner
  simp only [tileReTallyEffect, hj, hp, hup, ht, hrec, hother, hr, Bool.not_true, Bool.false_eq_true, if_false]

/-! ## Bands (R98, R100, R103) -/

/-- A band whose rows go past the look-ahead is of the stripe in progress, and the look-ahead is drained. -/
theorem drained_of_bypasses {d : Device} {j : Job} {p : PassRead} {lo hi : Nat} (h : d.bypasses j p lo hi = true) :
    d.dbLevel = 0 ∧ p.stripe = j.stripe := by
  unfold Device.bypasses at h
  simp only [Bool.and_eq_true, beq_iff_eq] at h
  obtain ⟨⟨⟨⟨hlevel, -⟩, hstripe⟩, -⟩, -⟩ := h
  exact ⟨hlevel, hstripe⟩

theorem deepBand_withCsc (d : Device) (x : CscState) : ({ d with csc := x } : Device).deepBand = d.deepBand := rfl

theorem deepBand_showTiles (d : Device) : d.showTiles.deepBand = d.deepBand := deepBand_put d (.inl (by decide)) _

section commit
variable {d d1 d2 : Device} {j : Job} {p : PassRead} {lo hi : Nat} {rows : List (Nat × List Nat)}
  (hband : bandRows (j.stripeAt p.stripe).len d.csc.committed = (lo, hi))
  (hrows : rows = (List.range (hi - lo)).map (fun i => (lo + i, d.bandRow j (j.stripeAt p.stripe).len d.csc.committed (lo + i))))
  (hd1 : d1 = d.each rows (fun d r => d.putWords 5 (d.lookAddr j r.1) r.2))
  (hd2 : d2 = (({ d1 with csc := { d1.csc with
      committed := d.csc.committed + 1, tiles := d1.csc.tiles.filter (fun t => t.band != d.csc.committed) } } : Device).count 4 4
        ((d.csc.tiles.filter (fun t => t.band == d.csc.committed)).length)).showTiles)

include hband hrows hd1 hd2 in
/-- By bypass the rows of a band reach the Cistern without a change of the flag. -/
theorem bypass_of_rowsIntoCistern (hj : d.job = some j) (hbyp : d.bypasses j p lo hi = true) :
    (d2.each rows (fun d r => d.rowIntoCistern j r.1 r.2)).flag fBypass = d2.flag fBypass := by
  obtain ⟨hlevel, hstripe⟩ := drained_of_bypasses hbyp
  have hsame : d2.deepBand = d.deepBand := by
    rw [hd2, deepBand_showTiles, deepBand_count _ (by decide), deepBand_withCsc, hd1]
    exact deepBand_each d fun x r => deepBand_putWords x 5 _ r.2
  refine rowsIntoCistern_bypass (fun hne => ?_) (passesBy_of_deepBand (flag := d2.flag fBypass) hsame ⟨hj, hlevel, (deepBand_bypass hsame).symm⟩)
  have hcur : j.stripeAt p.stripe = j.cur := by rw [hstripe]; rfl
  have hpos : hi - lo ≠ 0 := fun h0 => hne (by rw [hrows, h0]; rfl)
  rw [hcur, bandRows, Prod.mk.injEq] at hband
  omega

include hband hrows hd1 hd2 in
/-- A band that is ready commits: to the look-ahead, by bypass to the Cistern too, and to the deep band where rows stay in it; the last band
ends the pass. -/
theorem bandCommitEffect_ready (hj : d.job = some j) (hp : d.csc.raster = some p) (hup3 : d.unitUp 3 = true) (hup4 : d.unitUp 4 = true)
    (hready : d.bandReady j p = true) (hserve : d.bandServes j p = true) {d3 d4 : Device}
    (hd3 : d3 = if d.bypasses j p lo hi then
        ((d2.each rows (fun d r => d.rowIntoCistern j r.1 r.2)).when
          (!(d2.each rows (fun d r => d.rowIntoCistern j r.1 r.2)).flag fBypass) (fun d => d.raise 67)).putFlag fBypass true
      else d2)
    (hd4 : d4 = if !d.bypasses j p lo hi || d3.keepsRows j then { d3 with cst := { d3.cst with
        runs := d3.cst.runs ++ [({ layer := p.layer, stripe := p.stripe, pass := p.pass, lo := lo, hi := hi } : DbRun)] } } else d3) :
    bandCommitEffect d =
      if d.csc.committed + 1 = bandsOf (j.stripeAt p.stripe).len then d4.showCistern.rasterPassEnds j p else d4.showCistern.issueTiles := by
  have hguard : (!d.unitUp 3 || !d.unitUp 4 || !d.bandReady j p || !d.bandServes j p) = false := by simp [hup3, hup4, hready, hserve]
  have hd3' : d3 = if d.bypasses j p lo hi then
        ((d2.each rows (fun d r => d.rowIntoCistern j r.1 r.2)).when (!d2.flag fBypass) (fun d => d.raise 67)).putFlag fBypass true
      else d2 := by
    rw [hd3]
    split
    next hbyp => rw [bypass_of_rowsIntoCistern hband hrows hd1 hd2 hj hbyp]
    next => rfl
  simp only [bandCommitEffect, hj, hp, hguard, hband, ← hrows, ← hd1, ← hd2, ← hd3', Bool.false_eq_true, if_false, beq_iff_eq]
  rw [hd4]
  rfl

end commit

/-- Settles O35: each command is the run of an effect whose guard holds, along the branch that the tile or the band names. -/
theorem basinsAndBandsTakeEffect : Obligations.BasinsAndBandsTakeEffect := by
  refine ⟨?start, ?check, ?reTally, ?commit⟩
  case start =>
    intro s d b t h hup hstrip ht
    rw [exec_tileRasterStart, run_finds h, tileRasterStartEffect_issued hup hstrip ht]
  case check =>
    intro s d b u j p t h hj hp hup hstrip hserve ht
    refine ⟨fun hread => ⟨?_, ?_⟩, fun la e hen hbad => ?_⟩
    · rw [exec_tileCheck, run_finds h, tileCheckEffect_readable hj hp hup hstrip hserve ht u false hread]
      rfl
    · rw [exec_tileCheck, run_finds h, tileCheckEffect_readable hj hp hup hstrip hserve ht u true hread]
      rfl
    · rw [exec_tileCheck, run_finds h, tileCheckEffect_badStrip hj hp hup hstrip hserve ht u e hen hbad]
  case reTally =>
    intro s d band tile u j p t r h hj hp hup ht hrec hother hr
    rw [exec_tileReTally, run_finds h, tileReTallyEffect_agrees hj hp hup ht hrec rfl hother hr]
  case commit =>
    intro s d d1 d2 d3 j p lo hi rows h hj hp hup3 hup4 hready hserve hband hrows hd1 hd2 hd3
    rw [exec_bandCommit, run_finds h, bandCommitEffect_ready hband hrows hd1 hd2 hj hp hup3 hup4 hready hserve hd3 rfl]

end Sys2Proof.Machine
end

section
/-! PROOFS: the corrections of the pool, the commit of its tables, and the reader, the refills and the scrubber of the Cistern
(04_dose_correction.md). -/
namespace Sys2Proof.Machine

/-! ## The commands of the pool and of the Cistern, each as the run of its effect -/

theorem exec_poolCorrectionStart (s : State) : exec .poolCorrectionStart s = s.run poolCorrectionStartEffect := rfl

theorem exec_poolCorrectionComplete (ringE stripE : Bool) (s : State) :
    exec (.poolCorrectionComplete ringE stripE) s = s.run (poolCorrectionCompleteEffect ringE stripE) := rfl

theorem exec_poolCommit (v : Word) (s : State) :
    exec (.poolCommit v) s = s.run (fun d => if d.unitUp 3 then writePoolCommit v.toNat d else d) := rfl

theorem exec_readerRowWrite (e : Bool) (s : State) : exec (.readerRowWrite e) s = s.run (readerRowWriteEffect e) := rfl

theorem exec_cisternRefillComplete (line : Nat) (e : Bool) (s : State) :
    exec (.cisternRefillComplete line e) s = s.run (cisternRefillCompleteEffect line e) := rfl

theorem exec_cisternScrub (es : List CellError) (s : State) : exec (.cisternScrub es) s = s.run (cisternScrubEffect es) := rfl

/-! ## Corrections (R134, R141, R144) -/

/-- A correction that is due begins at its stripe: a stripe with a snapshot has passed its raster boundary, and any other passes it now. -/
theorem poolCorrectionStartEffect_due {d d1 : Device} {j : Job} {k : Nat} (hj : d.job = some j) (hup : d.unitUp 3 = true)
    (hjob : d.inJob = true) (hen : d.pcEn = true) (hcorr : d.pool.corr = none) (hfail : d.flag fPoolFailed = false)
    (hk : d.correctionNext j = some k)
    (hd1 : d1 = ({ d with pool := { d.pool with corr := some (d.csc.nextLayer, k) } } : Device).putFlag fCorrRun true) :
    poolCorrectionStartEffect d =
      if d1.pool.snaps.any (fun x => x.layer == d1.csc.nextLayer && x.stripe == k) then d1.itemIn 5
      else (({ d1 with pool := { d1.pool with dens := d1.pool.dens.filter (fun e => decide (k - d1.poolLead j ≤ e.1)) } } : Device).rasterBoundary
        k d1.csc.nextLayer).itemIn 5 := by
  subst hd1
  simp [poolCorrectionStartEffect, hj, hup, hjob, hen, hcorr, hfail, hk]

section complete
variable {d : Device} {j : Job} {layer k : Nat} (hj : d.job = some j) (hup : d.unitUp 3 = true) (hcorr : d.pool.corr = some (layer, k))
  (hserve : d.regionServes (d.get36 POOL_REGION_BASE) (d.poolNeed j) = true)
include hj hup hcorr hserve

/-- An uncorrectable read of the ring fails the correction. -/
theorem poolCorrectionCompleteEffect_ring {ringE : Bool} (stripE : Bool) (h : ringE = true ∨ (d.ringBad j k).isSome = true) :
    poolCorrectionCompleteEffect ringE stripE d =
      ((((d.ringBad j k).elim d (fun la => d.uncorrectable la 4)).charge 6 0 1 k).2).poolFails (some (layer, k)) := by
  have hring : (ringE || (d.ringBad j k).isSome) = true := Bool.or_eq_true_iff.2 h
  simp [poolCorrectionCompleteEffect, hj, hcorr, hup, hserve, hring]

variable (hring : d.ringBad j k = none)
include hring

/-- An uncorrectable read of the strip alone is charged: the correction is made again, unless the charge is ignored. -/
theorem poolCorrectionCompleteEffect_strip :
    poolCorrectionCompleteEffect false true d =
      if (d.charge 6 0 0 k).1 = .ignored then (d.charge 6 0 0 k).2.poolFails (some (layer, k)) else (d.charge 6 0 0 k).2 := by
  simp only [poolCorrectionCompleteEffect, hj, hcorr, hup, hserve, hring, Option.isSome_none, Bool.not_true, Bool.or_self,
    Bool.false_eq_true, if_false, if_true]
  generalize d.charge 6 0 0 k = outcome
  obtain ⟨verdict, x⟩ := outcome
  cases verdict <;> rfl

/-- A correction without an error leaves its clamped factors, by the dose factor table of its stripe's snapshot. -/
theorem poolCorrectionCompleteEffect_clean {d1 : Device} {n : Nat} {dft : List Nat}
    (hn : n = ((d.filtered j k).filter (fun f => decide (f.2 < 0) || decide (131071 < f.2))).length)
    (hdft : dft = ((d.pool.snaps.find? (fun x => x.layer == layer && x.stripe == k)).getD (d.poolSnap k layer)).dft)
    (hd1 : d1 = if 0 < n then (d.bumpBy (whole POOL_F_CLAMP) n).raise 76 else d.bumpBy (whole POOL_F_CLAMP) n) :
    poolCorrectionCompleteEffect false false d =
      let d2 := ({ d1 with pool := { d1.pool with corr := none, q := d1.pool.q ++ [((layer, k),
        (d.filtered j k).map (fun f => (f.1, factorOf dft (max 0 (min f.2 131071)).toNat)))] } } : Device).fillPool.rewriteRegion (d1.stripAt j k) (d1.stripLines j)
      let d3 := d2.rewriteRegion (d2.get36 POOL_REGION_BASE + d2.ringLines j + 2 * d2.stripLines j) (d2.poolNeed j - d2.ringLines j - 2 * d2.stripLines j)
      ((((d3.putFlag fCorrRun false).recovered 6 0).itemOut 5).raise 72).showPoolWeir := by
  have hwhen : (d.bumpBy (whole POOL_F_CLAMP) n).when (decide (0 < n)) (fun x => x.raise 76) = d1 := by
    simp only [hd1, Device.when, decide_eq_true_eq]
  simp only [poolCorrectionCompleteEffect, hj, hcorr, hup, hserve, hring, ← hn, ← hdft, hwhen, Option.isSome_none, Bool.not_true,
    Bool.or_self, Bool.false_eq_true, if_false]
  rfl

end complete

/-! ## The commit of the pool tables (R140, R142) -/

/-- The tables written 1 pend beside those that did; outside a job all of them switch at once, and in a job where the raster boundary of
this clock has passed. -/
theorem writePoolCommit_eq {d d1 : Device} {v : Nat}
    (hd1 : d1 = d.each (List.range 4) (fun d t => if bitOf v t && !d.flag (fPoolPending t) then (d.putFlag (fPoolPending t) true).pendTable t else d)) :
    writePoolCommit v d =
      if d1.inJob then (d1.boundaryNow d1.tbl.raster).elim d1 (fun p => d1.switchRaster p.1 p.2)
      else d1.switchPool wordMax wordMax clsImmediate := by
  subst hd1
  unfold writePoolCommit Device.when
  dsimp only
  generalize Device.each d _ _ = x
  cases x.inJob with
  | false => rfl
  | true => cases x.boundaryNow x.tbl.raster <;> rfl

/-! ## The reader (R104, R105, R337) -/

section reader
variable {d : Device} {j k : Job} {u : Nat} (hj : d.job = some j) (hup : d.unitUp 4 = true) (hjob : d.inJob = true)
  (htally : j.cur.tallyOnly = false) (hlost : d.mem.bandLost = false) (hnext : d.nextRead j = some (k, u))
  (hlook : d.memServes (d.lookAddr k u) k.width = true) (hmirror : d.memServes (d.mirrorAddr (k.rowAddr u)) k.width = true)
include hj hup hjob htally hlost hnext hlook hmirror

/-- The reader moves a row that module memory gives. -/
theorem readerRowWriteEffect_good (hread : d.readBad 6 (d.lookAddr k u) k.width = false) :
    readerRowWriteEffect false d =
      ((d.memUse (d.lookAddr k u) k.width).rowIntoCistern k u (d.dramWords (d.lookAddr k u) k.width)).issueTiles := by
  simp [readerRowWriteEffect, hj, hup, hjob, htally, hlost, hnext, hlook, hmirror, hread]

/-- A row that module memory does not give leaves the deep band unreadable. -/
theorem readerRowWriteEffect_bad {e : Bool} (h : e = true ∨ d.readBad 6 (d.lookAddr k u) k.width = true) :
    readerRowWriteEffect e d = (d.readMet 6 (d.lookAddr k u) k.width).bandUnreadable := by
  simp [readerRowWriteEffect, hj, hup, hjob, htally, hlost, hnext, hlook, hmirror, h]

end reader

/-! ## Refills and the scrubber (R108, R109, R337) -/

section refill
variable {d d1 : Device} {line bank : Nat} (hfind : d.cst.refill.find? (fun r => r.1 == line) = some (line, bank))
  (hup : d.unitUp 4 = true) (hserve : d.memServes (d.mirrorAddr (64 * line)) 64 = true)
  (hd1 : d1 = ({ d with cst := { d.cst with
    refill := d.cst.refill.filter (fun r => r.1 != line), first := d.cst.first.filter (fun l => l != line) } } : Device).putFlag fRefill
      (!(d.cst.refill.filter (fun r => r.1 != line)).isEmpty))
include hfind hup hserve hd1

/-- A refill restores its line from the mirror; of a bank in recovery, that is the recovery. -/
theorem cisternRefillCompleteEffect_good {d2 : Device} (hread : d1.readBad 7 (d1.mirrorAddr (64 * line)) 64 = false)
    (hd2 : d2 = ((d1.memUse (d1.mirrorAddr (64 * line)) 64).putCistern (64 * line) (d1.dramWords (d1.mirrorAddr (64 * line)) 64)).setWritten [line]) :
    cisternRefillCompleteEffect line false d = if bank < 1024 then d2.recovered 5 bank else d2 := by
  simp only [cisternRefillCompleteEffect, hfind, hup, hserve, ← hd1, hread, ← hd2, Bool.not_true, Bool.or_self, Bool.false_eq_true, if_false]

/-- A line that the mirror does not give leaves the deep band unreadable. -/
theorem cisternRefillCompleteEffect_bad {e : Bool} (h : e = true ∨ d1.readBad 7 (d1.mirrorAddr (64 * line)) 64 = true) :
    cisternRefillCompleteEffect line e d = (d1.readMet 7 (d1.mirrorAddr (64 * line)) 64).bandUnreadable := by
  have hread : (e || d1.readBad 7 (d1.mirrorAddr (64 * line)) 64) = true := Bool.or_eq_true_iff.2 h
  simp only [cisternRefillCompleteEffect, hfind, hup, hserve, ← hd1, hread, Bool.not_true, Bool.or_self, Bool.false_eq_true, if_false, if_true]

end refill

/-- The scrubber handles the errors of its entry and goes on to the next one. -/
theorem cisternScrubEffect_up {d d1 : Device} {es : List CellError} (hup : d.unitUp 4 = true)
    (hd1 : d1 = d.each (es.filter (fun e => (32 * e.line + e.pair.val) / 1024 == d.cst.scrub)) (fun d e => d.cellError e 0x1FF)) :
    cisternScrubEffect es d = { d1 with cst := { d1.cst with scrub := (d1.cst.scrub + 1) % 49152 } } := by
  simp only [cisternScrubEffect, hup, ← hd1, Bool.not_true, Bool.false_eq_true, if_false]

/-- Settles O36: each command is the run of an effect whose guard holds, along the branch that the reads of the memories name. -/
theorem poolAndCisternTakeEffect : Obligations.PoolAndCisternTakeEffect := by
  refine ⟨?begins, ?completes, ?fails, ?commit, ?reader, ?refill, ?scrub⟩
  case begins =>
    intro s d d1 j k h hj hup hjob hen hcorr hfail hk hd1
    rw [exec_poolCorrectionStart, run_finds h, poolCorrectionStartEffect_due hj hup hjob hen hcorr hfail hk hd1]
  case completes =>
    intro s d d1 j layer k n dft h hj hup hcorr hserve hring hn hdft hd1
    rw [exec_poolCorrectionComplete, run_finds h, poolCorrectionCompleteEffect_clean hj hup hcorr hserve hring hn hdft hd1]
  case fails =>
    intro s d j layer k ringE stripE h hj hup hcorr hserve
    refine ⟨fun hbad => ?_, ?_⟩
    · rw [exec_poolCorrectionComplete, run_finds h, poolCorrectionCompleteEffect_ring hj hup hcorr hserve stripE hbad]
    · rintro rfl hring rfl
      rw [exec_poolCorrectionComplete, run_finds h, poolCorrectionCompleteEffect_strip hj hup hcorr hserve hring]
  case commit =>
    intro s d d1 v h hup hd1
    rw [exec_poolCommit, run_guarded h (g := fun d => d.unitUp 3) hup, run_finds h, writePoolCommit_eq hd1]
  case reader =>
    intro s d j k u h hj hup hjob htally hlost hnext hlook hmirror
    refine ⟨fun hread => ?_, fun e hread => ?_⟩
    · rw [exec_readerRowWrite, run_finds h, readerRowWriteEffect_good hj hup hjob htally hlost hnext hlook hmirror hread]
    · rw [exec_readerRowWrite, run_finds h, readerRowWriteEffect_bad hj hup hjob htally hlost hnext hlook hmirror hread]
  case refill =>
    intro s d d1 d2 line bank h hfind hup hserve hd1 hd2
    refine ⟨fun hread => ?_, fun e hread => ?_⟩
    · rw [exec_cisternRefillComplete, run_finds h, cisternRefillCompleteEffect_good hfind hup hserve hd1 hread hd2]
    · rw [exec_cisternRefillComplete, run_finds h, cisternRefillCompleteEffect_bad hfind hup hserve hd1 hread]
  case scrub =>
    intro s d d1 es h hup hd1
    rw [exec_cisternScrub, run_finds h, cisternScrubEffect_up hup hd1]

end Sys2Proof.Machine
end

section
/-! PROOFS: the rills: their flashes and boundaries, the commits of their tables and the checks of these, and the spares
(05_beam_expansion.md). -/
namespace Sys2Proof.Machine

/-! ## The commands of the rills, each as the run of its effect -/

theorem exec_rillFlashStart (k : Fin 256) (cells : List CellError) (f : Option RillFault) (s : State) :
    exec (.rillFlashStart k cells f) s = s.run (rillFlashStartEffect k cells f) := rfl

theorem exec_rillFlashDone (k : Fin 256) (s : State) : exec (.rillFlashDone k) s = s.run (rillFlashDoneEffect k) := rfl

theorem exec_spareLoadDone (g : Fin 8) (s : State) : exec (.spareLoadDone g) s = s.run (spareLoadDoneEffect g) := rfl

theorem exec_rillBoundary (s : State) : exec .rillBoundary s = s.run rillBoundaryEffect := rfl

theorem exec_rilCommit (v : Word) (s : State) :
    exec (.rilCommit v) s = s.run (fun d => if d.unitUp 5 then writeRilCommit v.toNat d else d) := rfl

theorem exec_commitCheckDone (s : State) : exec .commitCheckDone s = s.run commitCheckDoneEffect := rfl

theorem exec_rilGrpForce (g : Fin 8) (v : Word) (s : State) :
    exec (.rilGrpForce g v) s = s.run (fun d => if d.unitUp (5 + g.val) then writeRilForce g v.toNat d else d) := rfl

theorem exec_rilStuckAck (v : Word) (s : State) :
    exec (.rilStuckAck v) s = s.run (fun d => if d.unitUp 5 then writeStuckAck v.toNat d else d) := rfl

/-! ## A flash begins (R108, R159, R177) -/

/-- The flash that the rill of a slot begins next, in the pass of the job in which it lies. Proved without reducing the
bind, which would have the kernel compute the number of the flash. -/
theorem bind_nextRill {d : Device} {j0 j : Job} {k n : Nat} (hjob : d.job = some j0) (hnext : j0.atFseq (d.nextRill j0 k) = some (j, n)) :
    d.job.bind (fun j => j.atFseq (d.nextRill j k)) = some (j, n) := Option.bind_eq_some_iff.2 ⟨j0, hjob, hnext⟩

/-- A flash that is ready reads the Cistern: a line that is not written bars it, a fault that the checks of the rill show discards it, and
otherwise the rill computes it. -/
theorem rillFlashStartEffect_ready {d d1 : Device} {j0 j : Job} {k n rill : Nat} {cells : List CellError} (f : Option RillFault)
    (hjob : d.job = some j0) (hnext : j0.atFseq (d.nextRill j0 k) = some (j, n)) (hload : d.ril.loading.contains k = false)
    (hready : d.rillReady j k n = true) (hrill : rill = 33 * (k / 32) + d.reg (RIL_GRP_SLOT k) % 64)
    (hd1 : d1 = d.rillReads rill (d.slotLines j k n) cells) :
    rillFlashStartEffect k cells f d =
      ((d.slotLines j k n).find? (fun l => !d1.lineWritten l)).elim
        ((f.bind (d1.faultBeam j k n)).elim (d1.rillComputes j k rill n f) (d1.rillFault j k n)) (fun l => d1.barFlash rill l (j.fseq n)) := by
  simp only [rillFlashStartEffect, bind_nextRill hjob hnext, hload, hready, ← hrill, ← hd1, Bool.not_true, Bool.false_eq_true, if_false]
  cases (d.slotLines j k n).find? (fun l => !d1.lineWritten l) with
  | some l => rfl
  | none => cases f.bind (d1.faultBeam j k n) <;> rfl

/-! ## A flash is done, a spare is loaded, a boundary is due (R159, R182, R185) -/

/-- The codes of a flash that is done enter the slot's buffer, and its first flash ends the switch of a slot. -/
theorem rillFlashDoneEffect_computed {d d1 d2 : Device} {j : Job} {k : Nat} {x : RillJob} (hjob : d.job = some j)
    (hx : d.ril.jobs.find? (fun x => x.slot == k) = some x) (hup : d.unitUp (5 + k / 32) = true)
    (hd1 : d1 = (({ d with
      ril := { d.ril with jobs := d.ril.jobs.filter (fun y => y.slot != k) },
      slotBuf := d.slotBuf ++ [({ slot := k, n := x.n, fseq := x.fseq, codes := x.codes } : SlotFlash)] } : Device).recovered 7 x.rill).itemOut 7)
    (hd2 : d2 = d1.countClamps ((j.atFseq x.fseq).map (fun p => p.1.key)) x.clamps) :
    rillFlashDoneEffect k d =
      if d2.ril.switching.contains k && x.rill == 33 * (k / 32) + d2.reg (RIL_GRP_SLOT k) % 64 then
        ({ d2.endSwitch k with ril := { (d2.endSwitch k).ril with forced := (d2.endSwitch k).ril.forced.filter (fun m => m != k) } } :
          Device).completeWhere (fun w => w == Wait.rillForce k) sOK 0 []
      else d2 := by
  subst hd1 hd2
  simp only [rillFlashDoneEffect, hjob, hx, hup, Bool.not_true, Bool.false_eq_true, if_false]

/-- What a loaded spare leaves: its group loads no more, and the job and the slot buffers are as before. -/
theorem spareLoadDoneEffect_up {d : Device} {g : Nat} (hup : d.unitUp (5 + g) = true) :
    (spareLoadDoneEffect g d).ril.loading = d.ril.loading.filter (fun k => k / 32 != g) ∧
      (spareLoadDoneEffect g d).job = d.job ∧ (spareLoadDoneEffect g d).slotBuf = d.slotBuf := by
  simp only [spareLoadDoneEffect, hup, Bool.not_true, Bool.false_eq_true, if_false, and_self]

/-- The boundary that is due switches the pending tables and flash delays. -/
theorem rillBoundaryEffect_due {d d1 : Device} {j : Job} (hdue : d.boundaryDue = some j)
    (hd1 : d1 = (({ d with
      ril := { d.ril with boundary := some j.key, old := if d.job.any j.samePass then none else some d.rillTables },
      tbl := { d.tbl with rill := some (d.clock, j.stripe, j.layer) } } : Device).setReg RIL_BOUNDARY j.stripe).setReg (RIL_BOUNDARY + 4) j.layer) :
    rillBoundaryEffect d = (d1.switchRill j.stripe j.layer clsStripe).switchFls clsStripe j.stripe := by
  subst hd1
  simp only [rillBoundaryEffect, hdue]

/-! ## Commits and their checks (R186, R187) -/

/-- A commit outside a job whose masks are in range switches its tables at once. -/
theorem writeRilCommit_outsideJob {d : Device} {v : Nat} (hv : v % 16 ≠ 0) (hjob : d.inJob = false)
    (hmask : (if maskBit (v % 16) 1 then d.maskRange RIL_MASK else none) = none) :
    writeRilCommit v d =
      (d.each (List.range 4) (fun d t => d.when (maskBit (v % 16) t)
        (fun d => (d.putFlag (fRilRefused t) false).putFlag (fRilPending t) true))).switchRill wordMax wordMax clsImmediate := by
  simp only [writeRilCommit, hjob, hmask, beq_eq_false_iff_ne.2 hv, Bool.not_false, Bool.false_eq_true, if_false, if_true]

/-- The tables that were held during a check go into the next one. -/
def Device.checkHeld (d : Device) : Device :=
  if d.ril.held = 0 then d else ({ d with ril := { d.ril with held := 0 } } : Device).startCheck d.ril.held

/-- The running check ends: one that fails sets REFUSED of its tables and ends the commands that wait for it; one that passes clears
REFUSED, and its tables pend to the boundary in a job and switch outside one. -/
theorem commitCheckDoneEffect_eq {d d1 d2 : Device} {m : Nat} {mine : List Nat} {fail ranges : Option (Nat × Nat)}
    (hcheck : d.ril.check = some m) (hup : d.unitUp 5 = true) (hmine : mine = (List.range 4).filter (fun t => maskBit m t))
    (hd1 : d1 = ({ d with ril := { d.ril with check := none } } : Device).putFlag fCheckRun false)
    (hranges : ranges = if maskBit m 1 || d.flag (fRilPending 1) then (d1.maskRange RIL_MASK).map (fun i => (ckMASK_RANGE, i)) else none)
    (hfail : fail = if d1.inJob then d1.job.elim ranges (fun j => d1.rillCheck j (fun t => maskBit m t || d.flag (fRilPending t))) else ranges)
    (hd2 : d2 = ((d1.each mine (fun d t => d.putFlag (fRilRefused t) false)).pendRill mine).checkEnds m none) :
    commitCheckDoneEffect d =
      (fail.elim (if d2.inJob then d2.rillMeets else d2.switchRill wordMax wordMax clsJob) (fun found =>
        ((d1.each mine (fun d t => d.putFlag (fRilRefused t) true)).checkFailed found.1 found.2).checkEnds m (some found.1))).checkHeld := by
  unfold commitCheckDoneEffect
  rw [hcheck]
  change (if !d.unitUp 5 then d else _) = _
  rw [if_neg (by rw [hup]; exact Bool.false_ne_true)]
  extract_lets tables mine' _ cleared ranges' fail' passed ended
  have hcleared : cleared = d1 := hd1.symm
  have hmine' : mine' = mine := hmine.symm
  have hranges' : ranges' = ranges := by rw [hranges, ← hcleared]
  have hfail' : fail' = fail := by
    simp only [fail', tables, hfail, hcleared, hranges']
    cases d1.job with
    | none => rw [Option.elim_none, ite_self]
    | some j => rw [Option.elim_some]
  have hpassed : passed = d2 := by rw [hd2, ← hcleared, ← hmine']
  have hended : ended = fail.elim (if d2.inJob then d2.rillMeets else d2.switchRill wordMax wordMax clsJob) (fun found =>
      ((d1.each mine (fun d t => d.putFlag (fRilRefused t) true)).checkFailed found.1 found.2).checkEnds m (some found.1)) := by
    simp only [ended, hfail', hpassed, hcleared, hmine']
    cases fail <;> rfl
  rw [← hended]
  simp only [beq_iff_eq]
  rfl

/-! ## Forced switches and stuck beams (R165, R183) -/

/-- A forced switch that is taken moves its slot to the free rill. -/
theorem writeRilForce_taken {d d1 : Device} {g v : Nat} (htaken : d.forceTaken g v = true)
    (hd1 : d1 = d.switchIn (32 * g + v % 32) (d.reg (RIL_GRP_SLOT (32 * g + v % 32)) % 64)) :
    writeRilForce g v d = { d1 with ril := { d1.ril with forced := d1.ril.forced ++ [32 * g + v % 32] } } := by
  subst hd1
  simp only [writeRilForce, htaken, Bool.not_true, Bool.false_eq_true, if_false]

/-- An acknowledgement that is taken clears STUCK_HOLD. -/
theorem writeStuckAck_taken {d : Device} {v : Nat} (hv : bitOf v 0 = true) (htaken : d.ackTaken = true) :
    writeStuckAck v d = ({ d with ril := { d.ril with acked := true } } : Device).putFlag fStuckHold false :=
  if_pos (Bool.and_eq_true_iff.2 ⟨hv, htaken⟩)

/-- Settles O31: each command is the run of an effect whose guard holds, along the branch that the flash, the check or the switch names. -/
theorem rillsTakeEffect : Obligations.RillsTakeEffect := by
  refine ⟨?flash, ?done, ?loaded, ?boundary, ?commit, ?check, ?force, ?ack⟩
  case flash =>
    intro s d d1 j0 j k n rill cells f h hjob hnext hload hready hrill hd1
    rw [exec_rillFlashStart, run_finds h, rillFlashStartEffect_ready f hjob hnext hload hready hrill hd1]
    refine ⟨fun hline hfault => ?_, fun b hline hfault => ?_, fun l hline => ?_⟩
    · rw [hline, hfault, Option.elim_none, Option.elim_none]
    · rw [hline, hfault, Option.elim_none, Option.elim_some]
    · rw [hline, Option.elim_some]
  case done =>
    intro s d d1 d2 j k x h hjob hx hup hd1 hd2
    rw [exec_rillFlashDone, run_finds h, rillFlashDoneEffect_computed hjob hx hup hd1 hd2]
  case loaded =>
    intro s d g h hup
    obtain ⟨hload, hjob, hbuf⟩ := spareLoadDoneEffect_up hup
    exact ⟨_, run_finds h (spareLoadDoneEffect g), (congrArg RilState.loading (settle_ril _)).trans hload, (settle_job _).trans hjob,
      (settle_slotBuf _).trans hbuf⟩
  case boundary =>
    intro s d d1 j h hdue hd1
    rw [exec_rillBoundary, run_finds h, rillBoundaryEffect_due hdue hd1]
  case commit =>
    intro s d v h hup hv hjob hmask
    rw [exec_rilCommit, run_guarded h (g := fun d => d.unitUp 5) hup, run_finds h, writeRilCommit_outsideJob hv hjob hmask]
  case check =>
    intro s d d1 d2 d3 m mine fail ranges h hcheck hup hmine hd1 hranges hfail hd2 hd3
    rw [exec_commitCheckDone, run_finds h, commitCheckDoneEffect_eq hcheck hup hmine hd1 hranges hfail hd2, hd3]
    cases fail with
    | none => rfl
    | some found => rfl
  case force =>
    intro s d d1 g v h hup htaken hd1
    rw [exec_rilGrpForce, run_guarded h (g := fun d => d.unitUp (5 + g.val)) hup, run_finds h, writeRilForce_taken htaken hd1]
  case ack =>
    intro s d v h hup hv htaken
    rw [exec_rilStuckAck, run_guarded h (g := fun d => d.unitUp 5) hup, run_finds h, writeStuckAck_taken hv htaken]

end Sys2Proof.Machine
end

section
/-! PROOFS: the passport bus where it answers (06_beam_lanes.md). -/
namespace Sys2Proof.Machine

/-! ## The commands of the passport bus, each as the run of its effect -/

theorem exec_passportResponse (bytes : List Byte) (s : State) :
    exec (.passportResponse bytes) s = s.run (passportResponseEffect bytes) := rfl

theorem exec_passportPoll (acknowledged : Bool) (s : State) :
    exec (.passportPoll acknowledged) s = s.run (passportPollEffect acknowledged) := rfl

theorem exec_passportRetry (s : State) : exec .passportRetry s = s.run passportRetryEffect := rfl

/-! ## A response, a silent poll and another try (R238, R240, R242) -/

/-- A good IDENTIFY response is kept, and CHALLENGE follows with a fresh nonce. -/
theorem passportResponseEffect_identified {d : Device} {bytes : List Byte} {p : List Nat} (hcmd : d.lne.pp.cmd = 1)
    (hp : ppPayload (bytes.map (fun b => b.toNat)) 208 = some p) (hne : bytes ≠ []) :
    passportResponseEffect bytes d =
      (d.nextFree.mapPp (fun q => { q with
        serial := p.take 16, makerKey := (p.drop 16).take 64, devKey := (p.drop 80).take 64, cert := p.drop 144,
        nonce := d.freshNonce })).ppSend 2 d.freshNonce := by
  have hread : (bytes.map (fun b => b.toNat)).isEmpty = false := by simpa using hne
  have hopen : (d.lne.pp.cmd == 0) = false := by rw [hcmd]; rfl
  have hidentify : (d.lne.pp.cmd == 1) = true := by rw [hcmd]; rfl
  simp only [passportResponseEffect, hopen, hidentify, hread, hp, Bool.false_eq_true, if_false, if_true]

/-- A transaction that stays unacknowledged for 500 ms fails with TIMEOUT. -/
theorem passportPollEffect_silent {d : Device} (hcmd : d.lne.pp.cmd ≠ 0) (hdue : d.lne.pp.since + 400000000 ≤ d.clock) :
    passportPollEffect false d = d.ppFails ppTimeout := by
  have hopen : (d.lne.pp.cmd == 0) = false := beq_eq_false_iff_ne.2 hcmd
  have hlate : decide (d.clock < d.lne.pp.since + 400000000) = false := decide_eq_false (Nat.not_lt.2 hdue)
  simp only [passportPollEffect, hopen, hlate, Bool.or_self, Bool.false_eq_true, if_false]

/-- A retry that has fallen due sends ADD_USAGE. -/
theorem passportRetryEffect_due {d : Device} {t : Nat} (hretry : d.lne.pp.retryAt = some t) (hdue : t ≤ d.clock) :
    passportRetryEffect d = d.ppAddUsage := by
  simp only [passportRetryEffect, hretry, if_neg (Nat.not_lt.2 hdue)]

/-- Settles O27: each command is the run of an effect whose transaction is open, or whose time has come. -/
theorem passportBusTakesEffect : Obligations.PassportBusTakesEffect := by
  refine ⟨?identified, ?silent, ?retry⟩
  case identified =>
    intro s d bytes p h hcmd hp hne
    rw [exec_passportResponse, run_finds h, passportResponseEffect_identified hcmd hp hne]
  case silent =>
    intro s d h hcmd hdue
    rw [exec_passportPoll, run_finds h, passportPollEffect_silent hcmd hdue]
  case retry =>
    intro s d t h hretry hdue
    rw [exec_passportRetry, run_finds h, passportRetryEffect_due hretry hdue]

end Sys2Proof.Machine
end

section
/-! PROOFS: what a lane receives: ACK, STATUS and MARKER blocks, faulty blocks, loopback, and the losses of signal and of STATUS
(06_beam_lanes.md). -/
namespace Sys2Proof.Machine

/-! ## The commands of the back channel, each as the run of its effect -/

theorem exec_ackBlock (n : Fin 72) (b : RxBlock) (s : State) : exec (.ackBlock n b) s = s.run (fun d => d.receiveBlock n b) := rfl

theorem exec_statusBlock (n : Fin 72) (b : RxBlock) (s : State) :
    exec (.statusBlock n b) s = s.run (fun d => d.receiveBlock n b) := rfl

theorem exec_marker (n : Fin 72) (b : RxBlock) (s : State) :
    exec (.marker n b.idles b.codeword) s = s.run (fun d => d.receiveBlock n b) := rfl

theorem exec_blockCrcError (n : Fin 72) (b : RxBlock) (s : State) :
    exec (.blockCrcError n b) s = s.run (fun d => d.receiveBlock n b) := rfl

theorem exec_statusStale (s : State) : exec .statusStale s = s.run statusStaleEffect := rfl

theorem exec_los (n : Fin 72) (s : State) : exec (.los n) s = s.run (lossEffect n 7 true) := rfl

theorem exec_lol (n : Fin 72) (s : State) : exec (.lol n) s = s.run (lossEffect n 8 false) := rfl

/-! ## A block of a lane that hears its back channel (R210, R211, R225) -/

section hears
variable {d : Device} {n : Nat} {b : RxBlock} (hhears : d.laneHears n = true) (hloop : d.laneSt n ≠ laneLoopback)
include hhears hloop

/-- A block that passes its checks is taken; a BSEQ that does not follow is its error, or else the first one in its content. -/
theorem receiveBlock_clean {w : BitVec 5140} {x : LaneRx} (hw : b.codeword = .message w)
    (hclean : blockClean (d.arrayPort n) w.toNat = true) (hx : x = (d.rxOf n).skip b.idles)
    {err : Option (Nat × Nat × Nat)} {d1 : Device} (htake : (d.setRx n (x.take w.toNat)).takeBlock n w.toNat = (err, d1)) :
    d.receiveBlock n b = d1.rxEnd n (if x.gap w.toNat then some (6, (d.carried n).getD 0, noFseq) else err) := by
  subst hx
  simp only [Device.receiveBlock, beq_eq_false_iff_ne.2 hloop, hhears, hw, hclean, htake, Bool.and_false, Bool.not_true,
    Bool.false_eq_true, if_false]

/-- A block that fails a check is BLOCK_CRC. -/
theorem receiveBlock_faulty {w : BitVec 5140} {x : LaneRx} (hw : b.codeword = .message w)
    (hfault : blockClean (d.arrayPort n) w.toNat = false) (hx : x = (d.rxOf n).skip b.idles) :
    d.receiveBlock n b = (d.setRx n (x.skip 1)).rxEnd n (some (5, (d.carried n).getD 0, noFseq)) := by
  subst hx
  simp only [Device.receiveBlock, beq_eq_false_iff_ne.2 hloop, hhears, hw, hfault, Bool.and_false, Bool.not_true, Bool.not_false,
    Bool.false_eq_true, if_false, if_true]

/-- A codeword that could not be corrected counts in FEC_UNCORR and is its own cause. -/
theorem receiveBlock_uncorrectable {x : LaneRx} (hw : b.codeword = .uncorrectable) (hx : x = (d.rxOf n).skip b.idles) :
    d.receiveBlock n b =
      ((d.bump (whole (LNE_LANE_FEC_UNCORR n))).setRx n { x.skip 1 with bad := x.bad + 1 }).rxEnd n
        (some (4, (d.carried n).getD 0, noFseq)) := by
  subst hx
  simp only [Device.receiveBlock, beq_eq_false_iff_ne.2 hloop, hhears, hw, Bool.and_false, Bool.not_true, Bool.false_eq_true, if_false]

end hears

/-! ## The content of a block, by its type (R216 to R219) -/

section content
variable {d : Device} {n m : Nat}

theorem takeBlock_ack (hm : msgType m = btACK) : d.takeBlock n m = d.takeAcks n (ackEntries m) :=
  if_pos (beq_iff_eq.2 hm)

theorem takeBlock_status (hm : msgType m = btSTATUS) : d.takeBlock n m = (none, d.takeStatus n (statusOf m)) := by
  rw [Device.takeBlock, hm]
  rfl

theorem takeBlock_marker (hm : msgType m = btMARKER) :
    d.takeBlock n m = (none, { d with lne := { d.lne with
      markers := (n, msgWord m 1 + msgWord m 2 * 262144) :: d.lne.markers.filter (fun p => p.1 != n) } }) := by
  rw [Device.takeBlock, hm]
  rfl

end content

/-! ## Loopback (R232) -/

/-- A lane in loopback compares what it receives with the PRBS31. -/
theorem receiveBlock_looped {d : Device} {n : Nat} (b : RxBlock) (hup : d.unitUp 18 = true) (hloop : d.laneSt n = laneLoopback) :
    d.receiveBlock n b = d.takeLooped n b :=
  if_pos (by rw [hup, hloop]; rfl)

/-- A body that differs from the PRBS31 counts in LB_ERR. A variable stands for the generator, which the kernel would else run
for the 5,112 bits of a block. -/
theorem takeLooped_differs {d : Device} {n : Nat} {b : RxBlock} {w : BitVec 5140} {g c : Nat} {body : List Nat} {c1 : Nat}
    (hidle : b.idles = 0) (hw : b.codeword = .message w) (hm : msgType w.toNat ≠ btMARKER) (hprbs : d.prbsOf n = (g, c))
    (hbody : prbsBody c = (body, c1)) (hdiff : msgBody w.toNat ≠ body) :
    d.takeLooped n b = (d.setPrbs n (g, c1)).bump (whole (LNE_LANE_LB_ERR n)) := by
  obtain ⟨generator, hgenerator⟩ : ∃ f, f = prbsBody := ⟨_, rfl⟩
  have htake : Device.takeLooped = Device.takeLooped := rfl
  conv_rhs at htake => delta Device.takeLooped
  rw [← hgenerator] at hbody htake
  rw [htake]
  simp only [hprbs, hidle, List.range_zero, List.foldl_nil, hbody, hw, beq_eq_false_iff_ne.2 hm, bne_iff_ne.2 hdiff, Device.when,
    Bool.false_eq_true, if_false, if_true]

/-! ## Losses of signal, and STATUS that stays out (R219, R233) -/

/-- STATUS that has stayed out for 1 ms is STALE. -/
theorem statusStaleEffect_due {d : Device} (hup : d.unitUp 18 = true) (hdue : d.lne.lastStatus + 800000 ≤ d.clock)
    (hfresh : d.flag fStale = false) : statusStaleEffect d = (d.putFlag fStale true).headTemp :=
  if_pos (by rw [hup, decide_eq_true hdue, hfresh]; rfl)

/-- LOS or LOL of a lane in use is its error, and of another lane shows in its STATE. -/
theorem lossEffect_up {d : Device} {n cause : Nat} {los : Bool} (hup : d.unitUp 18 = true) :
    lossEffect n cause los d =
      if d.laneLive n then d.laneLost n cause los else d.putFlag (if los then fLaneLos n else fLaneLol n) true := by
  simp only [lossEffect, hup, Bool.not_true, Bool.false_eq_true, if_false]

/-- Settles O29: each block is taken by its codeword, its checks and its type, and each loss along the guard that holds. -/
theorem laneInputsTakeEffect : Obligations.LaneInputsTakeEffect := by
  refine ⟨?good, ?stale, ?loss, ?faulty, ?uncorrectable, ?looped⟩
  case good =>
    intro s d n b w x h hhears hloop hw hclean hx
    refine ⟨fun htype => ?_, fun htype d1 hd1 => ?_⟩
    · rw [exec_statusBlock, run_finds h, receiveBlock_clean hhears hloop hw hclean hx (takeBlock_status htype)]
    · rw [exec_marker, run_finds h, hd1, receiveBlock_clean hhears hloop hw hclean hx (takeBlock_marker htype)]
  case stale =>
    intro s d h hup hdue hfresh
    rw [exec_statusStale, run_finds h, statusStaleEffect_due hup hdue hfresh]
  case loss =>
    intro s d n h hup
    refine ⟨?_, ?_⟩
    · rw [exec_los, run_finds h, lossEffect_up hup, if_pos rfl]
    · rw [exec_lol, run_finds h, lossEffect_up hup, if_neg Bool.false_ne_true]
  case faulty =>
    intro s d n b w x h hhears hloop hw hfault hx
    rw [exec_blockCrcError, run_finds h, receiveBlock_faulty hhears hloop hw hfault hx]
  case uncorrectable =>
    intro s d n b x h hhears hloop hw hx
    rw [exec_blockCrcError, run_finds h, receiveBlock_uncorrectable hhears hloop hw hx]
  case looped =>
    intro s d n b w g c body c1 h hup hloop hidle hw hm hprbs hbody hdiff
    rw [exec_blockCrcError, run_finds h, receiveBlock_looped b hup hloop, takeLooped_differs hidle hw hm hprbs hbody hdiff]

end Sys2Proof.Machine
end

section
/-! PROOFS: frames and FLUSHes on the lanes, their echoes, time-outs and replays (06_beam_lanes.md). -/
namespace Sys2Proof.Machine

/-! ## The commands of the frames, each as the run of its effect -/

theorem exec_frameSend (n : Fin 72) (s : State) : exec (.frameSend n) s = s.run (frameSendEffect n) := rfl

theorem exec_ackTimeout (g : Fin 64) (fseq : BitVec 36) (s : State) :
    exec (.ackTimeout g fseq) s = s.run (ackTimeoutEffect g fseq.toNat) := rfl

theorem exec_replaySend (n : Fin 72) (s : State) : exec (.replaySend n) s = s.run (replaySendEffect n) := rfl

theorem exec_flushTimeout (g : Fin 64) (s : State) : exec (.flushTimeout g) s = s.run (flushTimeoutEffect g) := rfl

/-! ## A frame leaves on the lane of its group (R205, R220) -/

/-- A frame whose codes are complete, with a credit and a free lane, leaves and waits for its echo. -/
theorem frameSendEffect_ready {d d1 : Device} {n g k : Nat} {j : Job} {codes : List Nat} {f f1 : Frame} (hcarried : d.carried n = some g)
    (hcodes : d.groupCodes g (d.nextSend g) = some (j, k, codes))
    (hlane : (d.unitUp 18 && d.dataRuns && d.laneSt n == laneActive && d.laneFree n) = true)
    (hcredit : d.creditsUsed g < d.get fArrayDepth) (hreplay : d.lne.frames.any (fun f => f.lane == n && f.state == .replay) = false)
    (hf : f = { group := g, n := k, fseq := d.nextSend g,
                head := g * 4096 + d.get fCodeBits * 1024 + b2n j.reverse * 256 + j.pass * 32,
                payload := packCodes (d.get fCodeBits) codes, sum := codes.foldl (· + ·) 0, lane := n, crc := 0, endTick := 0,
                state := .awaiting })
    (htransmit : d.transmit f n = (d1, f1)) :
    frameSendEffect n d =
      ({ d1 with slotBuf := d1.slotBuf.filter (fun x => !(x.fseq == d.nextSend g && x.slot / 4 == g)) } : Device).setFrames
        (d1.lne.frames ++ [f1]) := by
  subst hf
  simp only [frameSendEffect, hcarried, hcodes, hlane, decide_eq_true hcredit, hreplay, htransmit, Bool.not_false, Bool.and_self,
    Bool.not_true, Bool.false_eq_true, if_false]

/-! ## A frame or a FLUSH that no echo answers, and the replay of a frame (R217, R224, R227) -/

/-- A frame whose echo stays out is an error of its lane and waits for replay. -/
theorem ackTimeoutEffect_due {d : Device} {g fseq : Nat} {f : Frame} (hup : d.unitUp 18 = true)
    (hf : d.lne.frames.find? (fun f => f.group == g && f.fseq == fseq && f.state == .awaiting) = some f)
    (hdue : f.endTick + 8 * (d.reg LNE_ACK_TIMEOUT % 2048) < d.clock) :
    ackTimeoutEffect g fseq d = (((d.markFrame g fseq .replay).laneError f.lane 2 g fseq).handoverDone).showWeir := by
  simp only [ackTimeoutEffect, hf, hup, decide_eq_true hdue, Bool.and_self, if_true]

/-- A frame that waits for replay leaves again with header bit 9, and is counted. -/
theorem replaySendEffect_due {d d1 : Device} {n : Nat} {f f1 : Frame} (hf : d.replayNext n = some f) (hup : d.unitUp 18 = true)
    (hactive : d.laneSt n = laneActive) (hfree : d.laneFree n = true)
    (htransmit : d.transmit { f with head := setBits f.head 9 1 1 } n = (d1, f1)) :
    replaySendEffect n d =
      (d1.setFrames (d1.lne.frames.map (fun x => if x.group == f.group && x.fseq == f.fseq then f1 else x))).bump
        (whole LNE_REPLAY_COUNT) := by
  simp only [replaySendEffect, hf, hup, beq_iff_eq.2 hactive, hfree, htransmit, Bool.and_self, if_true]

/-- A FLUSH that no ACK answers in 100 µs is an error of the lane of its group, and is sent again. -/
theorem flushTimeoutEffect_due {d : Device} {g : Nat} {x : Flush} {n t0 : Nat} (hup : d.unitUp 18 = true)
    (hx : d.lne.flushes.find? (fun x => x.group == g) = some x) (htick : x.tick = some t0) (hdue : t0 + 80000 < d.clock)
    (hlane : d.carryingLane g = some n) :
    flushTimeoutEffect g d = ((d.laneError n 2 g noFseq).flushGroup g x.next x.all).showWeir := by
  simp only [flushTimeoutEffect, hx, hup, htick, Option.any_some, decide_eq_true hdue, Bool.and_self, if_true, hlane]

/-- Settles O28: each command is the run of an effect whose guard holds, and an ACK block is one that the receiver takes. -/
theorem framesAreSentAnsweredAndReplayed : Obligations.FramesAreSentAnsweredAndReplayed := by
  refine ⟨?send, ?ack, ?ackTimeout, ?replay, ?flushTimeout⟩
  case send =>
    intro s d d1 n g k j codes f f1 h hcarried hcodes hlane hcredit hreplay hf htransmit
    rw [exec_frameSend, run_finds h, frameSendEffect_ready hcarried hcodes hlane hcredit hreplay hf htransmit]
  case ack =>
    intro s d d1 n b w x err h hhears hloop hw hclean htype hx hacks
    rw [exec_ackBlock, run_finds h, receiveBlock_clean hhears hloop hw hclean hx ((takeBlock_ack htype).trans hacks)]
  case ackTimeout =>
    intro s d g fseq f h hup hf hdue
    rw [exec_ackTimeout, run_finds h, ackTimeoutEffect_due hup hf hdue]
  case replay =>
    intro s d d1 n f f1 h hf hup hactive hfree htransmit
    rw [exec_replaySend, run_finds h, replaySendEffect_due hf hup hactive hfree htransmit]
  case flushTimeout =>
    intro s d g x n t0 h hup hx htick hdue hlane
    rw [exec_flushTimeout, run_finds h, flushTimeoutEffect_due hup hx htick hdue hlane]

end Sys2Proof.Machine
end

section
/-! PROOFS: training, loopback and calibration of a lane (06_beam_lanes.md). -/
namespace Sys2Proof.Machine

/-! ## The commands of training, loopback and calibration, each as the run of its effect -/

theorem exec_laneRetrainAttempt (n : Fin 72) (s : State) :
    exec (.laneRetrainAttempt n) s = s.run (laneRetrainAttemptEffect n) := rfl

theorem exec_laneTrainingDone (n : Fin 72) (r : LaneTraining) (s : State) :
    exec (.laneTrainingDone n r) s = s.run (laneTrainingDoneEffect n r) := rfl

theorem exec_retrain (n : Fin 72) (s : State) : exec (.retrain n) s = s.run (laneRetrainWrite n) := rfl

theorem exec_calNow (n : Fin 72) (s : State) : exec (.calNow n) s = s.run (calNowWrite n) := rfl

theorem exec_loop (n : Fin 72) (v : Word) (s : State) : exec (.loop n v) s = s.run (loopWrite n (bits v.toNat 16 2)) := rfl

theorem exec_calibrationStart (n : Fin 72) (s : State) : exec (.calibrationStart n) s = s.run (calibrationStartEffect n) := rfl

theorem exec_calibrationComplete (n : Fin 72) (scan : TapScan) (eyes : EyePair) (s : State) :
    exec (.calibrationComplete n scan eyes) s = s.run (calibrationCompleteEffect n scan eyes.far.toNat eyes.near.toNat) := rfl

/-! ## Training (R228 to R233, R250) -/

/-- A DOWN lane that lost its signal trains again 100 ms after its last attempt. -/
theorem laneRetrainAttemptEffect_due {d : Device} {n t : Nat} (hfind : d.lne.retrying.find? (fun p => p.1 == n) = some (n, t))
    (hup : d.unitUp 18 = true) (hdue : t + 80000000 ≤ d.clock) (hdown : d.laneSt n = laneDown) :
    laneRetrainAttemptEffect n d = { d.trainLane n with lne := { d.lne with
      retrying := (n, d.clock) :: d.lne.retrying.filter (fun p => p.1 != n) } } := by
  simp only [laneRetrainAttemptEffect, hfind, hup, decide_eq_true hdue, beq_iff_eq.2 hdown, Bool.and_self, if_true]

section trainingEnds
variable {d : Device} {n : Nat} {r : LaneTraining} (hup : d.unitUp 18 = true) (htraining : d.laneSt n = laneTraining)
  (hturned : d.turned n = none)
include hup htraining hturned

/-- With no lock the lane fails. -/
theorem laneTrainingDoneEffect_unlocked (hlock : r.locked = false) :
    laneTrainingDoneEffect n r d = (d.trainFail n 1).groupTrained (laneGroup n) := by
  simp only [laneTrainingDoneEffect, hturned, Device.trainEnds, hup, beq_iff_eq.2 htraining, hlock, Bool.and_self, Bool.not_true,
    Bool.not_false, Bool.false_eq_true, if_false, if_true]

/-- With a TRAIN exchange that leaves the lane in training, and both eyes at EYE_MIN, the lane is trained. -/
theorem laneTrainingDoneEffect_passed {d1 d2 : Device} (hlock : r.locked = true)
    (hd1 : d1 = ((d.putFlag (fLanePolRx n) r.invertRx).putFlag (fLanePolTx n) r.invertTx).trainExchange n r)
    (hstill : d1.laneSt n = laneTraining)
    (hd2 : d2 = ((d1.searchTaps n r.scan).setReg (LNE_LANE_EYE_FAR n) r.eyeFar.toNat).setReg (LNE_LANE_EYE_NEAR n) r.eyeNear.toNat)
    (heyes : d2.eyesPass r.eyeFar.toNat r.eyeNear.toNat = true) :
    laneTrainingDoneEffect n r d = ((d2.put fArrayDepth r.depth).trainPass n).groupTrained (laneGroup n) := by
  have hkeeps : (d1.laneSt n != laneTraining) = false := by rw [hstill]; rfl
  simp only [laneTrainingDoneEffect, hturned, Device.trainEnds, hup, beq_iff_eq.2 htraining, hlock, ← hd1, hkeeps, ← hd2, heyes,
    Bool.and_self, Bool.not_true, Bool.false_eq_true, if_false, if_true]

end trainingEnds

/-- RETRAIN that is taken trains the lane. -/
theorem laneRetrainWrite_taken {d : Device} {n : Nat} (hup : d.unitUp 18 = true) (htaken : d.retrainTaken n = true) :
    laneRetrainWrite n d = d.trainLane n :=
  if_pos (Bool.and_eq_true_iff.2 ⟨hup, htaken⟩)

/-! ## Loopback (R232) -/

/-- A write of LOOP that is taken puts the lane into the loop, or takes one out of it to train; LOOP 3 asks the array for the
far-end loop. -/
theorem loopWrite_taken {d d1 d2 : Device} {n v : Nat} (hup : d.unitUp 18 = true) (htaken : d.loopTaken n = true)
    (hd1 : d1 = (d.noteTurn n).put (fLaneLoop n) v)
    (hd2 : d2 = ((if d1.laneSt n = laneLoopback then d1 else d1.laneOut n laneLoopback).groupTrained (laneGroup n)).setPrbs n
      (prbsStart, prbsStart)) :
    loopWrite n v d =
      if v = 0 then (if d1.laneSt n = laneLoopback then (d1.setPrbs n (prbsStart, prbsStart)).trainLane n else d1)
      else if v = 3 then (d2.putOnLine n btTRAIN [[n, 65536]] none).1 else d2 := by
  subst hd2
  simp only [loopWrite, hup, htaken, ← hd1, Device.when, beq_iff_eq, Bool.and_self, Bool.not_true, Bool.false_eq_true, if_false]

/-! ## Calibration (R234 to R236) -/

section calibrates
variable {d : Device} {n : Nat} (hmay : d.calMay n = true)
include hmay

/-- A queued lane with no beam group to hand over begins calibration. -/
theorem calibrationStartEffect_begins (hfree : d.carried n = none ∨ d.inWriting = false) :
    calibrationStartEffect n d =
      (({ d with lne := { d.lne with calQueue := d.lne.calQueue.filter (fun m => m != n) } }).setLaneSt n laneCal).showSpares := by
  have hkeeps : ((d.carried n).isSome && d.inWriting) = false := by
    rcases hfree with hnone | hidle
    · rw [hnone]; rfl
    · rw [hidle, Bool.and_false]
  simp only [calibrationStartEffect, hmay, hkeeps, Bool.not_true, Bool.false_eq_true, if_false]

variable {g : Nat} (hcarried : d.carried n = some g) (hwriting : d.inWriting = true)
include hcarried hwriting

/-- In WRITING a queued lane that carries a beam group is due to hand it over when the clock ends. -/
theorem calibrationStartEffect_due (hrel : d.released 13 = true) (hnew : d.lne.calDue.contains n = false) :
    calibrationStartEffect n d = { d with lne := { d.lne with calDue := d.lne.calDue ++ [n] } } := by
  simp only [calibrationStartEffect, hmay, hcarried, hwriting, hrel, hnew, Option.isSome_some, Bool.and_self, Bool.not_true,
    Bool.false_eq_true, if_false, if_true]

/-- The lane hands its beam group to the spare, which no error of the lane group takes. -/
theorem calHandover_spare {sp : Nat} (hspare : d.spareOf (laneGroup n) = some sp)
    (hmoves : d.lne.moves.any (fun p => p.1 / 8 == laneGroup n) = false) :
    d.calHandover n = ({ d with lne := { d.lne with calQueue := d.lne.calQueue.filter (fun m => m != n) } } : Device).handOver n sp g := by
  simp only [Device.calHandover, hcarried, hspare, hmay, hwriting, hmoves, Bool.and_self, Bool.not_true, Bool.or_self,
    Bool.false_eq_true, if_false]

end calibrates

/-- A calibration with both eyes at EYE_MIN ends, and the lane is in use again. -/
theorem calibrationCompleteEffect_passed {d d1 : Device} {n far near : Nat} {scan : TapScan} (hup : d.unitUp 18 = true)
    (hcal : d.laneSt n = laneCal)
    (hd1 : d1 = ((d.searchTaps n scan).setReg (LNE_LANE_EYE_FAR n) far).setReg (LNE_LANE_EYE_NEAR n) near)
    (heyes : d1.eyesPass far near = true) :
    calibrationCompleteEffect n scan far near d =
      ((if (d1.carried n).isSome then d1.activate n else d1.setLaneSt n laneSpare).calPassed n).showSpares.completeWhere
        (fun w => w == .laneCal n) sOK 0 [] := by
  simp only [calibrationCompleteEffect, hup, beq_iff_eq.2 hcal, ← hd1, heyes, Bool.and_self, Bool.not_true, Bool.false_eq_true,
    if_false, if_true]

/-- Settles O30: each command is the run of an effect whose guard holds, along the branch that the lane's state, its eyes and its
beam group name. -/
theorem lanesAreTrainedAndCalibrated : Obligations.LanesAreTrainedAndCalibrated := by
  refine ⟨?attempt, ?trained, ?unlocked, ?retrain, ?calNow, ?loop, ?calStart, ?calEnds⟩
  case attempt =>
    intro s d n t h hfind hup hdue hdown
    rw [exec_laneRetrainAttempt, run_finds h, laneRetrainAttemptEffect_due hfind hup hdue hdown]
  case trained =>
    intro s d d1 d2 n r h hup htraining hturned hlock hd1 hstill hd2 heyes
    rw [exec_laneTrainingDone, run_finds h, laneTrainingDoneEffect_passed hup htraining hturned hlock hd1 hstill hd2 heyes]
  case unlocked =>
    intro s d n r h hup htraining hturned hlock
    rw [exec_laneTrainingDone, run_finds h, laneTrainingDoneEffect_unlocked hup htraining hturned hlock]
  case retrain =>
    intro s d n h hup htaken
    rw [exec_retrain, run_finds h, laneRetrainWrite_taken hup htaken]
  case calNow =>
    intro s d n h hup
    exact (exec_calNow n s).trans ((run_guarded h (g := fun d => d.unitUp 18) hup _).trans (run_finds h _))
  case loop =>
    intro s d d1 d2 n v h hup htaken hd1 hd2
    rw [exec_loop, run_finds h, loopWrite_taken hup htaken hd1 hd2]
  case calStart =>
    intro s d q n h hmay hrel hq
    refine ⟨fun hfree => ?_, fun g hcarried hwriting hnew => ?_, fun g sp hcarried hwriting hspare hmoves => ?_⟩
    · rw [exec_calibrationStart, run_finds h, calibrationStartEffect_begins hmay hfree, hq]
    · rw [exec_calibrationStart, run_finds h, calibrationStartEffect_due hmay hcarried hwriting hrel hnew]
    · rw [calHandover_spare hmay hcarried hwriting hspare hmoves, hq]
  case calEnds =>
    intro s d d1 n scan far near h hup hcal hd1 heyes
    rw [exec_calibrationComplete, run_finds h, calibrationCompleteEffect_passed hup hcal hd1 heyes]

end Sys2Proof.Machine
end

section
/-! PROOFS: what settles with every step: the strobe gates and the level sources (07_position_and_flash.md, R280, R438, R446, R509). -/
namespace Sys2Proof.Machine

/-! ## Registers outside the counter block, which counting and sending leave -/

/-- An offset outside the counter block PMC. -/
def apartPmc (off : Nat) : Prop := off / 0x100000 ≠ 21

theorem reg_put36_ne (d : Device) {off o : Nat} (v : Nat) (h : o ≠ off) (h4 : o ≠ off + 4) : (d.put36 off v).reg o = d.reg o :=
  (reg_setReg_ne _ _ h4).trans (reg_setReg_ne d _ h)

theorem flag_of_reg {a b : Device} {f : Fld} (h : a.reg f.off = b.reg f.off) : a.flag f = b.flag f := by
  rw [Device.flag, Device.flag, Device.get, Device.get, h]

section counting
variable (d : Device) {off : Nat} (h : apartPmc off) {b : Nat} (hb : b < 20)
include h hb

theorem reg_pmcNote {k : Nat} (hk : k < 8) (n : Nat) : (d.pmcNote b k n).reg off = d.reg off := by
  unfold apartPmc at h
  unfold Device.pmcNote Device.when
  dsimp only
  split
  · exact reg_put36_ne _ _ (by unfold PMC_C_SNAP; omega) (by unfold PMC_C_SNAP; omega)
  · rfl

theorem reg_pmcAdd (fuel : Nat) {k : Nat} (hk : k < 8) (n : Nat) : (pmcAdd fuel b k n d).reg off = d.reg off := by
  induction fuel generalizing k n d with
  | zero => rfl
  | succ fuel ih =>
    have hcount (x : Device) (v : Nat) : (x.put36 (PMC_C_COUNT b k) v).reg off = x.reg off := by
      unfold apartPmc at h
      exact reg_put36_ne _ _ (by unfold PMC_C_COUNT; omega) (by unfold PMC_C_COUNT; omega)
    have hover (x : Device) : (x.putFlag (bitAt (PMC_C_CFG b k) 14) true).reg off = x.reg off := by
      unfold apartPmc at h
      exact reg_put_ne x _ (by change off ≠ PMC_C_CFG b k; unfold PMC_C_CFG; omega)
    have hnote := reg_pmcNote d h hb hk n
    simp only [pmcAdd]
    split
    · rfl
    split
    · rw [hcount, hnote]
    · split
      · rename_i hcarry
        simp only [Bool.and_eq_true, decide_eq_true_eq] at hcarry
        obtain ⟨⟨hk1, -⟩, -⟩ := hcarry
        rw [ih _ hk1, hover, hcount, hnote]
      · rw [hover, hcount, hnote]

theorem reg_count (code n : Nat) : (d.count b code n).reg off = d.reg off := by
  unfold Device.count
  split
  · rfl
  · refine List.foldlRecOn (motive := fun x : Device => x.reg off = d.reg off) _ _ rfl fun x hx k hk => ?_
    split
    · rw [reg_pmcAdd x h hb 8 (List.mem_range.1 hk), hx]
    · exact hx

end counting

section sending
variable (d : Device) {off : Nat} (h : apartPmc off)

theorem reg_sendOn (off : Nat) (ring : Bool) (words : List Nat) : (d.sendOn ring words).reg off = d.reg off := by
  unfold Device.sendOn
  split
  · rfl
  split <;> rfl

include h

theorem reg_sendMesh (dst ty : Nat) (body : List Nat) : (d.sendMesh dst ty body).reg off = d.reg off := by
  unfold Device.sendMesh
  split
  · rfl
  · exact each_keeps (fun x => x.reg off = d.reg off) _ (fun x ring hx => (reg_sendOn x off ring _).trans hx) _ _
      (reg_count d h (by omega) 4 1)

/-- A raising is counted, seen and forwarded before any pending bit changes. -/
theorem reg_raised (s : Nat) : (d.raised s).reg off = d.reg off := by
  have hitem : ((d.itemIn 19).noteRaise s).reg off = d.reg off := reg_count d h (by omega) 3 1
  unfold Device.raised Device.forward
  split
  · rw [reg_sendMesh _ h, hitem]
  · exact hitem

theorem reg_vectorRise (v : Nat) : (d.vectorRise v).reg off = d.reg off := by
  unfold Device.vectorRise
  split
  · rfl
  extract_lets m
  split
  · unfold Device.issue
    split
    · rfl
    · exact reg_count _ h (by omega) 4 1
  · rfl

end sending

/-! ## Pending bits, which only a clearing takes back (R509) -/

/-- The pending bits that are set in one module are set in another. -/
def Device.pendsAll (d d' : Device) : Prop := ∀ s, s < 256 → d.isPending s = true → d'.isPending s = true

theorem pendsAll_trans {a b c : Device} (h1 : a.pendsAll b) (h2 : b.pendsAll c) : a.pendsAll c :=
  fun s hs h => h2 s hs (h1 s hs h)

theorem apartPmc_pending {s : Nat} (hs : s < 256) : apartPmc (EVT_PENDING (s / 18)) := by
  unfold apartPmc EVT_PENDING; omega

/-- What leaves the registers outside the counter block leaves the pending bits. -/
theorem isPending_of_reg {d d' : Device} (h : ∀ off, apartPmc off → d'.reg off = d.reg off) {s : Nat} (hs : s < 256) :
    d'.isPending s = d.isPending s := flag_of_reg (h _ (apartPmc_pending hs))

theorem isPending_raised (d : Device) (s : Nat) {s' : Nat} (hs' : s' < 256) : (d.raised s).isPending s' = d.isPending s' :=
  isPending_of_reg (fun _ h => reg_raised d h s) hs'

theorem isPending_vectorRise (d : Device) (v : Nat) {s : Nat} (hs : s < 256) : (d.vectorRise v).isPending s = d.isPending s :=
  isPending_of_reg (fun _ h => reg_vectorRise d h v) hs

theorem isPending_putFlag_same (d : Device) (s : Nat) (b : Bool) : (d.putFlag (fPending s) b).isPending s = b :=
  flag_putFlag_same d (fPending s) b rfl (Nat.mod_lt s (by omega))

theorem pendsAll_putFlag (d : Device) (s : Nat) : d.pendsAll (d.putFlag (fPending s) true) := by
  intro s' _ h
  by_cases hoff : s' / 18 = s / 18
  · by_cases hbit : s' % 18 = s % 18
    · have hss : s' = s := by omega
      rw [hss, isPending_putFlag_same]
    · have hkeep : (d.putFlag (fPending s) true).get (fPending s') = d.get (fPending s') :=
        get_put_apart d _ (congrArg EVT_PENDING hoff) (show s' % 18 + 1 ≤ 18 by omega)
          (show s' % 18 + 1 ≤ s % 18 ∨ s % 18 + 1 ≤ s' % 18 by omega)
      rw [Device.isPending, Device.flag, hkeep]
      exact h
  · have hne : (fPending s').off ≠ (fPending s).off := by
      change EVT_PENDING (s' / 18) ≠ EVT_PENDING (s / 18)
      unfold EVT_PENDING; omega
    rw [Device.isPending, flag_putFlag_ne d true hne]
    exact h

/-- Setting a source pending is the change of its bit, and what a rise on its vector changes. -/
theorem isPending_setPending (d : Device) (s : Nat) {s' : Nat} (hs' : s' < 256) :
    (d.setPending s).isPending s' = (d.putFlag (fPending s) true).isPending s' := by
  unfold Device.setPending
  dsimp only
  split
  · exact isPending_vectorRise _ _ hs'
  · rfl

theorem isPending_setPending_same (d : Device) {s : Nat} (hs : s < 256) : (d.setPending s).isPending s = true := by
  rw [isPending_setPending d s hs, isPending_putFlag_same]

theorem pendsAll_setPending (d : Device) (s : Nat) : d.pendsAll (d.setPending s) := by
  intro s' hs' h
  rw [isPending_setPending d s hs']
  exact pendsAll_putFlag d s s' hs' h

/-- A source that has been raised is pending (R509). -/
theorem isPending_raise (d : Device) {s : Nat} (hs : s < 256) : (d.raise s).isPending s = true := by
  unfold Device.raise
  split
  · rename_i hedge
    exact (Bool.and_eq_true_iff.1 hedge).2
  extract_lets overrun d1
  split
  · rename_i hpend
    have hne : (fPending s).off ≠ (fOverrun s).off := by
      change EVT_PENDING (s / 18) ≠ EVT_SRC s
      unfold EVT_PENDING EVT_SRC; omega
    rw [Device.isPending, flag_putFlag_ne d1 true hne]
    exact hpend
  · exact isPending_setPending_same d1 hs

theorem pendsAll_levelRise (d : Device) (s : Nat) (c : Bool) : d.pendsAll (d.levelRise s c) := by
  intro s' hs' h
  unfold Device.levelRise
  split
  · exact pendsAll_setPending _ s s' hs' ((isPending_raised d s hs').trans h)
  · exact h

/-! ## The level sources settle (R509) -/

theorem quietReg_hwStatus : quietReg SYS_HW_STATUS := ⟨by decide, by decide⟩
theorem quietReg_zoneStatus : quietReg LNE_ZONE_STATUS := ⟨by decide, by decide⟩
theorem quietReg_posStatus : quietReg POS_STATUS := ⟨by decide, by decide⟩
theorem quietReg_flsStatus : quietReg FLS_STATUS := ⟨by decide, by decide⟩
theorem quietReg_released : quietReg RST_RELEASED := ⟨by decide, by decide⟩

/-- The condition of a level source is read from the state that a raising leaves. -/
theorem levelCond_of_raisesOnly {d d' : Device} (h : d.raisesOnly d') (s : Nat) : d'.levelCond s = d.levelCond s := by
  have hflag {f : Fld} (q : quietReg f.off) : d'.flag f = d.flag f := flag_of_reg (raisesOnly_reg h q)
  have hhw (i : Nat) : d'.flag (bitAt SYS_HW_STATUS i) = d.flag (bitAt SYS_HW_STATUS i) := hflag quietReg_hwStatus
  have hstale : d'.flag (bitAt LNE_ZONE_STATUS 17) = d.flag (bitAt LNE_ZONE_STATUS 17) := hflag quietReg_zoneStatus
  have hrel : d'.released 18 = d.released 18 := hflag quietReg_released
  have hlos (c : Nat) : d'.flag (fHeadLos c) = d.flag (fHeadLos c) := hflag quietReg_posStatus
  have hfull {q : Nat} (hq : q < 4) : d'.cqFull q = d.cqFull q := by
    have hsize : d'.reg (ULP_CQ_SIZE q) = d.reg (ULP_CQ_SIZE q) := raisesOnly_reg h (by unfold quietReg ULP_CQ_SIZE; omega)
    have hhead : d'.reg (ULP_CQ_HEAD q) = d.reg (ULP_CQ_HEAD q) := raisesOnly_reg h (by unfold quietReg ULP_CQ_HEAD; omega)
    have htail : d'.get (fCqTail q) = d.get (fCqTail q) :=
      raisesOnly_get h (show quietReg (ULP_CQ_TAIL q) by unfold quietReg ULP_CQ_TAIL; omega)
    rw [Device.cqFull, Device.cqFull, hsize, hhead, htail]
  have hstall : (List.range 4).any (fun q => d.ulp.waiting.any (fun c => c.q == q) && d'.cqFull q) =
      (List.range 4).any (fun q => d.ulp.waiting.any (fun c => c.q == q) && d.cqFull q) := by
    rw [Bool.eq_iff_iff, List.any_eq_true, List.any_eq_true]
    exact exists_congr fun q => and_congr_right fun hq => by rw [hfull (List.mem_range.1 hq)]
  simp only [Device.levelCond, hhw, hstale, hrel, hlos, raisesOnly_ulp h, raisesOnly_csc h, hstall]

/-- The source's condition does not hold, or the source is pending. -/
def Device.shown (d : Device) (s : Nat) : Prop := d.levelCond s = true → d.isPending s = true

/-- The logic of one level source shows its condition, and leaves what the others show. -/
theorem shown_levelRise_same (d : Device) {s : Nat} (hs : s < 256) : (d.levelRise s (d.levelCond s)).shown s := by
  intro hc
  rw [levelCond_of_raisesOnly (raisesOnly_levelRise d s _ hs)] at hc
  unfold Device.levelRise
  split
  · exact isPending_setPending_same _ hs
  · rename_i hno
    simpa [hc] using hno

theorem shown_levelRise_other (d : Device) {s s' : Nat} (hs : s < 256) (hs' : s' < 256) (h : d.shown s') :
    (d.levelRise s (d.levelCond s)).shown s' := fun hc =>
  pendsAll_levelRise d s _ s' hs' (h (by rwa [levelCond_of_raisesOnly (raisesOnly_levelRise d s _ hs)] at hc))

/-- The logic of a list of level sources. -/
def Device.levelsRise (d : Device) (l : List Nat) : Device := l.foldl (fun d s => d.levelRise s (d.levelCond s)) d

theorem shown_levelsRise_kept (l : List Nat) (hl : ∀ s ∈ l, s < 256) {s' : Nat} (hs' : s' < 256) (d : Device) (h : d.shown s') :
    (d.levelsRise l).shown s' :=
  List.foldlRecOn (motive := fun x : Device => x.shown s') l _ h fun x hx s hs => shown_levelRise_other x (hl s hs) hs' hx

theorem shown_levelsRise (l : List Nat) (hl : ∀ s ∈ l, s < 256) (d : Device) {s : Nat} (hs : s ∈ l) : (d.levelsRise l).shown s := by
  induction l generalizing d with
  | nil => simp at hs
  | cons a t ih =>
    have ht : ∀ s ∈ t, s < 256 := fun s h => hl s (List.mem_cons_of_mem a h)
    have ha : a < 256 := hl a List.mem_cons_self
    rcases List.mem_cons.1 hs with rfl | hmem
    · exact shown_levelsRise_kept t ht ha _ (shown_levelRise_same d ha)
    · exact ih ht _ hmem

theorem pendsAll_levelsRise (l : List Nat) (d : Device) : d.pendsAll (d.levelsRise l) := fun s' hs' h =>
  List.foldlRecOn (motive := fun x : Device => x.isPending s' = true) l _ h fun x hx s _ => pendsAll_levelRise x s _ s' hs' hx

/-- The strobe output of a gated module is low (R280, R438, R446). -/
def Device.strobeCut (d : Device) : Device := { d with fls := { d.fls with flash := d.fls.flash && !d.strobeGated } }

theorem settle_eq (d : Device) : d.settle = d.strobeCut.levelsRise levelSources := rfl

theorem isPending_strobeCut (d : Device) (s : Nat) : d.strobeCut.isPending s = d.isPending s := rfl

theorem pendsAll_settle (d : Device) : d.pendsAll d.settle := fun s hs h => by
  rw [settle_eq]
  exact pendsAll_levelsRise levelSources _ s hs ((isPending_strobeCut d s).trans h)

theorem levelSources_lt : ∀ s ∈ levelSources, s < 256 := by decide

theorem levelsShown_iff (d : Device) : d.levelsShown = true ↔ ∀ s ∈ levelSources, d.shown s := by
  simp only [Device.levelsShown, List.all_eq_true, Device.shown, Bool.or_eq_true, Bool.not_eq_true']
  exact forall₂_congr fun s _ => by cases d.levelCond s <;> simp

theorem levelsShown_settle (d : Device) : d.settle.levelsShown = true := by
  rw [settle_eq]
  exact (levelsShown_iff _).2 fun _ hs => shown_levelsRise levelSources levelSources_lt _ hs

/-! ## The strobe gate settles (R280, R438, R446) -/

theorem strobeGated_settle (d : Device) : d.settle.strobeGated = d.strobeGated := by
  have hblank : d.settle.flag fBlanked = d.flag fBlanked := flag_of_reg (settle_reg d quietReg_flsStatus)
  have hrel : d.settle.released 13 = d.released 13 :=
    flag_of_reg (settle_reg d quietReg_released)
  simp only [Device.strobeGated, hblank, hrel, settle_fls]

theorem gateHolds_settle (d : Device) : d.settle.gateHolds = true := by
  rw [Device.gateHolds, strobeGated_settle, settle_fls]
  cases d.strobeGated <;> simp

/-! ## Every step settles -/

/-- A module that a step leaves settled. -/
theorem settled_settle (s : State) (d : Device) : (s.gives d).settled := ⟨gateHolds_settle d, levelsShown_settle d⟩

/-- The outputs have no part in what settles. -/
theorem settled_clearOut {s : State} (h : s.settled) : ({ s with dev := { s.dev with out := [] } } : State).settled := h

theorem settled_pending {s : State} (l : List Instr) (h : s.settled) : ({ s with pending := l } : State).settled := h

theorem settled_run {s t : State} (hs : s.settled) {f : Device → Device} (h : s.run f = .next t) : t.settled := by
  cases hpow : s.dev.powered with
  | false =>
    rw [run_off hpow] at h
    cases h
    exact settled_clearOut hs
  | true =>
    rw [run_finds ⟨hpow, rfl⟩] at h
    cases h
    exact settled_settle s _

theorem settled_exec {s t : State} (hs : s.settled) {c : Instr} (h : exec c s = .next t) : t.settled := by
  by_cases hc : ∃ p, c = .powerGood p
  · obtain ⟨p, rfl⟩ := hc
    rw [exec_powerGood] at h
    cases h
    split
    · exact settled_clearOut hs
    · exact settled_settle s _
  · obtain ⟨f, hrun⟩ := exec_runs c (not_exists.1 hc)
    rw [hrun] at h
    exact settled_run hs h

/-- Settles O6: a step is a tick, a command that runs an effect, or POWER_GOOD, and each of them settles the module it has changed. -/
theorem everyStepKeepsTheModuleSettled : Obligations.EveryStepKeepsTheModuleSettled := by
  intro s t hs h
  unfold step at h
  split at h
  · exact settled_run hs h
  · exact settled_exec (settled_pending _ hs) h

/-- Settles O7: after reset the strobe is low, and no level source's condition holds. -/
theorem resetStateIsSettled : Obligations.ResetStateIsSettled := by
  have hgate : State.reset.dev.gateHolds = true := by
    have hlow : State.reset.dev.fls.flash = false := rfl
    rw [Device.gateHolds, hlow, Bool.and_false, Bool.not_false]
  have hlevels : State.reset.dev.levelsShown = true := by decide +kernel
  exact ⟨hgate, hlevels⟩

end Sys2Proof.Machine
end

section
/-! PROOFS: what the FLUSH of a stop leaves (06_beam_lanes.md, R227). -/
namespace Sys2Proof.Machine

/-- A property that rests neither on the state that the lanes have beside their registers, nor on the registers that a FLUSH changes: it
survives each single change that a FLUSH makes. -/
structure LaneFrame (P : Device → Prop) : Prop where
  withLne : ∀ (d : Device) (x : LneState), P d → P { d with lne := x }
  withFls : ∀ (d : Device) (due : Bool), P d → P { d with fls := { d.fls with flushDue := due } }
  withDomains : ∀ (d : Device) (l : List Domain), P d → P { d with domains := l }
  put : ∀ (d : Device) (f : Fld) (v : Nat), f.off = LNE_STATUS ∨ f.off = LNE_NOSPARE ∨ f.off = LNE_WEIR → P d → P (d.put f v)
  calibrates : ∀ (d : Device) (n : Nat), d.laneSt n = laneActive → P d → P (d.setLaneSt n laneCal)

section keeps
variable {P : Device → Prop} (hP : LaneFrame P) {d : Device} (h : P d)
include hP h

theorem cutFrames_keeps (cut : Nat × Nat → Bool) : P (d.cutFrames cut) := by
  unfold Device.cutFrames
  refine each_keeps P _ (fun x n hx => ?_) _ _ (hP.withLne d _ h)
  split
  · exact hP.withLne x _ hx
  · exact hP.withLne x _ hx

theorem flushGroup_keeps (g next : Nat) (all : Bool) : P (d.flushGroup g next all) := by
  unfold Device.flushGroup
  extract_lets keep
  split
  · exact hP.withLne d _ h
  split
  · exact hP.withLne d _ h
  · exact hP.withLne d _ h

theorem laneSettle_keeps (n : Nat) : P (d.laneSettle n) := by
  unfold Device.laneSettle Device.recovered
  extract_lets busy x
  split
  · split
    · exact h
    split
    · exact hP.withDomains d _ h
    · exact h
  split
  · exact h
  · exact hP.withDomains d _ h

theorem showSpares_keeps : P d.showSpares := by
  unfold Device.showSpares
  refine hP.put _ fAllServed _ (.inl rfl) (each_keeps P _ (fun x g hx => ?_) _ d h)
  exact hP.put _ (fUnserved g) _ (.inr (.inl rfl)) (hP.put x (fNoSpare g) _ (.inr (.inl rfl)) hx)

theorem showWeir_keeps : P d.showWeir := by
  unfold Device.showWeir
  dsimp only
  generalize List.foldl _ _ _ = limit
  exact hP.put _ fWeirGroup _ (.inr (.inr rfl)) (hP.put d fWeirLevel _ (.inr (.inr rfl)) h)

theorem handoverDone_keeps : P d.handoverDone := by
  unfold Device.handoverDone
  refine each_keeps P _ (fun x y hx => ?_) _ d h
  split
  · exact hx
  have hleft := hP.withLne x { x.lne with handover := x.lne.handover.filter (fun z => z.1 != y.1) } hx
  dsimp only
  split
  · rename_i hactive
    exact showSpares_keeps hP (hP.calibrates _ _ (beq_iff_eq.1 hactive) hleft)
  · exact hleft

/-- A FLUSH begins with no earlier one outstanding. -/
theorem flushBegins_keeps : P { d with lne := { d.lne with flushes := [] }, fls := { d.fls with flushDue := false } } :=
  hP.withFls _ false (hP.withLne d { d.lne with flushes := [] } h)

theorem stopFlush_keeps (next : Nat) : P (d.stopFlush next) := by
  have hcut (l : List Frame) (cut : Nat × Nat → Bool) : P ((d.setFrames l).cutFrames cut) := cutFrames_keeps hP (hP.withLne d _ h) cut
  unfold Device.stopFlush Device.sendFlush
  dsimp only
  refine showWeir_keeps hP (handoverDone_keeps hP (each_keeps P _ (fun x n hx => laneSettle_keeps hP hx n) _ _
    (each_keeps P _ (fun x g hx => flushGroup_keeps hP hx g next _) _ _ ?_)))
  exact flushBegins_keeps hP (hcut _ _)

end keeps

end Sys2Proof.Machine
end

section
/-! PROOFS: which DMA channels wait for module memory, which nothing but a fetch changes (10_dma_and_check_units.md; 09_memory.md,
R326 to R348). -/
namespace Sys2Proof.Machine

/-- Which DMA channels wait for module memory with their fetch. -/
def Device.waiting (d : Device) : Vector Bool 32 := d.dma.chans.map (fun c => c.waits)

variable (d : Device)

/-! ## Operations of the state -/

@[simp] theorem waiting_setReg (off v : Nat) : (d.setReg off v).waiting = d.waiting := rfl
@[simp] theorem waiting_put (f : Fld) (v : Nat) : (d.put f v).waiting = d.waiting := rfl
@[simp] theorem waiting_putFlag (f : Fld) (b : Bool) : (d.putFlag f b).waiting = d.waiting := rfl
@[simp] theorem waiting_put36 (off v : Nat) : (d.put36 off v).waiting = d.waiting := rfl
@[simp] theorem waiting_bump (f : Fld) : (d.bump f).waiting = d.waiting := rfl
@[simp] theorem waiting_emit (o : Out) : (d.emit o).waiting = d.waiting := rfl
@[simp] theorem waiting_nextFree : d.nextFree.waiting = d.waiting := rfl
@[simp] theorem waiting_setDramWord (a v : Nat) : (d.setDramWord a v).waiting = d.waiting := rfl
@[simp] theorem waiting_setDomain (x : Domain) : (d.setDomain x).waiting = d.waiting := rfl
@[simp] theorem waiting_journal (item : JItem) (value : List Nat) : (d.journal item value).waiting = d.waiting := rfl
@[simp] theorem waiting_withEvt (x : EvtState) : ({ d with evt := x } : Device).waiting = d.waiting := rfl
@[simp] theorem waiting_withMsh (x : MshState) : ({ d with msh := x } : Device).waiting = d.waiting := rfl
@[simp] theorem waiting_withPmc (x : PmcState) : ({ d with pmc := x } : Device).waiting = d.waiting := rfl
@[simp] theorem waiting_withRst (x : RstState) : ({ d with rst := x } : Device).waiting = d.waiting := rfl
@[simp] theorem waiting_withFls (x : FlsState) : ({ d with fls := x } : Device).waiting = d.waiting := rfl
@[simp] theorem waiting_withMot (x : MotState) : ({ d with mot := x } : Device).waiting = d.waiting := rfl
@[simp] theorem waiting_withMem (x : MemState) : ({ d with mem := x } : Device).waiting = d.waiting := rfl
@[simp] theorem waiting_withCsc (x : CscState) : ({ d with csc := x } : Device).waiting = d.waiting := rfl
@[simp] theorem waiting_withPool (x : PoolState) : ({ d with pool := x } : Device).waiting = d.waiting := rfl
@[simp] theorem waiting_withLne (x : LneState) : ({ d with lne := x } : Device).waiting = d.waiting := rfl
@[simp] theorem waiting_withDomains (l : List Domain) : ({ d with domains := l } : Device).waiting = d.waiting := rfl
@[simp] theorem waiting_withFree (n : Nat) : ({ d with freeCtr := n } : Device).waiting = d.waiting := rfl

@[simp] theorem waiting_when {c : Bool} {f : Device → Device} (hf : ∀ x, (f x).waiting = x.waiting) : (d.when c f).waiting = d.waiting := by
  cases c
  · rfl
  · exact hf d

@[simp] theorem waiting_each {α : Type} {l : List α} {f : Device → α → Device} (hf : ∀ x a, (f x a).waiting = x.waiting) :
    (d.each l f).waiting = d.waiting :=
  each_keeps (fun x => x.waiting = d.waiting) f (fun x a hx => (hf x a).trans hx) l d rfl

@[simp] theorem waiting_setRegs (off : Nat) (vs : List Nat) : (d.setRegs off vs).waiting = d.waiting := by
  induction vs generalizing d off with
  | nil => rfl
  | cons v vs ih => exact ih (d.setReg off v) (off + 4)

/-! ## Counting, sending and raising (R359, R411, R509, R538) -/

@[simp] theorem waiting_pmcNote (b k n : Nat) : (d.pmcNote b k n).waiting = d.waiting := by
  unfold Device.pmcNote
  dsimp only
  rw [waiting_when _ fun _ => waiting_put36 _ _ _, waiting_withPmc]

@[simp] theorem waiting_pmcAdd (fuel b k n : Nat) : (pmcAdd fuel b k n d).waiting = d.waiting := by
  induction fuel generalizing d k n with
  | zero => rfl
  | succ fuel ih =>
    simp only [pmcAdd]
    split
    · rfl
    split
    · simp
    · split
      · simp [ih]
      · simp

@[simp] theorem waiting_count (b code n : Nat) : (d.count b code n).waiting = d.waiting := by
  unfold Device.count
  split
  · rfl
  · refine waiting_each d fun x k => ?_
    split
    · simp
    · rfl

@[simp] theorem waiting_itemIn (b : Nat) : (d.itemIn b).waiting = d.waiting := waiting_count d b 3 1
@[simp] theorem waiting_itemOut (b : Nat) : (d.itemOut b).waiting = d.waiting := waiting_count d b 4 1

@[simp] theorem waiting_sendMesh (dst ty : Nat) (body : List Nat) : (d.sendMesh dst ty body).waiting = d.waiting := by
  have hring : ∀ (x : Device) (r : Bool) (ws : List Nat), (x.sendOn r ws).waiting = x.waiting := fun x r ws => by
    unfold Device.sendOn
    split
    · rfl
    split <;> rfl
  unfold Device.sendMesh
  split
  · rfl
  · simp [hring]

/-- A raising ends event WAITs, and leaves the fetches that wait for memory. -/
@[simp] theorem waiting_noteRaise (s : Nat) : (d.noteRaise s).waiting = d.waiting := by
  unfold Device.noteRaise Device.waiting
  rw [Vector.map_map]
  refine Vector.map_congr_left fun c _ => ?_
  change (if c.awaits s && c.since != d.clock then { c with hit := true } else c).waits = c.waits
  split <;> rfl

@[simp] theorem waiting_raised (s : Nat) : (d.raised s).waiting = d.waiting := by
  unfold Device.raised Device.forward
  split <;> simp

@[simp] theorem waiting_setPending (s : Nat) : (d.setPending s).waiting = d.waiting := by
  have hissue : ∀ (x : Device) (v : Nat), (x.vectorRise v).waiting = x.waiting := fun x v => by
    unfold Device.vectorRise Device.issue
    dsimp only
    split
    · rfl
    split
    · split <;> simp
    · rfl
  unfold Device.setPending
  dsimp only
  split
  · rw [hissue, waiting_withEvt, waiting_putFlag]
  · rfl

@[simp] theorem waiting_raise (s : Nat) : (d.raise s).waiting = d.waiting := by
  unfold Device.raise Device.keepEdge
  dsimp only
  split
  · rfl
  split <;> simp

/-! ## The error log and the classification of errors (R496, R504, R505) -/

@[simp] theorem waiting_log (cls : Nat) (atOnce : Bool) (domain cause unit data : Nat) :
    (d.log cls atOnce domain cause unit data).waiting = d.waiting := by
  have hdrop : ∀ (x : Device) (i : Nat), (x.dropLog i).waiting = x.waiting := fun x i => by
    unfold Device.dropLog
    rw [waiting_setRegs, waiting_when _ fun _ => waiting_journal _ _ _]
  have hentry : ∀ (x : Device) (r : RstState) (v off : Nat) (ws : List Nat),
      ((({ x with rst := r } : Device).put36 SYS_ERRLOG_LSEQ v).setRegs off ws).waiting = x.waiting := fun x r v off ws => by
    rw [waiting_setRegs, waiting_put36, waiting_withRst]
  unfold Device.log
  dsimp only
  rw [waiting_raise, waiting_when _ fun _ => waiting_journal _ _ _]
  split
  · rw [waiting_when _ fun _ => waiting_raise _ _, waiting_bump, hentry, waiting_when _ fun _ => hdrop _ _]
  · rw [waiting_put, hentry, waiting_when _ fun _ => hdrop _ _]

@[simp] theorem waiting_charge (code unit cause data : Nat) : (d.charge code unit cause data).2.waiting = d.waiting := by
  unfold Device.charge
  dsimp only
  split
  · rfl
  split <;> simp

/-! ## Stops (R275, R420, R425) -/

theorem laneFrame_waiting (w : Vector Bool 32) : LaneFrame (fun x => x.waiting = w) where
  withLne := fun x l h => (waiting_withLne x l).trans h
  withFls := fun x due h => (waiting_withFls x { x.fls with flushDue := due }).trans h
  withDomains := fun x l h => (waiting_withDomains x l).trans h
  put := fun x f v _ h => (waiting_put x f v).trans h
  calibrates := fun x n _ h => (waiting_put x (fLaneState n) laneCal).trans h

theorem waiting_stopFlush (next : Nat) : (d.stopFlush next).waiting = d.waiting := stopFlush_keeps (laneFrame_waiting d.waiting) rfl next

theorem waiting_beginStop : d.beginStop.waiting = d.waiting := by
  have hasks : ∀ (x : Device) (f : Fld) (v : Nat) (c : Bool) (m : Device → MotState),
      (((x.raise 160).put f v).when c (fun x => { x with mot := m x })).waiting = x.waiting := fun x f v c m => by
    rw [waiting_when _ fun _ => waiting_withMot _ _, waiting_put, waiting_raise]
  unfold Device.beginStop Device.setPhase Device.putS36
  dsimp only
  split
  · rfl
  generalize w36 _ = stitch
  split
  · rw [waiting_withFls, hasks, waiting_put36, waiting_put36, waiting_putFlag]
  · rw [waiting_stopFlush, hasks, waiting_put36, waiting_put36, waiting_putFlag]

theorem waiting_meshRequest (bit : Nat) : (d.meshRequest bit).waiting = d.waiting := by
  have hrecord : ∀ (x : Device) (issued : Bool) (init s : Nat), (x.recordStop issued init s).waiting = x.waiting := fun x issued init s => by
    unfold Device.recordStop
    dsimp only
    split
    · rw [waiting_raise, waiting_put36, waiting_put36]
    · rw [waiting_raise, waiting_put36, waiting_setReg, waiting_put36]
  unfold Device.meshRequest Device.sendStop
  split
  · rfl
  split
  · rw [waiting_sendMesh]
  split
  · rw [waiting_sendMesh, hrecord, waiting_withMsh]
  · rfl

theorem waiting_stopRequest (bit : Nat) : (d.stopRequest bit).waiting = d.waiting := by
  have hresume : d.meetsResume.waiting = d.waiting := by
    unfold Device.meetsResume
    split
    · rfl
    · rw [waiting_when _ fun _ => waiting_sendMesh _ _ _ _, waiting_withMsh]
  have hstop : ∀ x : Device, (x.meetsStop bit).waiting = x.waiting := fun x => by
    unfold Device.meetsStop
    split
    · rw [waiting_meshRequest, waiting_put]
    · rfl
  unfold Device.stopRequest
  dsimp only
  split
  · exact hresume
  split
  · rw [hstop, waiting_putFlag]
  · rw [waiting_meshRequest, waiting_beginStop, waiting_put, waiting_putFlag]

theorem waiting_runDry (bit : Nat) : (d.runDry bit).waiting = d.waiting := by
  unfold Device.runDry Device.stopIdle
  split
  · rfl
  split
  · exact waiting_stopRequest d bit
  · rfl

/-! ## Module memory (R326 to R348) -/

theorem waiting_memLog (kind dev la req : Nat) : (d.memLog kind dev la req).waiting = d.waiting := by
  unfold Device.memLog
  dsimp only
  split
  · rw [waiting_when _ fun _ => waiting_raise _ _, waiting_bump, waiting_put, waiting_put, waiting_setRegs]
  · rw [waiting_put, waiting_put, waiting_setRegs]

theorem waiting_memErrorLog (kind dev la : Nat) : (d.memErrorLog kind dev la).waiting = d.waiting := waiting_log d _ _ _ _ _ _

theorem waiting_showChannels : d.showChannels.waiting = d.waiting := waiting_each d fun _ _ => rfl

theorem waiting_setRemap (c e st la : Nat) : (d.setRemap c e st la).waiting = d.waiting := by
  unfold Device.setRemap
  dsimp only
  rw [waiting_showChannels]
  split
  · rw [waiting_journal, waiting_journal, waiting_setReg, waiting_setReg]
  split
  · rw [waiting_journal, waiting_journal, waiting_setReg, waiting_setReg]
  · rw [waiting_setReg, waiting_setReg]

theorem waiting_devicePermanent (c k la req : Nat) : (d.devicePermanent c k la req).waiting = d.waiting := by
  unfold Device.devicePermanent
  rw [waiting_memLog, waiting_raise]
  split
  · rw [waiting_journal, waiting_showChannels, waiting_put, waiting_put]
  · rfl

theorem waiting_corrected (la req : Nat) (devs : List Nat) : (d.corrected la req devs).waiting = d.waiting := by
  unfold Device.corrected
  split
  · rfl
  · dsimp only
    rw [waiting_withMem, waiting_each _ fun x k => ?_, waiting_raise, waiting_memLog, waiting_each _ fun _ _ => waiting_bump _ _, waiting_bump]
    rw [waiting_when _ fun _ => waiting_devicePermanent _ _ _ _ _, waiting_when _ fun _ => waiting_memErrorLog _ _ _ _, waiting_charge]

theorem waiting_uncorrectable (la req : Nat) : (d.uncorrectable la req).waiting = d.waiting := by
  have hrecord : ∀ (x : Device) (v : Nat), (if x.flag (bitAt MEM_UE_INFO 17) then x
      else (x.setReg MEM_UE_INFO v).put36 MEM_UE_LINE la).waiting = x.waiting := fun x v => by split <;> rfl
  unfold Device.uncorrectable
  dsimp only
  have hmet := (((waiting_memErrorLog _ mkUNCORRECTABLE 31 la).trans (waiting_memLog _ mkUNCORRECTABLE 31 la req)).trans
    (waiting_raise _ 196)).trans ((hrecord (d.bump (whole MEM_UE_COUNT))
      (131072 + req % 16 * 8192 + chanOf la * 2048 + b2n (d.lineState la == rmPOISONED) * 1024)).trans (waiting_bump d _))
  generalize Device.memErrorLog _ _ _ _ = x at hmet ⊢
  split
  · exact hmet
  · split
    · rw [waiting_raise, waiting_setRemap, hmet]
    · exact hmet

theorem waiting_touchRow (la : Nat) : (d.touchRow la).waiting = d.waiting := by
  unfold Device.touchRow
  dsimp only
  split <;> rfl

theorem waiting_writeLine (la : Nat) (ws : List Nat) : (d.writeLine la ws).waiting = d.waiting := by
  unfold Device.writeLine Device.putDram
  split
  · rfl
  dsimp only
  rw [waiting_each _ fun _ _ => waiting_setDramWord _ _ _, waiting_withMem]
  split
  · split
    · exact waiting_setRemap _ _ _ _ _
    · rfl
  · rfl

theorem waiting_readCodewords (req la : Nat) (errors : List SymbolError) (cws : List Nat) :
    (d.readCodewords req la errors cws).2.waiting = d.waiting := by
  unfold Device.readCodewords
  split
  · exact waiting_corrected d _ _ _
  · exact (waiting_uncorrectable _ _ _).trans (waiting_nextFree d)
  · exact (waiting_corrected _ _ _ _).trans (waiting_withFree d _)

theorem waiting_poolReadError (la : Nat) : (d.poolReadError la).waiting = d.waiting := by
  have hfails : ∀ (x : Device) (key : Option (Nat × Nat)), (x.poolFails key).waiting = x.waiting := fun x key => by
    unfold Device.poolFails
    rw [waiting_runDry, waiting_raise, waiting_putFlag, waiting_putFlag, waiting_withPool]
  have hweir : ∀ x : Device, x.showPoolWeir.waiting = x.waiting := fun x => by
    unfold Device.showPoolWeir
    split <;> rfl
  have hredo : ∀ (x : Device) (key : Nat × Nat), (x.redoStrip key).waiting = x.waiting := fun x key => by
    unfold Device.redoStrip
    dsimp only
    rw [hweir]
    split
    · rw [waiting_withPool]
    · rw [waiting_putFlag, waiting_withPool]
  unfold Device.poolReadError
  dsimp only
  split
  · rfl
  split
  · rfl
  split
  · rw [hfails, waiting_charge]
  · have hcharge := waiting_charge d 6 0 0 d.csc.nextStripe
    generalize d.charge 6 0 0 d.csc.nextStripe = p at hcharge ⊢
    generalize Option.map _ _ = key
    obtain ⟨v, x⟩ := p
    have hredone : (key.elim x x.redoStrip).waiting = d.waiting := by
      cases key with
      | none => exact hcharge
      | some key => exact (hredo x key).trans hcharge
    cases v with
    | ignored => exact (hfails x key).trans hcharge
    | transient => exact hredone
    | permanent => exact hredone

theorem waiting_readFailed (req : Requester) (la : Nat) : (d.readFailed req la).waiting = d.waiting := by
  have hlib : ∀ x : Device, x.loseLibrary.waiting = x.waiting := fun x => by
    unfold Device.loseLibrary
    dsimp only
    split
    · rw [waiting_runDry, waiting_withMem, waiting_putFlag]
    · rw [waiting_withCsc, waiting_putFlag]
  cases req
  case cellLibrary => exact (hlib _).trans (waiting_emit d _)
  case poolRegion => exact (waiting_poolReadError _ la).trans (waiting_emit d _)
  all_goals rfl

theorem waiting_serve (r : MemReq) : (d.serve r).waiting = d.waiting := by
  have hopened : ((d.putFlag (fSelfRefresh (chanOf r.la)) false).touchRow r.la).waiting = d.waiting := by
    rw [waiting_touchRow, waiting_putFlag]
  unfold Device.serve
  dsimp only
  generalize Device.touchRow _ _ = x at hopened ⊢
  split
  · split
    · rw [waiting_emit, waiting_readCodewords, waiting_itemIn, hopened]
    · rw [waiting_readFailed, waiting_readCodewords, waiting_itemIn, hopened]
  · rw [waiting_itemOut, waiting_writeLine, hopened]
  · split
    · exact hopened
    · split
      · rw [waiting_itemOut, waiting_each _ fun _ _ => waiting_setDramWord _ _ _, waiting_readCodewords, hopened]
      · rw [waiting_readFailed, waiting_readCodewords, hopened]

theorem waiting_drainChan (c fuel : Nat) : (d.drainChan c fuel).waiting = d.waiting := by
  induction fuel generalizing d with
  | zero => rfl
  | succ fuel ih =>
    simp only [Device.drainChan]
    split
    · rfl
    split
    · rfl
    · rw [ih, waiting_serve, waiting_withMem]

/-- Serving the queues of module memory leaves the fetches that wait for it. -/
theorem waiting_drain : d.drain.waiting = d.waiting := waiting_each d fun x c => waiting_drainChan x c _

/-- Some DMA channel waits for module memory. -/
theorem anyWaits_eq : d.dma.chans.toList.any (fun c => c.waits) = d.waiting.toList.any id := by
  rw [Device.waiting, Vector.toList_map, List.any_map]
  rfl

end Sys2Proof.Machine
end

section
/-! PROOFS: one tick of the position island on an empty queue (07_position_and_flash.md, R267; R387, R496). -/
namespace Sys2Proof.Machine

/-- On an empty queue a step is the run of one tick. -/
theorem step_empty {s : State} (h : s.pending = []) : step s = s.run Device.tickOnce := by
  unfold step
  rw [h]

/-- An operation on what a list holds, where it holds anything. -/
theorem when_not_isEmpty {α : Type} (d : Device) (l : List α) (f : Device → Device) :
    d.when (!l.isEmpty) f = if l = [] then d else f d := by
  cases l <;> rfl

theorem when_and_not (d : Device) (a b : Bool) (f : Device → Device) :
    d.when (a && !b) f = if a = true ∧ b = false then f d else d := by
  cases a <;> cases b <;> rfl

/-- The stages of a tick after its clock has been counted: lanes that are due, the journal, a stop that no pass is left to take, module
memory, the DMA engine and the position logic. -/
def Device.afterCount (d : Device) : Device :=
  let d := d.when (!d.lne.moves.isEmpty) Device.movesDue
  let d := d.when (!d.rst.jqueue.isEmpty) Device.journalTick
  let d := d.when (d.noPass && !d.flag fAllServed) Device.stopEarly
  ((d.when (!d.mem.held.isEmpty) Device.drain).when (d.dma.chans.toList.any (fun c => c.waits)) Device.dmaRetry).positionTick

/-- The channels that wait are the same before and after module memory has served its queues. -/
theorem afterCount_eq {e e1 e2 e3 e4 : Device} (he1 : e1 = if e.lne.moves = [] then e else e.movesDue)
    (he2 : e2 = if e1.rst.jqueue = [] then e1 else e1.journalTick)
    (he3 : e3 = if e2.noPass = true ∧ e2.flag fAllServed = false then e2.stopEarly else e2)
    (he4 : e4 = if e3.mem.held = [] then e3 else e3.drain) :
    e.afterCount = (if e4.dma.chans.toList.any (fun c => c.waits) then e4.dmaRetry else e4).positionTick := by
  have hwaiting : e4.waiting = e3.waiting := by
    rw [he4]
    split
    · rfl
    · exact waiting_drain e3
  rw [anyWaits_eq, hwaiting, ← anyWaits_eq]
  simp only [Device.afterCount, when_not_isEmpty, when_and_not, ← he1, ← he2, ← he3, ← he4]
  rfl

/-- With the position island released a tick ends the clock, counts it, and takes the stages that follow (R445). -/
theorem tickOnce_released {d d1 e : Device} (hrel : d.released 13 = true)
    (hd1 : d1 = d.clockEnds.countClocks.lineTick.meshTick.countApart.noteRun)
    (he : e = { d1.todTick with clock := (d1.todTick.clock + 1) % 18446744073709551616, atTick := d1.todTick.regs }) :
    d.tickOnce = e.afterCount := by
  subst he hd1
  rw [Device.tickOnce, hrel]
  rfl

/-- Without a set or a step the time of day advances by a tick at the rate, and the remainder is kept (R387). -/
theorem todTick_unset {d : Device} (hload : d.ptp.load = none) (hstep : d.ptp.step = 0) :
    d.todTick.tod = (d.tod + ((81920 * (1000000000 + d.rate)).toNat + d.todRem) / 1000000000) % (281474976710656 * 65536000000000) ∧
      d.todTick.todRem = ((81920 * (1000000000 + d.rate)).toNat + d.todRem) % 1000000000 := by
  constructor
  · simp only [Device.todTick, hload, hstep, Option.getD_none, Int.add_zero, Int.toNat_natCast]
    rfl
  · simp only [Device.todTick, hload, Option.isSome_none, Bool.false_eq_true, if_false]

/-- Settles O2: on an empty queue the step is the tick, whose stages are those of a released position island. -/
theorem emptyQueueIsOneTick : Obligations.EmptyQueueIsOneTick := by
  intro s d d1 e e1 e2 e3 e4 h hempty hrel hd1 he he1 he2 he3 he4
  refine ⟨?_, fun hload hstep => ?_⟩
  · rw [step_empty hempty, run_finds h, tickOnce_released hrel hd1 he, afterCount_eq he1 he2 he3 he4]
  · rw [he]
    exact todTick_unset hload hstep

end Sys2Proof.Machine
end

section
/-! PROOFS: the position inputs, the heads and the compares (07_position_and_flash.md, R252 to R269). -/
namespace Sys2Proof.Machine

/-! ## The commands of the position island, each as the run of its effect -/

theorem exec_encoderEdge (c : Fin 6) (a b : InputLevel) (s : State) :
    exec (.encoderEdge c a b) s = s.run (encoderEdgeEffect c a.level b.level a.samples b.samples) := rfl

theorem exec_indexLatch (z : ZLevel) (s : State) : exec (.indexLatch z) s = s.run (indexLatchEffect z.ch z.level z.samples) := rfl

theorem exec_probeLatch (p : Fin 2) (x : InputLevel) (s : State) :
    exec (.probeLatch p x) s = s.run (probeLatchEffect p x.level x.samples) := rfl

theorem exec_headLos (c : Fin 6) (s : State) : exec (.headLos c) s = s.run (headLosEffect c) := rfl

theorem exec_headLosClear (c : Fin 6) (s : State) : exec (.headLosClear c) s = s.run (headLosClearEffect c) := rfl

theorem exec_headDivergence (y : Bool) (s : State) : exec (.headDivergence y) s = s.run (headDivergenceEffect y) := rfl

theorem exec_headFail (v : Word) (s : State) : exec (.headFail v) s = s.run (writeHeadCtrl (v.toNat % 64)) := rfl

theorem exec_restore (v : Word) (s : State) : exec (.restore v) s = s.run (writeHeadCtrl (v.toNat / 64 % 64 * 64)) := rfl

theorem exec_timeCompareArm (k : Fin 4) (v : Word) (s : State) :
    exec (.timeCompareArm k v) s = s.run (writeTimeCompare k v.toNat) := rfl

theorem exec_positionCompareArm (k : Fin 4) (v : Word) (s : State) :
    exec (.positionCompareArm k v) s = s.run (writePositionCompare k v.toNat) := rfl

theorem exec_timeCompareFire (k : Fin 4) (s : State) : exec (.timeCompareFire k) s = s.run (timeCompareFireEffect k) := rfl

/-! ## What a field reads after other registers have been written, and after the step has settled -/

theorem get36_of_reg {a b : Device} {off : Nat} (h : a.reg off = b.reg off) (h4 : a.reg (off + 4) = b.reg (off + 4)) :
    a.get36 off = b.get36 off := by
  rw [Device.get36, Device.get36, h, h4]

/-- A register pair reads as what was put into it (R10). -/
theorem get36_put36_same (d : Device) (off : Nat) {v : Nat} (hv : v < pairMod) : (d.put36 off v).get36 off = v := by
  have hlow : ((d.setReg off (v % wordMod)).setReg (off + 4) (v / wordMod)).reg off = v % wordMod % 262144 := by
    rw [reg_setReg_ne _ _ (by omega), reg_setReg_same]
  rw [Device.get36, Device.put36, hlow, reg_setReg_same, pairVal]
  unfold pairMod at hv
  unfold wordMod
  omega

theorem get36_lt (d : Device) (off : Nat) : d.get36 off < pairMod := by
  have hlow := reg_lt d off
  have hhigh := reg_lt d (off + 4)
  unfold Device.get36 pairVal wordMod pairMod
  omega

theorem get36_put_ne (d : Device) {f : Fld} {off : Nat} (v : Nat) (h : off ≠ f.off) (h4 : off + 4 ≠ f.off) :
    (d.put f v).get36 off = d.get36 off := get36_of_reg (reg_put_ne d v h) (reg_put_ne d v h4)

theorem flag_settle (d : Device) {f : Fld} (q : quietReg f.off) : d.settle.flag f = d.flag f := flag_of_reg (settle_reg d q)

theorem flag_raise (d : Device) {n : Nat} (hn : n < 256) {f : Fld} (q : quietReg f.off) : (d.raise n).flag f = d.flag f :=
  flag_of_reg (raisesOnly_reg (raisesOnly_raise d n hn) q)

theorem flag_putFlag_bit_same (d : Device) {off i : Nat} (b : Bool) (hi : i < 18) : (d.putFlag (bitAt off i) b).flag (bitAt off i) = b :=
  flag_putFlag_same d (bitAt off i) b rfl hi

/-- A flag of the same dword at another bit keeps its value. -/
theorem flag_putFlag_bit_ne (d : Device) {off i j : Nat} (b : Bool) (hi : i < 18) (hj : j < 18) (h : i ≠ j) :
    (d.putFlag (bitAt off i) b).flag (bitAt off j) = d.flag (bitAt off j) := by
  have hkeep : (d.putFlag (bitAt off i) b).get (bitAt off j) = d.get (bitAt off j) :=
    get_put_apart d _ rfl (show j + 1 ≤ 18 by omega) (show j + 1 ≤ i ∨ i + 1 ≤ j by omega)
  rw [Device.flag, Device.flag, hkeep]

/-- The registers of the position island and of the flash sequencer (R568). -/
theorem quietReg_of_island {off : Nat} (h : off / 0x100000 = 11 ∨ off / 0x100000 = 12) : quietReg off := by
  unfold quietReg; omega

/-! ## The filter of an input (R252) -/

theorem filtered_of_three (old : Bool) {raw : Bool} {n : Nat} (hn : 3 ≤ n) : filtered old raw n = raw := if_pos hn

/-- A level that fewer samples show, or that is the filtered one, leaves the filtered level. -/
theorem filtered_unchanged {old raw : Bool} {n : Nat} (h : n < 3 ∨ old = raw) : filtered old raw n = old := by
  rcases h with hfew | rfl
  · exact if_neg (by omega)
  · exact ite_self _

theorem head_setHead_same (d : Device) (c : Fin 6) (h : Head) : (d.setHead c h).head c = h := by
  simp [Device.head, Device.setHead, Vector.set!]

/-! ## Encoder edges (R253, R255) -/

/-- A step of the filtered levels counts in the direction that it shows. -/
theorem encoderEdgeEffect_step {d d1 d2 : Device} {c na nb : Nat} {a b : Bool} {h : Head} (hrel : d.released 13 = true)
    (hna : 3 ≤ na) (hnb : 3 ≤ nb) (hh : h = { d.head c with a := a, b := b })
    (hstep : (h.q + 4 - (d.head c).q) % 4 = 1 ∨ (h.q + 4 - (d.head c).q) % 4 = 3)
    (hd1 : d1 = (d.setHead c h).put (fChLevels c) (b2n a * 4 + b2n b * 2 + b2n h.z))
    (hd2 : d2 = d1.countStep c ((h.q + 4 - (d.head c).q) % 4 == 1)) :
    encoderEdgeEffect c a b na nb d = d2.moved c (d2.flag (fChDir c) != d1.flag (fChDir c)) := by
  have hlevels : b2n a * 4 + b2n b * 2 + b2n h.z = h.levels := by rw [hh]; rfl
  have h0 : ((h.q + 4 - (d.head c).q) % 4 == 0) = false := beq_eq_false_iff_ne.2 (by omega)
  have h2 : ((h.q + 4 - (d.head c).q) % 4 == 2) = false := beq_eq_false_iff_ne.2 (by omega)
  simp only [encoderEdgeEffect, hrel, filtered_of_three _ hna, filtered_of_three _ hnb, ← hh, h0, h2, ← hlevels, ← hd1, ← hd2,
    Bool.not_true, Bool.false_eq_true, if_false]

/-! ## The index (R261) -/

section index
variable {d : Device} {c n : Nat} (hrel : d.released 13 = true) (hn : 3 ≤ n)
include hrel hn

/-- A filtered fall of Z changes its level alone. -/
theorem indexLatchEffect_fall (hz : (d.head c).z = true) :
    indexLatchEffect c false n d =
      (d.setHead c { d.head c with z := false }).put (fChLevels c) (b2n (d.head c).a * 4 + b2n (d.head c).b * 2) := by
  have hnew : (({ d.head c with z := false } : Head) == d.head c) = false :=
    beq_eq_false_iff_ne.2 fun e => Bool.noConfusion ((congrArg Head.z e).trans hz)
  simp only [indexLatchEffect, filtered_of_three _ hn, hrel, hnew, Bool.not_true, Bool.or_self, Bool.false_eq_true, if_false,
    Bool.not_false, if_true]
  rfl

/-- A filtered rise of Z copies COUNT into INDEX, sets INDEX_VALID, and raises event 155 where INDEX_EVT is 1. -/
theorem indexLatchEffect_rise {d1 d2 d3 : Device} (hz : (d.head c).z = false)
    (hd1 : d1 = (d.setHead c { d.head c with z := true }).put (fChLevels c) (b2n (d.head c).a * 4 + b2n (d.head c).b * 2 + 1))
    (hd2 : d2 = (d1.put36 (POS_CH_INDEX c) (d1.get36 (POS_CH_COUNT c))).putFlag (fIndexValid c) true)
    (hd3 : d3 = { d2 with pos := { d2.pos with indexAt := (c, d2.clock) :: d2.pos.indexAt.filter (fun p => p.1 != c) } }) :
    indexLatchEffect c true n d = if d2.flag (bitAt (POS_CH_CTRL c) 16) then d3.raise 155 else d3 := by
  have hnew : (({ d.head c with z := true } : Head) == d.head c) = false :=
    beq_eq_false_iff_ne.2 fun e => Bool.noConfusion ((congrArg Head.z e).trans hz)
  have hlevels : b2n (d.head c).a * 4 + b2n (d.head c).b * 2 + 1 = ({ d.head c with z := true } : Head).levels := rfl
  have hctrl : d3.flag (bitAt (POS_CH_CTRL c) 16) = d2.flag (bitAt (POS_CH_CTRL c) 16) := by rw [hd3]; rfl
  rw [← hctrl]
  simp only [indexLatchEffect, filtered_of_three _ hn, hrel, hnew, Bool.not_true, Bool.or_self, Bool.false_eq_true, if_false,
    ← hlevels, ← hd1, ← hd2, ← hd3]
  rfl

end index

section indexRise
variable {d d1 d2 : Device} {c : Nat} {h : Head} {levels : Nat} (hd1 : d1 = (d.setHead c h).put (fChLevels c) levels)
  (hd2 : d2 = (d1.put36 (POS_CH_INDEX c) (d1.get36 (POS_CH_COUNT c))).putFlag (fIndexValid c) true)

include hd1 in
theorem count_indexRise : d1.get36 (POS_CH_COUNT c) = d.get36 (POS_CH_COUNT c) := by
  rw [hd1]
  exact get36_put_ne _ _ (show POS_CH_COUNT c ≠ POS_CH_STATE c by unfold POS_CH_COUNT POS_CH_STATE; omega)
    (show POS_CH_COUNT c + 4 ≠ POS_CH_STATE c by unfold POS_CH_COUNT POS_CH_STATE; omega)

include hd1 hd2 in
theorem index_indexRise : d2.get36 (POS_CH_INDEX c) = d.get36 (POS_CH_COUNT c) := by
  have hkeep : d2.get36 (POS_CH_INDEX c) = (d1.put36 (POS_CH_INDEX c) (d1.get36 (POS_CH_COUNT c))).get36 (POS_CH_INDEX c) := by
    rw [hd2]
    exact get36_put_ne _ _ (show POS_CH_INDEX c ≠ POS_CH_STATE c by unfold POS_CH_INDEX POS_CH_STATE; omega)
      (show POS_CH_INDEX c + 4 ≠ POS_CH_STATE c by unfold POS_CH_INDEX POS_CH_STATE; omega)
  rw [hkeep, get36_put36_same _ _ (get36_lt _ _), count_indexRise hd1]

include hd2 in
theorem valid_indexRise : d2.flag (fIndexValid c) = true := by
  rw [hd2]
  exact flag_putFlag_bit_same _ true (by decide)

include hd1 hd2 in
theorem ctrl_indexRise (i : Nat) : d2.flag (bitAt (POS_CH_CTRL c) i) = d.flag (bitAt (POS_CH_CTRL c) i) := by
  have hstate : POS_CH_CTRL c ≠ POS_CH_STATE c := by unfold POS_CH_CTRL POS_CH_STATE; omega
  have hindex : POS_CH_CTRL c ≠ POS_CH_INDEX c := by unfold POS_CH_CTRL POS_CH_INDEX; omega
  have hindex4 : POS_CH_CTRL c ≠ POS_CH_INDEX c + 4 := by unfold POS_CH_CTRL POS_CH_INDEX; omega
  refine flag_of_reg (f := bitAt (POS_CH_CTRL c) i) ?_
  change d2.reg (POS_CH_CTRL c) = d.reg (POS_CH_CTRL c)
  rw [hd2, Device.putFlag, reg_put_ne _ _ hstate, reg_put36_ne _ _ hindex hindex4, hd1, reg_put_ne _ _ hstate]
  rfl

end indexRise

/-- Settles O59: the rise latches COUNT, and the level of the input leaves COUNT as it was. -/
theorem indexEdgeLatchesTheCount : Obligations.IndexEdgeLatchesTheCount := by
  intro s d d1 d2 d3 c n h hrel hz hn hd1 hd2 hd3
  refine ⟨?_, count_indexRise hd1, index_indexRise hd1 hd2, valid_indexRise hd2⟩
  rw [exec_indexLatch, run_finds h, indexLatchEffect_rise hrel hn hz hd1 hd2 hd3]

/-- The state after a filtered rise of Z: the level, the latch with its VALID, and where INDEX_EVT is 1 event 155. -/
theorem indexLatch_rise {s : State} {d : Device} {c : Fin 6} {n : Nat} (h : s.finds d) (hrel : d.released 13 = true)
    (hz : (d.head c).z = false) (hn : 3 ≤ n) :
    ∃ t, exec (.indexLatch { ch := c, level := true, samples := n }) s = .next t ∧ (t.dev.head c).z = true ∧
      t.dev.flag (fIndexValid c) = true ∧ t.dev.get36 (POS_CH_INDEX c) = d.get36 (POS_CH_COUNT c) ∧
      (d.flag (bitAt (POS_CH_CTRL c) 16) = true → t.dev.isPending 155 = true) := by
  obtain ⟨d1, hd1⟩ : ∃ d1, d1 = (d.setHead c { d.head c with z := true }).put (fChLevels c)
    (b2n (d.head c).a * 4 + b2n (d.head c).b * 2 + 1) := ⟨_, rfl⟩
  obtain ⟨d2, hd2⟩ : ∃ d2, d2 = (d1.put36 (POS_CH_INDEX c) (d1.get36 (POS_CH_COUNT c))).putFlag (fIndexValid c) true := ⟨_, rfl⟩
  obtain ⟨d3, hd3⟩ : ∃ d3 : Device, d3 = { d2 with pos :=
    { d2.pos with indexAt := (c.val, d2.clock) :: d2.pos.indexAt.filter (fun p => p.1 != c.val) } } := ⟨_, rfl⟩
  obtain ⟨d4, hd4⟩ : ∃ d4, d4 = if d2.flag (bitAt (POS_CH_CTRL c) 16) then d3.raise 155 else d3 := ⟨_, rfl⟩
  have hraises : d3.raisesOnly d4 := by
    rw [hd4]
    split
    · exact raisesOnly_raise d3 155 (by decide)
    · exact raisesOnly_refl d3
  have hreg {off : Nat} (q : quietReg off) : d4.settle.reg off = d2.reg off := by
    rw [settle_reg _ q, raisesOnly_reg hraises q, hd3]
    rfl
  have hlt := c.isLt
  have hstate : quietReg (POS_CH_STATE c) := quietReg_of_island (by unfold POS_CH_STATE; omega)
  have hindex : quietReg (POS_CH_INDEX c) := quietReg_of_island (by unfold POS_CH_INDEX; omega)
  have hindex4 : quietReg (POS_CH_INDEX c + 4) := quietReg_of_island (by unfold POS_CH_INDEX; omega)
  refine ⟨s.gives d4, ?_, ?_, ?_, ?_, fun hevt => ?_⟩
  · rw [exec_indexLatch, run_finds h, indexLatchEffect_rise hrel hn hz hd1 hd2 hd3, hd4]
  · have hpos : d4.settle.pos.heads = (d.setHead c { d.head c with z := true }).pos.heads := by
      rw [settle_pos, raisesOnly_pos hraises, hd3, hd2, hd1]
      rfl
    have hhead : d4.settle.head c = (d.setHead c { d.head c with z := true }).head c := by rw [Device.head, hpos]; rfl
    rw [gives_dev, hhead, head_setHead_same]
  · exact (flag_of_reg (hreg hstate)).trans (valid_indexRise hd2)
  · exact (get36_of_reg (hreg hindex) (hreg hindex4)).trans (index_indexRise hd1 hd2)
  · rw [← ctrl_indexRise hd1 hd2] at hevt
    rw [gives_dev, hd4, if_pos hevt]
    exact pendsAll_settle _ 155 (by decide) (isPending_raise d3 (by decide))

/-! ## The probes (R262) -/

/-- A filtered edge that EDGE selects latches the tick and the positions, where no latch is pending. -/
theorem probeLatchEffect_latches {d d0 d1 : Device} {p n : Nat} {level : Bool} (hrel : d.released 13 = true) (hn : 3 ≤ n)
    (hnew : d.pos.probes.toList.getD p false ≠ level)
    (hd0 : d0 = ({ d with pos := { d.pos with probes := d.pos.probes.set! p level } } : Device).wakeLatch (1 + p))
    (hedge : bits (d0.reg (POS_PRB_CTRL p)) 14 2 = 3 ∨ bits (d0.reg (POS_PRB_CTRL p)) 14 2 = if level then 1 else 2)
    (hfree : d0.flag (bitAt (POS_PRB_CTRL p) 17) = false)
    (hd1 : d1 = (d0.put36 (POS_PRB_TICK p) d0.tick).each (List.range 6) (fun d c => d.put36 (POS_PRB_POS p + 8 * c) (d.get36 (POS_CH_POS c)))) :
    probeLatchEffect p level n d =
      (({ d1 with pos := { d1.pos with probeAt := (p, d1.clock) :: d1.pos.probeAt.filter (fun x => x.1 != p) } } : Device).putFlag
        (bitAt (POS_PRB_CTRL p) 17) true).raise (153 + p) := by
  have hselected : (bits (d0.reg (POS_PRB_CTRL p)) 14 2 == 3 || (bits (d0.reg (POS_PRB_CTRL p)) 14 2 == 1 && level) ||
      (bits (d0.reg (POS_PRB_CTRL p)) 14 2 == 2 && !level)) = true := by
    rcases hedge with h | h <;> cases level <;> simp_all
  have hchanged : (level == d.pos.probes.toList.getD p false) = false := beq_eq_false_iff_ne.2 (Ne.symm hnew)
  simp only [probeLatchEffect, filtered_of_three _ hn, hrel, hchanged, ← hd0, hselected, hfree, Device.latchPos, ← hd1, Bool.not_true,
    Bool.or_self, Bool.false_eq_true, if_false]

/-- A level that fewer samples show, or that is the filtered one, does nothing. -/
theorem probeLatchEffect_unchanged {d : Device} {p n : Nat} {level : Bool} (h : n < 3 ∨ d.pos.probes.toList.getD p false = level) :
    probeLatchEffect p level n d = d := by
  simp only [probeLatchEffect, filtered_unchanged h, beq_self_eq_true, Bool.or_true, if_true]

/-! ## Heads (R263, R264, R265) -/

theorem headLosEffect_released {d : Device} (hrel : d.released 13 = true) (c : Nat) :
    headLosEffect c d = (d.setLos c true).failHead c 2 := by
  simp only [headLosEffect, hrel, Bool.not_true, Bool.false_eq_true, if_false]

theorem headLosClearEffect_released {d : Device} (hrel : d.released 13 = true) (c : Nat) : headLosClearEffect c d = d.setLos c false := by
  simp only [headLosClearEffect, hrel, Bool.not_true, Bool.false_eq_true, if_false]

/-- Heads of an axis that diverge with errors on neither or on both channels are event 151 and a stop. -/
theorem headDivergenceEffect_undecided {d : Device} {y : Bool} (hrel : d.released 13 = true) (hdiv : d.diverged (b2n y) = true)
    (hnew : d.flag (fDiv (b2n y)) = false) (herr : d.qerrWin (2 * b2n y) = 0 ↔ d.qerrWin (2 * b2n y + 1) = 0) :
    headDivergenceEffect y d = ((d.putFlag (fDiv (b2n y)) true).raise 151).stopRequest cHEAD := by
  have hsame : (d.qerrWin (2 * b2n y) != 0) = (d.qerrWin (2 * b2n y + 1) != 0) := by
    rw [Bool.eq_iff_iff, bne_iff_ne, bne_iff_ne, ne_eq, ne_eq, herr]
  simp only [headDivergenceEffect, hrel, hdiv, hnew, hsame, Bool.and_self, Bool.not_false, Bool.not_true, Bool.and_not_self,
    Bool.false_eq_true, if_false]

/-- Settles O22: each input is the run of an effect, along the branch that its filtered level selects. -/
theorem positionInputsTakeEffect : Obligations.PositionInputsTakeEffect := by
  refine ⟨?edge, ?fall, ?rise, ?probe, ?probeStill, ?los, ?divergence⟩
  case edge =>
    intro s d d1 d2 c a b na nb h hfind hrel hna hnb hh hstep hd1 hd2
    rw [exec_encoderEdge, run_finds hfind, encoderEdgeEffect_step hrel hna hnb hh hstep hd1 hd2]
  case fall =>
    intro s d c n h hrel hz hn
    rw [exec_indexLatch, run_finds h, indexLatchEffect_fall hrel hn hz]
  case rise =>
    intro s d c n h hrel hz hn
    exact indexLatch_rise h hrel hz hn
  case probe =>
    intro s d d0 d1 p level n h hrel hn hnew hd0 hedge hfree hd1
    rw [exec_probeLatch, run_finds h, probeLatchEffect_latches hrel hn hnew hd0 hedge hfree hd1]
  case probeStill =>
    intro s d p level n h hstill
    rw [exec_probeLatch, run_finds h, probeLatchEffect_unchanged hstill]
  case los =>
    intro s d c h hrel
    refine ⟨?_, ?_⟩
    · rw [exec_headLos, run_finds h, headLosEffect_released hrel]
    · rw [exec_headLosClear, run_finds h, headLosClearEffect_released hrel]
  case divergence =>
    intro s d y h hrel hdiv hnew herr
    rw [exec_headDivergence, run_finds h, headDivergenceEffect_undecided hrel hdiv hnew herr]

/-! ## POS_HEAD_CTRL (R264, R265) -/

/-- The FAIL bit of one channel fails that head. -/
theorem writeHeadCtrl_fail {d : Device} (hrel : d.released 13 = true) (c : Fin 6) :
    writeHeadCtrl ((BitVec.ofNat 18 (2 ^ c.val)).toNat % 64) d = d.failHead c 4 := by
  simp only [writeHeadCtrl, hrel, Bool.not_true, Bool.false_eq_true, if_false]
  fin_cases c <;> rfl

/-- The RESTORE bit of one channel restores that head, where the restore is taken. -/
theorem writeHeadCtrl_restore {d : Device} (hrel : d.released 13 = true) {c : Fin 6} (htaken : d.restoreTaken c = true) :
    writeHeadCtrl ((BitVec.ofNat 18 (64 * 2 ^ c.val)).toNat / 64 % 64 * 64) d = d.restoreHead c := by
  have hwhen : d.when (d.restoreTaken c) (fun d => d.restoreHead c) = d.restoreHead c := by rw [htaken]; rfl
  simp only [writeHeadCtrl, hrel, Bool.not_true, Bool.false_eq_true, if_false]
  rw [← hwhen]
  fin_cases c <;> rfl

/-! ## The compares (R268, R269) -/

/-- What a write of a compare's control keeps of its flags, with the direction and the channel that it writes (R289). -/
def Device.ctrlKept (d : Device) (ctrl keep v : Nat) : Device :=
  d.setReg ctrl ((bits (d.reg ctrl) 15 2 &&& ((3 - bits v 15 2) ||| bits (d.justSet ctrl) 15 2)) * 32768 + (v &&& keep))

theorem clock_ctrlKept (d : Device) (ctrl keep v : Nat) : (d.ctrlKept ctrl keep v).clock = d.clock := setReg_clock d _ _

/-- ARM sets BEHIND with event 158 where the target is reached, and arms the compare where it lies ahead. -/
theorem armWrite_arm {d : Device} (hrel : d.released 13 = true) (ctrl keep : Nat) (behind : Device → Bool) {v : Nat}
    (hv : bitOf v 17 = true) :
    armWrite ctrl keep behind v d =
      if behind (d.ctrlKept ctrl keep v) then ((d.ctrlKept ctrl keep v).putFlag (bitAt ctrl 16) true).raise 158
      else (d.ctrlKept ctrl keep v).putFlag (bitAt ctrl 17) true := by
  simp only [armWrite, hrel, hv, Bool.not_true, Bool.false_eq_true, if_false]
  rfl

theorem target_ctrlKept (d : Device) (k keep v : Nat) :
    (d.ctrlKept (POS_TCMP_CTRL k) keep v).get36 (POS_TCMP_TARGET k) = d.get36 (POS_TCMP_TARGET k) :=
  get36_of_reg (reg_setReg_ne d _ (by unfold POS_TCMP_TARGET POS_TCMP_CTRL; omega))
    (reg_setReg_ne d _ (by unfold POS_TCMP_TARGET POS_TCMP_CTRL; omega))

/-- A write of a time compare that arms it judges the target as it stands. -/
theorem writeTimeCompare_arm {d : Device} (hrel : d.released 13 = true) (k : Nat) {v : Nat} (hv : bitOf v 17 = true) :
    writeTimeCompare k v d =
      if 0 ≤ d.delta (d.get36 (POS_TCMP_TARGET k)) then ((d.ctrlKept (POS_TCMP_CTRL k) 0 v).putFlag (bitAt (POS_TCMP_CTRL k) 16) true).raise 158
      else (d.ctrlKept (POS_TCMP_CTRL k) 0 v).putFlag (bitAt (POS_TCMP_CTRL k) 17) true := by
  have hdelta : (d.ctrlKept (POS_TCMP_CTRL k) 0 v).delta ((d.ctrlKept (POS_TCMP_CTRL k) 0 v).get36 (POS_TCMP_TARGET k)) =
      d.delta (d.get36 (POS_TCMP_TARGET k)) := by
    rw [target_ctrlKept]
    rfl
  rw [writeTimeCompare, armWrite_arm hrel _ _ _ hv, hdelta]
  simp only [decide_eq_true_eq]

/-- The write of a time compare's control leaves ARMED clear: the write keeps the flags below it alone. -/
theorem armed_ctrlKept (d : Device) (ctrl v : Nat) : (d.ctrlKept ctrl 0 v).flag (bitAt ctrl 17) = false := by
  have hflags : (bits (d.reg ctrl) 15 2 &&& ((3 - bits v 15 2) ||| bits (d.justSet ctrl) 15 2)) < 4 :=
    Nat.lt_of_le_of_lt Nat.and_le_left (bits_lt _ 15 2)
  have hreg : (d.ctrlKept ctrl 0 v).reg ctrl < 2 ^ 17 := by
    rw [Device.ctrlKept, reg_setReg_same, Nat.and_zero]
    omega
  have hbit : (d.ctrlKept ctrl 0 v).get (bitAt ctrl 17) = 0 := by
    simp only [Device.get, bitAt, bits, Nat.div_eq_of_lt hreg, Nat.zero_mod]
  rw [Device.flag, hbit]
  rfl

/-- A write of a position compare that arms it is noted with its tick. -/
theorem writePositionCompare_arm {d d1 : Device} {k v : Nat} (hrel : d.released 13 = true) (hv : bitOf v 17 = true)
    (hd1 : d1 = d.ctrlKept (POS_PCMP_CTRL k) 0x7800 v) :
    writePositionCompare k v d =
      if d1.reached k then
        let d2 := (d1.putFlag (bitAt (POS_PCMP_CTRL k) 16) true).raise 158
        { d2 with pos := { d2.pos with armedAt := (k, d2.clock) :: d2.pos.armedAt.filter (fun p => p.1 != k) } }
      else
        let d2 := d1.putFlag (bitAt (POS_PCMP_CTRL k) 17) true
        { d2 with pos := { d2.pos with armedAt := (k, d2.clock) :: d2.pos.armedAt.filter (fun p => p.1 != k) } } := by
  have hctrl : (islandBit RST_RELEASED 13).off ≠ POS_PCMP_CTRL k := by
    change RST_RELEASED ≠ POS_PCMP_CTRL k
    unfold RST_RELEASED POS_PCMP_CTRL; omega
  have hrel1 : d1.released 13 = true := by
    rw [hd1]
    exact (flag_of_reg (reg_setReg_ne d _ hctrl)).trans hrel
  have harmed (i : Nat) : (d1.putFlag (bitAt (POS_PCMP_CTRL k) i) true).released 13 = true :=
    (flag_putFlag_ne d1 (f := bitAt (POS_PCMP_CTRL k) i) true hctrl).trans hrel1
  have hbehind : ((d1.putFlag (bitAt (POS_PCMP_CTRL k) 16) true).raise 158).released 13 = true :=
    (flag_raise _ (by decide) (f := islandBit RST_RELEASED 13) quietReg_released).trans (harmed 16)
  simp only [writePositionCompare, armWrite_arm hrel _ _ _ hv, ← hd1]
  split
  · rw [hbehind, hv]; rfl
  · rw [harmed 17, hv]; rfl

/-- An armed time compare whose target is reached fires; the first one is a wake source (R268, R531). -/
theorem timeCompareFireEffect_due {d d1 : Device} {k : Nat} (hrel : d.released 13 = true)
    (harmed : d.flag (bitAt (POS_TCMP_CTRL k) 17) = true) (hdue : 0 ≤ d.delta (d.get36 (POS_TCMP_TARGET k)))
    (hd1 : d1 = (((d.putFlag (bitAt (POS_TCMP_CTRL k) 17) false).putFlag (bitAt (POS_TCMP_CTRL k) 15) true).itemIn 9).raise 157) :
    timeCompareFireEffect k d = if k = 0 then wakeEffect 7 0 d1 else d1 := by
  simp only [timeCompareFireEffect, hrel, harmed, hdue, decide_true, Bool.and_self, if_true, ← hd1, Device.when, beq_iff_eq]

/-- Settles O23: each write runs the action of its bit, and a compare is judged by its target as the write finds it. -/
theorem headControlAndComparesTakeEffect : Obligations.HeadControlAndComparesTakeEffect := by
  have harm : bitOf (0x20000 : Word).toNat 17 = true := by decide
  have hquiet (k : Fin 4) (i : Nat) : quietReg (bitAt (POS_TCMP_CTRL k) i).off :=
    quietReg_of_island (.inl (show POS_TCMP_CTRL k / 0x100000 = 11 by have := k.isLt; unfold POS_TCMP_CTRL; omega))
  refine ⟨?fail, ?restore, ?ahead, ?behind, ?position, ?fire⟩
  case fail =>
    intro s d c h hrel
    rw [exec_headFail, run_finds h, writeHeadCtrl_fail hrel]
  case restore =>
    intro s d c h hrel htaken
    rw [exec_restore, run_finds h, writeHeadCtrl_restore hrel htaken]
  case ahead =>
    intro s d k h hrel hahead
    refine ⟨_, (exec_timeCompareArm k _ s).trans (run_finds h _), ?_, ?_⟩
    · rw [writeTimeCompare_arm hrel k harm, if_neg (by omega), gives_dev, flag_settle _ (hquiet k 17)]
      exact flag_putFlag_bit_same _ true (by decide)
    · rw [gives_dev, settle_clock, writeTimeCompare_arm hrel k harm, if_neg (by omega), putFlag_clock, clock_ctrlKept]
  case behind =>
    intro s d k h hrel hreached
    refine ⟨_, (exec_timeCompareArm k _ s).trans (run_finds h _), ?_, ?_, ?_⟩ <;>
      rw [writeTimeCompare_arm hrel k harm, if_pos hreached, gives_dev]
    · rw [flag_settle _ (hquiet k 17), flag_raise _ (by decide) (hquiet k 17), flag_putFlag_bit_ne _ _ (by decide) (by decide) (by decide),
        armed_ctrlKept]
    · rw [flag_settle _ (hquiet k 16), flag_raise _ (by decide) (hquiet k 16)]
      exact flag_putFlag_bit_same _ true (by decide)
    · exact pendsAll_settle _ 158 (by decide) (isPending_raise _ (by decide))
  case position =>
    intro s d k v d1 h hrel hv hd1
    rw [exec_positionCompareArm, run_finds h, writePositionCompare_arm hrel hv hd1]
  case fire =>
    intro s d d1 k h hrel harmed hdue hd1
    rw [exec_timeCompareFire, run_finds h, timeCompareFireEffect_due hrel harmed hdue hd1]

end Sys2Proof.Machine
end

section
/-! PROOFS: the strobes and BEAM_PERMIT (07_position_and_flash.md, R272, R280, R281). -/
namespace Sys2Proof.Machine

/-! ## The commands of the strobes and of BEAM_PERMIT, each as the run of its effect -/

theorem exec_strobeRise (s : State) : exec .strobeRise s = s.run strobeRiseEffect := rfl

theorem exec_strobeFall (s : State) : exec .strobeFall s = s.run strobeFallEffect := rfl

theorem exec_beamPermitFall (n : Nat) (s : State) : exec (.beamPermitFall n) s = s.run (beamPermitFallEffect n) := rfl

theorem exec_beamPermitRise (s : State) : exec .beamPermitRise s = s.run beamPermitRiseEffect := rfl

/-! ## Strobes (R272) -/

/-- The strobe of the decided flash rises from its tick on, where nothing gates it. -/
theorem strobeRiseEffect_due {d d1 d2 d3 : Device} {x : Decided} {j : Job} (hdec : d.fls.decided = some x) (hjob : d.job = some j)
    (hdue : x.rise ≤ d.clock) (hfree : d.strobeGated = false)
    (hd1 : d1 = { d with fls := { d.fls with
      decided := none, flash := true, high := some (x.fseq, d.clock, d.clock + d.get fWindow),
      recent := (d.clock, x.fseq) :: d.fls.recent.filter (fun p => decide (d.clock ≤ p.1 + 12800)) } })
    (hd2 : d2 = ((((d1.put36 FLS_FIRED ((d1.get36 FLS_FIRED + 1) % pairMod)).put36 FLS_LAST_FSEQ x.fseq).countUsage x.fseq).mapJob
      (fun j => { j with firedN := x.n })))
    (hd3 : d3 = (((d2.setFrames (d2.lne.frames.filter (fun f => f.fseq != x.fseq))).itemOut 9).releaseRows).showCistern.each
      (List.range 72) Device.laneSettle) :
    strobeRiseEffect d = if d3.fls.flushDue then d3.stopFlush ((x.fseq + 1) % pairMod) else d3.showWeir := by
  have hguard : ¬(decide (d.clock < x.rise) || d.strobeGated) = true := by
    rw [hfree, Bool.or_false, decide_eq_true_eq]
    omega
  unfold strobeRiseEffect
  split
  next x' j' hx hj =>
    obtain rfl : x = x' := Option.some.inj (hdec.symm.trans hx)
    rw [if_neg hguard, hd3, hd2, hd1]
  next hnone => exact absurd hjob (hnone x j hdec)

/-- The strobe falls at the end of its window. -/
theorem strobeFallEffect_due {d : Device} {fseq t0 t1 : Nat} (hhigh : d.fls.high = some (fseq, t0, t1)) (hdue : t1 ≤ d.clock) :
    strobeFallEffect d = { d with fls := { d.fls with flash := false, high := none } } := by
  simp only [strobeFallEffect, hhigh, if_neg (Nat.not_lt.2 hdue)]

/-! ## A blanked module outside WRITING stays so (R280) -/

/-- The blanking latch is set, and the module does not write. -/
def Device.blankedIdle (d : Device) : Prop := d.flag fBlanked = true ∧ d.inWriting = false

section blankedIdle
variable {d : Device} (h : d.blankedIdle)

theorem inWriting_of_reg {a b : Device} (h : a.reg SYS_STATE = b.reg SYS_STATE) : a.inWriting = b.inWriting := by
  simp only [Device.inWriting, Device.st, Device.get, show fState.off = SYS_STATE from rfl, h]

include h

theorem blankedIdle_of_reg {d' : Device} (hfls : d'.reg FLS_STATUS = d.reg FLS_STATUS) (hsys : d'.reg SYS_STATE = d.reg SYS_STATE) :
    d'.blankedIdle :=
  ⟨(flag_of_reg (f := fBlanked) hfls).trans h.1, (inWriting_of_reg hsys).trans h.2⟩

theorem blankedIdle_of_regs {d' : Device} (hregs : d'.regs = d.regs) : d'.blankedIdle :=
  blankedIdle_of_reg h (by rw [Device.reg, hregs]; rfl) (by rw [Device.reg, hregs]; rfl)

theorem blankedIdle_of_raisesOnly {d' : Device} (hraises : d.raisesOnly d') : d'.blankedIdle :=
  blankedIdle_of_reg h (raisesOnly_reg hraises quietReg_flsStatus) (raisesOnly_reg hraises ⟨by decide, by decide⟩)

theorem blankedIdle_setReg {off : Nat} (hfls : FLS_STATUS ≠ off) (hsys : SYS_STATE ≠ off) (v : Nat) : (d.setReg off v).blankedIdle :=
  blankedIdle_of_reg h (reg_setReg_ne d v hfls) (reg_setReg_ne d v hsys)

theorem blankedIdle_put {f : Fld} (hfls : FLS_STATUS ≠ f.off) (hsys : SYS_STATE ≠ f.off) (v : Nat) : (d.put f v).blankedIdle :=
  blankedIdle_setReg h hfls hsys _

/-- An active lane's state is no word of FLS_STATUS whose latch is set. -/
theorem blankedIdle_calibrates {n : Nat} (hactive : d.laneSt n = laneActive) : (d.setLaneSt n laneCal).blankedIdle := by
  have hfls : FLS_STATUS ≠ LNE_LANE_STATE n := by
    intro heq
    have hst : bits (d.reg FLS_STATUS) 15 3 = 2 := by rw [heq]; exact hactive
    have hlatch : bits (d.reg FLS_STATUS) 15 1 = 1 := beq_iff_eq.1 h.1
    unfold bits at hst hlatch
    omega
  exact blankedIdle_put h hfls (show SYS_STATE ≠ LNE_LANE_STATE n by unfold SYS_STATE LNE_LANE_STATE; omega) laneCal

omit h in
theorem laneFrame_blankedIdle : LaneFrame Device.blankedIdle where
  withLne _ _ h := blankedIdle_of_regs h rfl
  withFls _ _ h := blankedIdle_of_regs h rfl
  withDomains _ _ h := blankedIdle_of_regs h rfl
  put _ _ _ hoff h := by
    rcases hoff with hoff | hoff | hoff
    all_goals exact blankedIdle_put h (by rw [hoff]; decide) (by rw [hoff]; decide) _
  calibrates _ _ hactive h := blankedIdle_calibrates h hactive

/-! ### What a fall of BEAM_PERMIT does after it has set the latch (R281) -/

theorem blankedIdle_put36 {off : Nat} (hfls : FLS_STATUS ≠ off ∧ FLS_STATUS ≠ off + 4) (hsys : SYS_STATE ≠ off ∧ SYS_STATE ≠ off + 4) (v : Nat) :
    (d.put36 off v).blankedIdle :=
  blankedIdle_of_reg h (reg_put36_ne d v hfls.1 hfls.2) (reg_put36_ne d v hsys.1 hsys.2)

theorem blankedIdle_undecide : d.undecide.blankedIdle := by
  have hstitch {x : Device} (hx : x.regs = d.regs) (n : Int) (s : Nat) :
      ((x.putS36 FLS_STITCH_N n).put36 FLS_STITCH_FSEQ s).blankedIdle :=
    blankedIdle_put36 (blankedIdle_put36 (blankedIdle_of_regs h hx) (off := FLS_STITCH_N) (by decide) (by decide) _) (by decide) (by decide) _
  unfold Device.undecide
  split
  · dsimp only
    split
    · split
      · split
        · refine stopFlush_keeps laneFrame_blankedIdle (hstitch ?_ _ _) _
          rfl
        · exact hstitch rfl _ _
      · exact blankedIdle_of_regs h rfl
    · exact blankedIdle_of_regs h rfl
  · exact h

theorem blankedIdle_stopRequest (bit : Nat) : (d.stopRequest bit).blankedIdle := by
  have hno : (!d.inWriting) = true := by rw [h.2]; rfl
  rw [Device.stopRequest, if_pos hno]
  unfold Device.meetsResume
  split
  · exact h
  dsimp only [Device.when]
  split
  · refine blankedIdle_of_raisesOnly ?_ (raisesOnly_sendMesh _ _ _ _)
    exact blankedIdle_of_regs h rfl
  · exact blankedIdle_of_regs h rfl

theorem blankedIdle_cutStrobe : d.cutStrobe.blankedIdle := by
  have hcut {x : Device} (hx : x.regs = d.regs) (v s : Nat) : ((x.setReg FLS_PERMIT_CUT v).put36 FLS_PERMIT_FSEQ s).blankedIdle :=
    blankedIdle_put36 (blankedIdle_setReg (blankedIdle_of_regs h hx) (off := FLS_PERMIT_CUT) (by decide) (by decide) _) (by decide) (by decide) _
  unfold Device.cutStrobe
  split
  · refine blankedIdle_of_raisesOnly ?_ (raisesOnly_raise _ 170 (by decide))
    exact hcut rfl _ _
  · exact h

end blankedIdle

/-! ## BEAM_PERMIT (R280, R281) -/

/-- The state with BEAM_PERMIT low. -/
def Device.permitLow (d : Device) : Device := ({ d with fls := { d.fls with permit := false, fell := true } } : Device).putFlag fPermit false

theorem blanked_permitLow (d : Device) : d.permitLow.flag fBlanked = d.flag fBlanked :=
  flag_putFlag_bit_ne _ _ (by decide) (by decide) (by decide)

theorem inWriting_permitLow (d : Device) : d.permitLow.inWriting = d.inWriting := inWriting_of_reg (reg_put_ne _ _ (by decide))

/-- A low of 10 ns or more sets the latch where it is clear; a latch that is set stays. -/
theorem beamPermitFallEffect_long (d : Device) {n : Nat} (hn : 10 ≤ n) :
    beamPermitFallEffect n d =
      if d.flag fBlanked then d.permitLow
      else ((((d.permitLow.putFlag fBlanked true).raise 168).undecide).stopRequest cPERMIT).cutStrobe := by
  have htaken : (decide (10 ≤ n) || Config.pulseTaken d.freeCtr) = true := by rw [decide_eq_true hn, Bool.true_or]
  rw [← blanked_permitLow d]
  simp only [beamPermitFallEffect, htaken, if_neg (Nat.not_lt.2 hn), Bool.false_and, Bool.not_true, Bool.false_or, when_true]
  rfl

/-- A module that the latch blanks leaves its strobe output low. -/
theorem flash_settle_of_blanked {d : Device} (h : d.flag fBlanked = true) : d.settle.fls.flash = false := by
  rw [settle_fls, Device.strobeGated, h]
  simp

/-- Outside WRITING a low of 10 ns or more leaves the latch set. -/
theorem blanked_beamPermitFall {d : Device} {n : Nat} (hn : 10 ≤ n) (hidle : d.inWriting = false) :
    (beamPermitFallEffect n d).flag fBlanked = true := by
  rw [beamPermitFallEffect_long d hn]
  split
  · rename_i hset
    rw [blanked_permitLow, hset]
  · have hlatched : (d.permitLow.putFlag fBlanked true).blankedIdle :=
      ⟨flag_putFlag_same _ _ true rfl (by decide), (inWriting_of_reg (reg_put_ne _ _ (by decide))).trans ((inWriting_permitLow d).trans hidle)⟩
    have hraised := blankedIdle_of_raisesOnly hlatched (raisesOnly_raise _ 168 (by decide))
    exact (blankedIdle_cutStrobe (blankedIdle_stopRequest (blankedIdle_undecide hraised) cPERMIT)).1

/-- With the position island released a rise shows PERMIT and raises event 169. -/
theorem beamPermitRiseEffect_released {d : Device} (hrel : d.released 13 = true) :
    beamPermitRiseEffect d = (({ d with fls := { d.fls with permit := true } } : Device).putFlag fPermit true).raise 169 :=
  if_pos hrel

/-- Settles O24: the strobe takes the branch of its tick, and a long fall of BEAM_PERMIT sets the latch, which nothing that follows it
clears. -/
theorem strobesAndThePermit : Obligations.StrobesAndThePermit := by
  have hquiet := quietReg_flsStatus
  refine ⟨?rise, ?fall, ?permitFall, ?blanked, ?permitRise⟩
  case rise =>
    intro s d d1 d2 d3 x j h hdec hjob hdue hfree hd1 hd2 hd3
    rw [exec_strobeRise, run_finds h, strobeRiseEffect_due hdec hjob hdue hfree hd1 hd2 hd3]
  case fall =>
    intro s d fseq t0 t1 h hhigh hdue
    rw [exec_strobeFall, run_finds h, strobeFallEffect_due hhigh hdue]
  case permitFall =>
    intro s d n d1 h hn hclear hd1
    rw [exec_beamPermitFall, run_finds h, beamPermitFallEffect_long d hn, if_neg (by rw [hclear]; decide), hd1]
    rfl
  case blanked =>
    intro s d n h hn hidle
    have hset := blanked_beamPermitFall hn hidle
    exact ⟨_, (exec_beamPermitFall n s).trans (run_finds h _), (flag_settle _ hquiet).trans hset, flash_settle_of_blanked hset⟩
  case permitRise =>
    intro s d h hrel
    refine ⟨_, (exec_beamPermitRise s).trans (run_finds h _), ?_, ?_, ?_⟩ <;> rw [beamPermitRiseEffect_released hrel, gives_dev]
    · rw [flag_settle _ hquiet, flag_raise _ (by decide) hquiet]
      exact flag_putFlag_same _ _ true rfl (by decide)
    · rw [flag_settle _ hquiet, flag_raise _ (by decide) hquiet]
      exact flag_putFlag_bit_ne _ _ (by decide) (by decide) (by decide)
    · exact pendsAll_settle _ 169 (by decide) (isPending_raise _ (by decide))

end Sys2Proof.Machine
end

section
/-! PROOFS: servo boundaries, settled moves, the start of a run, the sine table and the layer axes (08_motion_and_layer_axes.md). -/
namespace Sys2Proof.Machine

/-! ## The commands of the motion block, each as the run of its effect -/

theorem exec_servoBoundary (s : State) : exec .servoBoundary s = s.run servoBoundaryEffect := rfl

theorem exec_moveSettled (s : State) : exec .moveSettled s = s.run moveSettledEffect := rfl

theorem exec_backupComplete (s : State) : exec .backupComplete s = s.run backupCompleteEffect := rfl

theorem exec_runInStart (s : State) : exec .runInStart s = s.run runInStartEffect := rfl

theorem exec_sineTableCommit (v : Word) (s : State) : exec (.sineTableCommit v) s = s.run (writeSineCommit v.toNat) := rfl

theorem exec_layerAxisGoto (k : Fin 2) (v : Word) (s : State) : exec (.layerAxisGoto k v) s = s.run (writeGoto k v.toNat) := rfl

theorem exec_layerReady (x : InputLevel) (s : State) : exec (.layerReady x) s = s.run (layerReadyEffect x.level x.samples) := rfl

theorem exec_motLayerGo (v : Word) (s : State) : exec (.motLayerGo v) s = s.run (writeMotLayer v.toNat) := rfl

theorem exec_layerMoveComplete (k : Fin 2) (s : State) : exec (.layerMoveComplete k) s = s.run (layerMoveCompleteEffect k) := rfl

/-! ## What completions leave (R469, R470, R475) -/

section completions
variable (d : Device) (p : Wait → Bool) (status detail : Nat) (results : List Nat) (applied : Nat)

theorem kept_countStalls : d.countStalls.kept = d.kept :=
  (kept_each _ fun x _ => kept_when x fun y => kept_bumpBy y _ _).trans (kept_withUlp d rfl)

theorem kept_drainCheck : d.drainCheck.kept = d.kept :=
  kept_each d fun x _ => kept_when x fun y => kept_putFlag y _ false

theorem kept_post (c : Completion) : (d.post c).kept = d.kept := by
  unfold Device.post
  split
  · exact (kept_countStalls _).trans (kept_withUlp d rfl)
  · rfl

section registers
variable {off : Nat}

theorem reg_when {c : Bool} {f : Device → Device} (hf : (f d).reg off = d.reg off) : (d.when c f).reg off = d.reg off := by
  cases c
  · rfl
  · exact hf

theorem reg_each_queue {f : Device → Nat → Device} (hf : ∀ x q, q < 4 → (f x q).reg off = x.reg off) :
    (d.each (List.range 4) f).reg off = d.reg off :=
  List.foldlRecOn (motive := fun x : Device => x.reg off = d.reg off) _ _ rfl fun x hx q hq => (hf x q (List.mem_range.1 hq)).trans hx

variable (h : off / 0x100000 ≠ 3)
include h

theorem reg_countStalls : d.countStalls.reg off = d.reg off :=
  reg_each_queue _ fun x q hq => reg_when x (reg_put_ne x _ (show off ≠ ULP_CQ_STALL q by unfold ULP_CQ_STALL; omega))

theorem reg_drainCheck : d.drainCheck.reg off = d.reg off :=
  reg_each_queue d fun x q hq => reg_when x (reg_put_ne x _ (show off ≠ ULP_Q_CTRL q by unfold ULP_Q_CTRL; omega))

theorem reg_post (c : Completion) : (d.post c).reg off = d.reg off := by
  unfold Device.post
  split
  · exact reg_countStalls _ h
  · rfl

theorem reg_complete (f : Flight) (taken : Bool) : (d.complete f status detail results applied taken).reg off = d.reg off :=
  (reg_drainCheck _ h).trans (reg_post _ h _)

/-- Completions write no register outside the block of the command engine. -/
theorem reg_completeWhere : (d.completeWhere p status detail results applied).reg off = d.reg off :=
  each_keeps (fun x => x.reg off = d.reg off) _ (fun x f hx => (reg_complete x status detail results applied h f false).trans hx) _ _ rfl

end registers

/-- A command that ends takes those of its tag out of flight, and no other. -/
theorem flights_complete (f : Flight) (taken : Bool) :
    (d.complete f status detail results applied taken).ulp.flights = d.ulp.flights.filter (fun g => g.tag != f.tag) :=
  congrArg Kept.flights ((kept_drainCheck _).trans (kept_post _ _))

theorem mem_flights_each_complete (g : Flight) (l : List Flight) :
    g ∈ (d.each l (fun d f => d.complete f status detail results applied)).ulp.flights ↔
      g ∈ d.ulp.flights ∧ ∀ f ∈ l, g.tag ≠ f.tag := by
  induction l generalizing d with
  | nil => simp
  | cons f l ih =>
    rw [each_cons, ih, flights_complete, List.mem_filter, bne_iff_ne, List.forall_mem_cons, and_assoc]

theorem someWaits_completeWhere : (d.completeWhere p status detail results applied).someWaits p = false := by
  refine List.any_eq_false.2 fun g hg hp => ?_
  obtain ⟨hmem, hnone⟩ := (mem_flights_each_complete d status detail results applied g _).1 hg
  exact hnone g (List.mem_filter.2 ⟨hmem, hp⟩) rfl

/-- A completion lets no command wait that did not. -/
theorem someWaits_completeWhere_of_none {q : Wait → Bool} (hq : d.someWaits q = false) :
    (d.completeWhere p status detail results applied).someWaits q = false :=
  List.any_eq_false.2 fun g hg =>
    List.any_eq_false.1 hq g ((mem_flights_each_complete d status detail results applied g _).1 hg).1

end completions

/-! ## Servo boundaries (R296, R310, R418) -/

/-- With no setting written in this tick, the settings before its writes are those in force. -/
theorem asBefore_of_unwritten {d : Device} (h : d.mot.wrote.1 ≠ d.clock ∨ d.mot.wrote.2 = []) (f : Device → Device) :
    d.asBefore f = f d := by
  have hnone : (d.mot.wrote.1 != d.clock || d.mot.wrote.2.isEmpty) = true := by
    rw [Bool.or_eq_true, bne_iff_ne, List.isEmpty_iff]
    exact h
  exact if_pos hnone

theorem servoBoundaryEffect_due {d : Device} (hrel : d.released 13 = true) (hdue : d.mot.nextBoundary ≤ d.clock) :
    servoBoundaryEffect d = d.asBefore (Device.boundary d.mot.nextBoundary) := by
  simp only [servoBoundaryEffect, hrel, hdue, decide_true, Bool.and_self, Bool.not_true, Bool.false_eq_true, if_false]

section motion
variable (d : Device) {off : Nat} (tb : Nat)

theorem reg_motionFirst (off : Nat) : d.motionFirst.reg off = d.reg off := by
  unfold Device.motionFirst
  split <;> rfl

/-- A motion that begins shows in MOT_STATUS alone; one that is refused completes its command. -/
theorem reg_beginMotion (hulp : off / 0x100000 ≠ 3) (hstatus : off ≠ MOT_STATUS) : (d.beginMotion tb).reg off = d.reg off := by
  have hstate (x : Device) (v : Nat) : (x.put fMState v).reg off = x.reg off := reg_put_ne x v hstatus
  have hrefused : d.moveRefused.reg off = d.reg off := reg_completeWhere d _ _ _ _ _ hulp
  unfold Device.beginMotion
  extract_lets acc jerk m stopAcc stopJerk speed
  split
  · rfl
  split
  next => rfl
  next => -- a stop, from the state of x and of y
    split
    split
    split
    · rfl
    · exact hstate _ _
  next => -- a move
    split
    · exact hrefused
    split
    · rfl
    · exact hstate _ _
  next => rfl
  next => -- a move to the back-up point, under the captured limits
    split
    split
    · rfl
    · exact hstate _ _

end motion

/-- A worker's boundary ends with its REPORT. -/
theorem boundary_worker {d d1 : Device} {tb : Nat} (hworker : d.isWorker = true)
    (hd1 : d1 = (if d.motionFirst.inReady then d.motionFirst.beginMotion tb else d.motionFirst).sendReport) :
    Device.boundary tb d = d1.mapMot (fun m => { m with nextBoundary := tb + 800 * d1.get fServo, lastBoundary := tb }) := by
  have hready : d.motionFirst.inReady = d.inReady := by
    simp only [Device.inReady, Device.st, Device.get, reg_motionFirst]
  have hd1' : d1 = (d.motionFirst.when d.inReady (fun d => d.beginMotion tb)).sendReport := by rw [hd1, hready]; rfl
  have hservo : d1.get fServo = d.get fServo := by
    have hreg : d1.reg MOT_CFG = d.reg MOT_CFG := by
      rw [hd1, Device.sendReport, reg_sendMesh _ (show MOT_CFG / 0x100000 ≠ 21 by decide)]
      split
      · rw [reg_beginMotion _ tb (by decide) (by decide), reg_motionFirst]
      · exact reg_motionFirst d _
    rw [Device.get, Device.get, show fServo.off = MOT_CFG from rfl, hreg]
  rw [hservo, hd1']
  exact if_pos hworker

/-! ## Moves that have settled (R301, R306, R481) -/

section settles
variable {d : Device} (hrel : d.released 13 = true) (hset : d.settled = true)
include hrel hset

/-- A settled MOVE that no MOTION_STOP ended completes OK. -/
theorem moveSettledEffect_move {d1 : Device} (hready : d.mot.readyMove = true)
    (hstop : d.someWaits (fun w => w == .motionStop) = false)
    (hd1 : d1 = ((d.completeWhere (fun w => w == .moveEnd) sOK 0 []).completeWhere (fun w => w == .motionStop) sOK 0 []).mapMot
      (fun m => { m with readyMove := false })) :
    moveSettledEffect d = d1.when (d1.inWriting && d1.phase == phStep) (fun d => d.setPhase phLead) := by
  simp only [moveSettledEffect, hrel, hset, hready, hstop, when_true, ← hd1, Bool.and_self, Bool.not_true, Bool.false_eq_true, if_false]

theorem moveSettledEffect_step (hready : d.mot.readyMove = false) (hwriting : d.inWriting = true) (hphase : d.phase = phStep) :
    moveSettledEffect d = d.setPhase phLead := by
  simp only [moveSettledEffect, hrel, hset, hready, hwriting, hphase, when_true, when_false, beq_self_eq_true, Bool.and_self,
    Bool.not_true, Bool.false_eq_true, if_false]

theorem backupCompleteEffect_reached (hwriting : d.inWriting = true) (hbackup : d.mot.backupDue = true)
    (hstop : d.flag fStopPending = false) :
    backupCompleteEffect d = (d.mapMot (fun m => { m with backupDue := false })).raise 181 := by
  simp only [backupCompleteEffect, hrel, hset, hwriting, hbackup, hstop, Bool.not_false, Bool.and_self, if_true]

end settles

/-! ## The start of a run (R270, R278, R296, R417) -/

/-- At a boundary after the tick since which it is due, the run begins, where nothing holds it. -/
theorem runInStartEffect_starts {d d1 d2 d3 : Device} {j : Job} {t0 : Nat} (hjob : d.job = some j) (hrel : d.released 13 = true)
    (hdue : d.mot.nextBoundary ≤ d.clock) (hworker : d.isWorker = false) (hwriting : d.inWriting = true) (hawaits : d.awaitsRun = true)
    (hbackup : d.mot.backupDue = false) (hset : d.settled = true) (hcan : d.canRun = true) (hheld : d.runHeld j = (false, d1))
    (hworkers : (d1.isManager && !d1.workersReady) = false) (hsince : d1.mot.runSince = some t0) (hbefore : t0 < d1.mot.nextBoundary)
    (hd2 : d2 = d1.armRun j) (hstop : d2.flag fStopPending = false) (hd3 : d3 = d2.planRun j d2.mot.nextBoundary) :
    runInStartEffect d =
      if d3.isManager then d3.sendMesh toAll mRUN ([j.pass * 2 + b2n j.reverse] ++ body36 (j.fseq j.nextFlash)) else d3 := by
  simp only [runInStartEffect, hjob, hrel, hdue, hworker, hwriting, hawaits, hbackup, hset, hcan, hheld, hworkers, hsince, Option.any_some,
    hbefore, ← hd2, hstop, ← hd3, decide_true, Bool.not_true, Bool.or_self, Bool.false_eq_true, if_false]
  rfl

/-! ## The sine table and the layer axes (R308, R309, R318 to R320) -/

section axes
variable {d : Device} {k v n : Nat}

/-- Outside a job a commit of the sine table switches it at once. -/
theorem writeSineCommit_outsideJob (hrel : d.released 13 = true) (hv : bitOf v 0 = true) (hpending : d.flag fSinePending = false)
    (hjob : ((d.putFlag fSinePending true).pendTable 9).inJob = false) :
    writeSineCommit v d = ((d.putFlag fSinePending true).pendTable 9).switchSine := by
  simp only [writeSineCommit, hrel, hv, hpending, hjob, when_true, Bool.not_false, Bool.true_or, Bool.and_self, Bool.not_true,
    Bool.false_eq_true, if_false, if_true]

/-- The high dword of a GOTO that is taken starts the move to the target that it makes with the held low dword. -/
theorem writeGoto_taken {lo : Word} (htaken : d.gotoTaken k = true) (hlo : cellFind d.heldWrites (MOT_LAX_GOTO k) = some lo) :
    writeGoto k v d =
      ({ d with heldWrites := cellErase d.heldWrites (MOT_LAX_GOTO k) } : Device).startGoto k (s36 (pairVal lo.toNat v)) := by
  simp only [writeGoto, htaken, hlo, Option.elim_some, if_true]

theorem layerReadyEffect_fall (hrel : d.released 13 = true) (hn : 800 ≤ n) (hlevel : d.flag fLayerReady = true) :
    layerReadyEffect false n d = d.putFlag fLayerReady false := by
  have hlong : decide (n < 800) = false := decide_eq_false (Nat.not_lt.2 hn)
  simp only [layerReadyEffect, hrel, hlong, hlevel, Bool.false_beq, Bool.not_true, Bool.not_false, Bool.or_self, Bool.false_eq_true, if_false,
    if_true]

/-- The rise is noted with its tick, and is the go unless GO_SRC asks for MOT_LAYER.GO. -/
theorem layerReadyEffect_rise {d1 : Device} (hrel : d.released 13 = true) (hn : 800 ≤ n) (hlevel : d.flag fLayerReady = false)
    (hd1 : d1 = (d.putFlag fLayerReady true).mapMot (fun m => { m with readyRise := some (d.putFlag fLayerReady true).clock })) :
    layerReadyEffect true n d = if d1.flag fGoSrc then d1 else d1.layerGo := by
  have hlong : decide (n < 800) = false := decide_eq_false (Nat.not_lt.2 hn)
  simp only [layerReadyEffect, hrel, hlong, hlevel, ← hd1, Bool.true_beq, Bool.not_true, Bool.or_self, Bool.false_eq_true, if_false]

theorem writeMotLayer_go (hrel : d.released 13 = true) (hv : bitOf v 17 = true) (hsrc : d.flag fGoSrc = true) :
    writeMotLayer v d = d.layerGo := by
  simp only [writeMotLayer, hrel, hv, hsrc, Bool.and_self, if_true]

/-- A layer move that has rested for MOT_SETTLE, and where VERIFY asks for it lies within TOL, completes OK. -/
theorem layerMoveCompleteEffect_settled {mv : LayerMove} (hrel : d.released 13 = true) (hmove : d.layerMove k = some mv)
    (hsent : mv.sent = true) (hrests : mv.ended + d.reg MOT_SETTLE % 65536 * 800 ≤ d.clock)
    (hok : bitOf (d.laxSet k).1 16 = false ∨
      (d.getS36 (POS_CH_POS (4 + k)) - d.getS36 (MOT_LAX_CMD k)).natAbs ≤ bits (d.laxSet k).1 8 8) :
    layerMoveCompleteEffect k d =
      ((((((d.setLayerMove k none).when (!d.inJob) (fun d => d.captureLax k)).raise (184 + k)).itemOut 10).completeWhere
        (fun w => w == .layerGoto k) sOK 0 []).layersMoved.readyMet) := by
  have hpasses : (!bitOf (d.laxSet k).1 16 ||
      decide ((d.getS36 (POS_CH_POS (4 + k)) - d.getS36 (MOT_LAX_CMD k)).natAbs ≤ bits (d.laxSet k).1 8 8)) = true := by
    rw [Bool.or_eq_true, Bool.not_eq_true', decide_eq_true_eq]
    exact hok
  simp only [layerMoveCompleteEffect, hmove, hrel, hsent, hrests, hpasses, decide_true, Bool.and_self, Bool.not_true, Bool.false_eq_true,
    if_false, if_true]

end axes

/-- Settles O25: each effect takes the branch of its hypotheses, and a settled MOVE leaves no command that waits for its end. -/
theorem stageAndLayerAxesTakeEffect : Obligations.StageAndLayerAxesTakeEffect := by
  refine ⟨?boundary, fun _ _ _ => boundary_worker, ?move, ?step, ?backup, ?run, ?sine, ?goto, ?fall, ?rise, ?go,
    ?layer⟩
  case boundary =>
    intro s d h hrel hdue hunwritten
    rw [exec_servoBoundary, run_finds h, servoBoundaryEffect_due hrel hdue, asBefore_of_unwritten hunwritten]
  case move =>
    intro s d h hrel hset hready hstop _
    refine ⟨_, (exec_moveSettled s).trans (run_finds h _), ?_, ?_⟩ <;>
      rw [moveSettledEffect_move hrel hset hready hstop rfl, gives_dev]
    · rw [settle_mot, Device.when]
      split <;> rfl
    · rw [settle_ulp, Device.when]
      split <;> exact someWaits_completeWhere_of_none _ _ sOK 0 [] 0 (someWaits_completeWhere d _ sOK 0 [] 0)
  case step =>
    intro s d h hrel hset hready hwriting hphase
    rw [exec_moveSettled, run_finds h, moveSettledEffect_step hrel hset hready hwriting hphase]
  case backup =>
    intro s d h hrel hwriting hbackup hset hstop
    rw [exec_backupComplete, run_finds h, backupCompleteEffect_reached hrel hset hwriting hbackup hstop]
  case run =>
    intro s d d1 d2 d3 j t0 h hjob hrel hdue hworker hwriting hawaits hbackup hset hcan hheld hworkers hsince hbefore hd2 hstop hd3
    rw [exec_runInStart, run_finds h, runInStartEffect_starts hjob hrel hdue hworker hwriting hawaits hbackup hset hcan hheld hworkers
      hsince hbefore hd2 hstop hd3]
  case sine =>
    intro s d v h hrel hv hpending hjob
    rw [exec_sineTableCommit, run_finds h, writeSineCommit_outsideJob hrel hv hpending hjob]
  case goto =>
    intro s d k v lo h htaken hlo
    rw [exec_layerAxisGoto, run_finds h, writeGoto_taken htaken hlo]
  case fall =>
    intro s d n h hrel hn hlevel
    rw [exec_layerReady, run_finds h, layerReadyEffect_fall hrel hn hlevel]
  case rise =>
    intro s d d1 n h hrel hn hlevel hd1
    rw [exec_layerReady, run_finds h, layerReadyEffect_rise hrel hn hlevel hd1]
  case go =>
    intro s d v h hrel hv hsrc
    rw [exec_motLayerGo, run_finds h, writeMotLayer_go hrel hv hsrc]
  case layer =>
    intro s d k mv h hrel hmove hsent hrests hok
    rw [exec_layerMoveComplete, run_finds h, layerMoveCompleteEffect_settled hrel hmove hsent hrests hok]

end Sys2Proof.Machine
end

section
/-! PROOFS: the requests of module memory, and the write of a line (09_memory.md). -/
namespace Sys2Proof.Machine

theorem exec_dramRequest (q : Requester) (la : BitVec 31) (a : DramAccess) (es : List SymbolError) (s : State) :
    exec (.dramRequest q la a es) s = s.run (dramRequestEffect { req := q, la := la.toNat, access := a, errors := es }) := rfl

/-! ## A request comes to its channel's queue (R326) -/

/-- The module with a list of requests in the queues. -/
def Device.withHeld (d : Device) (l : List MemReq) : Device := { d with mem := { d.mem with held := l } }

section queue
variable {d : Device} {r : MemReq}

theorem withHeld_self {l : List MemReq} (h : d.mem.held = l) : d.withHeld l = d := by
  subst h
  rfl

/-- Nothing comes before the first request, whatever the queues hold. -/
theorem mayServe_withHeld_first (l : List MemReq) : (d.withHeld l).mayServe 0 r = d.mayServe 0 r := rfl

theorem nextRequest_alone (hmay : d.mayServe 0 r = true) : (d.withHeld [r]).nextRequest (chanOf r.la) = some 0 := by
  have halone : (d.withHeld [r]).mem.held = [r] := rfl
  simp [Device.nextRequest, halone, mayServe_withHeld_first, hmay]

theorem drainChan_of_none {c : Nat} (h : d.nextRequest c = none) (fuel : Nat) : d.drainChan c fuel = d := by
  cases fuel with
  | zero => rfl
  | succ fuel => simp [Device.drainChan, h]

/-- A request that waits alone, and that its channel may serve, is served. -/
theorem drainChan_alone (hmay : d.mayServe 0 r = true) : (d.withHeld [r]).drainChan (chanOf r.la) 1 = (d.withHeld []).serve r := by
  simp only [Device.drainChan, nextRequest_alone hmay]
  rfl

/-- A request of the zero fill is for the next line of the fill (R331). -/
theorem dramRequestEffect_zeroFill (hreq : r.req = .zeroFill) : dramRequestEffect r d = d.fillLine r.la := if_pos (beq_iff_eq.2 hreq)

section comes
variable (hreq : r.req ≠ .zeroFill)
include hreq

/-- A request of any requester but the zero fill waits behind those of its queue, with its tick, and its channel serves on. -/
theorem dramRequestEffect_queued :
    dramRequestEffect r d =
      (d.closeRows.withHeld (d.mem.held ++ [{ r with tick := d.clock }])).drainChan (chanOf r.la) (d.mem.held.length + 1) :=
  if_neg (mt eq_of_beq hreq)

/-- A request to empty queues, which its channel may serve, is served at once. -/
theorem dramRequestEffect_served (hheld : d.mem.held = []) (hmay : d.closeRows.mayServe 0 { r with tick := d.clock } = true) :
    dramRequestEffect r d = d.closeRows.serve { r with tick := d.clock } := by
  rw [dramRequestEffect_queued hreq, hheld]
  exact (drainChan_alone hmay).trans (congrArg (fun x : Device => x.serve _) (withHeld_self hheld))

end comes
end queue

/-! ## The words of module DRAM (R323) -/

section words
variable (d : Device)

theorem putDram_cons (a w : Nat) (ws : List Nat) : d.putDram a (w :: ws) = (d.setDramWord a w).putDram (a + 1) ws := by
  simp only [Device.putDram, Device.each, List.zipIdx_cons, List.foldl_cons, Nat.add_zero]
  rw [Nat.zero_add, List.zipIdx_succ, List.foldl_map]
  simp only [Nat.add_right_comm a, Nat.add_assoc]

/-- A word outside those written stays. -/
theorem dramWord_putDram_apart (ws : List Nat) {a b : Nat} (h : b < a ∨ a + ws.length ≤ b) :
    (d.putDram a ws).dramWord b = d.dramWord b := by
  induction ws generalizing d a with
  | nil => rfl
  | cons w ws ih =>
    rw [List.length_cons] at h
    rw [putDram_cons, ih _ (by omega), dramWord_set_ne d w (by omega)]

/-- Each word written reads as the low 18 bits of what was written. -/
theorem dramWord_putDram_within (ws : List Nat) (a : Nat) {i : Nat} (h : i < ws.length) :
    (d.putDram a ws).dramWord (a + i) = ws.getD i 0 % 262144 := by
  induction ws generalizing d a i with
  | nil => exact absurd h (Nat.not_lt_zero i)
  | cons w ws ih =>
    rw [putDram_cons]
    cases i with
    | zero => exact (dramWord_putDram_apart _ ws (.inl (by omega))).trans (dramWord_set_same d a w)
    | succ i => simpa [Nat.add_assoc, Nat.add_comm 1] using ih (d.setDramWord a w) (a + 1) (Nat.lt_of_succ_lt_succ h)

theorem putDram_hostMem (a : Nat) (ws : List Nat) : (d.putDram a ws).hostMem = d.hostMem :=
  each_keeps (fun x => x.hostMem = d.hostMem) (fun x (p : Nat × Nat) => x.setDramWord (a + p.2) p.1) (fun _ _ h => h) _ d rfl

theorem putDram_job (a : Nat) (ws : List Nat) : (d.putDram a ws).job = d.job :=
  each_keeps (fun x => x.job = d.job) (fun x (p : Nat × Nat) => x.setDramWord (a + p.2) p.1) (fun _ _ h => h) _ d rfl

/-- A word is read off the written words and the regions that units have filled. -/
theorem dramWord_of_kept {d e : Device} (h : e.kept = d.kept) (a : Nat) : e.dramWord a = d.dramWord a := by
  have hdram : e.dram = d.dram := congrArg Kept.dram h
  have hlaid : e.laidOut = d.laidOut := congrArg Kept.laidOut h
  rw [Device.dramWord, Device.dramWord, hdram, hlaid]

end words

/-! ## The write of a line (R326, R336) -/

section line
variable (d : Device)

theorem chanOf_lt (la : Nat) : chanOf la < 4 := bits_lt la 2 2

theorem kept_showChannels : d.showChannels.kept = d.kept := kept_each d fun _ _ => rfl

theorem kept_setRemap (c e st la : Nat) : (d.setRemap c e st la).kept = d.kept := by
  unfold Device.setRemap
  dsimp only
  rw [kept_showChannels]
  split
  · rw [kept_journal, kept_journal, kept_setReg, kept_setReg]
  · split
    · rw [kept_journal, kept_journal, kept_setReg, kept_setReg]
    · rw [kept_setReg, kept_setReg]

theorem kept_touchRow (la : Nat) : (d.touchRow la).kept = d.kept := by
  unfold Device.touchRow
  dsimp only
  split <;> rfl

theorem reg_touchRow (la off : Nat) : (d.touchRow la).reg off = d.reg off := by
  unfold Device.touchRow
  dsimp only
  split <;> rfl

variable {d}

/-- A request opens its line's row: the channel leaves self-refresh, and its state stays. -/
theorem chState_opened (c la : Nat) : ((d.putFlag (fSelfRefresh c) false).touchRow la).get (fChState c) = d.get (fChState c) := by
  rw [Device.get, reg_touchRow]
  exact get_put_apart d (f := fSelfRefresh c) (g := fChState c) _ rfl (Nat.le_refl 18) (.inr (Nat.le_of_ble_eq_true rfl))

/-- A write of a line whose channel is not DOWN writes its words; what else it does leaves the memories and the job. -/
theorem writeLine_up {la : Nat} (hup : d.get (fChState (chanOf la)) ≠ chDOWN) (ws : List Nat) :
    ∃ e : Device, e.kept = d.kept ∧ d.writeLine la ws = e.putDram (64 * la) ws := by
  rw [Device.writeLine, if_neg (mt eq_of_beq hup)]
  refine ⟨_, (kept_withMem _ _).trans ?_, rfl⟩
  split
  · split
    · exact kept_setRemap d _ _ _ _
    · rfl
  · rfl

/-- A write of a line that a NORMAL channel serves. -/
theorem serve_writeLine {q : Requester} {la : Nat} {ws : Vector Word 64} (es : List SymbolError) (t : Nat)
    (hnormal : d.get (fChState (chanOf la)) = chNORMAL) :
    ∃ e : Device, e.kept = d.kept ∧
      d.serve { req := q, la := la, access := .writeLine ws, errors := es, tick := t } =
        (e.putDram (64 * la) (ws.toList.map (fun w => w.toNat))).itemOut (11 + chanOf la) := by
  have hup : ((d.putFlag (fSelfRefresh (chanOf la)) false).touchRow la).get (fChState (chanOf la)) ≠ chDOWN := by
    rw [chState_opened, hnormal]
    decide
  obtain ⟨e, hkept, hwrite⟩ := writeLine_up hup (ws.toList.map (fun w => w.toNat))
  exact ⟨e, hkept.trans (kept_touchRow _ _), congrArg (fun x : Device => x.itemOut (11 + chanOf la)) hwrite⟩

/-- The channel of a line serves a first request to it, where it takes requests, the line is filled and none recovers. -/
theorem mayServe_first {r : MemReq} (hserves : d.chanServes (chanOf r.la) = true) (hfilled : d.lineFilled r.la = true)
    (hrecovering : d.mem.recovering = []) : d.mayServe 0 r = true := by
  simp [Device.mayServe, hserves, hfilled, hrecovering]

end line

/-- Settles O52: the request is served at once, and the words that it writes are the 64 of its line. -/
theorem dramLineWritesAreExact : Obligations.DramLineWritesAreExact := by
  intro s d q la ws h hq hheld hserves hfilled hnormal hrecovering
  obtain ⟨e, hkept, hserve⟩ := serve_writeLine (d := d.closeRows) (q := q) (ws := ws) [] d.clock hnormal
  have hlen : (ws.toList.map (fun w => w.toNat)).length = 64 := by simp
  have hlast (x : Device) : (x.itemOut (11 + chanOf la.toNat)).settle.kept = x.kept :=
    (kept_settle _).trans (kept_itemOut x (by have := chanOf_lt la.toNat; omega))
  have hbefore : e.kept = d.kept := hkept
  refine ⟨s.gives ((e.putDram (64 * la.toNat) (ws.toList.map (fun w => w.toNat))).itemOut (11 + chanOf la.toNat)),
    ?next, fun i => ?line, fun a ha => ?apart, ?host, ?job⟩
  case next =>
    have hserved := dramRequestEffect_served (r := { req := q, la := la.toNat, access := .writeLine ws, errors := [] }) hq hheld
      (mayServe_first (d := d.closeRows) hserves hfilled hrecovering)
    rw [exec_dramRequest, run_finds h, hserved, hserve]
  all_goals rw [gives_dev]
  case line =>
    rw [dramWord_of_kept (hlast _), dramWord_putDram_within _ _ _ (i.isLt.trans_eq hlen.symm),
      show (0 : Nat) = (0 : Word).toNat from rfl, List.getD_map]
    exact Nat.mod_eq_of_lt (BitVec.isLt _)
  case apart => rw [dramWord_of_kept (hlast _), dramWord_putDram_apart _ _ (by rw [hlen]; exact ha), dramWord_of_kept hbefore]
  case host => exact (congrArg Kept.hostMem (hlast _)).trans ((putDram_hostMem _ _ _).trans (congrArg Kept.hostMem hbefore))
  case job => exact (congrArg Kept.job (hlast _)).trans ((putDram_job _ _ _).trans (congrArg Kept.job hbefore))

end Sys2Proof.Machine
end

section
/-! PROOFS: the commands of module memory, the DMA channels, the check units, time, the servers and the mesh (09_memory.md). -/
namespace Sys2Proof.Machine

/-! ## A packet command where it is accepted (R476, R481) -/

/-- A packet command in its states, with no bit of a parameter outside its mask, gives what its own rule gives. -/
theorem run_command_accepted {s : State} {d : Device} {tag op : Nat} {f : Flight} {accepts : Device → Bool} {masks : List Nat}
    (h : s.finds d) (hb : d.begins tag op = some f) (ha : accepts d = true) (hm : f.badParam masks = none)
    (act : Device → Flight → Device) :
    s.run (fun d => d.command tag op (accepts d) masks act) = .next (s.gives (act d f)) := by
  rw [run_finds h, ha, command_accepted hb act hm]

/-- A first parameter below a power of two has no bit outside its mask. -/
theorem badParam_of_lt {f : Flight} {n mask : Nat} (hmask : mask = 2 ^ n - 1) (h : f.p 0 < 2 ^ n) : f.badParam [mask] = none := by
  have hin : f.outside 0 mask = false := by
    rw [Flight.outside, hmask, Nat.and_two_pow_sub_one_of_lt_two_pow h, bne_self_eq_false]
  simp [Flight.badParam, hin]

/-! ### The commands, each as the run of its effect -/

theorem exec_memMarkClear (tag : Byte) (s : State) :
    exec (.memMarkClear tag) s =
      s.run (fun d => d.command tag.toNat 0x500 d.readyOk [] (fun d f => d.clearMarks.complete f sOK 0 [])) := rfl

theorem exec_pageRetire (tag : Byte) (s : State) :
    exec (.pageRetire tag) s = s.run (fun d => d.command tag.toNat 0x501 d.readyOk [0x1FFFFF] pageRetire) := rfl

theorem exec_dmaRun (tag : Byte) (s : State) :
    exec (.dmaRun tag) s = s.run (fun d => d.command tag.toNat 0x510 d.runOk [0x131F, m32, 0x3FFFFF] dmaRun) := rfl

theorem exec_checkRun (tag : Byte) (s : State) :
    exec (.checkRun tag) s =
      s.run (fun d => d.command tag.toNat 0x511 d.runOk [0xFF03, m32, 0xF, m32, 0xF, m18, m18, m32, m32] checkRun) := rfl

theorem exec_todSet (tag : Byte) (s : State) :
    exec (.todSet tag) s =
      s.run (fun d => d.command tag.toNat 0x600 (d.readyOk && d.needs [20]) [m32, 0xFFFF, m32] (fun d f =>
        if 999999999 < f.p 2 then d.complete f sBAD_PARAM 2 []
        else (d.setTod (hostAddr (f.p 0) (f.p 1)) (f.p 2)).complete f sOK 0 [])) := rfl

theorem exec_ptpStep (tag : Byte) (s : State) :
    exec (.ptpStep tag) s =
      s.run (fun d => d.command tag.toNat 0x601 (d.restOk && d.needs [20]) [] (fun d f => d.askStep.complete f sOK 0 [])) := rfl

theorem exec_serverSet (tag : Byte) (s : State) :
    exec (.serverSet tag) s =
      s.run (fun d => d.command tag.toNat 0x610 (d.runOk && d.needs [20]) (0x7 :: List.replicate 10 m18) serverSet) := rfl

theorem exec_meshRetrain (tag : Byte) (s : State) :
    exec (.meshRetrain tag) s =
      s.run (fun d => d.command tag.toNat 0x701 (d.runOk && d.needs [19]) [0x3] (fun d f =>
        if d.unitUp 19 && d.portRetrainTaken (f.p 0) then (d.await f (.meshRetrain (f.p 0))).portTrain (f.p 0)
        else d.complete f sBUSY_JOB 0 [])) := rfl

/-! ## Their own rules -/

/-- DMA_RUN on an idle channel: the program's address and PSPACE, then GO (R360). -/
theorem dmaRun_idle {d : Device} {f : Flight} (hidle : d.dmaState (bits (f.p 0) 0 5) = 0) :
    dmaRun d f =
      writeDmaCtrl (bits (f.p 0) 0 5) (131072 + bits (f.p 0) 8 2 * 2048 + bits (f.p 0) 12 1 * 1024)
        (((d.await f (.dma (bits (f.p 0) 0 5))).put54 (DMA_CH_PC (bits (f.p 0) 0 5)) (hostAddr (f.p 1) (f.p 2))).mapChan (bits (f.p 0) 0 5)
          (fun c => { c with instr := none, pcWas := none })) := by
  have hfree : ¬(d.dmaState (bits (f.p 0) 0 5) != dmaIDLE) = true := fun h => bne_iff_ne.1 h hidle
  rw [dmaRun, if_neg hfree]

/-- PAGE_RETIRE takes the lowest entry that is not valid, where there is one (R338). -/
theorem pageRetire_eq (d : Device) (f : Flight) :
    pageRetire d f =
      ((List.range 256).find? (fun i => !d.flag (bitAt (MEM_RETIRE i + 4) 17))).elim (d.complete f sNO_RESOURCE 0 [])
        (fun i => (d.storeDwords (MEM_RETIRE i) [{ rws := 0x3FFFF }, { rws := 0x20007 }]
          [bits (f.p 0) 0 18, 131072 + bits (f.p 0) 18 3]).complete f sOK 0 [i]) := by
  unfold pageRetire
  cases (List.range 256).find? (fun i => !d.flag (bitAt (MEM_RETIRE i + 4) 17)) <;> rfl

/-- Settles O20: each command is accepted, and its own rule takes the branch of its hypotheses. -/
theorem unitCommandsTakeEffect : Obligations.UnitCommandsTakeEffect := by
  refine ⟨?marks, ?page, ?dma, ?check, ?tod, ?step, ?server, ?mesh⟩
  case marks =>
    intro s d tag f h hb hready
    rw [exec_memMarkClear, run_command_accepted h hb hready (badParam_nil f)]
  case page =>
    intro s d tag f h hb hready hm
    rw [exec_pageRetire, run_command_accepted h hb hready hm, pageRetire_eq]
    cases (List.range 256).find? (fun i => !d.flag (bitAt (MEM_RETIRE i + 4) 17)) <;> rfl
  case dma =>
    intro s d tag f h hb hrun hm hidle
    rw [exec_dmaRun, run_command_accepted h hb hrun hm, dmaRun_idle hidle]
  case check =>
    intro s d tag f h hb hrun hm _
    rw [exec_checkRun, run_command_accepted h hb hrun hm]
  case tod =>
    intro s d tag f h hb hready hneeds hm hns
    rw [exec_todSet, run_command_accepted h hb (Bool.and_eq_true_iff.2 ⟨hready, hneeds⟩) hm, if_neg (Nat.not_lt.2 hns)]
  case step =>
    intro s d tag f h hb hrest hneeds
    rw [exec_ptpStep, run_command_accepted h hb (Bool.and_eq_true_iff.2 ⟨hrest, hneeds⟩) (badParam_nil f)]
  case server =>
    intro s d tag f h hb hrun hneeds hm _
    rw [exec_serverSet, run_command_accepted h hb (Bool.and_eq_true_iff.2 ⟨hrun, hneeds⟩) hm]
  case mesh =>
    intro s d tag f h hb hrun hneeds hport hup htaken
    have hm : f.badParam [0x3] = none := badParam_of_lt (n := 2) rfl hport
    rw [exec_meshRetrain, run_command_accepted h hb (Bool.and_eq_true_iff.2 ⟨hrun, hneeds⟩) hm,
      if_pos (Bool.and_eq_true_iff.2 ⟨hup, htaken⟩)]

end Sys2Proof.Machine
end

section
/-! PROOFS: the channels of module memory: the fill, recovery, refresh, training, retuning and the scrub (09_memory.md). -/
namespace Sys2Proof.Machine

/-! ## The commands of the channels, each as the run of its effect -/

theorem exec_lineRecoveryDone (la : BitVec 31) (bad : Bool) (s : State) :
    exec (.lineRecoveryDone la bad) s = s.run (lineRecoveryDoneEffect la.toNat bad) := rfl

theorem exec_refresh (c : Fin 4) (s : State) : exec (.refresh c) s = s.run (refreshEffect c) := rfl

theorem exec_mr4Read (c : Fin 4) (hot : Bool) (s : State) : exec (.mr4Read c hot) s = s.run (mr4Effect c hot) := rfl

theorem exec_selfRefreshEntry (c : Fin 4) (s : State) : exec (.selfRefreshEntry c) s = s.run (selfRefreshEffect c) := rfl

theorem exec_channelTrainingDone (c : Fin 4) (r : ChannelTraining) (s : State) :
    exec (.channelTrainingDone c r) s = s.run (channelTrainingDoneEffect c r) := rfl

theorem exec_retuneCheck (c : Fin 4) (n : Nat) (s : State) : exec (.retuneCheck c n) s = s.run (retuneCheckEffect c n) := rfl

theorem exec_retuneDone (c : Fin 4) (s : State) : exec (.retuneDone c) s = s.run (retuneDoneEffect c) := rfl

theorem exec_fillComplete (s : State) : exec .fillComplete s = s.run fillCompleteEffect := rfl

theorem exec_patrolScrub (es : List SymbolError) (s : State) : exec (.patrolScrub es) s = s.run (patrolScrubEffect es) := rfl

theorem exec_memLogClear (v : Word) (s : State) :
    exec (.memLogClear v) s = s.run (fun d => if d.regUp MEM_LOG_STATUS then writeMemLogStatus v.toNat d else d) := rfl

/-! ## The zero fill (R331, R332) -/

/-- With no request waiting, the channels serve nothing. -/
theorem drain_of_empty {d : Device} (h : d.mem.held = []) : d.drain = d :=
  each_keeps (fun x => x = d) (fun x c => x.drainChan c x.mem.held.length) (fun x c hx => by subst hx; rw [h]; rfl) _ d rfl

/-- The next line of the fill moves the fill front past it. -/
theorem fillLine_next {d d1 : Device} {la : Nat} (hrun : d.flag fFillRun = true) (hfrost : d.inFrost = false) (hnext : la = d.fillNext)
    (hserves : d.chanServes (chanOf la) = true)
    (hd1 : d1 = (d.putFlag (fSelfRefresh (chanOf la)) false).put36 MEM_FILL_FRONT (la + 1)) (hmore : d1.fillNext < memLines)
    (hheld : d1.mem.held = []) : d.fillLine la = d1 := by
  simp only [Device.fillLine, hrun, hfrost, ← hnext, hserves, bne_self_eq_false, Bool.not_true, Bool.or_self, Bool.false_eq_true, if_false,
    ← hd1, if_neg (Nat.not_le.2 hmore), drain_of_empty hheld]

theorem fillCompleteEffect_due {d : Device} (hrun : d.flag fFillRun = true)
    (htrained : (List.range 4).all (fun c => d.get (fChState c) != chTRAINING) = true) (hfrost : d.inFrost = false) :
    fillCompleteEffect d = d.fillDone := by
  simp only [fillCompleteEffect, hrun, htrained, hfrost, Bool.not_false, Bool.and_self, if_true]

/-! ## Recovery (R333) -/

theorem when_not (d : Device) (c : Bool) (f : Device → Device) : d.when (!c) f = if c then d else f d := by
  cases c <;> rfl

/-- The recovery of a line ends: it leaves the list, a line still bad is hard, its devices recover, and its channel serves on. -/
theorem lineRecoveryDoneEffect_found {d d0 d1 d2 : Device} {la q : Nat} {devs left : List Nat} {bad : Bool}
    (hfind : d.mem.recovering.find? (fun p => p.1 == la) = some (la, q, devs))
    (hd0 : d0 = { d with mem := { d.mem with recovering := d.mem.recovering.filter (fun p => p.1 != la) } })
    (hleft : left = devs.filter (fun k => some k != d0.marked (chanOf la)))
    (hd1 : d1 = if bad && !left.isEmpty && d0.remapOf la == none then d0.hardLine la q left else d0)
    (hd2 : d2 = d1.each devs (fun d k =>
      if d.mem.recovering.any (fun p => chanOf p.1 == chanOf la && p.2.2.contains k) then d else d.recovered 9 (21 * chanOf la + k))) :
    lineRecoveryDoneEffect la bad d = d2.drainChan (chanOf la) d2.mem.held.length := by
  subst hd2 hd1 hleft hd0
  simp only [lineRecoveryDoneEffect, hfind, when_not]
  rfl

/-! ## Refresh (R328) -/

section refresh
variable {d : Device} {c : Nat} (hruns : d.chanRuns c = true) (hup : d.chanUp c = true)
include hruns hup

/-- A refresh closes the rows of its bank, and the next bank follows. -/
theorem refreshEffect_due (hawake : d.flag (fSelfRefresh c) = false) :
    refreshEffect c d = { d with mem := { d.mem with
      rows := d.mem.rows.filter (fun r => !(r.1 == c && r.2.1 % 4 == d.mem.refBank.toList.getD c 0)),
      refBank := d.mem.refBank.set! c ((d.mem.refBank.toList.getD c 0 + 1) % 4) } } := by
  simp only [refreshEffect, hruns, hup, hawake, Bool.not_true, Bool.or_self, Bool.false_eq_true, if_false]

theorem mr4Effect_up (hot : Bool) :
    mr4Effect c hot d =
      if hot && !d.flag (fRefresh2x c) then (d.putFlag (fRefresh2x c) hot).raise 203 else d.putFlag (fRefresh2x c) hot := by
  simp only [mr4Effect, hruns, hup, Bool.not_true, Bool.or_self, Bool.false_eq_true, if_false, Device.when]

/-- A channel that has been idle long enough refreshes itself, with its rows closed. -/
theorem selfRefreshEffect_idle (hrest : (d.inReady || d.inHeld) = true) (hfill : d.flag fFillRun = false)
    (hidle : d.reg MEM_SR_IDLE % 65536 ≠ 0) (hdue : d.mem.lastReq.toList.getD c 0 + 800 * (d.reg MEM_SR_IDLE % 65536) ≤ d.clock)
    (hheld : d.mem.held.any (fun r => chanOf r.la == c) = false) :
    selfRefreshEffect c d =
      { d.putFlag (fSelfRefresh c) true with mem := { d.mem with rows := d.mem.rows.filter (fun r => r.1 != c) } } := by
  simp only [selfRefreshEffect, hruns, hup, hrest, hfill, hheld, bne_iff_ne.2 hidle, decide_eq_true hdue, Bool.not_false, Bool.and_self, if_true]

end refresh

theorem flag_withMem (d : Device) (x : MemState) (f : Fld) : ({ d with mem := x } : Device).flag f = d.flag f := rfl

/-- The registers of the channels lie outside the event and the counter block. -/
theorem quietReg_chState (c : Fin 4) : quietReg (MEM_CH_STATE c) := by
  unfold quietReg MEM_CH_STATE
  omega

/-! ## Training (R329) -/

section training
variable {d d1 : Device} {c : Nat} {r : ChannelTraining} {kept : Nat} {failed devs : List Nat} (hruns : d.chanRuns c = true)
  (hstate : d.get (fChState c) = chTRAINING) (hkept : kept = d.get (fFailedDev c)) (hfailed : failed = (r.failed.map (fun k => k.val)).eraseDups)
  (hdevs : devs = (failed ++ (if kept < 21 then [kept] else [])).eraseDups)
  (hd1 : d1 = d.put (fChTrainCause c) (if r.commandFail then 1 else if failed.isEmpty then 0 else r.cause.val))

/-- CH_DOWN and CH_ERASURE of a channel are other bits of MEM_STATUS than FILLED. -/
theorem filled_showChannel (d : Device) {c : Nat} (hc : c < 4) (down erasure : Bool) (n : Nat) :
    (((d.putFlag (bitAt MEM_STATUS (11 + c)) down).putFlag (bitAt MEM_STATUS (7 + c)) erasure).put (fRemapUsed c) n).flag fFilled =
      d.flag fFilled := by
  have hstate : fFilled.off ≠ (fRemapUsed c).off := by
    show 0xE00000 ≠ 0xE00100 + 0x40 * c
    omega
  rw [flag_put_ne _ _ hstate, fFilled, flag_putFlag_bit_ne _ _ (by omega) (by omega) (by omega),
    flag_putFlag_bit_ne _ _ (by omega) (by omega) (by omega)]

theorem filled_showChannels (d : Device) : d.showChannels.flag fFilled = d.flag fFilled := by
  rw [Device.showChannels, show List.range 4 = [0, 1, 2, 3] from rfl]
  simp only [each_cons, each_nil]
  rw [filled_showChannel _ (c := 3) (by omega), filled_showChannel _ (c := 2) (by omega), filled_showChannel _ (c := 1) (by omega),
    filled_showChannel _ (c := 0) (by omega)]

/-- The state that a training without a failed command leaves: NORMAL with no failed device, and ERASURE with one, which is marked; a mark
that was not kept is journalled. -/
def Device.trained (d : Device) (c kept : Nat) (failed devs : List Nat) : Device :=
  devs.head?.elim (d.put (fChState c) chNORMAL) (fun k =>
    ((((d.put (fChState c) chERASURE).put (fFailedDev c) k).when (failed.contains k || kept != k) (fun d => d.raise 195)).when
      (kept != k) (fun d => d.journal (.reg (MEM_CH_STATE c)) [k * 2048])))

include hruns hstate hkept hfailed hdevs hd1

theorem channelTrainingDoneEffect_down (hbad : r.commandFail = true ∨ 2 ≤ devs.length) :
    channelTrainingDoneEffect c r d = (((d1.put (fChState c) chDOWN).showChannels).raise 202).selfTestPhase := by
  have hbad' : (r.commandFail || decide (2 ≤ devs.length)) = true := by simpa using hbad
  subst hd1 hdevs hfailed hkept
  simp only [channelTrainingDoneEffect, hruns, hstate, bne_self_eq_false, Bool.not_true, Bool.or_self, Bool.false_eq_true, if_false, hbad', if_true]

theorem channelTrainingDoneEffect_up (hok : r.commandFail = false) (hfew : devs.length < 2) {d2 d3 : Device}
    (hd2 : d2 = d1.trained c kept failed devs)
    (hd3 : d3 = ({ d2 with mem := { d2.mem with lastReq := d2.mem.lastReq.set! c d2.clock } } : Device).showChannels) :
    channelTrainingDoneEffect c r d = (if !d3.flag fFilled then d3.putFlag fFillRun true else d3).selfTestPhase := by
  have hgood : (r.commandFail || decide (2 ≤ devs.length)) = false := by simpa [hok] using hfew
  rw [hd3, filled_showChannels]
  cases hk : devs.head?
  all_goals
    subst hd2 hd1 hdevs hfailed hkept
    simp only [channelTrainingDoneEffect, hruns, hstate, bne_self_eq_false, Bool.not_true, Bool.or_self, Bool.false_eq_true, if_false, hgood,
      Device.trained, hk]
    rfl

end training

/-! ## Retuning (R330) -/

theorem retuneCheckEffect_due {d : Device} {c n : Nat} (hruns : d.chanRuns c = true) (hup : d.chanUp c = true)
    (hdue : (bits (d.reg MEM_RETUNE) 10 8 ≠ 0 ∧ 1 ≤ n) ∨ d.retuneByTemp c = true) : retuneCheckEffect c n d = d.startRetune c := by
  have hdue' : ((bits (d.reg MEM_RETUNE) 10 8 != 0 && decide (1 ≤ n)) || d.retuneByTemp c) = true := by simpa using hdue
  simp only [retuneCheckEffect, hruns, hup, hdue', Bool.and_self, if_true]

/-- The channel that has waited longest for its retune begins it. -/
def Device.nextRetune (d : Device) : Device :=
  match d.mem.retuneWant with
  | [] => d
  | k :: rest => ({ d with mem := { d.mem with retuneWant := rest } } : Device).startRetune k

theorem retuneDoneEffect_ends {d d1 d2 : Device} {c : Nat} (hrun : d.flag (fRetuning c) = true)
    (hd1 : d1 = (d.putFlag (fRetuning c) false).bump (whole (MEM_CH_RETUNE_COUNT c)))
    (hd2 : d2 = ((d1.setRegs (MEM_CH_RETUNE_TOD c) d1.stamp).setReg (MEM_CH_RETUNE_TEMP c)
      (wrap 18 ((d1.setRegs (MEM_CH_RETUNE_TOD c) d1.stamp).dieTemp c))).raise 201) :
    retuneDoneEffect c d = d2.nextRetune.drainChan c d2.nextRetune.mem.held.length := by
  subst hd2 hd1
  simp only [retuneDoneEffect, hrun, Bool.not_true, Bool.false_eq_true, if_false]
  rfl

/-! ## The scrub and the log (R340, R348) -/

/-- The scrubber passes its line, which it reads but where it skips it, and the last line ends its pass. -/
theorem patrolScrubEffect_due {d d1 : Device} {la : Nat} {skip : Bool} {es : List SymbolError} (hla : d.get36 MEM_SCRUB_FRONT = la)
    (hon : d.reg MEM_SCRUB % 256 ≠ 0) (hserves : d.chanServes (chanOf la) = true)
    (hskip : skip = (decide (d.get36 MEM_FILL_FRONT ≤ la) || (d.remapOf la).isSome || d.get (fChState (chanOf la)) == chDOWN))
    (hclear : skip = true ∨ d.lineClear la = true)
    (hd1 : d1 = if skip then d
      else (((d.putFlag (fSelfRefresh (chanOf la)) false).touchRow la).readCodewords (reqCode .patrolScrub) la es (List.range 8)).2) :
    patrolScrubEffect es d =
      if la + 1 = memLines then ((d1.put36 MEM_SCRUB_FRONT 0).bump (whole MEM_SCRUB_PASSES)).raise 200
      else d1.put36 MEM_SCRUB_FRONT (la + 1) := by
  have hfree : (!skip && !d.lineClear la) = false := by
    rcases hclear with h | h <;> simp [h]
  have hoff : (d.reg MEM_SCRUB % 256 == 0) = false := beq_false_of_ne hon
  subst hd1
  simp only [patrolScrubEffect, hla, ← hskip, hoff, hserves, hfree, Bool.not_true, Bool.or_self, Bool.false_eq_true, if_false, beq_iff_eq]

/-- CLEAR empties the log. -/
theorem writeMemLogStatus_clear {v : Nat} (hv : bitOf v 17 = true) (d : Device) :
    writeMemLogStatus v d = (d.each (List.range 16) (fun d i => d.setRegs (MEM_LOG i) [0, 0, 0])).setReg MEM_LOG_STATUS 0 := if_pos hv

/-- Settles O37: each command is the run of an effect whose guard holds, along the branch that the queue, the training or the scrubbed line
names. -/
theorem memoryChannelsTakeEffect : Obligations.MemoryChannelsTakeEffect := by
  refine ⟨?served, ?waits, ?fills, ?recovers, ?refreshes, ?rate, ?sleeps, ?trains, ?drifts, ?retunes, ?filled, ?scrubs, ?clears⟩
  case served =>
    intro s d q la a es r h hq hr hheld hmay
    subst hr
    rw [exec_dramRequest, run_finds h,
      dramRequestEffect_served (r := { req := q, la := la.toNat, access := a, errors := es }) hq hheld hmay]
  case waits =>
    intro s d d1 q la a es h hq hd1 hnone
    have hqueued : dramRequestEffect { req := q, la := la.toNat, access := a, errors := es } d = d1 := by
      rw [hd1] at hnone ⊢
      exact (dramRequestEffect_queued hq).trans (drainChan_of_none hnone _)
    rw [exec_dramRequest, run_finds h, hqueued]
  case fills =>
    intro s d d1 la a es h hrun hfrost hnext hserves hd1 hmore hheld
    rw [exec_dramRequest, run_finds h, dramRequestEffect_zeroFill rfl, fillLine_next hrun hfrost hnext hserves hd1 hmore hheld]
  case recovers =>
    intro s d d0 d1 d2 la q devs left bad h hfind hd0 hleft hd1 hd2
    rw [exec_lineRecoveryDone, run_finds h, lineRecoveryDoneEffect_found hfind hd0 hleft hd1 hd2]
  case refreshes =>
    intro s d c h hruns hup hawake
    refine ⟨_, (exec_refresh c s).trans (run_finds h _), ?_, ?_, ?_⟩ <;> rw [gives_dev, refreshEffect_due hruns hup hawake]
    · rw [settle_mem]
      simp
    · rw [settle_dram]
    · rw [settle_laidOut]
  case rate =>
    intro s d c hot h hruns hup
    rw [exec_mr4Read, run_finds h, mr4Effect_up hruns hup]
  case sleeps =>
    intro s d c h hruns hup hrest hfill hidle hdue hheld
    refine ⟨_, (exec_selfRefreshEntry c s).trans (run_finds h _), ?_, ?_, ?_, ?_⟩ <;>
      rw [gives_dev, selfRefreshEffect_idle hruns hup hrest hfill hidle hdue hheld]
    · rw [flag_settle _ (f := fSelfRefresh c) (quietReg_chState c), flag_withMem, flag_putFlag_same d _ true rfl (show 4 < 18 by omega)]
    · rw [settle_dram, putFlag_dram]
    · rw [settle_laidOut, putFlag_laidOut]
    · rw [settle_mem]
  case trains =>
    intro s d d1 c r kept failed devs h hruns hstate hkept hfailed hdevs hd1
    rw [exec_channelTrainingDone, run_finds h]
    refine ⟨fun hbad => ?_, fun hok hfew d2 d3 hd2 hd3 => ?_⟩
    · rw [channelTrainingDoneEffect_down hruns hstate hkept hfailed hdevs hd1 hbad]
    · have htrained : d2 = d1.trained c kept failed devs := by
        rw [hd2, Device.trained]
        cases devs.head? with
        | none => rfl
        | some k => by_cases hk : kept = k <;> simp [Device.when, hk]
      rw [channelTrainingDoneEffect_up hruns hstate hkept hfailed hdevs hd1 hok hfew htrained hd3]
  case drifts =>
    intro s d c n h hruns hup hdue
    rw [exec_retuneCheck, run_finds h, retuneCheckEffect_due hruns hup hdue]
  case retunes =>
    intro s d d1 d2 d3 c h hrun hd1 hd2 hd3
    have hnext : d3 = d2.nextRetune := by
      subst hd3
      unfold Device.nextRetune
      cases d2.mem.retuneWant <;> rfl
    rw [exec_retuneDone, run_finds h, retuneDoneEffect_ends hrun hd1 hd2, ← hnext]
  case filled =>
    intro s d h hrun htrained hfrost
    rw [exec_fillComplete, run_finds h, fillCompleteEffect_due hrun htrained hfrost, Device.fillDone]
  case scrubs =>
    intro s d d1 la skip es h hla hon hserves hskip hclear hd1
    rw [exec_patrolScrub, run_finds h, patrolScrubEffect_due hla hon hserves hskip hclear hd1]
  case clears =>
    intro s d v h hup hv
    rw [exec_memLogClear, run_guarded h (g := fun d => d.regUp MEM_LOG_STATUS) hup, run_finds h, writeMemLogStatus_clear hv]

end Sys2Proof.Machine
end

section
/-! PROOFS: the queue of commands, and how it drains (01_writing_model.md; 95_what_each_step_holds.md). -/
namespace Sys2Proof.Machine

/-- With a command at the front of the queue a step is that command on the state with the queue's rest. -/
theorem step_front {s : State} {c : Instr} {rest : List Instr} (h : s.pending = c :: rest) :
    step s = exec c { s with pending := rest } := by
  unfold step
  rw [h]

/-- Settles O1: the queue of the state is the command and the rest. -/
theorem stepRunsTheFrontCommand : Obligations.StepRunsTheFrontCommand := fun _ _ _ => step_front rfl

/-- A step on a queue that is not empty answers a state with the queue's rest. -/
theorem step_front_next {s : State} {c : Instr} {rest : List Instr} (h : s.pending = c :: rest) :
    ∃ t, step s = .next t ∧ t.pending = rest := by
  rw [step_front h]
  exact everyCommandAnswersAndKeepsTheQueue c { s with pending := rest }

/-- A run goes on from the state that its first step answers. -/
theorem run_succ_of_next {s t : State} (n : Nat) (h : step s = .next t) :
    Host.Core.run Sys2Proof.core (n + 1) s = Host.Core.run Sys2Proof.core n t := by
  have hcore : Sys2Proof.core.step s = .next t := h
  refine (Host.Core.run.eq_2 Sys2Proof.core s n).trans ?_
  rw [hcore]

theorem run_drains (q : List Instr) : ∀ s : State, s.pending = q →
    ∃ t : State, Host.Core.run Sys2Proof.core q.length s = .next t ∧ t.pending = [] := by
  induction q with
  | nil => exact fun s hs => ⟨s, rfl, hs⟩
  | cons c rest ih =>
    intro s hs
    obtain ⟨t, hstep, ht⟩ := step_front_next hs
    obtain ⟨u, hrun, hu⟩ := ih t ht
    exact ⟨u, (run_succ_of_next rest.length hstep).trans hrun, hu⟩

/-- Settles O57, by induction on the queue: each step answers, and takes one command off it. -/
theorem everyQueueDrains : Obligations.EveryQueueDrains := fun s => run_drains s.pending s rfl

end Sys2Proof.Machine
end

section
/-! PROOFS: the Krovfy monitor: its levels, its reads and its session, and its writes (16_power_states_monitor_counters.md, R536, R537). -/
namespace Sys2Proof.Machine

/-- A command that is the run of an effect gives the module that the effect gives. -/
theorem gives_of_run {c : Instr} {s : State} {d d' : Device} {f : Device → Device} (h : s.finds d) (hexec : exec c s = s.run f)
    (hf : f d = d') : exec c s = .next (s.gives d') := hf ▸ hexec.trans (run_finds h f)

/-! ## What a monitor command answers (R536) -/

/-- The module with the idle timer of the monitor restarted. -/
def Device.monTouched (d : Device) : Device := { d with pwr := { d.pwr with monAt := d.clock } }

section monitor
variable {d : Device} {level : Nat} {act : MonAct} (hcores : d.coresRun = true)
include hcores

/-- During a takeover a command answers E5. -/
theorem monitor_busy (htakeover : d.ulp.takeover = true) : d.monitor level act = d.monTouched.emit (.monitor [.err 5]) := by
  simp only [Device.monitor, hcores, htakeover, Bool.not_true, Bool.false_eq_true, if_false, if_true]
  rfl

variable (htakeover : d.ulp.takeover = false)
include htakeover

/-- Below its level a command answers E2. -/
theorem monitor_belowLevel (hlevel : d.get fMonLevel < level) : d.monitor level act = d.monTouched.emit (.monitor [.err 2]) := by
  have hlow : ({ d with pwr := { d.pwr with monAt := d.clock } } : Device).get fMonLevel < level := hlevel
  simp only [Device.monitor, hcores, htakeover, hlow, Bool.not_true, Bool.false_eq_true, if_false, if_true]
  rfl

/-- At its level a command acts, and its answer follows. -/
theorem monitor_acts {r : Except Nat (List MonLine)} {d2 : Device} (hlevel : level ≤ d.get fMonLevel) (hact : act d.monTouched = (r, d2)) :
    d.monitor level act = d2.answer r := by
  have hhigh : ¬({ d with pwr := { d.pwr with monAt := d.clock } } : Device).get fMonLevel < level := Nat.not_lt.2 hlevel
  have hact' : act { d with pwr := { d.pwr with monAt := d.clock } } = (r, d2) := hact
  simp only [Device.monitor, hcores, htakeover, hhigh, hact', Bool.not_true, Bool.false_eq_true, if_false]

end monitor

section act
variable {d : Device} {ok : Device → Bool} {code : Nat} {act : MonAct}

/-- A command whose condition holds acts. -/
theorem monIf_ok (hok : ok d = true) : monIf ok code act d = act d := if_pos hok

theorem monIf_fails (hok : ok d = false) : monIf ok code act d = (.error code, d) := if_neg (ne_true_of_eq_false hok)

end act

section waits
variable {d : Device} {ok : Bool} {a n : Nat}

/-- A command that a takeover or its level ends makes no access to module memory, so that it does not wait for one. -/
theorem monWaits_of_refused (h : d.ulp.takeover = true ∨ d.get fMonLevel < 2) : d.monWaits ok a n = false := by
  rcases h with h | h
  · simp [Device.monWaits, h]
  · simp [Device.monWaits, Nat.not_le.2 h]

theorem monWaits_of_served (h : d.memServes a n = true) : d.monWaits ok a n = false := by
  simp [Device.monWaits, h]

end waits

/-! ## The commands of the monitor, each as the run of its effect -/

theorem exec_monHelp (s : State) : exec .monHelp s = s.run (fun d => d.monitor 0 monHelpAct) := rfl

theorem exec_monId (s : State) : exec .monId s = s.run (fun d => d.monitor 0 monIdAct) := rfl

theorem exec_monState (s : State) : exec .monState s = s.run (fun d => d.monitor 0 monStateAct) := rfl

theorem exec_monRd (off : Nat) (n : Nat) (s : State) : exec (.monRd off n) s = s.run (fun d => d.monitor 0 (monRdAct off n)) := rfl

theorem exec_monLog (s : State) : exec .monLog s = s.run (fun d => d.monitor 0 monLogAct) := rfl

theorem exec_monEvt (s : State) : exec .monEvt s = s.run (fun d => d.monitor 0 monEvtAct) := rfl

theorem exec_monCtr (b : Nat) (s : State) : exec (.monCtr b) s = s.run (fun d => d.monitor 0 (monCtrAct b)) := rfl

theorem exec_monBaud (rate : Nat) (s : State) : exec (.monBaud rate) s = s.run (fun d => d.monitor 0 (monBaudAct rate)) := rfl

theorem exec_monLock (s : State) : exec .monLock s = s.run (fun d => d.monitor 0 (monDo (fun _ => []) Device.monLock)) := rfl

theorem exec_monUnlock (level : Nat) (s : State) : exec (.monUnlock level) s = s.run (fun d => d.monitor 0 (monUnlockAct level)) := rfl

theorem exec_monWr (off : Nat) (value : Nat) (s : State) :
    exec (.monWr off value) s = s.run (fun d => d.monitor 1 (monWrAct off value)) := rfl

theorem exec_monRing (sector : Nat) (s : State) : exec (.monRing sector) s = s.run (fun d => d.monitor 1 (monRingAct sector)) := rfl

theorem exec_monThaw (s : State) : exec .monThaw s = s.run (fun d => d.monitor 1 monThawAct) := rfl

theorem exec_monReset (ol : OptionLoad) (s : State) : exec (.monReset ol) s = s.run (fun d => d.monitor 2 (monResetAct ol)) := rfl

theorem exec_monBlkreset (island : Nat) (s : State) :
    exec (.monBlkreset island) s = s.run (fun d => d.monitor 2 (monBlkresetAct island)) := rfl

theorem exec_monBadLine (length : Nat) (s : State) : exec (.monBadLine length) s = s.run (monBadLineEffect length) := rfl

theorem exec_monitorBreak (lowMs : Nat) (s : State) : exec (.monitorBreak lowMs) s = s.run (monitorBreakEffect lowMs) := rfl

theorem exec_monitorIdleTimeout (s : State) : exec .monitorIdleTimeout s = s.run monitorIdleTimeoutEffect := rfl

theorem exec_monDr (la n : Nat) (s : State) :
    exec (.monDr la n) s = s.run (fun d =>
      if d.monWaits ((d.inReady || d.inHeld) && decide (n ≤ 16) && decide (la + n ≤ memLines)) (64 * la) (64 * n) then d
      else d.monitor 2 (monDrAct la n)) := rfl

theorem exec_monDw (g : Nat) (w : Vector Nat 4) (s : State) :
    exec (.monDw g w) s = s.run (fun d =>
      if d.monWaits (d.inReady && decide (g < 16 * memLines)) (4 * g) 4 then d else d.monitor 2 (monDwAct g w.toList)) := rfl

/-- Settles O55: each command is the monitor's run of an act, which a takeover or the level ends before it acts. -/
theorem monitorCommandsNeedTheirLevel : Obligations.MonitorCommandsNeedTheirLevel := by
  intro s d d1 off v k la n g w ol h hcores hd1
  subst hd1
  have hdr (hwaits : d.ulp.takeover = true ∨ d.get fMonLevel < 2) : exec (.monDr la n) s = s.run (fun d => d.monitor 2 (monDrAct la n)) := by
    rw [exec_monDr, run_finds h, run_finds h, monWaits_of_refused hwaits]
    rfl
  have hdw (hwaits : d.ulp.takeover = true ∨ d.get fMonLevel < 2) :
      exec (.monDw g w) s = s.run (fun d => d.monitor 2 (monDwAct g w.toList)) := by
    rw [exec_monDw, run_finds h, run_finds h, monWaits_of_refused hwaits]
    rfl
  refine ⟨fun htakeover hlevel => ?level1, fun htakeover hlevel => ?level2, fun htakeover => ?busy⟩
  case level1 =>
    have hlow (act : MonAct) : d.monitor 1 act = d.monTouched.emit (.monitor [.err 2]) := monitor_belowLevel hcores htakeover hlevel
    simp only [List.forall_mem_cons, List.not_mem_nil, false_implies, implies_true, and_true]
    exact ⟨gives_of_run h (exec_monWr off v s) (hlow _), gives_of_run h (exec_monRing k s) (hlow _), gives_of_run h (exec_monThaw s) (hlow _)⟩
  case level2 =>
    have hlow (act : MonAct) : d.monitor 2 act = d.monTouched.emit (.monitor [.err 2]) := monitor_belowLevel hcores htakeover hlevel
    simp only [List.forall_mem_cons, List.not_mem_nil, false_implies, implies_true, and_true]
    exact ⟨gives_of_run h (hdr (.inr hlevel)) (hlow _), gives_of_run h (hdw (.inr hlevel)) (hlow _),
      gives_of_run h (exec_monReset ol s) (hlow _), gives_of_run h (exec_monBlkreset k s) (hlow _)⟩
  case busy =>
    have hbusy (level : Nat) (act : MonAct) : d.monitor level act = d.monTouched.emit (.monitor [.err 5]) := monitor_busy hcores htakeover
    simp only [List.forall_mem_cons, List.not_mem_nil, false_implies, implies_true, and_true]
    exact ⟨gives_of_run h (exec_monHelp s) (hbusy _ _), gives_of_run h (exec_monId s) (hbusy _ _),
      gives_of_run h (exec_monState s) (hbusy _ _), gives_of_run h (exec_monRd off n s) (hbusy _ _),
      gives_of_run h (exec_monLog s) (hbusy _ _), gives_of_run h (exec_monEvt s) (hbusy _ _),
      gives_of_run h (exec_monCtr k s) (hbusy _ _), gives_of_run h (exec_monBaud v s) (hbusy _ _),
      gives_of_run h (exec_monLock s) (hbusy _ _), gives_of_run h (exec_monUnlock k s) (hbusy _ _),
      gives_of_run h (exec_monWr off v s) (hbusy _ _), gives_of_run h (exec_monRing k s) (hbusy _ _),
      gives_of_run h (exec_monThaw s) (hbusy _ _), gives_of_run h (hdr (.inl htakeover)) (hbusy _ _),
      gives_of_run h (hdw (.inl htakeover)) (hbusy _ _), gives_of_run h (exec_monReset ol s) (hbusy _ _),
      gives_of_run h (exec_monBlkreset k s) (hbusy _ _)⟩

/-- A powered module at its monitor: the cores run, and no takeover is under way. -/
theorem monitor_level0 {d d2 : Device} {act : MonAct} {r : Except Nat (List MonLine)} (hcores : d.coresRun = true)
    (htakeover : d.ulp.takeover = false) (hact : act d.monTouched = (r, d2)) : d.monitor 0 act = d2.answer r :=
  monitor_acts hcores htakeover (Nat.zero_le _) hact

/-- A command of level 0 that only shows something answers its lines. -/
theorem monitor_shows {d : Device} {lines : Device → List MonLine} (hcores : d.coresRun = true) (htakeover : d.ulp.takeover = false) :
    d.monitor 0 (monDo lines (fun d => d)) = d.monTouched.emit (.monitor (lines d.monTouched ++ [.ok])) :=
  monitor_level0 (r := .ok (lines d.monTouched)) hcores htakeover rfl

/-! ## The acts of level 0 where their condition holds (R537) -/

theorem monRdAct_inRange {d : Device} {off n : Nat} (hoff : off % 4 = 0) (hn : 1 ≤ n) (hn64 : n ≤ 64) (hend : off + 4 * n ≤ 0x4000000) :
    monRdAct off n d = (.ok [.numbers (d.busReads off n).1], (d.busReads off n).2) := by
  have hrange : (off % 4 == 0 && decide (1 ≤ n) && decide (n ≤ 64) && decide (off + 4 * n ≤ 0x4000000)) = true := by
    simp [hoff, hn, hn64, hend]
  rw [monRdAct, monIf_ok hrange]

theorem monCtrAct_inRange {d : Device} {b : Nat} (hb : b < 20) :
    monCtrAct b d = (.ok [.numbers ((List.range 8).map (fun k => d.snapshot.get36 (PMC_C_SNAP b k)))], d.snapshot) := by
  rw [monCtrAct, monIf_ok (decide_eq_true hb)]

theorem monBaudAct_listed {d : Device} {rate c : Nat} (hc : baudCode rate = some c) : monBaudAct rate d = (.ok [], d.put fMonBaud c) := by
  rw [monBaudAct, hc]

/-! ## The session (R537, R544) -/

theorem monLockAct_acts (d : Device) : monDo (fun _ => []) Device.monLock d = (.ok [], d.put fMonLevel 0) := rfl

theorem monUnlockAct_level1 {d : Device} (hopen : d.flag fL1Open = true) : monUnlockAct 1 d = (.ok [], d.put fMonLevel 1) := by
  simp [monUnlockAct, monIf, monDo, hopen]

theorem monUnlockAct_level2 {d : Device} (hopen : d.flag fL2Open = true) (hstrict : d.strict = false) :
    monUnlockAct 2 d = (.ok [], d.put fMonLevel 2) := by
  simp [monUnlockAct, monIf, monDo, hopen, hstrict]

theorem monUnlockAct_level2_closed {d : Device} (hclosed : d.flag fL2Open = false ∨ d.strict = true) :
    monUnlockAct 2 d = (.error monLevelErr, d) := by
  rcases hclosed with hclosed | hclosed <;> simp [monUnlockAct, monIf, hclosed]

theorem monBadLineEffect_short {d : Device} {n : Nat} (hcores : d.coresRun = true) (htakeover : d.ulp.takeover = false) (hn : n ≤ 127) :
    monBadLineEffect n d = d.monTouched.emit (.monitor [.err 1]) :=
  (if_neg (Nat.not_lt.2 hn)).trans (monitor_level0 hcores htakeover rfl)

theorem monitorBreakEffect_long {d : Device} {n : Nat} (hcores : d.coresRun = true) (hn : 100 ≤ n) :
    monitorBreakEffect n d = (d.put fMonLevel 0).put fMonBaud 0 := by
  simp only [monitorBreakEffect, hcores, hn, decide_true, Bool.and_self, if_true]
  rfl

theorem monitorIdleTimeoutEffect_due {d : Device} (hcores : d.coresRun = true) (hon : d.get fIdleMin ≠ 0)
    (hdue : d.pwr.monAt + d.get fIdleMin * 48000000000 ≤ d.clock) : monitorIdleTimeoutEffect d = d.put fMonLevel 0 := by
  simp only [monitorIdleTimeoutEffect, hcores, bne_iff_ne.2 hon, hdue, decide_true, Bool.and_self, if_true]
  rfl

/-- Settles O48: each command acts at level 0, where its condition holds or fails as the hypotheses say. -/
theorem monitorReadsAndSessionComplete : Obligations.MonitorReadsAndSessionComplete := by
  refine ⟨?shows, ?rd, ?ctr, ?baud, ?lock, ?unlock1, ?unlock2, ?closed, ?badLine, ?lineBreak, ?idle⟩
  case shows =>
    intro s d d1 h hcores htakeover hd1
    subst hd1
    refine ⟨?_, ?_, ?_, ?_, ?_⟩
    · rw [exec_monHelp, run_finds h, monHelpAct, monitor_shows hcores htakeover]
      rfl
    · rw [exec_monId, run_finds h, monIdAct, monitor_shows hcores htakeover]
      rfl
    · rw [exec_monState, run_finds h, monStateAct, monitor_shows hcores htakeover]
      rfl
    · rw [exec_monLog, run_finds h, monLogAct, monitor_shows hcores htakeover]
      rfl
    · rw [exec_monEvt, run_finds h, monEvtAct, monitor_shows hcores htakeover]
      rfl
  case rd =>
    intro s d d1 off n h hcores htakeover hd1 hoff hn hn64 hend
    subst hd1
    rw [exec_monRd, run_finds h, monitor_level0 hcores htakeover (monRdAct_inRange hoff hn hn64 hend)]
    rfl
  case ctr =>
    intro s d d1 b h hcores htakeover hd1 hb
    subst hd1
    rw [exec_monCtr, run_finds h, monitor_level0 hcores htakeover (monCtrAct_inRange hb)]
    rfl
  case baud =>
    intro s d d1 rate c h hcores htakeover hd1 hc
    subst hd1
    rw [exec_monBaud, run_finds h, monitor_level0 hcores htakeover (monBaudAct_listed hc)]
    rfl
  case lock =>
    intro s d h hcores htakeover
    rw [exec_monLock, run_finds h, monitor_level0 hcores htakeover (monLockAct_acts _)]
    rfl
  case unlock1 =>
    intro s d h hcores htakeover hopen
    rw [exec_monUnlock, run_finds h, monitor_level0 hcores htakeover (monUnlockAct_level1 (d := d.monTouched) hopen)]
    rfl
  case unlock2 =>
    intro s d h hcores htakeover hopen hstrict
    rw [exec_monUnlock, run_finds h, monitor_level0 hcores htakeover (monUnlockAct_level2 (d := d.monTouched) hopen hstrict)]
    rfl
  case closed =>
    intro s d h hcores htakeover hclosed
    rw [exec_monUnlock, run_finds h, monitor_level0 hcores htakeover (monUnlockAct_level2_closed (d := d.monTouched) hclosed)]
    rfl
  case badLine =>
    intro s d n h hcores htakeover hn
    rw [exec_monBadLine, run_finds h, monBadLineEffect_short hcores htakeover hn]
    rfl
  case lineBreak =>
    intro s d n h hcores hn
    rw [exec_monitorBreak, run_finds h, monitorBreakEffect_long hcores hn]
  case idle =>
    intro s d h hcores hon hdue
    rw [exec_monitorIdleTimeout, run_finds h, monitorIdleTimeoutEffect_due hcores hon hdue]

end Sys2Proof.Machine
end

section
/-! PROOFS: the commands of the monitor that write (16_power_states_monitor_counters.md, R537). -/
namespace Sys2Proof.Machine

/-! ## The acts of levels 1 and 2 where their condition holds -/

section acts
variable {d : Device}

theorem monWrAct_inRange {off v : Nat} (hoff : off % 4 = 0) (hlt : off < 0x4000000) (hv : v < 4294967296) :
    monWrAct off v d = (.ok [], d.busWrite .monitor off v) := by
  have hrange : (off % 4 == 0 && decide (off < 0x4000000) && decide (v < 4294967296)) = true := by simp [hoff, hlt, hv]
  rw [monWrAct, monIf_ok hrange, monDo]

theorem monRingAct_inRange {k : Nat} (hk : k < 262144) : monRingAct k d = (.ok [], d.busWrite .monitor EVT_DOORBELL k) := by
  rw [monRingAct, monIf_ok (decide_eq_true hk), monDo]

theorem monThawAct_frost (hfrost : d.get fFState ≠ fsRUN) : monThawAct d = (.ok [], d.wakeBy 512) := by
  rw [monThawAct, monIf_ok (ok := fun d => d.get fFState != fsRUN) (bne_iff_ne.2 hfrost), monDo]

theorem monDrAct_inRange {la n : Nat} (hst : (d.inReady || d.inHeld) = true) (hn : 1 ≤ n) (hn16 : n ≤ 16) (hend : la + n ≤ memLines) :
    monDrAct la n d = (.ok ((List.range n).map (fun i => d.monLine (la + i))), d.memUse (64 * la) (64 * n)) := by
  have hrange : (decide (1 ≤ n) && decide (n ≤ 16) && decide (la + n ≤ memLines)) = true := by simp [hn, hn16, hend]
  rw [monDrAct, monIf_ok hst, monIf_ok hrange, monDo]

theorem monDwAct_inRange {g : Nat} {w : List Nat} (hst : d.inReady = true) (hg : g < 16 * memLines)
    (hw : w.all (fun v => decide (v < 262144)) = true) : monDwAct g w d = (.ok [], d.putWords 8 (4 * g) w) := by
  have hrange : (decide (g < 16 * memLines) && w.all (fun v => decide (v < wordMod))) = true :=
    Bool.and_eq_true_iff.2 ⟨decide_eq_true hg, hw⟩
  rw [monDwAct, monIf_ok hst, monIf_ok hrange, monDo]

theorem monResetAct_taken {ol : OptionLoad} (htaken : d.softTaken = true) : monResetAct ol d = (.ok [], d.softReset ol) := by
  rw [monResetAct, monIf_ok htaken, monDo]

theorem monBlkresetAct_inRange {k : Nat} (hk : k < 32) :
    monBlkresetAct k d = (.ok [.numbers [(d.requestBlock k).get fBlkResult]], d.requestBlock k) := by
  rw [monBlkresetAct, monIf_ok (decide_eq_true hk)]

end acts

/-! ## The write of a DRAM group (R322, R336) -/

section group
variable (d : Device)

/-- The registers of a remap table lie apart from those of the channel states. -/
theorem remap_ne_chState {n c : Nat} (hc : c < 4) : MEM_CH_REMAP n ≠ MEM_CH_STATE c ∧ MEM_CH_REMAP n + 4 ≠ MEM_CH_STATE c := by
  unfold MEM_CH_REMAP MEM_CH_STATE
  omega

/-- A request opens its line's row; the line's channel and the remap tables stay, so that a line is bad as before. -/
theorem lineBad_opened (la : Nat) : ((d.putFlag (fSelfRefresh (chanOf la)) false).touchRow la).lineBad la = d.lineBad la := by
  have hreg {off : Nat} (h : off ≠ MEM_CH_STATE (chanOf la)) :
      ((d.putFlag (fSelfRefresh (chanOf la)) false).touchRow la).reg off = d.reg off := by
    rw [reg_touchRow]
    exact reg_put_ne d _ h
  have hremap (e : Nat) := remap_ne_chState (n := 32 * chanOf la + e) (chanOf_lt la)
  have hstate (e : Nat) : ((d.putFlag (fSelfRefresh (chanOf la)) false).touchRow la).remapState (chanOf la) e = d.remapState (chanOf la) e := by
    rw [Device.remapState, Device.remapState, Device.get, Device.get, show (fRemapState (chanOf la) e).off = MEM_CH_REMAP (32 * chanOf la + e) + 4 from rfl,
      hreg (hremap e).2]
  have hla (e : Nat) : ((d.putFlag (fSelfRefresh (chanOf la)) false).touchRow la).remapLA (chanOf la) e = d.remapLA (chanOf la) e := by
    rw [Device.remapLA, Device.remapLA, hreg (hremap e).1, hreg (hremap e).2]
  simp only [Device.lineBad, Device.lineState, Device.remapOf, hstate, hla, chState_opened]

theorem lineBad_false {la : Nat} (h : d.lineBad la = false) : d.get (fChState (chanOf la)) ≠ chDOWN := by
  rw [Device.lineBad, Bool.or_eq_false_iff] at h
  exact beq_eq_false_iff_ne.1 h.2

theorem linesOf_within {a n la : Nat} (hn : 0 < n) (hlo : 64 * la ≤ a) (hhi : a + n ≤ 64 * (la + 1)) : linesOf a n = [la] := by
  have hfirst : a / 64 = la := by omega
  have hlast : (a + n - 1) / 64 = la := by omega
  rw [linesOf, hfirst, hlast, Nat.sub_self]
  simp [Nat.ne_of_gt hn]

/-- Words that lie within a line that is not bad, and do not fill it, are written. -/
theorem putWords_within {req a la : Nat} {ws : List Nat} (hpos : 0 < ws.length) (hpart : ws.length < 64) (hlo : 64 * la ≤ a)
    (hhi : a + ws.length ≤ 64 * (la + 1)) (hbad : d.lineBad la = false) :
    d.putWords req a ws = ((d.putFlag (fSelfRefresh (chanOf la)) false).touchRow la).putDram a ws := by
  have hlines := linesOf_within hpos hlo hhi
  have hpartOf : (ws.drop (max a (64 * la) - a)).take (64 * (la + 1) - max a (64 * la)) = ws := by
    rw [Nat.max_eq_left hlo, Nat.sub_self, List.drop_zero, List.take_of_length_le (by omega)]
  have huse : d.memUse a ws.length = (d.putFlag (fSelfRefresh (chanOf la)) false).touchRow la := by rw [Device.memUse, hlines, each_cons, each_nil]
  have hopen : ((d.putFlag (fSelfRefresh (chanOf la)) false).touchRow la).lineBad la = false := (lineBad_opened d la).trans hbad
  rw [Device.putWords, hlines, each_cons, each_nil]
  dsimp only
  rw [hpartOf, Nat.max_eq_left hlo, huse, if_neg (by simp; omega), if_neg (mt eq_of_beq (lineBad_false _ hopen)), hopen,
    if_neg Bool.false_ne_true]

end group

/-- Settles O49: each command acts at its level, where its condition holds; the words of a group are those that its write leaves. -/
theorem monitorWritesComplete : Obligations.MonitorWritesComplete := by
  refine ⟨?wr, ?ring, ?thaw, ?dr, ?dw, ?reset, ?blkreset⟩
  case wr =>
    intro s d d1 off v h hcores htakeover hlevel hd1 hoff hlt hv
    subst hd1
    rw [exec_monWr, run_finds h, monitor_acts hcores htakeover hlevel (monWrAct_inRange hoff hlt hv)]
    rfl
  case ring =>
    intro s d d1 k h hcores htakeover hlevel hd1 hk
    subst hd1
    rw [exec_monRing, run_finds h, monitor_acts hcores htakeover hlevel (monRingAct_inRange hk)]
    rfl
  case thaw =>
    intro s d d1 h hcores htakeover hlevel hd1 hfrost
    subst hd1
    rw [exec_monThaw, run_finds h, monitor_acts hcores htakeover hlevel (monThawAct_frost (d := d.monTouched) hfrost)]
    rfl
  case dr =>
    intro s d d1 la n h hcores htakeover hlevel hd1 hst hn hn16 hend hserves
    subst hd1
    rw [exec_monDr, run_finds h, monWaits_of_served hserves, if_neg Bool.false_ne_true,
      monitor_acts hcores htakeover hlevel (monDrAct_inRange (d := d.monTouched) hst hn hn16 hend)]
    rfl
  case dw =>
    intro s d g w i h hcores htakeover hlevel hst hg hw hbad hserves
    have hlen : w.toList.length = 4 := w.length_toList
    have hput := putWords_within d.monTouched (req := 8) (a := 4 * g) (la := g / 16) (ws := w.toList) (by omega) (by omega) (by omega)
      (by omega) hbad
    have hi : i.val < w.toList.length := by omega
    have hlt : w.toList.getD i 0 < 262144 := by
      rw [List.getD_eq_getElem _ _ hi]
      exact of_decide_eq_true (List.all_eq_true.1 hw _ (List.getElem_mem hi))
    have hexec : exec (.monDw g w) s = .next (s.gives (Device.answer
        (((d.monTouched.putFlag (fSelfRefresh (chanOf (g / 16))) false).touchRow (g / 16)).putDram (4 * g) w.toList) (.ok []))) := by
      rw [exec_monDw, run_finds h, monWaits_of_served hserves, if_neg Bool.false_ne_true,
        monitor_acts hcores htakeover hlevel (monDwAct_inRange (d := d.monTouched) hst hg hw), hput]
    refine ⟨_, hexec, ?_⟩
    rw [gives_dev, dramWord_of_kept ((kept_settle _).trans (kept_answer _ _)), dramWord_putDram_within _ _ _ hi, Nat.mod_eq_of_lt hlt]
  case reset =>
    intro s d d1 ol h hcores htakeover hlevel hd1 htaken
    subst hd1
    rw [exec_monReset, run_finds h, monitor_acts hcores htakeover hlevel (monResetAct_taken (d := d.monTouched) htaken)]
    rfl
  case blkreset =>
    intro s d d1 k h hcores htakeover hlevel hd1 hk
    subst hd1
    rw [exec_monBlkreset, run_finds h, monitor_acts hcores htakeover hlevel (monBlkresetAct_inRange (d := d.monTouched) hk)]
    rfl

end Sys2Proof.Machine
end

section
/-! PROOFS: the packet commands: outside their states, in any state, of the system, of lanes, rills, heads and motion, of tables and
of compression (14_command_packets.md, R476, R481). -/
namespace Sys2Proof.Machine

/-! ## The packet commands, each as the run of its effect -/

theorem exec_nop (tag : Byte) (s : State) :
    exec (.nop tag) s = s.run (fun d => d.command tag.toNat 0x000 true [] (fun d f => d.complete f sOK 0 [])) := rfl

theorem exec_identify (tag : Byte) (s : State) :
    exec (.identify tag) s =
      s.run (fun d => d.command tag.toNat 0x001 true [] (fun d f =>
        d.complete f sOK 0 [d.reg SYS_DEVICE_ID, d.reg SYS_SILICON_REL, d.reg SYS_FIRMWARE_REL])) := rfl

theorem exec_systemReset (tag : Byte) (ol : OptionLoad) (s : State) :
    exec (.systemReset tag ol) s = s.run (fun d => d.command tag.toNat 0x002 d.softTaken [] (systemReset ol)) := rfl

theorem exec_setStrict (tag : Byte) (verified : Bool) (s : State) :
    exec (.setStrict tag verified) s =
      s.run (fun d => d.command tag.toNat 0x010 d.readyOk [] (fun d f => d.programSlot f 20 20 0 verified Device.lockStrict)) := rfl

theorem exec_setAnchor (tag : Byte) (verified : Bool) (s : State) :
    exec (.setAnchor tag verified) s = s.run (fun d => d.command tag.toNat 0x011 d.readyOk [] (setAnchor verified)) := rfl

theorem exec_setColumn (tag : Byte) (verified : Bool) (s : State) :
    exec (.setColumn tag verified) s =
      s.run (fun d => d.command tag.toNat 0x700 d.readyOk [0xF] (fun d f => d.programSlot f 0 15 (f.p 0) verified (fun d => d))) := rfl

theorem exec_jobStart (tag : Byte) (hostErr : Bool) (s : State) :
    exec (.jobStart tag hostErr) s =
      s.run (fun d => d.command tag.toNat 0x100 (d.readyOk && d.needs ((List.range 13).drop 1 ++ [18])) [] (fun d f => d.jobStart f hostErr)) := rfl

theorem exec_pause (tag : Byte) (s : State) : exec (.pause tag) s = s.run (fun d => d.command tag.toNat 0x101 d.inWriting [] pause) := rfl

theorem exec_resume (tag : Byte) (s : State) :
    exec (.resume tag) s = s.run (fun d => d.command tag.toNat 0x102 d.inHeld [] (fun d f => d.resumeCommand f)) := rfl

theorem exec_abort (tag : Byte) (s : State) : exec (.abort tag) s = s.run (fun d => d.command tag.toNat 0x103 d.inJob [] abort) := rfl

theorem exec_libraryLoad (tag : Byte) (slot : Fin 16) (hostErr : Bool) (s : State) :
    exec (.libraryLoad tag slot hostErr) s =
      s.run (fun d => d.command tag.toNat 0x110 (d.readyOk && d.needs [1, 2]) [] (libraryLoad slot hostErr)) := rfl

theorem exec_laneCal (tag : Byte) (s : State) :
    exec (.laneCal tag) s =
      s.run (fun d => d.command tag.toNat 0x300 (d.runOk && d.needs [18]) [0x7F] (fun d f =>
        let n := f.p 0
        if 72 ≤ n then d.complete f sBAD_PARAM 0 []
        else if d.laneSt n == laneActive || d.laneSt n == laneSpare then calNowWrite n (d.await f (.laneCal n))
        else d.complete f sNO_RESOURCE 0 [])) := rfl

theorem exec_laneRetrain (tag : Byte) (s : State) :
    exec (.laneRetrain tag) s =
      s.run (fun d => d.command tag.toNat 0x301 (d.runOk && d.needs [18]) [0x7F] (fun d f =>
        let n := f.p 0
        if 72 ≤ n then d.complete f sBAD_PARAM 0 []
        else if d.unitUp 18 && d.retrainTaken n then laneRetrainWrite n (d.await f (.laneRetrain n))
        else d.complete f sBUSY_JOB 0 [])) := rfl

theorem exec_rillForce (tag : Byte) (s : State) :
    exec (.rillForce tag) s =
      s.run (fun d => d.command tag.toNat 0x302 (d.inJob && d.runs) [0x1F07] (fun d f =>
        let g := bits (f.p 0) 0 3
        let slot := bits (f.p 0) 8 5
        if d.unitUp (5 + g) && d.forceTaken g (131072 + slot) then writeRilForce g (131072 + slot) (d.await f (.rillForce (32 * g + slot)))
        else d.complete f sBUSY_JOB 0 [])) := rfl

theorem exec_stuckAck (tag : Byte) (s : State) :
    exec (.stuckAck tag) s =
      s.run (fun d => d.command tag.toNat 0x303 d.inHeld [] (fun d f =>
        if d.unitUp 5 && d.ackTaken then (writeStuckAck 1 d).complete f sOK 0 [] else d.complete f sBUSY_JOB 0 [])) := rfl

theorem exec_headRestore (tag : Byte) (s : State) :
    exec (.headRestore tag) s =
      s.run (fun d => d.command tag.toNat 0x304 d.restOk [0x7] (fun d f =>
        let c := f.p 0
        if 6 ≤ c then d.complete f sBAD_PARAM 0 []
        else if d.released 13 && d.restoreTaken c then (d.restoreHead c).complete f sOK 0 []
        else d.complete f sBUSY_JOB 0 [])) := rfl

theorem exec_move (tag : Byte) (s : State) :
    exec (.move tag) s = s.run (fun d => d.command tag.toNat 0x400 d.readyOk [m32, 0xF, m32, 0xF] move) := rfl

theorem exec_layerGoto (tag : Byte) (s : State) :
    exec (.layerGoto tag) s =
      s.run (fun d => d.command tag.toNat 0x401 d.restOk [1, m32, 0xF] (fun d f =>
        if d.gotoTaken (f.p 0) then (d.await f (.layerGoto (f.p 0))).startGoto (f.p 0) (wide36 (f.p 1) (f.p 2))
        else d.complete f sBUSY_JOB 0 [])) := rfl

theorem exec_motionStop (tag : Byte) (s : State) :
    exec (.motionStop tag) s = s.run (fun d => d.command tag.toNat 0x402 d.readyOk [] motionStop) := rfl

theorem exec_logRead (tag : Byte) (s : State) : exec (.logRead tag) s = s.run (fun d => d.command tag.toNat 0x800 true [] logRead) := rfl

theorem exec_counterSnapshot (tag : Byte) (s : State) :
    exec (.counterSnapshot tag) s = s.run (fun d => d.command tag.toNat 0x801 true [] counterSnapshot) := rfl

theorem exec_blockReset (tag : Byte) (s : State) :
    exec (.blockReset tag) s = s.run (fun d => d.command tag.toNat 0x802 d.readyOk [0x1F] blockReset) := rfl

theorem exec_regWrite (tag : Byte) (s : State) :
    exec (.regWrite tag) s = s.run (fun d => d.command tag.toNat 0x200 true [] regWrite) := rfl

theorem exec_regRead (tag : Byte) (s : State) : exec (.regRead tag) s = s.run (fun d => d.command tag.toNat 0x201 true [] regRead) := rfl

theorem exec_tableLoad (tag : Byte) (hostErr : Bool) (s : State) :
    exec (.tableLoad tag hostErr) s = s.run (fun d => d.command tag.toNat 0x210 d.runOk [0x1FF] (tableLoad hostErr)) := rfl

theorem exec_tableCommit (tag : Byte) (s : State) :
    exec (.tableCommit tag) s = s.run (fun d => d.command tag.toNat 0x211 d.runOk [0x3FF] tableCommit) := rfl

theorem exec_tableRead (tag : Byte) (s : State) :
    exec (.tableRead tag) s = s.run (fun d => d.command tag.toNat 0x212 d.runs [] tableRead) := rfl

theorem exec_compress (tag : Byte) (hostErr : Bool) (s : State) :
    exec (.compress tag hostErr) s = s.run (fun d => d.command tag.toNat 0x111 (d.runOk && d.needs [1]) [] (compress hostErr)) := rfl

/-! ## Outside its states (R481, R530) -/

/-- Settles O56: each command stops at its state, before its parameters and its own rule. -/
theorem commandsOutsideTheirStateAreBusy : Obligations.CommandsOutsideTheirStateAreBusy := by
  intro s d tag f c op h hb
  refine ⟨fun hready e v k hc => ?ready, fun hrun e hc => ?run, fun hheld hc => ?held, fun hjob hc => ?job, fun hwriting hc hop => ?writing⟩
  case writing =>
    subst hc hop
    rw [exec_pause, run_finds h, hwriting, command_notAccepted hb]
  all_goals simp only [List.mem_cons, Prod.mk.injEq, List.not_mem_nil, or_false] at hc
  case ready =>
    rcases hc with ⟨rfl, rfl⟩ | ⟨rfl, rfl⟩ | ⟨rfl, rfl⟩ | ⟨rfl, rfl⟩ | ⟨rfl, rfl⟩ | ⟨rfl, rfl⟩ | ⟨rfl, rfl⟩ | ⟨rfl, rfl⟩ | ⟨rfl, rfl⟩ |
      ⟨rfl, rfl⟩ | ⟨rfl, rfl⟩ | ⟨rfl, rfl⟩
    · rw [exec_frost, run_finds h, hready, command_notAccepted hb]
    · rw [exec_setStrict, run_finds h, hready, command_notAccepted hb]
    · rw [exec_setAnchor, run_finds h, hready, command_notAccepted hb]
    · rw [exec_jobStart, run_finds h, hready, Bool.false_and, command_notAccepted hb]
    · rw [exec_libraryLoad, run_finds h, hready, Bool.false_and, command_notAccepted hb]
    · rw [exec_move, run_finds h, hready, command_notAccepted hb]
    · rw [exec_motionStop, run_finds h, hready, command_notAccepted hb]
    · rw [exec_memMarkClear, run_finds h, hready, command_notAccepted hb]
    · rw [exec_pageRetire, run_finds h, hready, command_notAccepted hb]
    · rw [exec_todSet, run_finds h, hready, Bool.false_and, command_notAccepted hb]
    · rw [exec_setColumn, run_finds h, hready, command_notAccepted hb]
    · rw [exec_blockReset, run_finds h, hready, command_notAccepted hb]
  case run =>
    rcases hc with ⟨rfl, rfl⟩ | ⟨rfl, rfl⟩ | ⟨rfl, rfl⟩ | ⟨rfl, rfl⟩ | ⟨rfl, rfl⟩ | ⟨rfl, rfl⟩ | ⟨rfl, rfl⟩ | ⟨rfl, rfl⟩ | ⟨rfl, rfl⟩
    · rw [exec_tableLoad, run_finds h, hrun, command_notAccepted hb]
    · rw [exec_tableCommit, run_finds h, hrun, command_notAccepted hb]
    · rw [exec_compress, run_finds h, hrun, Bool.false_and, command_notAccepted hb]
    · rw [exec_laneCal, run_finds h, hrun, Bool.false_and, command_notAccepted hb]
    · rw [exec_laneRetrain, run_finds h, hrun, Bool.false_and, command_notAccepted hb]
    · rw [exec_dmaRun, run_finds h, hrun, command_notAccepted hb]
    · rw [exec_checkRun, run_finds h, hrun, command_notAccepted hb]
    · rw [exec_serverSet, run_finds h, hrun, Bool.false_and, command_notAccepted hb]
    · rw [exec_meshRetrain, run_finds h, hrun, Bool.false_and, command_notAccepted hb]
  case held =>
    rcases hc with ⟨rfl, rfl⟩ | ⟨rfl, rfl⟩
    · rw [exec_resume, run_finds h, hheld, command_notAccepted hb]
    · rw [exec_stuckAck, run_finds h, hheld, command_notAccepted hb]
  case job =>
    rcases hc with ⟨rfl, rfl⟩ | ⟨rfl, rfl⟩
    · rw [exec_abort, run_finds h, hjob, command_notAccepted hb]
    · rw [exec_rillForce, run_finds h, hjob, Bool.false_and, command_notAccepted hb]

/-! ## The commands of any state (R481, R486, R507, R539) -/

/-- A packet command of any state whose parameters have no masks follows its own rule. -/
theorem run_command_anyState {s : State} {d : Device} {tag op : Nat} {f : Flight} (h : s.finds d) (hb : d.begins tag op = some f)
    (act : Device → Flight → Device) : s.run (fun d => d.command tag op true [] act) = .next (s.gives (act d f)) :=
  run_command_accepted (accepts := fun _ => true) h hb rfl (badParam_nil f) act

section regWrite
variable {d : Device} {f : Flight} {ps : List RegPair} (hps : readPairs 0 f.params = .ok ps)
include hps

/-- Outside a job REG_WRITE writes its pairs in order, and commits the tables whose shadows they write. -/
theorem regWrite_outsideJob (hfree : (pairTables ps).any d.loadBars = false) (hjob : d.inJob = false) (hready : d.readyOk = true) :
    regWrite d f =
      if (pairTables ps).isEmpty then (d.each ps Device.writePair).complete f sOK 0 []
      else (d.each ps Device.writePair).commitNow f (pairTables ps) := by
  simp only [regWrite, hps, hfree, hjob, hready, Bool.false_and, Bool.not_true, Bool.and_false, Bool.or_self, Bool.false_eq_true, if_false]

variable (hts : pairTables ps = []) (hjob : d.inJob = true)
include hts hjob

/-- In a job REG_WRITE writes the pairs of lower classes. -/
theorem regWrite_lowerClasses (hlower : ps.all (fun p => !p.isJob) = true) (hroom : d.ulp.deferred.length ≤ 64) :
    regWrite d f =
      ((d.each ps Device.writePair).put fDeferWrites (d.each ps Device.writePair).ulp.deferred.length).complete f sOK 0 [] := by
  have hnone : ps.filter (fun p => p.isJob) = [] :=
    List.filter_eq_nil_iff.2 fun p hp hj => by simpa [hj] using List.all_eq_true.1 hlower p hp
  have hall : ps.filter (fun p => !p.isJob || p.loc.isClassCtrl) = ps :=
    List.filter_eq_self.2 fun p hp => Bool.or_eq_true_iff.2 (.inl (List.all_eq_true.1 hlower p hp))
  simp only [regWrite, hps, hts, hjob, hnone, hall, List.any_nil, List.isEmpty_nil, Bool.not_true, Bool.and_false, Bool.or_self,
    Bool.false_and, Bool.false_eq_true, if_false, if_true, List.length_nil, Nat.add_zero, Nat.not_lt.2 hroom, List.map_nil, List.append_nil]

/-- In a job REG_WRITE defers the pairs of class JOB, where DEFER_OK allows it. -/
theorem regWrite_deferred (hne : ps ≠ []) (hclass : ps.all (fun p => p.isJob && !p.loc.isClassCtrl) = true) (hdefer : f.deferOk = true)
    (hroom : d.ulp.deferred.length + ps.length ≤ 64) :
    regWrite d f =
      (({ d with ulp := { d.ulp with
        deferred := d.ulp.deferred ++ ps.map (fun p => (p.off, p.value &&& p.loc.writable)) } } : Device).put fDeferWrites
          (d.ulp.deferred.length + ps.length)).complete f sDEFERRED 0 [] clsJob := by
  have hjobs (p : RegPair) (hp : p ∈ ps) : p.isJob = true ∧ p.loc.isClassCtrl = false := by
    simpa using List.all_eq_true.1 hclass p hp
  have hall : ps.filter (fun p => p.isJob) = ps := List.filter_eq_self.2 fun p hp => (hjobs p hp).1
  have hnone : ps.filter (fun p => !p.isJob || p.loc.isClassCtrl) = [] :=
    List.filter_eq_nil_iff.2 fun p hp hw => by simp [hjobs p hp] at hw
  have hsome : ps.isEmpty = false := List.isEmpty_eq_false_iff.2 hne
  simp only [regWrite, hps, hts, hjob, hnone, hall, hdefer, hsome, List.any_nil, List.isEmpty_nil, Bool.not_true, Bool.and_false, Bool.or_self,
    Bool.false_and, Bool.false_eq_true, if_false, if_true, Nat.not_lt.2 hroom, each_nil, List.length_append, List.length_map]

end regWrite

/-- Settles O15: each command is accepted in every state, and REG_WRITE takes the branch of its pairs. -/
theorem anyStateCommandsComplete : Obligations.AnyStateCommandsComplete := by
  refine ⟨?identify, ?log, ?counters, ?writes, ?commits, ?lower, ?defers, ?reads, ?nop⟩
  case identify =>
    intro s d tag f h hb
    rw [exec_identify, run_command_anyState h hb]
    rfl
  case log =>
    intro s d tag f es body h hb hes hbody
    subst hbody hes
    rw [exec_logRead, run_command_anyState h hb]
    rfl
  case counters =>
    intro s d tag f h hb
    rw [exec_counterSnapshot, run_command_anyState h hb]
    rfl
  case writes =>
    intro s d tag f ps h hb hps hts hjob hready
    have hfree : (pairTables ps).any d.loadBars = false := by rw [hts, List.any_nil]
    rw [exec_regWrite, run_command_anyState h hb, regWrite_outsideJob hps hfree hjob hready, hts]
    rfl
  case commits =>
    intro s d tag f ps h hb hps hts hfree hjob hready
    rw [exec_regWrite, run_command_anyState h hb, regWrite_outsideJob hps hfree hjob hready, List.isEmpty_eq_false_iff.2 hts]
    rfl
  case lower =>
    intro s d tag f ps h hb hps hts hjob hlower hroom
    rw [exec_regWrite, run_command_anyState h hb, regWrite_lowerClasses hps hts hjob hlower hroom]
  case defers =>
    intro s d tag f ps h hb hps hts hjob hne hclass hdefer hroom
    rw [exec_regWrite, run_command_anyState h hb, regWrite_deferred hps hts hjob hne hclass hdefer hroom]
  case reads =>
    intro s d tag f h hb
    rw [exec_regRead, run_command_anyState h hb]
    rfl
  case nop =>
    intro s d tag f h hb _
    rw [exec_nop, run_command_anyState h hb]

/-! ## Lanes, rills and heads (R481) -/

/-- The parameter of RILL_FORCE for a rill group and a slot: its mask, and the two fields. -/
theorem rillForce_param {f : Flight} {g : Fin 8} {k : Fin 32} (hp : f.p 0 = 256 * k.val + g.val) :
    f.badParam [0x1F07] = none ∧ bits (f.p 0) 0 3 = g.val ∧ bits (f.p 0) 8 5 = k.val := by
  have hmask : ∀ (g : Fin 8) (k : Fin 32), (256 * k.val + g.val) &&& 0x1F07 = 256 * k.val + g.val := by decide
  refine ⟨?_, ?_, ?_⟩
  · simp [Flight.badParam, Flight.outside, hp, hmask]
  · simp only [bits, hp]
    omega
  · simp only [bits, hp]
    omega

theorem laneCal_masked {f : Flight} {n : Nat} (hp : f.p 0 < n) (hn : n ≤ 128) : f.badParam [0x7F] = none :=
  badParam_of_lt (n := 7) rfl (by omega)

/-- Settles O18: each command is accepted, and its own rule takes the branch in which the unit takes it. -/
theorem laneRillAndHeadCommandsTakeEffect : Obligations.LaneRillAndHeadCommandsTakeEffect := by
  refine ⟨?cal, ?retrain, ?force, ?ack, ?head⟩
  case cal =>
    intro s d tag f h hb hrun hneeds hlane hst
    have hlive : (d.laneSt (f.p 0) == laneActive || d.laneSt (f.p 0) == laneSpare) = true := by
      rcases hst with hst | hst <;> rw [hst] <;> rfl
    rw [exec_laneCal, run_command_accepted h hb (Bool.and_eq_true_iff.2 ⟨hrun, hneeds⟩) (laneCal_masked hlane (by decide))]
    simp only [Nat.not_le.2 hlane, hlive, if_false, if_true]
  case retrain =>
    intro s d tag f h hb hrun hneeds hlane hup htaken
    rw [exec_laneRetrain, run_command_accepted h hb (Bool.and_eq_true_iff.2 ⟨hrun, hneeds⟩) (laneCal_masked hlane (by decide))]
    simp only [Nat.not_le.2 hlane, hup, htaken, Bool.and_self, if_false, if_true]
  case force =>
    intro s d tag f g k h hb hjob hruns hp hup htaken
    obtain ⟨hm, hg, hk⟩ := rillForce_param hp
    rw [exec_rillForce, run_command_accepted h hb (Bool.and_eq_true_iff.2 ⟨hjob, hruns⟩) hm]
    simp only [hg, hk, hup, htaken, Bool.and_self, if_true]
  case ack =>
    intro s d tag f h hb hheld hup htaken
    rw [exec_stuckAck, run_command_accepted h hb hheld (badParam_nil f), hup, htaken, writeStuckAck_taken rfl htaken]
    rfl
  case head =>
    intro s d tag f h hb hrest hhead hrel htaken
    have hm : f.badParam [0x7] = none := badParam_of_lt (n := 3) rfl (by omega)
    rw [exec_headRestore, run_command_accepted h hb hrest hm]
    simp only [Nat.not_le.2 hhead, hrel, htaken, Bool.and_self, if_false, if_true]

/-! ## Motion (R301, R305, R309) -/

section motion
variable {d : Device} {f : Flight}

theorem move_taken (hone : d.mot.readyMove = false) (hrel : d.released 13 = true) (hlimits : d.badLimits = false) :
    move d f = (d.await f .moveEnd).mapMot (fun m =>
      { m with readyMove := true, ask := some (.move (wide36 (f.p 0) (f.p 1)) (wide36 (f.p 2) (f.p 3)) true), askTick := d.clock }) := by
  simp only [move, hone, hrel, hlimits, Bool.not_true, Bool.or_self, Bool.false_eq_true, if_false]

theorem motionStop_moving (hmove : d.mot.readyMove = true) :
    motionStop d f = (d.await f .motionStop).mapMot (fun m => { m with ask := some .stop, askTick := d.clock }) := if_pos hmove

theorem motionStop_rest (hmove : d.mot.readyMove = false) : motionStop d f = d.complete f sOK 0 [] := if_neg (ne_true_of_eq_false hmove)

end motion

/-- Settles O19: each command is accepted, and settling keeps what it asks of the motion block. -/
theorem motionCommandsTakeEffect : Obligations.MotionCommandsTakeEffect := by
  refine ⟨?move, ?goto, ?stop, ?rest⟩
  case move =>
    intro s d tag f h hb hready hm hone hrel hlimits
    have hexec := (exec_move tag s).trans (run_command_accepted h hb hready hm move)
    rw [move_taken hone hrel hlimits] at hexec
    refine ⟨_, hexec, ?_⟩
    rw [gives_dev, settle_mot]
    exact ⟨rfl, rfl, rfl⟩
  case goto =>
    intro s d tag f h hb hrest hm htaken
    rw [exec_layerGoto, run_command_accepted h hb hrest hm, if_pos htaken]
  case stop =>
    intro s d tag f h hb hready hmove
    have hexec := (exec_motionStop tag s).trans (run_command_accepted h hb hready (badParam_nil f) motionStop)
    rw [motionStop_moving hmove] at hexec
    refine ⟨_, hexec, ?_⟩
    rw [gives_dev, settle_mot]
    exact ⟨rfl, rfl⟩
  case rest =>
    intro s d tag f h hb hready hmove
    rw [exec_motionStop, run_command_accepted h hb hready (badParam_nil f), motionStop_rest hmove]

/-! ## Tables and COMPRESS (R481, R487, R488) -/

section tables
variable {d : Device} {f : Flight}

theorem tableLoad_taken (ht : f.p 0 % 256 ≤ 9) (hrange : f.p 1 + f.p 2 ≤ (tableShape (f.p 0 % 256)).1) (hfree : d.loadBars (f.p 0 % 256) = false)
    (hneeds : d.needs (tableIslands (f.p 0 % 256)) = true) (hclass : bitOf (f.p 0) 8 = true → d.classRefused f = false) {d1 : Device}
    (hd1 : d1 = d.loadTable (f.p 0 % 256) (f.p 1 * (tableShape (f.p 0 % 256)).2)
      (d.hostDwords (hostAddr (f.p 3) (f.p 4)) (f.p 2 * (tableShape (f.p 0 % 256)).2))) :
    tableLoad false d f = if bitOf (f.p 0) 8 then d1.commitTables f [f.p 0 % 256] else d1.complete f sOK 0 [] := by
  have hcommit : (bitOf (f.p 0) 8 && d.classRefused f) = false := Bool.and_eq_false_imp.2 hclass
  simp only [tableLoad, Nat.not_lt.2 ht, Nat.not_lt.2 hrange, hfree, hneeds, hcommit, Bool.not_true, Bool.or_self, Bool.false_and,
    Bool.false_eq_true, if_false, ← hd1]

theorem tableCommit_taken {ts : List Nat} (hts : ts = (List.range 10).filter (fun t => bitOf (f.p 0) t)) (hne : ts ≠ [])
    (hfree : ts.any d.tableTaken = false) (hneeds : d.needs (ts.flatMap tableIslands) = true) (hclass : d.classRefused f = false) :
    tableCommit d f = d.commitTables f ts := by
  simp only [tableCommit, ← hts, List.isEmpty_eq_false_iff.2 hne, hfree, hneeds, hclass, Bool.not_true, Bool.or_self, Bool.false_eq_true, if_false]

theorem tableRead_taken {vs : List Nat} (ht : f.p 2 ≤ 9) (hcopy : f.p 3 ≤ 1) (hrange : f.p 4 + f.p 5 ≤ (tableShape (f.p 2)).1)
    (hlen : f.p 5 * (tableShape (f.p 2)).2 ≤ 4095) (hneeds : d.needs (tableIslands (f.p 2)) = true)
    (hvs : vs = (List.range (f.p 5 * (tableShape (f.p 2)).2)).map (fun i =>
      d.tableDword (f.p 2) (f.p 3 == 1) (f.p 4 * (tableShape (f.p 2)).2 + i))) :
    tableRead d f = (d.putHostDwords (hostAddr (f.p 0) (f.p 1)) vs).complete f sOK 0 vs := by
  have hmask : f.outside 3 1 = false := by
    rw [Flight.outside, show (1 : Nat) = 2 ^ 1 - 1 from rfl, Nat.and_two_pow_sub_one_of_lt_two_pow (by omega), bne_self_eq_false]
  simp only [tableRead, Nat.not_lt.2 ht, hmask, Nat.not_lt.2 hrange, Nat.not_lt.2 hlen, hneeds, decide_false, Bool.not_true, Bool.or_self,
    Bool.false_eq_true, if_false, ← hvs]

section compress
variable (hfault : d.compressFault f = none) (hretired : (d.engine (f.p 0 % 2)).retired = false) (hup : d.unitUp 1 = true)
include hfault hretired hup

theorem compress_capture (hcapture : bitOf (f.p 0) 1 = true) (hidle : (d.engine (f.p 0 % 2)).running = false) :
    compress false d f = d.startEngine f {
      capture := true, point := bits (f.p 0) 2 2, slot := bits (f.p 0) 8 4,
      rowFirst := hostAddr (f.p 4) (f.p 5), rowCount := f.p 6 } := by
  simp only [compress, hfault, hretired, hup, hcapture, hidle, Bool.not_true, Bool.or_self, Bool.false_eq_true, if_false, if_true]

theorem compress_recode {src : Source} {n : Nat} (hrecode : bitOf (f.p 0) 1 = false) (hsrc : d.readSource (f.p 4) (f.p 5) (f.p 6) = some src)
    (hndf : src.isNdf = true → d.needs [20] = true) (hidle : (d.engine (f.p 0 % 2)).running = false) (hslot : d.closedSlot = some n) :
    compress false d f = (d.openSlot n .recode src (f.p 4 % 262144) 0 (some f.tag)).startEngine f { slot := n } := by
  have hnet : (src.isNdf && !d.needs [20]) = false := Bool.and_eq_false_imp.2 fun hn => (Bool.not_eq_false' _).mpr (hndf hn)
  simp only [compress, hfault, hretired, hup, hrecode, hsrc, hidle, hnet, hslot, Bool.not_true, Bool.or_self, Bool.false_and,
    Bool.false_eq_true, if_false]
  rfl

end compress
end tables

/-- Settles O21: each command is accepted, and its own rule passes its checks to the branch of its hypotheses. -/
theorem tableAndCompressCommandsTakeEffect : Obligations.TableAndCompressCommandsTakeEffect := by
  refine ⟨?load, ?commit, ?read, ?capture, ?recode⟩
  case load =>
    intro s d tag f h hb hrun hp ht hrange hfree hneeds hclass
    have hm : f.badParam [0x1FF] = none := badParam_of_lt (n := 9) rfl (Nat.lt_succ_of_le hp)
    rw [exec_tableLoad, run_command_accepted h hb hrun hm, tableLoad_taken ht hrange hfree hneeds hclass rfl]
  case commit =>
    intro s d tag f ts h hb hrun hm hts hne hfree hneeds hclass
    rw [exec_tableCommit, run_command_accepted h hb hrun hm, tableCommit_taken hts hne hfree hneeds hclass]
  case read =>
    intro s d tag f vs h hb hruns ht hcopy hrange hlen hneeds hvs
    rw [exec_tableRead, run_command_accepted h hb hruns (badParam_nil f), tableRead_taken ht hcopy hrange hlen hneeds hvs]
  case capture =>
    intro s d tag f h hb hrun hneeds hfault hretired hup hcapture hidle
    rw [exec_compress, run_command_accepted h hb (Bool.and_eq_true_iff.2 ⟨hrun, hneeds⟩) (badParam_nil f),
      compress_capture hfault hretired hup hcapture hidle]
  case recode =>
    intro s d tag f src n h hb hrun hneeds hfault hretired hup hrecode hsrc hndf hidle hslot
    rw [exec_compress, run_command_accepted h hb (Bool.and_eq_true_iff.2 ⟨hrun, hneeds⟩) (badParam_nil f),
      compress_recode hfault hretired hup hrecode hsrc hndf hidle hslot]

end Sys2Proof.Machine
end

section
/-! PROOFS: the commands of the system and the limited-change settings, the commands of a job, and the end of an abort
(01_writing_model.md; 13_clocks_reset_and_start.md; 14_command_packets.md, R481). -/
namespace Sys2Proof.Machine

/-! ## What leaves the state of the resets -/

section resets
variable (d : Device)

theorem rst_each {α : Type} {f : Device → α → Device} (hf : ∀ x a, (f x a).rst = x.rst) (l : List α) : (d.each l f).rst = d.rst :=
  each_keeps (fun x => x.rst = d.rst) f (fun x a h => (hf x a).trans h) l d rfl

theorem rst_when {c : Bool} {f : Device → Device} (hf : (f d).rst = d.rst) : (d.when c f).rst = d.rst := by
  cases c
  · rfl
  · exact hf

theorem rst_setRegs (off : Nat) (vs : List Nat) : (d.setRegs off vs).rst = d.rst := by
  induction vs generalizing d off with
  | nil => rfl
  | cons v vs ih => exact ih (d.setReg off v) (off + 4)

theorem rst_showSlots : d.showSlots.rst = d.rst := rst_each d (fun x _ => rst_setRegs x _ _) _

theorem rst_countStalls : d.countStalls.rst = d.rst := rst_each _ (fun x _ => rst_when x rfl) _

theorem rst_drainCheck : d.drainCheck.rst = d.rst := by
  refine rst_each d (fun x q => ?_) _
  show (x.when _ _).rst = x.rst
  exact rst_when x (putFlag_rst x (fDraining q) false)

theorem rst_post (c : Completion) : (d.post c).rst = d.rst := by
  unfold Device.post
  split
  · exact rst_countStalls _
  · rfl

/-- A completion leaves the state of the resets. -/
theorem rst_complete (f : Flight) (status detail : Nat) (results : List Nat) (applied : Nat) (taken : Bool) :
    (d.complete f status detail results applied taken).rst = d.rst :=
  (rst_drainCheck _).trans (rst_post _ _)

theorem rst_raise {s : Nat} (hs : s < 256) : (d.raise s).rst = d.rst := raisesOnly_rst (raisesOnly_raise d s hs)

theorem rst_lockStrict : d.lockStrict.rst = { d.rst with strict := true } := by
  unfold Device.lockStrict
  dsimp only
  split <;> rfl

end resets

/-! ## The limited-change settings (R452, R453) -/

/-- The slot that a limited-change command programs, with the time of day of its command. -/
def Device.slotOf (d : Device) (value : Nat) (valid : Bool) : FuseSlot :=
  { used := true, valid := valid, todSrc := d.todSource, secs := d.todSecs, value := value }

theorem slots_set_same (v : Vector FuseSlot 21) {i : Nat} (x : FuseSlot) (hi : i < 21) : (v.set! i x).toList.getD i {} = x := by
  simp [Vector.set!, hi]

section slots
variable {d : Device} {f : Flight} {lo hi value i : Nat} {after : Device → Device}
  (hfree : (List.range (hi + 1 - lo)).find? (fun i => !(d.rst.slots.toList.getD (lo + i) {}).used) = some i) (hlt : lo + i < 21)
include hfree hlt

/-- A slot that verifies is programmed, and what follows keeps the slots. -/
theorem slot_programmed (hafter : ∀ x : Device, (after x).rst.slots = x.rst.slots) :
    (d.programSlot f lo hi value true after).rst.slots.toList.getD (lo + i) {} = d.slotOf value true := by
  simp only [Device.programSlot, hfree, if_true]
  rw [rst_complete, hafter, rst_raise _ (by decide), rst_showSlots]
  exact slots_set_same _ _ hlt

/-- A slot that does not verify is used and not valid. -/
theorem slot_wasted : (d.programSlot f lo hi value false after).rst.slots.toList.getD (lo + i) {} = d.slotOf value false := by
  simp only [Device.programSlot, hfree, Bool.false_eq_true, if_false]
  rw [rst_complete, rst_showSlots]
  exact slots_set_same _ _ hlt

omit hlt in
theorem strict_programSlot (hafter : ∀ x : Device, (after x).rst.strict = x.rst.strict) :
    (d.programSlot f lo hi value true after).rst.strict = d.rst.strict := by
  simp only [Device.programSlot, hfree, if_true]
  rw [rst_complete, hafter, rst_raise _ (by decide), rst_showSlots]

end slots

/-- The slot of the last range is its first unused one. -/
theorem find_slot20 {d : Device} (hfree : (d.rst.slots.toList.getD 20 {}).used = false) :
    (List.range (20 + 1 - 20)).find? (fun i => !(d.rst.slots.toList.getD (20 + i) {}).used) = some 0 := by
  refine List.find?_cons_of_pos (l := []) ?_
  show (!(d.rst.slots.toList.getD 20 {}).used) = true
  rw [hfree]
  rfl

theorem strict_programSlot_lockStrict {d : Device} {f : Flight}
    (hfree : (d.rst.slots.toList.getD 20 {}).used = false) : (d.programSlot f 20 20 0 true Device.lockStrict).rst.strict = true := by
  have hfirst := find_slot20 hfree
  simp only [Device.programSlot, hfirst, if_true]
  rw [rst_complete, rst_lockStrict]

theorem setAnchor_digest {d : Device} {f : Flight} {verified : Bool} {v : Nat}
    (hv : f.params.foldr (fun p acc => p % 4294967296 + acc * 4294967296) 0 = v) (hne : v ≠ 0) :
    setAnchor verified d f = d.programSlot f 16 19 v verified (fun d => d) := by
  simp only [setAnchor, hv, beq_iff_eq, hne, if_false]

/-! ## SYSTEM_RESET and BLOCK_RESET (R439, R451) -/

theorem systemReset_taken {ol : OptionLoad} {d : Device} {f : Flight} (hkey : f.p 0 = 0x15A5A) (hsq : f.sq < 4) :
    systemReset ol d f = ({ d with ulp := { d.ulp with resetTag := some (f.tag, ol) } } : Device).complete f sOK 0 [] := by
  simp only [systemReset, hkey, bne_self_eq_false, Bool.false_eq_true, if_false, decide_eq_true hsq, when_true]

theorem blockReset_accepted {d : Device} {f : Flight} (hnone : d.blockFault (f.p 0) = none) :
    blockReset d f = (d.await f (.blockReset (f.p 0))).requestBlock (f.p 0) := by
  rw [blockReset, hnone]

theorem blockReset_refused {d : Device} {f : Flight} {r : Nat} (hsome : d.blockFault (f.p 0) = some r) :
    blockReset d f = (d.requestBlock (f.p 0)).complete f (if r = 3 then sBAD_PARAM else sBUSY_JOB) 0 [] := by
  simp only [blockReset, hsome, beq_iff_eq]

/-- Settles O16: each command is accepted; a limited-change command programs the slot that its range finds, which settling keeps. -/
theorem systemCommandsComplete : Obligations.SystemCommandsComplete := by
  refine ⟨?reset, ?frost, ?strict, ?anchor, ?column, ?block, ?refused⟩
  case reset =>
    intro s d tag f ol h hb htaken hkey hsq
    rw [exec_systemReset, run_command_accepted h hb htaken (badParam_nil f), systemReset_taken hkey hsq]
  case frost =>
    intro s d tag f h hb hready hfree
    rw [exec_frost, run_command_accepted h hb hready (badParam_nil f), frost_of_not_heldOff f hfree]
  case strict =>
    intro s d tag f h hb hready hfree
    refine ⟨_, (exec_setStrict tag true s).trans (run_command_accepted h hb hready (badParam_nil f) _), ?_, ?_⟩ <;> rw [gives_dev, settle_rst]
    · exact strict_programSlot_lockStrict hfree
    · exact slot_programmed (find_slot20 hfree) (by decide) fun x => by rw [rst_lockStrict]
  case anchor =>
    intro s d tag f k h hb hready hfree hne
    have hk : k < 4 := List.mem_range.1 (List.mem_of_find?_eq_some hfree)
    have hexec := (exec_setAnchor tag true s).trans (run_command_accepted h hb hready (badParam_nil f) _)
    rw [setAnchor_digest rfl hne] at hexec
    refine ⟨_, hexec, ?_, ?_⟩ <;> rw [gives_dev, settle_rst]
    · exact strict_programSlot hfree fun _ => rfl
    · exact slot_programmed hfree (by omega) fun _ => rfl
  case column =>
    intro s d tag f k ok h hb hready hp hfree
    have hk : k < 16 := List.mem_range.1 (List.mem_of_find?_eq_some hfree)
    have hfree0 : (List.range (15 + 1 - 0)).find? (fun i => !(d.rst.slots.toList.getD (0 + i) {}).used) = some k := by
      simpa only [Nat.zero_add] using hfree
    have hm : f.badParam [0xF] = none := badParam_of_lt (n := 4) rfl hp
    refine ⟨_, (exec_setColumn tag ok s).trans (run_command_accepted h hb hready hm _), ?_⟩
    rw [gives_dev, settle_rst]
    cases ok with
    | true => simpa only [Nat.zero_add, Device.slotOf] using slot_programmed (f := f) (value := f.p 0) hfree0 (by omega) fun _ => rfl
    | false => simpa only [Nat.zero_add, Device.slotOf] using slot_wasted (f := f) (value := f.p 0) (after := fun d => d) hfree0 (by omega)
  case block =>
    intro s d tag f h hb hready hp hnone
    have hm : f.badParam [0x1F] = none := badParam_of_lt (n := 5) rfl hp
    rw [exec_blockReset, run_command_accepted h hb hready hm, blockReset_accepted hnone]
  case refused =>
    intro s d tag f r h hb hready hp hsome
    have hm : f.badParam [0x1F] = none := badParam_of_lt (n := 5) rfl hp
    rw [exec_blockReset, run_command_accepted h hb hready hm, blockReset_refused hsome]

/-! ## The commands of a job where they are accepted (R29, R30, R62, R484, R485) -/

section job
variable {d : Device} {f : Flight}

/-- JOB_START whose checks all pass waits, and the passport's bus begins. -/
theorem jobStart_passes {j : Job} {l : List Stripe} (hstart : d.start = none) (hfault : f.jobFault = none) (hpermit : d.flag fPermit = true)
    (hread : d.readStripes f.geometry.adv f.geometry.width (f.p 8) (hostAddr (f.p 9) (f.p 10)) none = some l)
    (hj : j = { f.geometry with stripes := l }) (htally : l.all (fun x => x.tallyOnly) = false)
    (hnet : l.any (fun x => x.source.isNdf) = true → d.needs [20] = true) (hsettings : d.settingsRefused = false) (hderived : d.derivedOk j = true)
    (hrills : d.rillCheck j (fun _ => false) = none) (hdown : (List.range 4).any (fun c => d.get (fChState c) == 3) = false)
    (htest : d.flag fSelftestFail = false) (hserved : d.unserved = false) : d.jobStart f false = (d.await f .job).beginPassport j := by
  have hnet' : (l.any (fun s => s.source.isNdf) && !d.needs [20]) = false :=
    Bool.and_eq_false_imp.2 fun hn => (Bool.not_eq_false' _).mpr (hnet hn)
  have hdown' : (List.range 4).any (fun c => d.get (fChState c) == chDOWN) = false := hdown
  subst hj
  simp only [Device.jobStart, hstart, hfault, hpermit, hread, htally, hnet', hsettings, hderived, hrills, hdown', htest, hserved,
    Option.isSome_none, Bool.not_true, Bool.or_self, Bool.false_eq_true, if_false]

theorem pause_taken (hworker : d.isWorker = false) {d1 : Device} (hd1 : d1 = (d.await f .pause).mapJob (fun j => { j with pausing := true })) :
    pause d f = if d1.isManager then d1.sendMesh toAll mPAUSE [] else d1 := by
  subst hd1
  exact if_neg (ne_true_of_eq_false hworker)

/-- RESUME that nothing refuses at once asks the workers, or completes with the status of its checks. -/
theorem resumeCommand_checked (hheld : d.inHeld = true) (hworker : d.isWorker = false) (haborts : d.job.any (fun j => j.aborting) = false)
    (hasking : d.msh.asking = false) (hdeferred : d.flag fDeferResume = false) (htrying : d.lne.pp.forResume = false)
    (hlost : d.columnLost = none) (hblocked : d.lne.pp.blocked = false) :
    d.resumeCommand f = if d.isManager then (d.await f .resume).askColumns else d.decideResume f := by
  simp only [Device.resumeCommand, hheld, hworker, haborts, hasking, hdeferred, htrying, hlost, hblocked, Bool.not_true, Bool.or_self,
    Bool.false_and, Bool.false_eq_true, if_false]
  split <;> rfl

theorem decideResume_eq :
    d.decideResume f = if d.resumeStatus = sOK then (d.complete f sOK 0 []).resumeAccept none
      else if d.resumeStatus ≠ sDEFERRED then d.complete f d.resumeStatus 0 []
      else if f.deferOk then (d.complete f sDEFERRED 0 []).putFlag fDeferResume true else d.complete f sBUSY_JOB 0 [] := by
  simp only [Device.decideResume, beq_iff_eq, bne_iff_ne]

/-- LIBRARY_LOAD clears the library and opens the closed slot for its stream. -/
theorem libraryLoad_taken {slot : Nat} {src : Source} (hread : d.readSource (f.p 0) (f.p 1) (f.p 2) = some src)
    (hone : d.someWaits (fun w => w == .library) = false) (hstart : d.start = none) (hnet : src.isNdf = true → d.needs [20] = true)
    (hclosed : (d.slot slot).isOpen = false) :
    libraryLoad slot false d f =
      ({ ((d.await f .library).clearLibrary) with
        mem := { ((d.await f .library).clearLibrary).mem with libLost := false } } : Device).openSlot slot .library src
          (f.p 0 % 262144) 0 (some f.tag) := by
  have hnet' : (src.isNdf && !d.needs [20]) = false := Bool.and_eq_false_imp.2 fun hn => (Bool.not_eq_false' _).mpr (hnet hn)
  simp only [libraryLoad, hread, hone, hstart, hnet', hclosed, Option.isSome_none, Bool.false_and, Bool.or_self, Bool.false_eq_true, if_false]
  rfl

end job

/-! ## The end of an abort (R30, R63, R107, R488) -/

section motion
variable (d : Device)

theorem mot_each {α : Type} {f : Device → α → Device} (hf : ∀ x a, (f x a).mot = x.mot) (l : List α) : (d.each l f).mot = d.mot :=
  each_keeps (fun x => x.mot = d.mot) f (fun x a h => (hf x a).trans h) l d rfl

theorem mot_recovered (code unit : Nat) : (d.recovered code unit).mot = d.mot := by
  simp only [Device.recovered]
  split
  · rfl
  · split <;> rfl

theorem mot_sendEth (p dst type : Nat) (body : List Nat) : (d.sendEth p dst type body).mot = d.mot := by
  simp only [Device.sendEth, Device.itemOut]
  rw [raisesOnly_mot (raisesOnly_count _ 17 4 1 (by decide)), emit_mot]

theorem mot_sendIp (p mac : Nat) (v6 : Bool) (dst proto : Nat) (hop : Option Nat) (data : List Nat) :
    (d.sendIp p mac v6 dst proto hop data).mot = d.mot := by
  rw [Device.sendIp, mot_sendEth, nextFree_mot]

theorem mot_resolve (p : Nat) (v6 : Bool) (addr : Nat) : (d.resolve p v6 addr).mot = d.mot := by
  unfold Device.resolve Device.sendAsk Device.sendIcmp Device.sendArp
  split
  · rfl
  · split
    · exact mot_sendIp d ..
    · exact mot_sendEth d ..

theorem mot_sendNdf (port srv : Nat) (bytes : List Nat) : (d.sendNdf port srv bytes).mot = d.mot := by
  unfold Device.sendNdf
  extract_lets v6 addr dport
  split
  · split
    · rw [Device.sendUdp, mot_sendIp]
      exact mot_resolve d _ _ _
    · exact mot_resolve d _ _ _
  · rfl

theorem mot_setSlot (n : Nat) (x : Slot) : (d.setSlot n x).mot = d.mot := by
  unfold Device.setSlot
  extract_lets spr d1 d2 d3
  have h2 : d2.mot = d.mot := setReg_mot d1 _ _
  have h3 : d3.mot = d2.mot := by
    clear_value d2
    unfold d3
    split
    · rw [setReg_mot, setReg_mot]
    · rfl
  rw [put_mot, h3, h2]

theorem mot_closeSlot (n : Nat) : (d.closeSlot n).mot = d.mot := by
  have hends : ∀ (x : Device) (b : Block), (x.decoderEnds b).mot = x.mot := fun x b => mot_each x (fun y k => mot_recovered y 2 k) _
  unfold Device.closeSlot
  extract_lets slot d1 spr eth d2
  split
  · rfl
  · have h1 : d1.mot = d.mot := by
      unfold d1
      split
      · exact mot_sendNdf d _ _ _
      · rfl
    have h2 : d2.mot = d1.mot := rfl
    clear_value d2
    rw [Device.showBufs, put_mot, mot_setSlot, ← h1, ← h2]
    exact mot_each d2 hends _

theorem mot_dropRefills (gone : Nat → Bool) : (d.dropRefills gone).mot = d.mot := by
  unfold Device.dropRefills
  extract_lets banks cst d1
  have h1 : d1.mot = d.mot := rfl
  clear_value d1
  rw [putFlag_mot, mot_each d1 (fun x b => mot_recovered x 5 b), h1]

theorem mot_clearCistern : d.clearCistern.mot = d.mot := by
  unfold Device.clearCistern
  rw [putFlag_mot, ← mot_dropRefills d (fun _ => true)]

theorem mot_clearPath : d.clearPath.mot = d.mot := by
  unfold Device.clearPath
  extract_lets d1 lost mem d2 d3
  have h1 : d1.mot = d.mot := by
    refine mot_each d (fun x n => ?_) _
    show (ite _ _ x).mot = x.mot
    split
    · exact mot_closeSlot x n
    · rfl
  clear_value d1
  have h2 : d2.mot = d1.mot := rfl
  clear_value d2
  have h3 : d3.mot = d2.mot := by
    unfold d3
    iterate 4 rw [putFlag_mot]
  clear_value d3
  rw [mot_clearCistern, Device.showTiles, put_mot, Device.showTally, put36_mot, putFlag_mot, h3, h2, h1]

end motion

/-- The state that shows and the stop that waits are registers that MOT_REST_X leaves. -/
theorem flag_restX (d : Device) (f : Fld) (h0 : f.off ≠ MOT_REST_X) (h4 : f.off ≠ MOT_REST_X + 4) :
    (d.when d.inWriting (fun d => d.putS36 MOT_REST_X d.mot.x)).get f = d.get f := by
  have hreg : (d.when d.inWriting (fun d => d.putS36 MOT_REST_X d.mot.x)).reg f.off = d.reg f.off :=
    reg_when d (f := fun d => d.putS36 MOT_REST_X d.mot.x) (reg_put36_ne d _ h0 h4)
  rw [Device.get, hreg, Device.get]

/-- An abort with the stage, the layer axes and the strobe at rest is complete. -/
theorem abortCompleteEffect_rests {d d1 d2 d3 d4 : Device} {j : Job} (hjob : d.job = some j) (hrel : d.released 13 = true) (hin : d.inJob = true)
    (haborts : j.aborting = true) (hrest : d.atRest = true) (hdecided : d.fls.decided = none) (hhigh : d.fls.high = none)
    (hlayers : d.mot.layer.toList.any (fun m => m.any (fun (v : LayerMove) => v.running)) = false)
    (hd1 : d1 = d.when d.inWriting (fun d => d.putS36 MOT_REST_X d.mot.x))
    (hd2 : d2 = (((d1.when (d.flag fStopPending || d.inHeld) (fun d => d.setFrames [])).each [0, 1]
      (fun d e => if (d.engine e).running then d.endEngine e sABORTED else d)).each (List.range 16) Device.closeSlot).clearPath)
    (hd3 : d3 = ({ d2 with mot := { d2.mot with layer := Vector.replicate 2 none } } : Device).enterReady)
    (hd4 : d4 = (d3.completeWhere (fun w => w == .abort) sOK 0 []).completeWhere (fun w => w == .pause) sABORTED 0 []) :
    abortCompleteEffect d = d4.completeWhere (fun w => w == .job) sABORTED 0 (d4.jobResults j) := by
  have hstop : d1.flag fStopPending = d.flag fStopPending := by
    rw [hd1, Device.flag, flag_restX d fStopPending (by decide) (by decide), Device.flag]
  have hheld : d1.inHeld = d.inHeld := by
    rw [hd1, Device.inHeld, Device.st, flag_restX d fState (by decide) (by decide)]
    rfl
  have hrests : (!(d.released 13 && d.inJob && j.aborting && (d.atRest && d.fls.decided.isNone && d.fls.high.isNone &&
      !(d.mot.layer.toList.any (fun m => m.any (fun (v : LayerMove) => v.running)))))) = false := by
    rw [hrel, hin, haborts, hrest, hdecided, hhigh, hlayers]
    rfl
  rw [abortCompleteEffect, hjob]
  dsimp -zeta only
  extract_lets rests e1 e2 e3 e4 e5 m e6 e7 e8
  have h1 : e1 = d1 := hd1.symm
  have h2 : e2 = d1.when (d.flag fStopPending || d.inHeld) (fun d => d.setFrames []) := by
    rw [← hstop, ← hheld, ← h1]
    rfl
  have h5 : e5 = d2 := by
    rw [hd2, ← h2]
  have hm : m = d2.mot := by rw [← h5, mot_clearPath]
  have h6 : e6 = d3 := by
    clear_value e5 m
    subst hm h5
    exact hd3.symm
  rw [if_neg (ne_true_of_eq_false hrests), hd4, ← h6]

theorem exec_abortComplete (s : State) : exec .abortComplete s = s.run abortCompleteEffect := rfl

/-- Settles O17: each command is accepted and passes its checks, and the end of the abort finds everything at rest. -/
theorem jobCommandsTakeEffect : Obligations.JobCommandsTakeEffect := by
  refine ⟨?start, ?pause, ?resume, ?abort, ?library, ?aborted⟩
  case start =>
    intro s d tag f j l h hb hready hstart hfault hpermit hread hj htally hneeds hnet hsettings hderived hrills hdown htest hserved
    rw [exec_jobStart, run_command_accepted h hb (Bool.and_eq_true_iff.2 ⟨hready, hneeds⟩) (badParam_nil f),
      jobStart_passes hstart hfault hpermit hread hj htally hnet hsettings hderived hrills hdown htest hserved]
  case pause =>
    intro s d d1 tag f h hb hwriting hworker hd1
    rw [exec_pause, run_command_accepted h hb hwriting (badParam_nil f), pause_taken hworker hd1]
  case resume =>
    intro s d tag f h hb hheld hworker haborts hasking hdeferred htrying hlost hblocked
    rw [exec_resume, run_command_accepted h hb hheld (badParam_nil f),
      resumeCommand_checked hheld hworker haborts hasking hdeferred htrying hlost hblocked, decideResume_eq]
  case abort =>
    intro s d tag f h hb hjob
    rw [exec_abort, run_command_accepted h hb hjob (badParam_nil f)]
    rfl
  case library =>
    intro s d tag f slot src h hb hready hneeds hnet hread hone hstart hclosed
    rw [exec_libraryLoad, run_command_accepted h hb (Bool.and_eq_true_iff.2 ⟨hready, hneeds⟩) (badParam_nil f),
      libraryLoad_taken hread hone hstart hnet hclosed]
  case aborted =>
    intro s d d1 d2 d3 j h hjob hrel hin haborts hrest hdecided hhigh hlayers hd1 hd2 hd3
    rw [exec_abortComplete, run_finds h, abortCompleteEffect_rests hjob hrel hin haborts hrest hdecided hhigh hlayers hd1 hd2 hd3 rfl]

end Sys2Proof.Machine
end

section
/-! PROOFS: the registers of the queue pairs, the fetch of packets and the writing of completions (14_command_packets.md, R467 to
R476). -/
namespace Sys2Proof.Machine

theorem exec_queueEnable (q : Fin 4) (s : State) : exec (.queueEnable q) s = s.run (writeQCtrl q 0x20000) := rfl

theorem exec_queueDisable (q : Fin 4) (s : State) : exec (.queueDisable q) s = s.run (writeQCtrl q 0) := rfl

theorem exec_sqTail (q : Fin 4) (value : Word) (s : State) : exec (.sqTail q value) s = s.run (writeSqTail q value.toNat) := rfl

theorem exec_cqHead (q : Fin 4) (value : Word) (s : State) : exec (.cqHead q value) s = s.run (writeCqHead q value.toNat) := rfl

theorem exec_packetFetch (q : Fin 4) (hostErr : Bool) (s : State) :
    exec (.packetFetch q hostErr) s = s.run (packetFetchEffect q hostErr) := rfl

theorem exec_completionWrite (q : Fin 4) (s : State) : exec (.completionWrite q) s = s.run (completionWriteEffect q) := rfl

theorem quietReg_ulp {off : Nat} (h : off / 0x100000 = 3) : quietReg off := by
  unfold quietReg; omega

/-! ## The end of a drain (R470) -/

section drain
variable (d : Device)

/-- The check of one pair for the end of its drain. -/
def Device.drainStep (d : Device) (q : Nat) : Device :=
  d.when (d.flag (fDraining q) && !(d.ulp.flights.any (fun f => f.sq == q)) && !(d.ulp.waiting.any (fun c => c.q == q)))
    (fun d => d.putFlag (fDraining q) false)

theorem drainCheck_eq : d.drainCheck = (((d.drainStep 0).drainStep 1).drainStep 2).drainStep 3 := rfl

theorem hostMem_drainCheck : d.drainCheck.hostMem = d.hostMem := congrArg Kept.hostMem (kept_drainCheck d)

/-- A command of the pair is in flight, or a completion of it waits. -/
def Device.pairBusy (d : Device) (q : Nat) : Bool := d.ulp.flights.any (fun f => f.sq == q) || d.ulp.waiting.any (fun c => c.q == q)

theorem ulp_drainStep (q : Nat) : (d.drainStep q).ulp = d.ulp := by
  unfold Device.drainStep Device.when
  split
  · rw [putFlag_ulp]
  · rfl

theorem ulp_drainCheck : d.drainCheck.ulp = d.ulp := by
  rw [drainCheck_eq, ulp_drainStep, ulp_drainStep, ulp_drainStep, ulp_drainStep]

theorem pairBusy_drainStep (q p : Nat) : (d.drainStep p).pairBusy q = d.pairBusy q := by
  rw [Device.pairBusy, ulp_drainStep, Device.pairBusy]

theorem flag_drainStep_other {q p : Nat} (h : q ≠ p) : (d.drainStep p).flag (fDraining q) = d.flag (fDraining q) := by
  unfold Device.drainStep Device.when
  split
  · exact flag_putFlag_ne d false (show ULP_Q_CTRL q ≠ ULP_Q_CTRL p by unfold ULP_Q_CTRL; omega)
  · rfl

/-- A pair drains on exactly while it is busy. -/
theorem flag_drainStep_same (q : Nat) : (d.drainStep q).flag (fDraining q) = (d.flag (fDraining q) && d.pairBusy q) := by
  unfold Device.drainStep Device.when Device.pairBusy
  split
  next h =>
    rw [Bool.and_assoc, ← Bool.not_or, Bool.and_eq_true, Bool.not_eq_true'] at h
    rw [h.2, Bool.and_false]
    exact flag_putFlag_bit_same d false (by decide)
  next h =>
    rw [Bool.and_assoc, ← Bool.not_or] at h
    cases hd : d.flag (fDraining q)
    · rfl
    · rw [hd, Bool.true_and, Bool.not_eq_true, Bool.not_eq_false'] at h
      rw [h]
      rfl

theorem flag_drainCheck {q : Nat} (hq : q < 4) : d.drainCheck.flag (fDraining q) = (d.flag (fDraining q) && d.pairBusy q) := by
  rw [drainCheck_eq]
  match q, hq with
  | 0, _ =>
    rw [flag_drainStep_other _ (by decide), flag_drainStep_other _ (by decide), flag_drainStep_other _ (by decide), flag_drainStep_same]
  | 1, _ =>
    rw [flag_drainStep_other _ (by decide), flag_drainStep_other _ (by decide), flag_drainStep_same, flag_drainStep_other _ (by decide),
      pairBusy_drainStep]
  | 2, _ =>
    rw [flag_drainStep_other _ (by decide), flag_drainStep_same, flag_drainStep_other _ (by decide), flag_drainStep_other _ (by decide),
      pairBusy_drainStep, pairBusy_drainStep]
  | 3, _ =>
    rw [flag_drainStep_same, flag_drainStep_other _ (by decide), flag_drainStep_other _ (by decide), flag_drainStep_other _ (by decide),
      pairBusy_drainStep, pairBusy_drainStep, pairBusy_drainStep]

theorem flag_en_drainCheck (q : Nat) : d.drainCheck.flag (fEn q) = d.flag (fEn q) := by
  refine each_keeps (fun x => x.flag (fEn q) = d.flag (fEn q)) _ (fun x p hx => ?_) _ d rfl
  refine Eq.trans ?_ hx
  show (x.drainStep p).flag (fEn q) = x.flag (fEn q)
  unfold Device.drainStep Device.when
  split
  · by_cases hqp : q = p
    · subst hqp
      exact flag_putFlag_bit_ne x false (by decide) (by decide) (by decide)
    · exact flag_putFlag_ne x false (show ULP_Q_CTRL q ≠ ULP_Q_CTRL p by unfold ULP_Q_CTRL; omega)
  · rfl

end drain

/-! ## EN and the doorbells (R467, R468, R469) -/

section queues
variable {d : Device} {q : Nat} (hup : d.unitUp 0 = true)

/-- A pair that EN 1 opens: its pointers at 0 and the phase at 1. -/
def Device.openQueue (d : Device) (q : Nat) : Device :=
  ((((d.setReg (ULP_SQ_HEAD q) 0).setReg (ULP_SQ_TAIL q) 0).setReg (ULP_CQ_HEAD q) 0).setReg (ULP_CQ_TAIL q) 4096).putFlag (fEn q) true

theorem reg_openQueue (o : Nat) (hen : o ≠ ULP_Q_CTRL q) :
    (d.openQueue q).reg o = if o = ULP_CQ_TAIL q then 4096 else if o = ULP_CQ_HEAD q ∨ o = ULP_SQ_TAIL q ∨ o = ULP_SQ_HEAD q then 0 else d.reg o := by
  have hput (x : Device) : (x.putFlag (fEn q) true).reg o = x.reg o := reg_put_ne x _ hen
  have hset (x : Device) (off v : Nat) : (x.setReg off v).reg o = if o = off then v % 262144 else x.reg o := by
    split
    · subst o
      exact reg_setReg_same x off v
    · exact reg_setReg_ne x v ‹_›
  unfold Device.openQueue
  rw [hput, hset, hset, hset, hset]
  split_ifs <;> simp_all

/-- A doorbell below SIZE: TAIL is `t`, and its value before is remembered for EN 0 of the same clock (R489). -/
def Device.ringTail (d : Device) (q t : Nat) : Device :=
  let was := ((d.ulp.tails.find? (fun (x : Nat × Nat × Nat) => x.1 == q && x.2.1 == d.clock)).map (fun x => x.2.2)).getD (d.reg (ULP_SQ_TAIL q))
  { d.setReg (ULP_SQ_TAIL q) t with ulp := { d.ulp with tails := (q, d.clock, was) :: d.ulp.tails.filter (fun x => x.1 != q) } }

theorem reg_ringTail (t o : Nat) : (d.ringTail q t).reg o = (d.setReg (ULP_SQ_TAIL q) t).reg o := rfl

theorem ulp_openQueue : (d.openQueue q).ulp = d.ulp := by
  rw [Device.openQueue, putFlag_ulp, setReg_ulp, setReg_ulp, setReg_ulp, setReg_ulp]

theorem hostMem_openQueue : (d.openQueue q).hostMem = d.hostMem := by
  rw [Device.openQueue, putFlag_hostMem, setReg_hostMem, setReg_hostMem, setReg_hostMem, setReg_hostMem]

include hup

theorem writeQCtrl_opens (hoff : d.flag (fEn q) = false) (hsq : 2 ≤ d.reg (ULP_SQ_SIZE q)) (hsq' : d.reg (ULP_SQ_SIZE q) ≤ 4096)
    (hsb : d.get54 (ULP_SQ_BASE q) % 64 = 0) (hcq : 2 ≤ d.reg (ULP_CQ_SIZE q)) (hcq' : d.reg (ULP_CQ_SIZE q) ≤ 4096)
    (hcb : d.get54 (ULP_CQ_BASE q) % 32 = 0) : writeQCtrl q 0x20000 d = d.openQueue q := by
  have hen : bitOf 0x20000 17 = true := by decide
  have hok : (queueOk (d.reg (ULP_SQ_SIZE q)) (d.get54 (ULP_SQ_BASE q)) 64 && queueOk (d.reg (ULP_CQ_SIZE q)) (d.get54 (ULP_CQ_BASE q)) 32) = true := by
    rw [queueOk, queueOk, decide_eq_true hsq, decide_eq_true hsq', hsb, decide_eq_true hcq, decide_eq_true hcq', hcb]
    rfl
  simp only [writeQCtrl, hup, hen, hoff, hok, Bool.not_true, Bool.false_eq_true, if_false, if_true]
  rfl

theorem writeQCtrl_closes (hon : d.flag (fEn q) = true) :
    writeQCtrl q 0 d = (((d.undoTail q).putFlag (fEn q) false).putFlag (fDraining q) true).drainCheck := by
  have hen : bitOf 0 17 = false := by decide
  simp only [writeQCtrl, hup, hen, hon, Bool.not_true, Bool.false_eq_true, if_false, if_true]

theorem writeSqTail_ignored (v : Nat) (hoff : d.flag (fEn q) = false) : writeSqTail q v d = d := by
  simp only [writeSqTail, hup, hoff, Bool.not_true, Bool.not_false, Bool.or_true, if_true]

section enabled
variable (hon : d.flag (fEn q) = true)
include hon

theorem writeSqTail_beyond {v : Nat} (hbig : d.reg (ULP_SQ_SIZE q) ≤ v % 4096) : writeSqTail q v d = d.raise 20 := by
  simp only [writeSqTail, hup, hon, hbig, Bool.not_true, Bool.or_self, Bool.false_eq_true, decide_true, if_false, if_true]

theorem writeSqTail_taken {v : Nat} (hless : v % 4096 < d.reg (ULP_SQ_SIZE q)) : writeSqTail q v d = d.ringTail q (v % 4096) := by
  simp only [writeSqTail, hup, hon, Nat.not_le.2 hless, Bool.not_true, Bool.or_self, Bool.false_eq_true, decide_false, if_false]
  rfl

end enabled

theorem writeCqHead_beyond {v : Nat} (hbig : d.reg (ULP_CQ_SIZE q) ≤ v % 4096) : writeCqHead q v d = d := by
  simp only [writeCqHead, hup, hbig, Bool.not_true, decide_true, Bool.or_true, if_true]

theorem writeCqHead_taken {v : Nat} (hless : v % 4096 < d.reg (ULP_CQ_SIZE q)) : writeCqHead q v d = d.setReg (ULP_CQ_HEAD q) (v % 4096) := by
  simp only [writeCqHead, hup, Nat.not_le.2 hless, Bool.not_true, decide_false, Bool.or_self, Bool.false_eq_true, if_false]

end queues

theorem ulp_undoTail (d : Device) (q : Nat) : (d.undoTail q).ulp = d.ulp := by
  unfold Device.undoTail
  split <;> rfl

theorem hostMem_undoTail (d : Device) (q : Nat) : (d.undoTail q).hostMem = d.hostMem := by
  unfold Device.undoTail
  split <;> rfl

/-- Settles O13: each write takes its branch, and the registers of the block of the command engine pass the settling. -/
theorem queueRegistersTakeTheirWrites : Obligations.QueueRegistersTakeTheirWrites := by
  refine ⟨?opens, ?closes, ?tail, ?head, ?ignored, ?beyond⟩
  case opens =>
    intro s d q h hup hoff hsq hsq' hsb hcq hcq' hcb
    have hexec := (exec_queueEnable q s).trans (run_finds h _)
    rw [writeQCtrl_opens hup hoff hsq hsq' hsb hcq hcq' hcb] at hexec
    have hq := q.isLt
    have hreg (o : Nat) (ho : o / 0x100000 = 3) (hen : o ≠ ULP_Q_CTRL q) := (settle_reg (d.openQueue q) (quietReg_ulp ho)).trans (reg_openQueue o hen)
    have htail : (d.openQueue q).settle.reg (ULP_CQ_TAIL q) = 4096 := by
      rw [hreg _ (by unfold ULP_CQ_TAIL; omega) (by unfold ULP_CQ_TAIL ULP_Q_CTRL; omega), if_pos rfl]
    refine ⟨_, hexec, ?_, ?_, ?_, ?_, ?_, ?_, (settle_ulp _).trans ulp_openQueue, (settle_hostMem _).trans hostMem_openQueue⟩ <;> rw [gives_dev]
    · rw [flag_settle _ (quietReg_ulp (show ULP_Q_CTRL q / 0x100000 = 3 by unfold ULP_Q_CTRL; omega))]
      exact flag_putFlag_bit_same _ true (by decide)
    · rw [hreg _ (by unfold ULP_SQ_HEAD; omega) (by unfold ULP_SQ_HEAD ULP_Q_CTRL; omega),
        if_neg (by unfold ULP_SQ_HEAD ULP_CQ_TAIL; omega), if_pos (.inr (.inr rfl))]
    · rw [hreg _ (by unfold ULP_SQ_TAIL; omega) (by unfold ULP_SQ_TAIL ULP_Q_CTRL; omega),
        if_neg (by unfold ULP_SQ_TAIL ULP_CQ_TAIL; omega), if_pos (.inr (.inl rfl))]
    · rw [hreg _ (by unfold ULP_CQ_HEAD; omega) (by unfold ULP_CQ_HEAD ULP_Q_CTRL; omega),
        if_neg (by unfold ULP_CQ_HEAD ULP_CQ_TAIL; omega), if_pos (.inl rfl)]
    · rw [Device.get, show (fCqTail q).off = ULP_CQ_TAIL q from rfl, htail]
      exact (by decide : bits 4096 0 12 = 0)
    · rw [Device.flag, Device.get, show (fCqPhase q).off = ULP_CQ_TAIL q from rfl, htail]
      exact (by decide : (bits 4096 12 1 == 1) = true)
  case closes =>
    intro s d q h hup hon
    have hexec := (exec_queueDisable q s).trans (run_finds h _)
    rw [writeQCtrl_closes hup hon] at hexec
    have hq := q.isLt
    have hquiet : quietReg (ULP_Q_CTRL q) := quietReg_ulp (by unfold ULP_Q_CTRL; omega)
    have hulp : (((d.undoTail q).putFlag (fEn q) false).putFlag (fDraining q) true).ulp = d.ulp := by
      rw [putFlag_ulp, putFlag_ulp, ulp_undoTail]
    refine ⟨_, hexec, ?_, ?_, ?_, ?_⟩ <;> rw [gives_dev]
    · rw [flag_settle _ hquiet, flag_en_drainCheck]
      exact (flag_putFlag_bit_ne _ true (by decide) (by decide) (by decide)).trans (flag_putFlag_bit_same _ false (by decide))
    · rw [flag_settle _ hquiet, flag_drainCheck _ hq, Device.pairBusy, hulp]
      exact congrArg (· && d.pairBusy q) (flag_putFlag_bit_same _ true (by decide))
    · rw [settle_ulp, ulp_drainCheck, hulp]
    · rw [settle_hostMem]
      rw [hostMem_drainCheck, putFlag_hostMem, putFlag_hostMem, hostMem_undoTail]
  case tail =>
    intro s d q v h hup hon hless
    have hexec := (exec_sqTail q v s).trans (run_finds h _)
    rw [writeSqTail_taken hup hon hless] at hexec
    have hq := q.isLt
    refine ⟨_, hexec, ?_, ?_, ?_, ?_, settle_hostMem _⟩ <;> rw [gives_dev]
    · rw [settle_reg _ (quietReg_ulp (by unfold ULP_SQ_TAIL; omega)), reg_ringTail, reg_setReg_same, Nat.mod_eq_of_lt (by omega)]
    · rw [settle_reg _ (quietReg_ulp (by unfold ULP_SQ_HEAD; omega)), reg_ringTail,
        reg_setReg_ne d _ (by unfold ULP_SQ_HEAD ULP_SQ_TAIL; omega)]
    · rw [settle_ulp]
      rfl
    · rw [settle_ulp]
      rfl
  case head =>
    intro s d q v h hup hless
    have hexec := (exec_cqHead q v s).trans (run_finds h _)
    rw [writeCqHead_taken hup hless] at hexec
    have hq := q.isLt
    refine ⟨_, hexec, ?_, settle_ulp _, settle_hostMem _⟩
    rw [gives_dev, settle_reg _ (quietReg_ulp (by unfold ULP_CQ_HEAD; omega)), reg_setReg_same, Nat.mod_eq_of_lt (by omega)]
  case ignored =>
    intro s d q v h hup
    refine ⟨fun hoff => ?_, fun hon hbig => ?_⟩
    · rw [exec_sqTail, run_finds h, writeSqTail_ignored hup _ hoff]
    · rw [exec_sqTail, run_finds h, writeSqTail_beyond hup hon hbig]
  case beyond =>
    intro s d q v h hup hbig
    rw [exec_cqHead, run_finds h, writeCqHead_beyond hup hbig]

end Sys2Proof.Machine
end

section
/-! PROOFS: the fetch of packets into flight and the writing of completions (14_command_packets.md, R468 to R476). -/
namespace Sys2Proof.Machine

/-! ## Completions that wait (R469) -/

section waiting
variable (d : Device)

theorem ulp_when {c : Bool} {f : Device → Device} (hf : (f d).ulp = d.ulp) : (d.when c f).ulp = d.ulp := by
  cases c
  · rfl
  · exact hf

theorem ulp_each {α : Type} {f : Device → α → Device} (hf : ∀ x a, (f x a).ulp = x.ulp) (l : List α) : (d.each l f).ulp = d.ulp :=
  each_keeps (fun x => x.ulp = d.ulp) f (fun x a h => (hf x a).trans h) l d rfl

theorem ulp_bumpBy (f : Fld) (n : Nat) : (d.bumpBy f n).ulp = d.ulp := by rw [Device.bumpBy, put_ulp]

/-- A completion that finds its queue full counts, and nothing else of the command engine changes. -/
theorem ulp_countStalls : d.countStalls.ulp =
    { d.ulp with waiting := d.ulp.waiting.map (fun c => if d.cqFull c.q then { c with counted := true } else c) } := by
  unfold Device.countStalls
  extract_lets waiting n ulp d1 counts
  have h1 : d1.ulp = { d.ulp with waiting := waiting } := rfl
  rw [← h1]
  clear_value d1
  refine ulp_each d1 (fun x q => ?_) _
  show (x.when _ _).ulp = x.ulp
  exact ulp_when x (ulp_bumpBy x _ _)

/-- The completion posted last waits last. -/
theorem waiting_post {c : Completion} (hq : c.q < 4) : ∃ x, (d.post c).ulp.waiting.getLast? = some x ∧
    x.q = c.q ∧ x.tag = c.tag ∧ x.status = c.status ∧ x.dup = c.dup := by
  rw [Device.post, if_pos hq, ulp_countStalls]
  dsimp only
  rw [List.getLast?_map, List.getLast?_concat]
  refine ⟨_, Option.map_some .., ?_⟩
  split
  · exact ⟨rfl, rfl, rfl, rfl⟩
  · exact ⟨rfl, rfl, rfl, rfl⟩

theorem flights_post (c : Completion) : (d.post c).ulp.flights = d.ulp.flights := congrArg Kept.flights (kept_post d c)

/-- A posted completion writes no register of the queues but the counts of what waits. -/
theorem reg_post_head (c : Completion) (q : Nat) : (d.post c).reg (ULP_SQ_HEAD q) = d.reg (ULP_SQ_HEAD q) := by
  unfold Device.post
  split
  · unfold Device.countStalls
    exact reg_each_queue _ fun x p _ => reg_when x (reg_put_ne x _ (show ULP_SQ_HEAD q ≠ ULP_CQ_STALL p by unfold ULP_SQ_HEAD ULP_CQ_STALL; omega))
  · rfl

end waiting

/-! ## The fetch (R468, R471, R472, R476) -/

theorem hostDwords_of_hostMem {d d' : Device} (h : d'.hostMem = d.hostMem) (a n : Nat) : d'.hostDwords a n = d.hostDwords a n := by
  simp only [Device.hostDwords, Device.hostDword, Device.hostBytes, Device.hostByte, h]

/-- The pair whose packet is taken: it had the turn, and its HEAD moves on. -/
def Device.takePacket (d : Device) (q : Nat) : Device :=
  ({ d with ulp := { d.ulp with turn := q } }.setReg (ULP_SQ_HEAD q) ((d.reg (ULP_SQ_HEAD q) + 1) % d.reg (ULP_SQ_SIZE q))).itemIn 0

section fetch
variable {d : Device} {q : Nat}

theorem takePacket_raises : ({ d with ulp := { d.ulp with turn := q } }.setReg (ULP_SQ_HEAD q)
    ((d.reg (ULP_SQ_HEAD q) + 1) % d.reg (ULP_SQ_SIZE q))).raisesOnly (d.takePacket q) :=
  raisesOnly_count _ 0 3 1 (by decide)

theorem ulp_takePacket : (d.takePacket q).ulp = { d.ulp with turn := q } := by
  rw [raisesOnly_ulp takePacket_raises, setReg_ulp]

theorem hostMem_takePacket : (d.takePacket q).hostMem = d.hostMem := by
  rw [raisesOnly_hostMem takePacket_raises, setReg_hostMem]

theorem reg_takePacket (hq : q < 4) : (d.takePacket q).reg (ULP_SQ_HEAD q) = (d.reg (ULP_SQ_HEAD q) + 1) % d.reg (ULP_SQ_SIZE q) % 262144 := by
  rw [raisesOnly_reg takePacket_raises (quietReg_ulp (by unfold ULP_SQ_HEAD; omega)), reg_setReg_same]

theorem tagBusy_takePacket (tag : Nat) : (d.takePacket q).tagBusy tag = d.tagBusy tag := by
  rw [Device.tagBusy, ulp_takePacket, Device.tagBusy]

variable {hostErr : Bool} {w : List Nat}
  (hturn : (d.unitUp 0 && d.unitUp 21 && d.servesPair q) = true) (hroom : d.inflight < 256) (hrun : d.ulp.takeover = false)
  (hw : w = d.hostDwords (d.get54 (ULP_SQ_BASE q) + 64 * d.reg (ULP_SQ_HEAD q)) 16)
include hturn hroom hrun

omit hw in
theorem fetches : (!d.unitUp 0 || !d.unitUp 21 || !d.servesPair q || decide (256 ≤ d.inflight) || d.ulp.takeover) = false := by
  obtain ⟨hup, hserves⟩ := Bool.and_eq_true_iff.1 hturn
  obtain ⟨hup0, hup21⟩ := Bool.and_eq_true_iff.1 hup
  rw [hup0, hup21, hserves, hrun, decide_eq_false (Nat.not_le.2 hroom)]
  rfl

include hw

/-- An opcode that R481 does not list is rejected (R476). -/
theorem packetFetchEffect_unlisted (hplen : plenOk (bits (w.getD 0 0) 20 12) (bits (w.getD 0 0) 0 12) = none) :
    packetFetchEffect q hostErr d = (d.takePacket q).rejectPacket q (bits (w.getD 0 0) 12 8) sBAD_OPCODE 0 := by
  unfold packetFetchEffect
  extract_lets head a w' w0 w1 op tag plen indirect ulp d1
  have hw' : w' = w := hw.symm
  have hd1 : d1 = d.takePacket q := rfl
  clear_value d1 w'
  subst hw' hd1
  rw [if_neg (ne_true_of_eq_false (fetches hturn hroom hrun)), show plenOk op plen = none from hplen]

/-- A listed opcode whose tag is in flight is rejected as a duplicate (R472). -/
theorem packetFetchEffect_duplicate {ok : Bool} (hplen : plenOk (bits (w.getD 0 0) 20 12) (bits (w.getD 0 0) 0 12) = some ok)
    (hbusy : d.tagBusy (bits (w.getD 0 0) 12 8) = true) :
    packetFetchEffect q hostErr d =
      (d.takePacket q).post { q := q, tag := bits (w.getD 0 0) 12 8, status := sBAD_PARAM, detail := detailHeader, dup := true, own := false } := by
  unfold packetFetchEffect
  extract_lets head a w' w0 w1 op tag plen indirect ulp d1
  have hw' : w' = w := hw.symm
  have hd1 : d1 = d.takePacket q := rfl
  clear_value d1 w'
  subst hw' hd1
  rw [if_neg (ne_true_of_eq_false (fetches hturn hroom hrun)), show plenOk op plen = some ok from hplen]
  dsimp only
  rw [if_pos ((tagBusy_takePacket _).trans hbusy)]

/-- The command of a packet as it is in flight. -/
def packetFlight (d : Device) (q : Nat) (w ps : List Nat) : Flight :=
  { tag := bits (w.getD 0 0) 12 8, sq := q, op := bits (w.getD 0 0) 20 12, order := d.ulp.nextOrder,
    cls := bits (w.getD 1 0) 0 2, deferOk := bitOf (w.getD 1 0) 2, fence := bitOf (w.getD 1 0) 4, params := ps }

/-- A command joins those in flight. -/
def Device.beginFlight (d : Device) (f : Flight) : Device :=
  { d with ulp := { d.ulp with flights := d.ulp.flights ++ [f], nextOrder := d.ulp.nextOrder + 1 } }

theorem packetFetchEffect_fetched {ps : List Nat} (hplen : plenOk (bits (w.getD 0 0) 20 12) (bits (w.getD 0 0) 0 12) = some true)
    (hbusy : d.tagBusy (bits (w.getD 0 0) 12 8) = false) (hreserved : bits (w.getD 1 0) 5 27 = 0)
    (hform : if bitOf (w.getD 1 0) 3 then hostErr = false ∧ addrOk (w.getD 2 0) (w.getD 3 0) = true else bits (w.getD 0 0) 0 12 ≤ 14)
    (hps : ps = (if bitOf (w.getD 1 0) 3 then d.hostDwords (hostAddr (w.getD 2 0) (w.getD 3 0)) (bits (w.getD 0 0) 0 12)
      else (w.drop 2).take (bits (w.getD 0 0) 0 12)))
    (haddr : ∀ i, addrParam (bits (w.getD 0 0) 20 12) = some i → addrOk (ps.getD i 0) (ps.getD (i + 1) 0) = true) :
    packetFetchEffect q hostErr d =
      (d.takePacket q).beginFlight (packetFlight (d.takePacket q) q w ps) := by
  have hfilter : (addrParam (bits (w.getD 0 0) 20 12)).filter (fun i => !addrOk (ps.getD i 0) (ps.getD (i + 1) 0)) = none := by
    rw [Option.filter_eq_none_iff]
    intro i hi
    simp only [haddr i hi, Bool.not_true, Bool.false_eq_true, not_false_eq_true]
  rw [← hostDwords_of_hostMem (hostMem_takePacket (q := q))] at hps
  unfold packetFetchEffect
  extract_lets head a w' w0 w1 op tag plen indirect ulp d1 ps' f
  have hw' : w' = w := hw.symm
  have hd1 : d1 = d.takePacket q := rfl
  clear_value d1 w'
  subst hw' hd1
  have hgood : (!true || bits w1 5 27 != 0 || (!indirect && decide (14 < plen)) || (indirect && !addrOk (w'.getD 2 0) (w'.getD 3 0))) = false := by
    rw [show bits w1 5 27 = 0 from hreserved]
    cases hind : indirect with
    | true =>
      rw [show bitOf (w'.getD 1 0) 3 = true from hind, if_pos rfl] at hform
      rw [hform.2]
      rfl
    | false =>
      rw [show bitOf (w'.getD 1 0) 3 = false from hind, if_neg Bool.false_ne_true] at hform
      rw [decide_eq_false (Nat.not_lt.2 hform)]
      rfl
  have hread : (indirect && hostErr) = false := by
    cases hind : indirect with
    | true =>
      rw [show bitOf (w'.getD 1 0) 3 = true from hind, if_pos rfl] at hform
      rw [hform.1]
      rfl
    | false => rfl
  rw [if_neg (ne_true_of_eq_false (fetches hturn hroom hrun)), show plenOk op plen = some true from hplen]
  dsimp -zeta only
  rw [if_neg (ne_true_of_eq_false ((tagBusy_takePacket _).trans hbusy)), if_neg (ne_true_of_eq_false hgood), if_neg (ne_true_of_eq_false hread)]
  have hps' : ps' = ps := hps.symm
  clear_value ps'
  subst hps'
  rw [show (addrParam op).filter _ = none from hfilter]
  rfl

end fetch

/-! ## The writing of a completion (R469, R472, R474) -/

theorem ulp_putHostDwords (d : Device) (a : Nat) (ws : List Nat) : (d.putHostDwords a ws).ulp = d.ulp := by
  refine ulp_each d (fun x p => ?_) _
  exact ulp_each x (fun y b => setHostByte_ulp y _ _) _

theorem hostMem_when {d : Device} {c : Bool} {f : Device → Device} (hf : (f d).hostMem = d.hostMem) : (d.when c f).hostMem = d.hostMem := by
  cases c
  · rfl
  · exact hf

theorem isPending_drainCheck (d : Device) {s : Nat} (hs : s < 256) : d.drainCheck.isPending s = d.isPending s :=
  flag_of_reg (reg_drainCheck d (show EVT_PENDING (s / 18) / 0x100000 ≠ 3 by unfold EVT_PENDING; omega))

/-- Other completions wait. -/
def Device.withWaiting (d : Device) (l : List Completion) : Device := { d with ulp := { d.ulp with waiting := l } }

theorem ulp_withWaiting (d : Device) (l : List Completion) : (d.withWaiting l).ulp = { d.ulp with waiting := l } := rfl

/-- A completion that is written: its entry, those that wait on, and its source. -/
theorem completionWriteEffect_written {d : Device} {q : Nat} {c : Completion} (hq : q < 4)
    (hup : (d.unitUp 0 && d.unitUp 21 && !d.ulp.takeover && !d.cqFull q) = true)
    (hfind : d.ulp.waiting.find? (fun x => x.q == q) = some c) (hreset : d.ulp.resetTag = none) :
    (completionWriteEffect q d).hostMem =
      (d.putHostDwords (d.get54 (ULP_CQ_BASE q) + 32 * d.get (fCqTail q)) (c.dwords (d.flag (fCqPhase q)))).hostMem ∧
    (∃ p : Completion → Bool, (completionWriteEffect q d).ulp.waiting =
      (d.ulp.waiting.erase c).map (fun x => if p x then { x with counted := true } else x)) ∧
    (completionWriteEffect q d).isPending (16 + q) = true := by
  have hguard : (!d.unitUp 0 || !d.unitUp 21 || d.ulp.takeover || d.cqFull q) = false := by
    rw [Bool.and_eq_true, Bool.and_eq_true, Bool.and_eq_true, Bool.not_eq_true', Bool.not_eq_true'] at hup
    obtain ⟨⟨⟨hup0, hup21⟩, hrun⟩, hroom⟩ := hup
    rw [hup0, hup21, hrun, hroom]
    rfl
  unfold completionWriteEffect
  rw [if_neg (ne_true_of_eq_false hguard), hfind]
  dsimp -zeta only
  extract_lets t d1 t' d2 ulp d3 d4
  have h1 : d1.ulp = d.ulp := ulp_putHostDwords d _ _
  have h2 : d2.ulp = d.ulp := by
    unfold d2
    rw [ulp_when _ (putFlag_ulp _ _ _), put_ulp, h1]
  have h2m : d2.hostMem = d1.hostMem := by
    unfold d2
    rw [hostMem_when (putFlag_hostMem _ _ _), put_hostMem]
  have h1m : d1.hostMem = (d.putHostDwords (d.get54 (ULP_CQ_BASE q) + 32 * d.get (fCqTail q)) (c.dwords (d.flag (fCqPhase q)))).hostMem := rfl
  clear_value d2 d1
  have hd3 : d3 = (d2.withWaiting (d2.ulp.waiting.erase c)).countStalls := rfl
  have h3 := ulp_countStalls (d2.withWaiting (d2.ulp.waiting.erase c))
  rw [← hd3, ulp_withWaiting] at h3
  have h3m : d3.hostMem = d2.hostMem := by
    rw [hd3]
    exact congrArg Kept.hostMem (kept_countStalls _)
  have hraises : d3.raisesOnly ((d3.itemOut 0).raise (16 + q)) :=
    raisesOnly_trans (raisesOnly_count d3 0 4 1 (by decide)) (raisesOnly_raise _ _ (by omega))
  have h4 : d4.ulp = d3.ulp := by
    unfold d4
    rw [ulp_drainCheck, raisesOnly_ulp hraises]
  have h4m : d4.hostMem = d1.hostMem := by
    unfold d4
    rw [hostMem_drainCheck, raisesOnly_hostMem hraises, h3m, h2m]
  have hpend : d4.isPending (16 + q) = true := by
    unfold d4
    rw [isPending_drainCheck _ (by omega), isPending_raise _ (by omega)]
  have hnone : d4.ulp.resetTag = none := by
    rw [h4, h3, ← hreset, ← h2]
  rw [hnone]
  dsimp -zeta only
  refine ⟨h4m.trans h1m, ⟨fun x => (d2.withWaiting (d2.ulp.waiting.erase c)).cqFull x.q, ?_⟩, hpend⟩
  rw [h4, h3, ← h2]

/-- Settles O14: a packet that passes the checks joins those in flight, one that fails the first ones is posted, and a completion that finds room is
written. -/
theorem packetsAreFetchedAndCompletionsWritten : Obligations.PacketsAreFetchedAndCompletionsWritten := by
  refine ⟨?fetched, ?rejected, ?written⟩
  case fetched =>
    intro s d q hostErr w ps h hturn hroom hrun hw hplen hbusy hreserved hform hps haddr
    have hexec := (exec_packetFetch q hostErr s).trans (run_finds h _)
    rw [packetFetchEffect_fetched hturn hroom hrun hw hplen hbusy hreserved hform hps haddr] at hexec
    have hquiet : quietReg (ULP_SQ_HEAD q) := quietReg_ulp (by unfold ULP_SQ_HEAD; omega)
    refine ⟨_, hexec, ?_, ?_⟩ <;> rw [gives_dev]
    · rw [settle_reg _ hquiet]
      exact reg_takePacket q.isLt
    · rw [settle_ulp]
      show (d.takePacket q).ulp.flights ++ [packetFlight (d.takePacket q) q w ps] = _
      rw [packetFlight, ulp_takePacket]
  case rejected =>
    intro s d q hostErr w h hturn hroom hrun hw hbad
    have hquiet : quietReg (ULP_SQ_HEAD q) := quietReg_ulp (by unfold ULP_SQ_HEAD; omega)
    obtain ⟨c, heffect, hcq, hctag, hstatus⟩ : ∃ c : Completion, packetFetchEffect q hostErr d = (d.takePacket q).post c ∧ c.q = q ∧
        c.tag = bits (w.getD 0 0) 12 8 ∧
        (if plenOk (bits (w.getD 0 0) 20 12) (bits (w.getD 0 0) 0 12) = none then c.status = 3 ∧ c.dup = false else c.status = 4 ∧ c.dup = true) := by
      cases hplen : plenOk (bits (w.getD 0 0) 20 12) (bits (w.getD 0 0) 0 12) with
      | none => exact ⟨_, packetFetchEffect_unlisted hturn hroom hrun hw hplen, rfl, rfl, rfl, rfl⟩
      | some ok =>
        have hbusy := hbad.resolve_left (by rw [hplen]; exact Option.some_ne_none ok)
        exact ⟨_, packetFetchEffect_duplicate hturn hroom hrun hw hplen hbusy, rfl, rfl, rfl, rfl⟩
    have hexec := (exec_packetFetch q hostErr s).trans (run_finds h _)
    rw [heffect] at hexec
    obtain ⟨x, hlast, hxq, hxtag, hxstatus, hxdup⟩ := waiting_post (d.takePacket q) (hcq ▸ q.isLt : c.q < 4)
    refine ⟨_, x, hexec, ?_, ?_, ?_, hxq.trans hcq, hxtag.trans hctag, ?_⟩
    · rw [gives_dev, settle_ulp, flights_post, ulp_takePacket]
    · rw [gives_dev, settle_ulp, hlast]
    · rw [gives_dev, settle_reg _ hquiet, reg_post_head, reg_takePacket q.isLt]
    · rw [hxstatus, hxdup]
      exact hstatus
  case written =>
    intro s d q c h hup hfind hreset
    obtain ⟨hmem, ⟨p, hwaiting⟩, hpend⟩ := completionWriteEffect_written q.isLt hup hfind hreset
    refine ⟨_, (exec_completionWrite q s).trans (run_finds h _), ?_, ?_, ?_⟩ <;> rw [gives_dev]
    · rw [settle_hostMem, hmem]
    · rw [settle_ulp, hwaiting, List.map_map]
      refine List.map_congr_left fun x _ => ?_
      show ({ (if p x = true then _ else x) with counted := false } : Completion) = _
      split <;> rfl
    · exact pendsAll_settle _ _ (by omega) hpend

end Sys2Proof.Machine
end

section
/-! PROOFS: the classification of errors, the event controller and the error log (15_faults_and_events.md, R495 to R525). -/
namespace Sys2Proof.Machine

/-! ## What leaves the domains -/

section domains
variable (d : Device)

theorem domains_when {c : Bool} {f : Device → Device} (hf : (f d).domains = d.domains) : (d.when c f).domains = d.domains := by
  cases c
  · rfl
  · exact hf

theorem domains_setRegs (off : Nat) (vs : List Nat) : (d.setRegs off vs).domains = d.domains := by
  induction vs generalizing d off with
  | nil => rfl
  | cons v vs ih => exact (ih (d.setReg off v) (off + 4)).trans (setReg_domains d off v)

theorem domains_raise {s : Nat} (hs : s < 256) : (d.raise s).domains = d.domains := raisesOnly_domains (raisesOnly_raise d s hs)

theorem domains_pmcNote (b k n : Nat) : (d.pmcNote b k n).domains = d.domains := by
  unfold Device.pmcNote
  extract_lets m e pmc
  exact domains_when _ (put36_domains _ _ _)

theorem domains_pmcAdd (fuel b k n : Nat) : (pmcAdd fuel b k n d).domains = d.domains := by
  induction fuel generalizing k n d with
  | zero => rfl
  | succ fuel ih =>
    unfold pmcAdd
    extract_lets v d1 d2
    have h1 : d1.domains = d.domains := domains_pmcNote d b k n
    have h2 : d2.domains = d.domains := by
      unfold d2
      rw [putFlag_domains, put36_domains, h1]
    split
    · rfl
    split
    · rw [put36_domains, h1]
    split
    · rw [ih, h2]
    · exact h2

theorem domains_count (b code n : Nat) : (d.count b code n).domains = d.domains := by
  unfold Device.count
  split
  · rfl
  · refine List.foldlRecOn (motive := fun x : Device => x.domains = d.domains) _ _ rfl fun x hx k _ => ?_
    split
    · rw [domains_pmcAdd, hx]
    · exact hx

theorem domains_journal (item : JItem) (value : List Nat) : (d.journal item value).domains = d.domains := rfl

theorem domains_dropLog (i : Nat) : (d.dropLog i).domains = d.domains := by
  unfold Device.dropLog
  rw [domains_setRegs, domains_when _ (domains_journal _ _ _)]

theorem domains_logReplaced (first : Bool) : ((d.bump (whole SYS_ERRLOG_OVERFLOW)).when first (fun d => d.raise 28)).domains = d.domains := by
  rw [← bump_domains d (whole SYS_ERRLOG_OVERFLOW)]
  generalize d.bump (whole SYS_ERRLOG_OVERFLOW) = e
  cases first
  · rfl
  · exact domains_raise e (by decide)

theorem domains_log (cls : Nat) (atOnce : Bool) (domain cause unit data : Nat) : (d.log cls atOnce domain cause unit data).domains = d.domains := by
  unfold Device.log
  extract_lets lseq ws first
  split
  next slot replaced hslot =>
    extract_lets d1 rst d2 d3 d4 d5
    have h1 : d1.domains = d.domains := domains_when d (domains_dropLog d slot)
    clear_value d1
    have h2 : d2.domains = d1.domains := rfl
    clear_value d2
    have h3 : d3.domains = d2.domains := by
      unfold d3
      rw [domains_setRegs, put36_domains]
    clear_value d3
    have h4 : d4.domains = d3.domains := by
      unfold d4
      split
      · exact domains_logReplaced d3 first
      · rw [put_domains]
    clear_value d4
    have h5 : d5.domains = d4.domains := domains_when d4 (domains_journal d4 _ _)
    rw [domains_raise _ (by decide), h5, h4, h3, h2, h1]

end domains

/-! ## The record of a domain -/

section records
variable (d : Device) {code unit : Nat}

theorem domain_key : (d.domain code unit).code = code ∧ (d.domain code unit).unit = unit := by
  unfold Device.domain
  cases hfind : d.domains.find? (fun x => x.code == code && x.unit == unit) with
  | none => exact ⟨rfl, rfl⟩
  | some x =>
    have hx := List.find?_some hfind
    rw [Bool.and_eq_true, beq_iff_eq, beq_iff_eq] at hx
    exact hx

theorem domain_of_domains {d' : Device} (h : d'.domains = d.domains) : d'.domain code unit = d.domain code unit := by
  rw [Device.domain, Device.domain, h]

theorem domain_setDomain_same {x : Domain} (hcode : x.code = code) (hunit : x.unit = unit) : (d.setDomain x).domain code unit = x := by
  subst hcode hunit
  have hnone : (d.domains.filter (fun y => !(y.code == x.code && y.unit == x.unit))).find? (fun y => y.code == x.code && y.unit == x.unit) = none := by
    rw [List.find?_eq_none]
    intro y hy
    exact (Bool.not_eq_true' _).mp (List.mem_filter.1 hy).2 ▸ Bool.false_ne_true
  simp only [Device.domain, Device.setDomain, List.find?_append, hnone, Option.none_or, List.find?_cons, beq_self_eq_true, Bool.and_self,
    Option.getD_some]

/-- Storing the record of one domain leaves that of every other. -/
theorem domain_setDomain_ne {x : Domain} {code' unit' : Nat} (h : (code', unit') ≠ (x.code, x.unit)) :
    (d.setDomain x).domain code' unit' = d.domain code' unit' := by
  have hother : (x.code == code' && x.unit == unit') = false := by
    rw [Bool.and_eq_false_iff, beq_eq_false_iff_ne, beq_eq_false_iff_ne]
    by_contra hboth
    push Not at hboth
    exact h (Prod.ext hboth.1.symm hboth.2.symm)
  have hkept : (d.domains.filter (fun y => !(y.code == x.code && y.unit == x.unit))).find? (fun y => y.code == code' && y.unit == unit') =
      d.domains.find? (fun y => y.code == code' && y.unit == unit') := by
    rw [List.find?_filter]
    refine List.find?_congr fun y _ => ?_
    by_cases hy : (y.code == code' && y.unit == unit') = true
    · have hy' := hy
      rw [Bool.and_eq_true, beq_iff_eq, beq_iff_eq] at hy'
      obtain ⟨hcode, hunit⟩ := hy'
      have hne : (y.code == x.code && y.unit == x.unit) = false := by
        rw [hcode, hunit, ← hother, Bool.beq_comm (a := code'), Bool.beq_comm (a := unit')]
      simp only [hy, hne, Bool.not_false, and_self, decide_true]
    · simp only [Bool.eq_false_iff.2 hy, Bool.false_eq_true, and_false, decide_false]
  simp only [Device.domain, Device.setDomain, List.find?_append, hkept, List.find?_cons, hother, List.find?_nil, Option.or_none]

end records

/-! ## The classification (R496, R497, R498) -/

section charge
variable {d : Device} {code unit cause data : Nat} (hperm : d.isPermanent code unit = false)

theorem charge_permanent (h : d.isPermanent code unit = true) : d.charge code unit cause data = (.ignored, d) := if_pos h

include hperm

theorem charge_again (hsame : (d.released 13 && (d.domain code unit).times.head? == some d.clock) = true) :
    d.charge code unit cause data = (.transient, d.setDomain { d.domain code unit with recovering := true }) :=
  (if_neg (ne_true_of_eq_false hperm)).trans (if_pos hsame)

/-- An error that counts: its verdict, and the domains after it. -/
theorem charge_counts (hfirst : (d.released 13 && (d.domain code unit).times.head? == some d.clock) = false) {perm : Bool}
    (hverdict : (d.isRecovering code unit || decide (d.get fFltCount ≤ d.errsNow code unit + 1)) = perm) :
    (d.charge code unit cause data).1 = (if perm then .permanent else .transient) ∧
    (d.charge code unit cause data).2.domains = (d.setDomain { d.domain code unit with
      times := d.clock :: (d.domain code unit).times.filter (fun t => decide (d.clock < t + d.windowTicks)), recovering := !perm, permanent := perm }).domains := by
  have hpermanent : (d.domain code unit).permanent = false := hperm
  unfold Device.charge
  extract_lets x times perm' d1 d2 d3 d4
  have hp : perm' = perm := hverdict
  have h2 : d2.domains = d1.domains := by
    unfold d2
    rw [domains_count, domains_count]
  have h3 : d3.domains = d2.domains := domains_log d2 _ _ _ _ _ _
  have h4 : d4.domains = d3.domains := domains_when d3 (domains_raise d3 (by decide))
  rw [if_neg (ne_true_of_eq_false hpermanent), if_neg (ne_true_of_eq_false hfirst)]
  clear_value perm'
  subst hp
  exact ⟨rfl, h4.trans (h3.trans h2)⟩

end charge

/-- Settles O50: an error that counts stores the record of its domain, and what is logged and counted after it leaves the domains. -/
theorem errorsAreClassifiedByCountAndWindow : Obligations.ErrorsAreClassifiedByCountAndWindow := by
  refine ⟨?permanent, ?again, ?counts⟩
  case permanent => exact fun d code unit cause data h => charge_permanent h
  case again => exact fun d code unit cause data hperm hsame => charge_again hperm hsame
  case counts =>
    intro d code unit cause data hperm hfirst
    obtain ⟨perm, hverdict⟩ : ∃ perm, (d.isRecovering code unit || decide (d.get fFltCount ≤ d.errsNow code unit + 1)) = perm := ⟨_, rfl⟩
    obtain ⟨h1, h2⟩ := charge_counts (cause := cause) (data := data) hperm hfirst hverdict
    have hdomain (code' unit' : Nat) := domain_of_domains (code := code') (unit := unit') _ h2
    obtain ⟨hcode, hunit⟩ := domain_key d (code := code) (unit := unit)
    have hsame := (hdomain code unit).trans (domain_setDomain_same d hcode hunit)
    refine ⟨by rw [h1, hverdict], ?_, ?_, fun code' unit' hne => ?_⟩
    · rw [Device.isPermanent, hsame, h1]
      cases perm <;> rfl
    · rw [Device.isRecovering, hsame, h1]
      cases perm <;> rfl
    · refine (hdomain code' unit').trans (domain_setDomain_ne d ?_)
      show (code', unit') ≠ ((d.domain code unit).code, (d.domain code unit).unit)
      rw [hcode, hunit]
      exact hne

end Sys2Proof.Machine
end

section
/-! PROOFS: the error log, the event controller and its messages (15_faults_and_events.md, R505 to R516). -/
namespace Sys2Proof.Machine

theorem exec_errlogClear (value : Word) (s : State) : exec (.errlogClear value) s = s.run (writeErrlogClear value.toNat) := rfl

theorem exec_coreDelivery (s : State) : exec .coreDelivery s = s.run coreDeliveryEffect := rfl

theorem exec_serviceEnd (s : State) : exec .serviceEnd s = s.run serviceEndEffect := rfl

theorem exec_moderationTimer (v : Fin 64) (s : State) : exec (.moderationTimer v) s = s.run (moderationTimerEffect v) := rfl

theorem exec_evtHold (value : Word) (s : State) : exec (.evtHold value) s = s.run (writeEvtCtrl value.toNat) := rfl

theorem exec_evtDoorbell (value : Word) (s : State) : exec (.evtDoorbell value) s = s.run (writeDoorbell value.toNat) := rfl

theorem exec_pmeTurnOff (s : State) : exec .pmeTurnOff s = s.run pmeTurnOffEffect := rfl

theorem exec_msixUnmask (what : Option (Fin 64)) (s : State) : exec (.msixUnmask what) s = s.run (msixUnmaskEffect what) := rfl

theorem exec_pcieL0Entry (s : State) : exec .pcieL0Entry s = s.run pcieL0EntryEffect := rfl

/-! ## A module whose level sources show has settled (R509) -/

section settled
variable {d : Device}

theorem levelRise_of_shown {s : Nat} (h : d.shown s) : d.levelRise s (d.levelCond s) = d := by
  refine if_neg fun hc => ?_
  rw [Bool.and_eq_true, Bool.not_eq_true'] at hc
  exact Bool.false_ne_true (hc.2.symm.trans (h hc.1))

theorem levelsRise_of_shown {l : List Nat} (h : ∀ s ∈ l, d.shown s) : d.levelsRise l = d := by
  induction l with
  | nil => rfl
  | cons s l ih =>
    obtain ⟨hs, hl⟩ := List.forall_mem_cons.1 h
    exact (congrArg (·.levelsRise l) (levelRise_of_shown hs)).trans (ih hl)

/-- Settling such a module cuts the strobe where it is gated, and no more. -/
theorem settle_of_shown (h : d.levelsShown = true) : d.settle = d.strobeCut := by
  rw [settle_eq]
  exact levelsRise_of_shown (d := d.strobeCut) fun s hs => (levelsShown_iff d).1 h s hs

end settled

theorem levelsShown_withEvt (d : Device) (e : EvtState) (l : List Out) : ({ d with evt := e, out := l } : Device).levelsShown = d.levelsShown := rfl

/-! ## The log and the cores (R505, R511, R512) -/

section events
variable {d : Device}

theorem writeErrlogClear_clears {d1 : Device} {v : Nat} (hrel : d.released 0 = true) (hclear : bitOf v 17 = true)
    (hd1 : d1 = d.each ((List.range 64).filter (fun i => d.logValid i &&
      !d.rst.logAt.any (fun x => x.1 == d.clock && fseqGe (d.logLseq i) (x.2 + 1)))) Device.dropLog) :
    writeErrlogClear v d = d1.put fLogCount ((List.range 64).filter d1.logValid).length := by
  subst hd1
  simp only [writeErrlogClear, hrel, hclear, Bool.and_self, if_true]

theorem coreDeliveryEffect_serves {k : Nat} (hrel : d.released 0 = true) (hidle : d.evt.serving = none) (hrun : d.ulp.takeover = false)
    (hhold : d.flag fHold = false) (htop : d.topSource d.dueOnCores = some k) :
    coreDeliveryEffect d =
      (({ d with evt := { d.evt with serving := some k } } : Device).emit (.coreJump (d.reg EVT_CORE_BASE * 4096 + 16 * k))).itemOut 19 := by
  have hguard : (!d.released 0 || d.evt.serving.isSome || d.ulp.takeover || d.flag fHold) = false := by
    rw [hrel, hidle, hrun, hhold]
    rfl
  rw [coreDeliveryEffect, if_neg (ne_true_of_eq_false hguard), htop]
  rfl

theorem serviceEndEffect_cores {k : Nat} (hserving : d.evt.serving = some k)
    (htarget : ({ d with evt := { d.evt with serving := none } } : Device).target k = 1) :
    serviceEndEffect d = (({ d with evt := { d.evt with serving := none } } : Device).clearPending k).log logEvent false 0x1F k k 0 := by
  rw [serviceEndEffect, hserving]
  dsimp -zeta only
  extract_lets evt d1 evt' d2
  have h2 : d2 = d1.clearPending k := if_pos (beq_iff_eq.2 htarget)
  rw [h2]

/-- A moderation timer that ends issues one message for what is pending (R514). -/
theorem moderationTimerEffect_issues {v t : Nat} (htimer : d.evt.timers.find? (fun t => t.1 == v) = some (v, t)) (hdue : t ≤ d.clock)
    (hpend : ({ d with evt := { d.evt with timers := d.evt.timers.filter (fun x => x.1 != v) } } : Device).vectorPending v = true) :
    moderationTimerEffect v d = ({ d with evt := { d.evt with timers := d.evt.timers.filter (fun x => x.1 != v) } } : Device).issue v := by
  rw [moderationTimerEffect, htimer]
  dsimp -zeta only
  rw [if_neg (Nat.not_lt.2 hdue)]
  exact if_pos hpend

theorem writeEvtCtrl_released {v : Nat} (hrel : d.released 0 = true) :
    writeEvtCtrl v d = if bitOf v 17 then d.putFlag fHold true else (d.putFlag fHold false).issueDue := by
  simp only [writeEvtCtrl, hrel, Bool.not_true, Bool.false_eq_true, if_false]
  cases bitOf v 17
  · simp only [Bool.false_eq_true, if_false]
  · simp only [if_true]

theorem writeDoorbell_source {v : Nat} (hrel : d.released 0 = true) (hv : v < 256) : writeDoorbell v d = d.raise v := by
  simp only [writeDoorbell, hrel, hv, Bool.not_true, Bool.false_eq_true, if_false, if_true]

theorem writeDoorbell_beyond {v : Nat} (hrel : d.released 0 = true) (hv : 256 ≤ v) : writeDoorbell v d = d.raise 30 := by
  simp only [writeDoorbell, hrel, Nat.not_lt.2 hv, Bool.not_true, Bool.false_eq_true, if_false]

/-! ## The messages of PCIe (R513, R514, R516) -/

section link
variable (hrel : d.released 21 = true)
include hrel

theorem pmeTurnOffEffect_noTimers (htimers : d.evt.timers = []) :
    pmeTurnOffEffect d = { d with evt := { d.evt with timers := [], linkL0 := false }, out := d.out ++ [.pmeToAck] } := by
  simp only [pmeTurnOffEffect, hrel, htimers, List.map_nil, List.foldl_nil, Bool.not_true, Bool.false_eq_true, if_false]
  rfl

theorem msixUnmaskEffect_masked {v : Fin 64} (hmask : d.evt.vecMask.getLsbD v = true) :
    msixUnmaskEffect (some v) d =
      (({ d with evt := { d.evt with vecMask := vecPut d.evt.vecMask v false } } : Device).dueWhere (fun w => w == v.val)).issueDue := by
  simp only [msixUnmaskEffect, hrel, hmask, Bool.true_and, Bool.not_true, Bool.false_eq_true, if_false]

theorem pcieL0EntryEffect_released : pcieL0EntryEffect d = ({ d with evt := { d.evt with linkL0 := true } } : Device).issueDue := by
  simp only [pcieL0EntryEffect, hrel, Bool.not_true, Bool.false_eq_true, if_false]

end link
end events

/-- Settles O45: each command takes its branch; a module whose level sources show settles with its timers and its link as they are. -/
theorem eventCommandsTakeEffect : Obligations.EventCommandsTakeEffect := by
  refine ⟨?clear, ?delivery, ?service, ?timer, ?hold, ?pme, ?unmask, ?linkUp⟩
  case clear =>
    intro s d d1 v h hrel hclear hd1
    rw [exec_errlogClear, run_finds h, writeErrlogClear_clears hrel hclear hd1]
  case delivery =>
    intro s d k h hrel hidle hrun hhold htop
    rw [exec_coreDelivery, run_finds h, coreDeliveryEffect_serves hrel hidle hrun hhold htop]
  case service =>
    intro s d k h hserving htarget
    rw [exec_serviceEnd, run_finds h, serviceEndEffect_cores hserving htarget]
  case timer =>
    intro s d v t h htimer hdue hpend
    rw [exec_moderationTimer, run_finds h, moderationTimerEffect_issues htimer hdue hpend]
  case hold =>
    intro s d v h hrel
    rw [exec_evtHold, run_finds h, writeEvtCtrl_released hrel]
  case pme =>
    intro s d h hrel hshown htimers
    have hexec := (exec_pmeTurnOff s).trans (run_finds h _)
    rw [pmeTurnOffEffect_noTimers hrel htimers] at hexec
    have hsettle := settle_of_shown ((levelsShown_withEvt d { d.evt with timers := [], linkL0 := false } (d.out ++ [.pmeToAck])).trans hshown)
    refine ⟨_, hexec, ?_, ?_⟩
    · rw [gives_dev, hsettle]
      rfl
    · rw [gives_dev, hsettle]
      rfl
  case unmask =>
    intro s d v h hrel hmask
    rw [exec_msixUnmask, run_finds h, msixUnmaskEffect_masked hrel hmask]
  case linkUp =>
    intro s d h hrel
    rw [exec_pcieL0Entry, run_finds h, pcieL0EntryEffect_released hrel]

/-- Settles O46: the doorbell raises one source, and a raised source is pending once the level sources have settled. -/
theorem doorbellRaisesItsSource : Obligations.DoorbellRaisesItsSource := by
  refine ⟨?source, ?beyond⟩
  case source =>
    intro s d v h hrel hv
    have hexec := (exec_evtDoorbell v s).trans (run_finds h _)
    rw [writeDoorbell_source hrel hv] at hexec
    exact ⟨_, hexec, gives_dev s _, pendsAll_settle _ _ hv (isPending_raise d hv)⟩
  case beyond =>
    intro s d v h hrel hv
    have hexec := (exec_evtDoorbell v s).trans (run_finds h _)
    rw [writeDoorbell_beyond hrel hv] at hexec
    exact ⟨_, hexec, gives_dev s _, pendsAll_settle _ _ (by decide) (isPending_raise d (by decide))⟩

end Sys2Proof.Machine
end

section
/-! PROOFS: the performance counters, their snapshot and their clear, and the record samples (15_faults_and_events.md, R539, R540, R545,
R547). -/
namespace Sys2Proof.Machine

theorem exec_pmcSnap (value : Word) (s : State) : exec (.pmcSnap value) s = s.run (writePmcCtrl (value.toNat ||| 0x20000)) := rfl

theorem exec_pmcClear (value : Word) (s : State) : exec (.pmcClear value) s = s.run (writePmcCtrl (value.toNat ||| 0x10000)) := rfl

theorem exec_pmcFreeze (value : Word) (s : State) : exec (.pmcFreeze value) s = s.run (writePmcCtrl value.toNat) := rfl

theorem exec_psbClear (value : Word) (s : State) : exec (.psbClear value) s = s.run (writePsbCtrl (value.toNat ||| 0x200)) := rfl

/-! ## What only counts -/

/-- `d'` differs from `d` by the registers of the counter block, and by what counting keeps of its tick. -/
def Device.countsOnly (d d' : Device) : Prop := d.raisesOnly d' ∧ ∀ off, apartPmc off → d'.reg off = d.reg off

theorem countsOnly_refl (d : Device) : d.countsOnly d := ⟨raisesOnly_refl d, fun _ _ => rfl⟩

theorem countsOnly_trans {a b c : Device} (h1 : a.countsOnly b) (h2 : b.countsOnly c) : a.countsOnly c :=
  ⟨raisesOnly_trans h1.1 h2.1, fun off h => (h2.2 off h).trans (h1.2 off h)⟩

theorem countsOnly_setReg (d : Device) {off : Nat} (v : Nat) (h : off / 0x100000 = 21) : d.countsOnly (d.setReg off v) :=
  ⟨raisesOnly_setReg d off v (by unfold quietReg; omega), fun o ho => reg_setReg_ne d v (by unfold apartPmc at ho; omega)⟩

theorem countsOnly_put (d : Device) {f : Fld} (v : Nat) (h : f.off / 0x100000 = 21) : d.countsOnly (d.put f v) := countsOnly_setReg d _ h

theorem countsOnly_put36 (d : Device) {off : Nat} (v : Nat) (h : off / 0x100000 = 21) (h4 : (off + 4) / 0x100000 = 21) :
    d.countsOnly (d.put36 off v) := countsOnly_trans (countsOnly_setReg d _ h) (countsOnly_setReg _ _ h4)

theorem countsOnly_withPmc (d : Device) (m : PmcState) : d.countsOnly { d with pmc := m } := ⟨raisesOnly_pmc d m, fun _ _ => rfl⟩

theorem countsOnly_when {d : Device} {c : Bool} {f : Device → Device} (h : d.countsOnly (f d)) : d.countsOnly (d.when c f) := by
  cases c
  · exact countsOnly_refl d
  · exact h

theorem countsOnly_each {α : Type} {f : Device → α → Device} {l : List α} (hf : ∀ (x : Device) (a : α), a ∈ l → x.countsOnly (f x a)) (d : Device) :
    d.countsOnly (d.each l f) :=
  List.foldlRecOn (motive := fun x : Device => d.countsOnly x) l f (countsOnly_refl d) fun x hx a ha => countsOnly_trans hx (hf x a ha)

section countsOnly
variable {d d' : Device} (h : d.countsOnly d')
include h

theorem released_of_countsOnly (k : Nat) : d'.released k = d.released k := by
  refine flag_of_reg (h.2 _ ?_)
  unfold islandBit
  split
  · exact (by decide : RST_RELEASED / 0x100000 ≠ 21)
  · exact (by decide : (RST_RELEASED + 4) / 0x100000 ≠ 21)

theorem levelsShown_of_countsOnly : d'.levelsShown = d.levelsShown := by
  refine Bool.eq_iff_iff.2 ((levelsShown_iff d').trans (Iff.trans ?_ (levelsShown_iff d).symm))
  refine forall₂_congr fun s hs => ?_
  rw [Device.shown, Device.shown, levelCond_of_raisesOnly h.1, isPending_of_reg h.2 (levelSources_lt s hs)]

/-- Counting in a module that has settled settles with the registers as they are. -/
theorem settle_reg_of_countsOnly (hshown : d.levelsShown = true) (off : Nat) : d'.settle.reg off = d'.reg off := by
  rw [settle_of_shown ((levelsShown_of_countsOnly h).trans hshown)]
  rfl

theorem pmcNow_of_countsOnly (hpmc : d'.pmc = d.pmc) : d'.pmcNow = d.pmcNow := by
  rw [Device.pmcNow, Device.pmcNow, released_of_countsOnly h, hpmc, raisesOnly_clock h.1]

end countsOnly

/-! ## Register pairs of the counters -/

theorem get36_put36_apart (d : Device) {off o : Nat} (v : Nat) (h : o + 8 ≤ off ∨ off + 8 ≤ o) : (d.put36 off v).get36 o = d.get36 o :=
  get36_of_reg (reg_put36_ne d v (by omega) (by omega)) (reg_put36_ne d v (by omega) (by omega))

/-- A loop over a list sets what the step of one element sets and every step keeps. -/
theorem each_sets {α : Type} {Q P : Device → Prop} {f : Device → α → Device} {a : α} {l : List α} (ha : a ∈ l)
    (hQ : ∀ x b, b ∈ l → Q x → Q (f x b)) (hset : ∀ x, Q x → P (f x a)) (hkeep : ∀ x b, b ∈ l → Q x → P x → P (f x b))
    {d : Device} (hd : Q d) : P (d.each l f) := by
  induction l generalizing d with
  | nil => cases ha
  | cons b l ih =>
    have hQ' : ∀ x c, c ∈ l → Q x → Q (f x c) := fun x c hc => hQ x c (List.mem_cons_of_mem b hc)
    have hkeep' : ∀ x c, c ∈ l → Q x → P x → P (f x c) := fun x c hc => hkeep x c (List.mem_cons_of_mem b hc)
    have hb := hQ d b List.mem_cons_self hd
    rcases List.mem_cons.1 ha with rfl | hmem
    · exact (List.foldlRecOn (motive := fun x : Device => Q x ∧ P x) l f ⟨hb, hset d hd⟩
        fun x hx c hc => ⟨hQ' x c hc hx.1, hkeep' x c hc hx.1 hx.2⟩).2
    · exact ih hmem hQ' hkeep' hb

theorem mem_pmcAll (x : Nat × Nat) : x ∈ pmcAll ↔ x.1 < 20 ∧ x.2 < 8 := by
  obtain ⟨b, k⟩ := x
  simp [pmcAll]

/-! ## The snapshot and the clear (R539, R540, R545) -/

section snapshot
variable {d : Device}

/-- A COUNT goes to its SNAP. -/
def Device.copyCount (d : Device) (x : Nat × Nat) : Device := d.put36 (PMC_C_SNAP x.1 x.2) (d.snapValue x.1 x.2)

/-- A COUNT is put to 0. -/
def Device.zeroCount (d : Device) (x : Nat × Nat) : Device := d.put36 (PMC_C_COUNT x.1 x.2) 0

theorem snapshot_eq : d.snapshot =
    { (d.each pmcAll Device.copyCount).put36 PMC_SNAP_TICK d.tick with
      pmc := { ((d.each pmcAll Device.copyCount).put36 PMC_SNAP_TICK d.tick).pmcNow with snapped := true } } := rfl

theorem clearCounts_eq : d.clearCounts =
    { d.each pmcAll Device.zeroCount with
      pmc := { (d.each pmcAll Device.zeroCount).pmcNow with
        cleared := some (pmcAll.map (fun (x : Nat × Nat) => d.snapValue x.1 x.2)),
        counted := (d.each pmcAll Device.zeroCount).pmcNow.counted.map (fun x => (x.1, 0)) } } := rfl

theorem get36_withPmc (m : PmcState) (off : Nat) : ({ d with pmc := m } : Device).get36 off = d.get36 off := rfl

theorem countsOnly_copyCount {y : Nat × Nat} (hy : y ∈ pmcAll) : d.countsOnly (d.copyCount y) := by
  obtain ⟨hb, hk⟩ := (mem_pmcAll y).1 hy
  have hoff : PMC_C_SNAP y.1 y.2 = 0x150100C + 0x100 * y.1 + 0x20 * y.2 := rfl
  exact countsOnly_put36 d _ (by omega) (by omega)

theorem countsOnly_zeroCount {y : Nat × Nat} (hy : y ∈ pmcAll) : d.countsOnly (d.zeroCount y) := by
  obtain ⟨hb, hk⟩ := (mem_pmcAll y).1 hy
  have hoff : PMC_C_COUNT y.1 y.2 = 0x1501004 + 0x100 * y.1 + 0x20 * y.2 := rfl
  exact countsOnly_put36 d _ (by omega) (by omega)

theorem countsOnly_snapshot : d.countsOnly d.snapshot := by
  rw [snapshot_eq]
  exact countsOnly_trans (countsOnly_trans (countsOnly_each (fun _ _ hy => countsOnly_copyCount hy) d) (countsOnly_put36 _ _ (by decide) (by decide)))
    (countsOnly_withPmc _ _)

theorem countsOnly_clearCounts : d.countsOnly d.clearCounts := by
  rw [clearCounts_eq]
  exact countsOnly_trans (countsOnly_each (fun _ _ hy => countsOnly_zeroCount hy) d) (countsOnly_withPmc _ _)

section counter
variable {b k : Nat} (hk : k < 8)

theorem get36_copyCount_same (hnone : d.pmcNow.cleared = none) : (d.copyCount (b, k)).get36 (PMC_C_SNAP b k) = d.get36 (PMC_C_COUNT b k) := by
  have hvalue : d.snapValue b k = d.get36 (PMC_C_COUNT b k) := by
    rw [Device.snapValue, hnone, Option.elim_none, Nat.add_zero, Nat.mod_eq_of_lt (get36_lt d _)]
  rw [Device.copyCount, hvalue, get36_put36_same d _ (get36_lt d _)]

variable {y : Nat × Nat} (hy : y ∈ pmcAll)
include hy

theorem get36_copyCount_count : (d.copyCount y).get36 (PMC_C_COUNT b k) = d.get36 (PMC_C_COUNT b k) := by
  obtain ⟨hyb, hyk⟩ := (mem_pmcAll y).1 hy
  exact get36_put36_apart d _ (by unfold PMC_C_SNAP PMC_C_COUNT; omega)

theorem get36_zeroCount_snap : (d.zeroCount y).get36 (PMC_C_SNAP b k) = d.get36 (PMC_C_SNAP b k) := by
  obtain ⟨hyb, hyk⟩ := (mem_pmcAll y).1 hy
  exact get36_put36_apart d _ (by unfold PMC_C_SNAP PMC_C_COUNT; omega)

include hk

theorem get36_copyCount_other (hne : y ≠ (b, k)) : (d.copyCount y).get36 (PMC_C_SNAP b k) = d.get36 (PMC_C_SNAP b k) := by
  obtain ⟨hyb, hyk⟩ := (mem_pmcAll y).1 hy
  have hapart : ¬(y.1 = b ∧ y.2 = k) := fun h => hne (Prod.ext h.1 h.2)
  exact get36_put36_apart d _ (by unfold PMC_C_SNAP; omega)

theorem get36_zeroCount_other (hne : y ≠ (b, k)) : (d.zeroCount y).get36 (PMC_C_COUNT b k) = d.get36 (PMC_C_COUNT b k) := by
  obtain ⟨hyb, hyk⟩ := (mem_pmcAll y).1 hy
  have hapart : ¬(y.1 = b ∧ y.2 = k) := fun h => hne (Prod.ext h.1 h.2)
  exact get36_put36_apart d _ (by unfold PMC_C_COUNT; omega)

end counter

section counter
variable {b k : Nat} (hk : k < 8) {l : List (Nat × Nat)} (hl : ∀ y ∈ l, y ∈ pmcAll)
include hl

theorem get36_copyCounts_count : (d.each l Device.copyCount).get36 (PMC_C_COUNT b k) = d.get36 (PMC_C_COUNT b k) :=
  List.foldlRecOn (motive := fun x : Device => x.get36 (PMC_C_COUNT b k) = d.get36 (PMC_C_COUNT b k)) l Device.copyCount rfl
    fun _ hx y hy => (get36_copyCount_count (hl y hy)).trans hx

theorem get36_zeroCounts_snap : (d.each l Device.zeroCount).get36 (PMC_C_SNAP b k) = d.get36 (PMC_C_SNAP b k) :=
  List.foldlRecOn (motive := fun x : Device => x.get36 (PMC_C_SNAP b k) = d.get36 (PMC_C_SNAP b k)) l Device.zeroCount rfl
    fun _ hx y hy => (get36_zeroCount_snap (hl y hy)).trans hx

include hk

theorem get36_copyCounts_snap (hnone : d.pmcNow.cleared = none) (hmem : (b, k) ∈ l) :
    (d.each l Device.copyCount).get36 (PMC_C_SNAP b k) = d.get36 (PMC_C_COUNT b k) := by
  have hset (x : Device) (hx : x.pmcNow.cleared = none ∧ x.get36 (PMC_C_COUNT b k) = d.get36 (PMC_C_COUNT b k)) :
      (x.copyCount (b, k)).get36 (PMC_C_SNAP b k) = d.get36 (PMC_C_COUNT b k) := (get36_copyCount_same hx.1).trans hx.2
  refine each_sets (Q := fun x => x.pmcNow.cleared = none ∧ x.get36 (PMC_C_COUNT b k) = d.get36 (PMC_C_COUNT b k))
    (P := fun x => x.get36 (PMC_C_SNAP b k) = d.get36 (PMC_C_COUNT b k)) hmem (fun x y hy hx => ⟨?_, ?_⟩) hset (fun x y hy hx hP => ?_) ⟨hnone, rfl⟩
  · rw [pmcNow_of_countsOnly (countsOnly_copyCount (hl y hy)) (put36_pmc x _ _)]
    exact hx.1
  · exact (get36_copyCount_count (hl y hy)).trans hx.2
  · rcases eq_or_ne y (b, k) with rfl | hne
    · exact hset x hx
    · exact (get36_copyCount_other hk (hl y hy) hne).trans hP

theorem get36_zeroCounts_count (hmem : (b, k) ∈ l) : (d.each l Device.zeroCount).get36 (PMC_C_COUNT b k) = 0 := by
  have hset (x : Device) : (x.zeroCount (b, k)).get36 (PMC_C_COUNT b k) = 0 := get36_put36_same x _ (by decide)
  refine each_sets (Q := fun _ => True) (P := fun x => x.get36 (PMC_C_COUNT b k) = 0) hmem (fun _ _ _ _ => trivial) (fun x _ => hset x)
    (fun x y hy _ hP => ?_) trivial
  rcases eq_or_ne y (b, k) with rfl | hne
  · exact hset x
  · exact (get36_zeroCount_other hk (hl y hy) hne).trans hP

end counter

section counter
variable {b k : Nat}

theorem get36_snapshot_count : d.snapshot.get36 (PMC_C_COUNT b k) = d.get36 (PMC_C_COUNT b k) := by
  rw [snapshot_eq, get36_withPmc, get36_put36_apart _ _ (by unfold PMC_C_COUNT PMC_SNAP_TICK; omega),
    get36_copyCounts_count (fun _ hy => hy)]

theorem get36_clearCounts_snap : d.clearCounts.get36 (PMC_C_SNAP b k) = d.get36 (PMC_C_SNAP b k) := by
  rw [clearCounts_eq, get36_withPmc, get36_zeroCounts_snap (fun _ hy => hy)]

variable (hb : b < 20) (hk : k < 8)
include hb hk

theorem get36_snapshot_snap (hnone : d.pmcNow.cleared = none) : d.snapshot.get36 (PMC_C_SNAP b k) = d.get36 (PMC_C_COUNT b k) := by
  rw [snapshot_eq, get36_withPmc, get36_put36_apart _ _ (by unfold PMC_C_SNAP PMC_SNAP_TICK; omega),
    get36_copyCounts_snap hk (fun _ hy => hy) hnone ((mem_pmcAll (b, k)).2 ⟨hb, hk⟩)]

theorem get36_clearCounts_count : d.clearCounts.get36 (PMC_C_COUNT b k) = 0 := by
  rw [clearCounts_eq, get36_withPmc, get36_zeroCounts_count hk (fun _ hy => hy) ((mem_pmcAll (b, k)).2 ⟨hb, hk⟩)]

end counter

theorem get36_snapshot_tick : d.snapshot.get36 PMC_SNAP_TICK = d.tick := by
  have htick : d.tick < pairMod := Nat.mod_lt _ (by decide)
  rw [snapshot_eq, get36_withPmc, get36_put36_same _ _ htick]

/-! ## The write of PMC_CTRL -/

theorem bitOf_or (a b i : Nat) : bitOf (a ||| b) i = (bitOf a i || bitOf b i) := by
  have h (x : Nat) : bitOf x i = x.testBit i := by rw [bitOf, Nat.testBit_eq_decide_div_mod_eq]; rfl
  rw [h, h, h, Nat.testBit_or]

variable (hup : d.unitUp 0 = true)
include hup

/-- The write takes the snapshot before the clear, and freezes with FREEZE alone. -/
theorem writePmcCtrl_eq {v : Nat} {snap clear freeze : Bool} (hsnap : bitOf v 17 = snap) (hclear : bitOf v 16 = clear) (hfreeze : bitOf v 15 = freeze) :
    writePmcCtrl v d =
      (((d.when snap Device.snapshot).when clear Device.clearCounts).when
        (freeze && !((d.when snap Device.snapshot).when clear Device.clearCounts).flag (bitAt PMC_CTRL 15)) Device.freeze).putFlag
          (bitAt PMC_CTRL 15) freeze := by
  simp only [writePmcCtrl, hup, hsnap, hclear, hfreeze, Bool.not_true, Bool.false_eq_true, if_false]

theorem writePmcCtrl_snap {v : Nat} (hclear : bitOf v 16 = false) (hfreeze : bitOf v 15 = false) :
    writePmcCtrl (v ||| 0x20000) d = d.snapshot.putFlag (bitAt PMC_CTRL 15) false := by
  have hs : bitOf (v ||| 0x20000) 17 = true := by rw [bitOf_or]; exact Bool.or_true _
  have hc : bitOf (v ||| 0x20000) 16 = false := by rw [bitOf_or, hclear]; decide
  have hf : bitOf (v ||| 0x20000) 15 = false := by rw [bitOf_or, hfreeze]; decide
  rw [writePmcCtrl_eq hup hs hc hf, when_true, when_false, Bool.false_and, when_false]

theorem writePmcCtrl_clear {v : Nat} {snap : Bool} (hsnap : bitOf v 17 = snap) (hfreeze : bitOf v 15 = false) :
    writePmcCtrl (v ||| 0x10000) d = (d.when snap Device.snapshot).clearCounts.putFlag (bitAt PMC_CTRL 15) false := by
  have hs : bitOf (v ||| 0x10000) 17 = snap := by rw [bitOf_or, hsnap]; exact Bool.or_false _
  have hc : bitOf (v ||| 0x10000) 16 = true := by rw [bitOf_or]; exact Bool.or_true _
  have hf : bitOf (v ||| 0x10000) 15 = false := by rw [bitOf_or, hfreeze]; decide
  rw [writePmcCtrl_eq hup hs hc hf, when_true, Bool.false_and, when_false]

theorem writePmcCtrl_freeze {v : Nat} (hneither : bits v 16 2 = 0) :
    writePmcCtrl v d =
      (if bitOf v 15 && !d.flag (bitAt PMC_CTRL 15) then d.freeze else d).putFlag (bitAt PMC_CTRL 15) (bitOf v 15) := by
  have hbits : v / 65536 % 4 = 0 := hneither
  have hsnap : bitOf v 17 = false := by
    rw [bitOf, beq_eq_false_iff_ne]
    omega
  have hclear : bitOf v 16 = false := by
    rw [bitOf, beq_eq_false_iff_ne]
    omega
  rw [writePmcCtrl_eq hup hsnap hclear rfl, when_false, when_false, Device.when]

end snapshot

/-- FREEZE as it is written leaves the counters. -/
theorem get36_putFreeze (d : Device) (x : Bool) {off : Nat} (h : 0x1500004 ≤ off) : (d.putFlag (bitAt PMC_CTRL 15) x).get36 off = d.get36 off :=
  get36_put_ne d _ (show off ≠ 0x1500000 by omega) (show off + 4 ≠ 0x1500000 by omega)

/-- Settles O54: the snapshot and the clear write each counter once, and a module that has settled settles with them as they are. -/
theorem snapshotCopiesEveryCounter : Obligations.SnapshotCopiesEveryCounter := by
  have hsettle {s : State} {d d' : Device} (hc : d.countsOnly d') (hshown : d.levelsShown = true) (off : Nat) :
      (s.gives d').dev.get36 off = d'.get36 off := by
    rw [gives_dev]
    exact get36_of_reg (settle_reg_of_countsOnly hc hshown _) (settle_reg_of_countsOnly hc hshown _)
  have hflag (x : Device) : x.countsOnly (x.putFlag (bitAt PMC_CTRL 15) false) := countsOnly_put x _ (by decide)
  refine ⟨?snap, ?clear⟩
  case snap =>
    intro s d v h hup hshown hnone hclear hfreeze
    have hexec := (exec_pmcSnap v s).trans (run_finds h _)
    rw [writePmcCtrl_snap hup hclear hfreeze] at hexec
    have hc := countsOnly_trans countsOnly_snapshot (hflag d.snapshot)
    refine ⟨_, hexec, ?_, fun b k => ⟨?_, ?_⟩⟩ <;> rw [hsettle hc hshown]
    · rw [get36_putFreeze _ _ (by decide), get36_snapshot_tick]
    · rw [get36_putFreeze _ _ (by unfold PMC_C_SNAP; omega), get36_snapshot_snap b.isLt k.isLt hnone]
    · rw [get36_putFreeze _ _ (by unfold PMC_C_COUNT; omega), get36_snapshot_count]
  case clear =>
    intro s d v h hup hshown hnone hsnap hfreeze
    have hexec := (exec_pmcClear v s).trans (run_finds h _)
    rw [writePmcCtrl_clear hup hsnap hfreeze, when_true] at hexec
    have hc := countsOnly_trans countsOnly_snapshot (countsOnly_trans countsOnly_clearCounts (hflag d.snapshot.clearCounts))
    refine ⟨_, hexec, fun b k => ⟨?_, ?_⟩⟩ <;> rw [hsettle hc hshown]
    · rw [get36_putFreeze _ _ (by unfold PMC_C_SNAP; omega), get36_clearCounts_snap, get36_snapshot_snap b.isLt k.isLt hnone]
    · rw [get36_putFreeze _ _ (by unfold PMC_C_COUNT; omega), get36_clearCounts_count b.isLt k.isLt]

end Sys2Proof.Machine
end

section
/-! PROOFS: Frost and Thaw, the sample of the supplies, and the counter controls (13_clocks_reset_and_start.md, R527 to R535; 15_faults_and_events.md,
R545, R547, R557 to R559). -/
namespace Sys2Proof.Machine

theorem exec_frostCommit (s : State) : exec .frostCommit s = s.run frostCommitEffect := rfl

theorem exec_wake (source : Fin 8) (widthNs : Nat) (s : State) : exec (.wake source widthNs) s = s.run (wakeEffect source widthNs) := rfl

theorem exec_thaw (value : Word) (s : State) : exec (.thaw value) s = s.run (writeThaw value.toNat) := rfl

theorem exec_thawComplete (s : State) : exec .thawComplete s = s.run thawCompleteEffect := rfl

theorem exec_hwSample (reading : HwReading) (s : State) : exec (.hwSample reading) s = s.run (hwSampleEffect reading) := rfl

/-! ## What completions write -/

/-- `d'` differs from `d` by its registers and by the state of the command engine. -/
def Device.engineOnly (d d' : Device) : Prop := ∃ r u, d' = { d with regs := r, ulp := u }

section engineOnly
variable {d : Device}

theorem engineOnly_refl : d.engineOnly d := ⟨d.regs, d.ulp, rfl⟩

theorem engineOnly_trans {a b c : Device} (h1 : a.engineOnly b) (h2 : b.engineOnly c) : a.engineOnly c := by
  obtain ⟨r, u, rfl⟩ := h1
  obtain ⟨r', u', rfl⟩ := h2
  exact ⟨r', u', rfl⟩

theorem engineOnly_put (f : Fld) (v : Nat) : d.engineOnly (d.put f v) := ⟨_, d.ulp, rfl⟩

theorem engineOnly_when {c : Bool} {f : Device → Device} (h : d.engineOnly (f d)) : d.engineOnly (d.when c f) := by
  cases c
  · exact engineOnly_refl
  · exact h

theorem engineOnly_each {α : Type} {f : Device → α → Device} (hf : ∀ (x : Device) a, x.engineOnly (f x a)) (l : List α) (d : Device) :
    d.engineOnly (d.each l f) :=
  each_keeps (fun x => d.engineOnly x) f (fun x a hx => engineOnly_trans hx (hf x a)) l d engineOnly_refl

theorem engineOnly_withUlp (u : UlpState) : d.engineOnly { d with ulp := u } := ⟨d.regs, u, rfl⟩

theorem engineOnly_countStalls : d.engineOnly d.countStalls := by
  unfold Device.countStalls
  extract_lets waiting n ulp d1 counts
  refine engineOnly_trans (b := d1) (engineOnly_withUlp _) (engineOnly_each (fun x q => ?_) _ d1)
  show x.engineOnly (x.when _ _)
  exact engineOnly_when (engineOnly_put _ _)

theorem engineOnly_drainCheck : d.engineOnly d.drainCheck := by
  rw [drainCheck_eq]
  have hstep (x : Device) (q : Nat) : x.engineOnly (x.drainStep q) := engineOnly_when (engineOnly_put _ _)
  exact engineOnly_trans (hstep d 0) (engineOnly_trans (hstep _ 1) (engineOnly_trans (hstep _ 2) (hstep _ 3)))

theorem engineOnly_post (c : Completion) : d.engineOnly (d.post c) := by
  unfold Device.post
  split
  · exact engineOnly_trans (engineOnly_withUlp _) engineOnly_countStalls
  · exact engineOnly_refl

theorem engineOnly_complete (f : Flight) (status detail : Nat) (results : List Nat) (applied : Nat) (taken : Bool) :
    d.engineOnly (d.complete f status detail results applied taken) :=
  engineOnly_trans (engineOnly_trans (engineOnly_withUlp _) (engineOnly_post _)) engineOnly_drainCheck

theorem engineOnly_completeWhere (p : Wait → Bool) (status detail : Nat) (results : List Nat) (applied : Nat) :
    d.engineOnly (d.completeWhere p status detail results applied) :=
  engineOnly_each (fun x f => engineOnly_complete (d := x) f status detail results applied false) _ d

theorem pwr_of_engineOnly {d' : Device} (h : d.engineOnly d') : d'.pwr = d.pwr := by
  obtain ⟨r, u, rfl⟩ := h
  rfl

end engineOnly

/-- A field is read from the register file. -/
theorem get_of_regs {d d' : Device} (h : d'.regs = d.regs) (f : Fld) : d'.get f = d.get f := by
  rw [Device.get, Device.get, Device.reg, Device.reg, h]

theorem get_withPwrLne (d : Device) (p : PwrState) (l : LneState) (f : Fld) : ({ d with pwr := p, lne := l } : Device).get f = d.get f :=
  get_of_regs rfl f

theorem kept_withPwrLne (d : Device) (p : PwrState) (l : LneState) : ({ d with pwr := p, lne := l } : Device).kept = d.kept := rfl

theorem clock_of_kept {d d' : Device} (h : d'.kept = d.kept) : d'.clock = d.clock := congrArg Kept.clock h

/-! ## Frost and Thaw (R528, R531 to R535) -/

section frost
variable {d : Device}

/-- The commit clock: FROST, nothing on the lines, and the memories as they were. -/
theorem frostCommitEffect_commits (hentering : d.get fFState = fsENTERING) (hundo : d.pwr.undoing = false) :
    (frostCommitEffect d).st = stFrost ∧ (frostCommitEffect d).get fFState = fsFROST ∧ (frostCommitEffect d).lne.frames = [] ∧
      (frostCommitEffect d).lne.flushes = [] ∧ (frostCommitEffect d).pwr.commitAt = some d.clock ∧ (frostCommitEffect d).kept = d.kept := by
  have hguard : (d.get fFState != fsENTERING || d.pwr.undoing) = false := by
    rw [hentering, hundo]
    rfl
  obtain ⟨x, hx⟩ : ∃ x, frostCommitEffect d = x := ⟨_, rfl⟩
  rw [hx]
  unfold frostCommitEffect at hx
  rw [if_neg (ne_true_of_eq_false hguard)] at hx
  extract_lets d1 d2 p3 d3 d4 ptp d5 p6 l6 at hx
  subst hx
  have h1 : d1.kept = d.kept := kept_each d fun x n => kept_when x fun y => kept_put y _ _
  have h2 : d2.kept = d1.kept := by
    unfold d2
    rw [kept_putFlag, Device.selfRefreshAll]
    exact kept_each d1 fun x c => kept_putFlag x _ _
  clear_value d2
  have h3 : d3.kept = d2.kept := kept_withPwr d2 _
  clear_value d3
  have h4 : d4.kept = d3.kept := by
    unfold d4 Device.setState
    rw [kept_bump, kept_put, kept_put]
  have hst : d4.get fState = stFrost := by
    unfold d4 Device.setState Device.bump
    rw [get_put_ne _ _ (by decide), get_put_ne _ _ (by decide), get_put_same _ _ _ (by decide)]
    rfl
  have hfs : d4.get fFState = fsFROST := by
    unfold d4 Device.bump
    rw [get_put_ne _ _ (by decide), get_put_same _ _ _ (by decide)]
    rfl
  clear_value d4
  have h5 : d5.kept = d4.kept ∧ d5.get fState = d4.get fState ∧ d5.get fFState = d4.get fFState := by
    unfold d5
    split
    · exact ⟨rfl, rfl, rfl⟩
    · have hk (x : Device) (p : PtpState) (e : EthState) : ({ x with ptp := p, eth := e } : Device).kept = x.kept := rfl
      have hr (x : Device) (p : PtpState) (e : EthState) : ({ x with ptp := p, eth := e } : Device).regs = x.regs := rfl
      refine ⟨?_, ?_, ?_⟩
      · rw [hk, kept_put, kept_put]
      · rw [get_of_regs (hr _ _ _), get_put_ne _ _ (by decide), get_put_ne _ _ (by decide)]
      · rw [get_of_regs (hr _ _ _), get_put_ne _ _ (by decide), get_put_ne _ _ (by decide)]
  clear_value d5
  obtain ⟨hk5, hst5, hfs5⟩ := h5
  have hkept : d5.kept = d.kept := by rw [hk5, h4, h3, h2, h1]
  have hclock : d5.clock = d.clock := clock_of_kept hkept
  refine ⟨?_, ?_, rfl, rfl, congrArg some hclock, (kept_withPwrLne d5 _ _).trans hkept⟩
  · rw [Device.st, get_withPwrLne, hst5, hst]
  · rw [get_withPwrLne, hfs5, hfs]

/-- The end of Thaw: READY, and the Frost state at rest. -/
theorem thawCompleteEffect_ready (hthawing : d.get fFState = fsTHAWING) (hlanes : d.lanesTraining = false) :
    (thawCompleteEffect d).st = stReady ∧ (thawCompleteEffect d).get fFState = fsRUN ∧ (thawCompleteEffect d).pwr.commitAt = none ∧
      (thawCompleteEffect d).pwr.undoing = false := by
  have hguard : (d.get fFState != fsTHAWING || d.lanesTraining) = false := by
    rw [hthawing, hlanes]
    rfl
  obtain ⟨x, hx⟩ : ∃ x, thawCompleteEffect d = x := ⟨_, rfl⟩
  rw [hx]
  unfold thawCompleteEffect at hx
  rw [if_neg (ne_true_of_eq_false hguard)] at hx
  extract_lets ms undone d1 d2 p3 d3 d4 t at hx
  subst hx
  have hst1 : d1.get fState = stReady := by
    unfold d1 Device.setState
    rw [get_put_ne _ _ (by decide), get_put_same _ _ _ (by decide)]
    rfl
  have hfs1 : d1.get fFState = fsRUN := by
    unfold d1
    rw [get_put_same _ _ _ (by decide)]
    rfl
  clear_value d1
  have hg2 (f : Fld) (h : f.off ≠ PWR_LATCH) (h0 : f.off ≠ PWR_FROST_TIME) (h4 : f.off ≠ PWR_FROST_TIME + 4) : d2.get f = d1.get f := by
    have hreg : d2.reg f.off = d1.reg f.off := (reg_put36_ne _ _ h0 h4).trans (reg_setReg_ne d1 _ h)
    rw [Device.get, Device.get, hreg]
  clear_value d2
  have hr3 : d3.regs = d2.regs := rfl
  have hg3 (f : Fld) : d3.get f = d2.get f := get_of_regs hr3 f
  have hp3 : d3.pwr.commitAt = none ∧ d3.pwr.undoing = false := ⟨rfl, rfl⟩
  clear_value d3
  have h4 : d4.pwr = d3.pwr ∧ ∀ f : Fld, f.off ≠ PTP_STATUS → d4.get f = d3.get f := by
    unfold d4 Device.when
    split
    · exact ⟨put_pwr _ _ _, fun f hf => get_put_ne _ _ hf⟩
    · exact ⟨rfl, fun _ _ => rfl⟩
  obtain ⟨hp4, hg4⟩ := h4
  clear_value d4
  have hget (f : Fld) (hf : f.off / 0x100000 ≠ 3) (v : List Nat) (status : Nat) :
      (d4.completeWhere (fun w => w == .frost) status 0 v).get f = d4.get f := by
    rw [Device.get, Device.get, reg_completeWhere d4 _ _ _ _ _ hf]
  have hpwr := pwr_of_engineOnly (engineOnly_completeWhere (d := d4) (fun w => w == .frost) (if undone then sWOKEN else sOK) 0
    [d4.reg PWR_WAKE_CAUSE, t % 2 ^ 32, t / 2 ^ 32] 0)
  refine ⟨?_, ?_, ?_, ?_⟩
  · rw [Device.st, hget fState (by decide), hg4 _ (by decide), hg3, hg2 _ (by decide) (by decide) (by decide), hst1]
  · rw [hget fFState (by decide), hg4 _ (by decide), hg3, hg2 _ (by decide) (by decide) (by decide), hfs1]
  · rw [hpwr, hp4, hp3.1]
  · rw [hpwr, hp4, hp3.2]

theorem wakeEffect_latched {k : Nat} (hk : k < 7) (hrun : d.get fFState ≠ fsRUN)
    (hen : bitOf (d.putFlag (bitAt PWR_LATCH k) true).wakeEn k = true) :
    wakeEffect k 2 d = (d.putFlag (bitAt PWR_LATCH k) true).wakeBy (2 ^ k) := by
  have hrun' : (d.get fFState == fsRUN) = false := beq_eq_false_iff_ne.2 hrun
  have htaken : (k == 7 || decide (2 ≤ 2) || Config.pulseTaken d.freeCtr) = true := by rw [decide_eq_true le_rfl, Bool.or_true, Bool.true_or]
  have hlong : (k != 7 && decide (2 < 2)) = false := Bool.and_false _
  simp only [wakeEffect, htaken, hlong, hrun', Device.latchWake, decide_eq_true hk, when_true, hen, Bool.not_true, Bool.false_eq_true, if_false, if_true]

theorem writeThaw_taken {v : Nat} (hrel : d.released 0 = true) (hthaw : bitOf v 17 = true) : writeThaw v d = d.wakeBy 256 :=
  if_pos (Bool.and_eq_true_iff.2 ⟨hrel, hthaw⟩)

end frost

/-! ## The sample of the supplies and temperatures (R557 to R559) -/

/-- A sample that leaves no critical temperature asks for no stop. -/
theorem hwSampleEffect_noStop {d d1 : Device} {r : HwReading} (hd1 : d1 = hwSampleCore r d) (hcritical : d1.flag (bitAt SYS_HW_STATUS 13) = false) :
    hwSampleEffect r d =
      (if d1.smbAlertLow != d.smbAlertLow then d1.emit (.smbAlert d1.smbAlertLow) else d1).calByTemp.each (List.range 4)
        (fun d c => d.when (d.retuneByTemp c) (fun d => d.startRetune c)) := by
  unfold hwSampleEffect
  extract_lets was alert d1' d2 d3
  have hd1' : d1' = d1 := hd1.symm
  clear_value d1'
  subst hd1'
  have h2 : d2 = if d1'.smbAlertLow != d.smbAlertLow then d1'.emit (.smbAlert d1'.smbAlertLow) else d1' := rfl
  have hflag : d2.flag (bitAt SYS_HW_STATUS 13) = false := by
    rw [h2, ← hcritical]
    split
    · rw [Device.flag, Device.flag, emit_get]
    · rfl
  have h3 : d3 = d2 := by
    unfold d3
    rw [hflag, Bool.and_false, when_false]
  rw [h3, h2]

/-! ## The control of the record samples (R547) -/

/-- The clear of the record samples: none stands in the buffer, and it is not full. -/
theorem countsOnly_writePsbCtrl_clear {d : Device} (hup : d.unitUp 0 = true) :
    d.countsOnly (writePsbCtrl 0x200 d) ∧ (writePsbCtrl 0x200 d).reg PMC_PSB_COUNT = 0 ∧ (writePsbCtrl 0x200 d).reg PMC_PSB_NEXT = 0 ∧
      (writePsbCtrl 0x200 d).flag (bitAt PMC_PSB_CTRL 10) = false := by
  have hguard : (!d.unitUp 0 || decide (20 < bits 0x200 11 5)) = false := by
    rw [hup]
    decide
  have hclear : bitOf 0x200 9 = true := by decide
  have heq : writePsbCtrl 0x200 d = (((d.put { off := PMC_PSB_CTRL, lo := 11, w := 7 } (bits 0x200 11 7)).putFlag (bitAt PMC_PSB_CTRL 10) false).setReg
      PMC_PSB_COUNT 0).setReg PMC_PSB_NEXT 0 := by
    unfold writePsbCtrl
    rw [if_neg (ne_true_of_eq_false hguard)]
    exact if_pos hclear
  have h1 : d.countsOnly (d.put { off := PMC_PSB_CTRL, lo := 11, w := 7 } (bits 0x200 11 7)) := countsOnly_put d _ (by decide)
  rw [heq]
  generalize d.put { off := PMC_PSB_CTRL, lo := 11, w := 7 } (bits 0x200 11 7) = d1 at h1 ⊢
  have h2 : d1.countsOnly (d1.putFlag (bitAt PMC_PSB_CTRL 10) false) := countsOnly_put d1 _ (by decide)
  have hflag : (d1.putFlag (bitAt PMC_PSB_CTRL 10) false).flag (bitAt PMC_PSB_CTRL 10) = false := flag_putFlag_bit_same d1 false (by decide)
  generalize d1.putFlag (bitAt PMC_PSB_CTRL 10) false = d2 at h2 hflag ⊢
  refine ⟨countsOnly_trans (countsOnly_trans (countsOnly_trans h1 h2) (countsOnly_setReg d2 _ (by decide))) (countsOnly_setReg _ _ (by decide)), ?_, ?_, ?_⟩
  · rw [reg_setReg_ne _ _ (by decide), reg_setReg_same]
  · rw [reg_setReg_same]
  · rw [← hflag]
    refine flag_of_reg ?_
    show _ = d2.reg PMC_PSB_CTRL
    exact (reg_setReg_ne _ _ (by decide)).trans (reg_setReg_ne d2 _ (by decide))

/-- Settles O47: each command takes its branch, and what it writes outside the event and counter blocks passes the settling. -/
theorem powerAndCountersTakeEffect : Obligations.PowerAndCountersTakeEffect := by
  refine ⟨?commit, ?wake, ?thaw, ?thawed, ?sample, ?snap, ?freeze, ?psb⟩
  case commit =>
    intro s d h hentering hundo
    obtain ⟨hst, hfs, hframes, hflushes, hcommit, hkept⟩ := frostCommitEffect_commits hentering hundo
    refine ⟨_, (exec_frostCommit s).trans (run_finds h _), ?_, ?_, ?_, ?_, ?_, ?_, ?_⟩ <;> rw [gives_dev]
    · rw [Device.st, settle_get _ ⟨by decide, by decide⟩]
      exact hst
    · rw [settle_get _ ⟨by decide, by decide⟩, hfs]
    · rw [settle_lne, hframes]
    · rw [settle_lne, hflushes]
    · rw [settle_pwr, hcommit]
    · rw [settle_dram]
      exact congrArg Kept.dram hkept
    · rw [settle_laidOut]
      exact congrArg Kept.laidOut hkept
  case wake =>
    intro s d k h hrun hen
    rw [exec_wake, run_finds h, wakeEffect_latched k.isLt hrun hen]
  case thaw =>
    intro s d v h hrel hthaw
    rw [exec_thaw, run_finds h, writeThaw_taken hrel hthaw]
  case thawed =>
    intro s d h hthawing hlanes
    obtain ⟨hst, hfs, hcommit, hundo⟩ := thawCompleteEffect_ready hthawing hlanes
    refine ⟨_, (exec_thawComplete s).trans (run_finds h _), ?_, ?_, ?_, ?_⟩ <;> rw [gives_dev]
    · rw [Device.st, settle_get _ ⟨by decide, by decide⟩]
      exact hst
    · rw [settle_get _ ⟨by decide, by decide⟩, hfs]
    · rw [settle_pwr, hcommit]
    · rw [settle_pwr, hundo]
  case sample =>
    intro s d d1 r h hd1 hcritical
    rw [exec_hwSample, run_finds h, hwSampleEffect_noStop hd1 hcritical]
  case snap =>
    intro s d h hup
    have hzero : (0 : Word).toNat = 0 := rfl
    refine ⟨?_, ?_⟩
    · rw [exec_pmcSnap, run_finds h, hzero, writePmcCtrl_snap hup (by decide) (by decide)]
    · rw [exec_pmcClear, run_finds h, hzero, writePmcCtrl_clear (snap := false) hup (by decide) (by decide), when_false]
  case freeze =>
    intro s d v h hup hneither
    rw [exec_pmcFreeze, run_finds h, writePmcCtrl_freeze hup hneither]
  case psb =>
    intro s d h hup hshown
    obtain ⟨hc, hcount, hnext, hfull⟩ := countsOnly_writePsbCtrl_clear hup
    have hexec : exec (.psbClear 0) s = .next (s.gives (writePsbCtrl 0x200 d)) := (exec_psbClear 0 s).trans (run_finds h _)
    refine ⟨_, hexec, ?_, ?_, ?_⟩ <;> rw [gives_dev]
    · rw [settle_reg_of_countsOnly hc hshown, hcount]
    · rw [settle_reg_of_countsOnly hc hshown, hnext]
    · rw [← hfull]
      exact flag_of_reg (settle_reg_of_countsOnly hc hshown _)

end Sys2Proof.Machine
end

section
/-! PROOFS: the release and the loss of islands, PERST_L, block resets, the end of start-up and the control pairs (13_clocks_reset_and_start.md, R435
to R456; 15_faults_and_events.md, R500 to R503). -/
namespace Sys2Proof.Machine

theorem exec_islandRelease (island : Fin 22) (clock : ClockView) (s : State) :
    exec (.islandRelease island clock) s = s.run (islandReleaseEffect island clock) := rfl

theorem exec_perstL (s : State) : exec .perstL s = s.run perstLEffect := rfl

theorem exec_perstLRelease (clock : ClockView) (s : State) : exec (.perstLRelease clock) s = s.run (perstLReleaseEffect clock) := rfl

theorem exec_clkGoodFall (island : Option (Fin 22)) (loss : ClockLoss) (s : State) :
    exec (.clkGoodFall island loss) s = s.run (clkGoodFallEffect island loss.clock loss.load) := rfl

theorem exec_rstRelease (hi : Bool) (value : Word) (s : State) :
    exec (.rstRelease hi value) s = s.run (writeRstRelease hi value.toNat) := rfl

theorem exec_rstBlock (value : Word) (s : State) : exec (.rstBlock value) s = s.run (writeRstBlock value.toNat) := rfl

theorem exec_blockResetRelease (clock : ClockView) (s : State) :
    exec (.blockResetRelease clock) s = s.run (blockResetReleaseEffect clock) := rfl

theorem exec_startUpComplete (failed : List TestUnit) (readyMs : Nat) (s : State) :
    exec (.startUpComplete failed readyMs) s = s.run (startUpCompleteEffect failed readyMs) := rfl

theorem exec_lockstepMismatch (pair : Fin 2) (ol : OptionLoad) (s : State) :
    exec (.lockstepMismatch pair ol) s = s.run (fun d => if d.coresRun then d.pairError pair 1 ol else d) := rfl

theorem exec_watchdogExpiry (ol : OptionLoad) (s : State) :
    exec (.watchdogExpiry ol) s = s.run (fun d => if d.coresRun then d.pairError (d.get fActivePair) 2 ol else d) := rfl

theorem exec_takeoverComplete (s : State) :
    exec .takeoverComplete s = s.run (fun d => { d with ulp := { d.ulp with takeover := false } }) := rfl

theorem exec_retestComplete (pair : Fin 2) (passed : Bool) (s : State) :
    exec (.retestComplete pair passed) s = s.run (retestCompleteEffect pair passed) := rfl

theorem exec_standbyLoadDone (pair : Fin 2) (loaded : Bool) (s : State) :
    exec (.standbyLoadDone pair loaded) s = s.run (standbyLoadDoneEffect pair loaded) := rfl

/-! ## MSI-X Enable, which raising and settling leave (R513, R516) -/

/-- `d'` differs from `d` by its registers and by what counting keeps. -/
def Device.counterOnly (d d' : Device) : Prop := ∃ r p, d' = { d with regs := r, pmc := p }

section counterOnly
variable {d : Device}

theorem counterOnly_refl : d.counterOnly d := ⟨d.regs, d.pmc, rfl⟩

theorem counterOnly_trans {a b c : Device} (h1 : a.counterOnly b) (h2 : b.counterOnly c) : a.counterOnly c := by
  obtain ⟨r, p, rfl⟩ := h1
  obtain ⟨r', p', rfl⟩ := h2
  exact ⟨r', p', rfl⟩

theorem counterOnly_setReg (off v : Nat) : d.counterOnly (d.setReg off v) := ⟨_, d.pmc, rfl⟩

theorem counterOnly_put36 (off v : Nat) : d.counterOnly (d.put36 off v) := counterOnly_trans (counterOnly_setReg _ _) (counterOnly_setReg _ _)

theorem counterOnly_pmcNote (b k n : Nat) : d.counterOnly (d.pmcNote b k n) := by
  unfold Device.pmcNote Device.when
  extract_lets m e d1
  have h1 : d.counterOnly d1 := ⟨d.regs, _, rfl⟩
  clear_value d1
  split
  · exact counterOnly_trans h1 (counterOnly_put36 _ _)
  · exact h1

theorem counterOnly_pmcAdd (fuel b k n : Nat) (d : Device) : d.counterOnly (pmcAdd fuel b k n d) := by
  induction fuel generalizing k n d with
  | zero => exact counterOnly_refl
  | succ fuel ih =>
    unfold pmcAdd
    extract_lets v d1 d2
    have h1 : d.counterOnly d1 := counterOnly_pmcNote b k n
    have h2 : d.counterOnly d2 := counterOnly_trans h1 (counterOnly_trans (counterOnly_put36 _ _) (counterOnly_setReg _ _))
    clear_value d2 d1
    split
    · exact counterOnly_refl
    split
    · exact counterOnly_trans h1 (counterOnly_put36 _ _)
    split
    · exact counterOnly_trans h2 (ih _ _ d2)
    · exact h2

theorem counterOnly_count (b code n : Nat) : d.counterOnly (d.count b code n) := by
  unfold Device.count
  split
  · exact counterOnly_refl
  · refine List.foldlRecOn (motive := fun x : Device => d.counterOnly x) _ _ counterOnly_refl fun x hx k _ => ?_
    split
    · exact counterOnly_trans hx (counterOnly_pmcAdd 8 b k _ x)
    · exact hx

theorem evt_count (b code n : Nat) : (d.count b code n).evt = d.evt := by
  obtain ⟨r, p, h⟩ := counterOnly_count (d := d) b code n
  rw [h]

end counterOnly

section msix
variable (d : Device)

theorem evt_sendOn (ring : Bool) (words : List Nat) : (d.sendOn ring words).evt = d.evt := by
  unfold Device.sendOn
  split
  · rfl
  split <;> rfl

theorem evt_sendMesh (dst ty : Nat) (body : List Nat) : (d.sendMesh dst ty body).evt = d.evt := by
  unfold Device.sendMesh
  split
  · rfl
  · exact each_keeps (fun x => x.evt = d.evt) _ (fun x ring hx => (evt_sendOn x ring _).trans hx) _ _ (evt_count 18 4 1)

theorem evt_raised (s : Nat) : (d.raised s).evt = d.evt := by
  unfold Device.raised Device.forward
  split
  · exact (evt_sendMesh _ _ _ _).trans (evt_count 19 3 1)
  · exact evt_count 19 3 1

theorem msixEnable_issue (v : Nat) : (d.issue v).evt.msixEnable = d.evt.msixEnable := by
  unfold Device.issue
  split
  · rfl
  · rw [Device.itemOut, evt_count]
    rfl

theorem msixEnable_vectorRise (v : Nat) : (d.vectorRise v).evt.msixEnable = d.evt.msixEnable := by
  unfold Device.vectorRise
  split
  · rfl
  extract_lets m
  split
  · exact msixEnable_issue d v
  · rfl

theorem msixEnable_setPending (s : Nat) : (d.setPending s).evt.msixEnable = d.evt.msixEnable := by
  unfold Device.setPending
  extract_lets d1 evt d2
  have h2 : d2.evt.msixEnable = d.evt.msixEnable := rfl
  split
  · rw [msixEnable_vectorRise, h2]
  · exact h2

theorem msixEnable_levelRise (s : Nat) (c : Bool) : (d.levelRise s c).evt.msixEnable = d.evt.msixEnable := by
  unfold Device.levelRise
  split
  · rw [msixEnable_setPending, evt_raised]
  · rfl

theorem msixEnable_settle : d.settle.evt.msixEnable = d.evt.msixEnable := by
  rw [settle_eq]
  exact List.foldlRecOn (motive := fun x : Device => x.evt.msixEnable = d.evt.msixEnable) levelSources _ rfl
    fun x hx s _ => (msixEnable_levelRise x s _).trans hx

end msix

/-! ## The release of islands (R436, R437, R441) -/

section release
variable {d : Device}

theorem withClock_good {k : Nat} {v : ClockView} {due : Device → Device} (hgood : d.clkGood k = true) (hholds : clockFalls k v = false) :
    d.withClock k v due = due d := by
  simp only [Device.withClock, hgood, hholds, Bool.and_false, Bool.false_eq_true, if_false, if_true]

theorem islandReleaseEffect_released {k : Nat} {v : ClockView} (hgood : d.clkGood k = true) (hholds : clockFalls k v = false)
    (hgroup : ∀ i ∈ d.releaseGroup k, d.clkGoodBefore i = true ∧ d.mayRelease i = true) :
    islandReleaseEffect k v d = d.each (d.releaseGroup k) Device.releaseIsland := by
  rw [islandReleaseEffect, withClock_good hgood hholds]
  exact if_pos (List.all_eq_true.2 fun i hi => Bool.and_eq_true_iff.2 (hgroup i hi))

/-- The PCIe island is released alone, and starts nothing. -/
theorem islandReleaseEffect_pcie {v : ClockView} (hgood : d.clkGood 21 = true) (hholds : clockFalls 21 v = false)
    (hbefore : d.clkGoodBefore 21 = true) (hmay : d.mayRelease 21 = true) : islandReleaseEffect 21 v d = d.setReleased 21 true := by
  have hgroup : d.releaseGroup 21 = [21] := if_neg (by rw [Bool.and_eq_true]; exact fun h => absurd h.2 (by decide))
  have hall : ∀ i ∈ d.releaseGroup 21, d.clkGoodBefore i = true ∧ d.mayRelease i = true := by
    rw [hgroup]
    exact fun i hi => List.mem_singleton.1 hi ▸ ⟨hbefore, hmay⟩
  rw [islandReleaseEffect_released hgood hholds hall, hgroup]
  rfl

theorem clkGoodFallEffect_island {k : Fin 22} {v : ClockView} {ol : OptionLoad} (hgood : d.clkGood k = true) (hfalls : clockFalls k v = true) :
    clkGoodFallEffect (some k) v ol d = if k.val < 19 then d.coreClockLost k ol else d.islandClockLost k := by
  simp only [clkGoodFallEffect, hgood, hfalls, Bool.not_true, Bool.or_self, Bool.false_eq_true, if_false]
  rfl

theorem clkGoodFallEffect_ref {v : ClockView} {ol : OptionLoad} (hany : (List.range 20).any d.clkGood = true) (hfails : refFails v = true) :
    clkGoodFallEffect none v ol d = d.coreClockLost 31 ol := by
  simp only [clkGoodFallEffect, hany, hfails, Bool.not_true, Bool.false_eq_true, if_false, if_true]
  rfl

theorem each_id {f : Device → Nat → Device} {l : List Nat} (hf : ∀ x i, i ∈ l → f x i = x) (d : Device) : d.each l f = d :=
  List.foldlRecOn (motive := fun x : Device => x = d) l f rfl fun x hx i hi => (hf x i hi).trans hx

/-- A loop over a list of numbers does what the one step does that acts. -/
theorem each_once {f : Device → Nat → Device} {k : Nat} (hf : ∀ x i, i ≠ k → f x i = x) {l : List Nat} (hl : l.Nodup) (hk : k ∈ l) (d : Device) :
    d.each l f = f d k := by
  induction l with
  | nil => cases hk
  | cons i l ih =>
    obtain ⟨hi, hl⟩ := List.nodup_cons.1 hl
    rw [each_cons]
    rcases List.mem_cons.1 hk with rfl | hmem
    · exact each_id (fun x j hj => hf x j fun h => hi (h ▸ hj)) _
    · rw [hf d i fun h => hi (h ▸ hmem)]
      exact ih hl hmem

/-- RST_RELEASE with the bit of a held island whose clock is good releases it. -/
theorem writeRstRelease_held {k : Nat} (hk : k < 18) (hrun : d.coresRun = true) (hreset : d.released k = false) (hgood : d.clkGoodBefore k = true)
    (hheld : d.rst.held.contains k = true) : writeRstRelease false (2 ^ k) d = d.releaseBlock k := by
  have hbit (i : Nat) : bitOf (2 ^ k) i = decide (k = i) := by
    rw [bitOf, ← Nat.testBit_two_pow, Nat.testBit_eq_decide_div_mod_eq]
    rfl
  have hrange : (if d.coresRun then List.range (if false then 4 else 18) else []) = List.range 18 := by rw [hrun]; rfl
  unfold writeRstRelease
  rw [hrange, each_once (k := k) (fun x i hi => ?_) List.nodup_range (List.mem_range.2 hk) d]
  · simp only [Bool.false_eq_true, if_false, Nat.zero_add, hbit, hreset, hgood, hheld, decide_true, Bool.not_true, Bool.or_self, if_true]
  · simp only [hbit, decide_eq_false (Ne.symm hi), Bool.not_false, Bool.true_or, if_true]

theorem writeRstBlock_accepted {v : Nat} (hrun : d.coresRun = true) (hgo : bitOf v 17 = true) (hfault : d.blockFault (v % 32) = none) :
    writeRstBlock v d = ((d.put fBlkIsland (v % 32)).put fBlkResult 0).holdIsland (v % 32) := by
  have hgo' : (d.coresRun && bitOf v 17) = true := by rw [hrun, hgo]; rfl
  rw [writeRstBlock, if_pos hgo', Device.requestBlock, hfault]

theorem blockResetReleaseEffect_ends {k : Nat} {rest : List Nat} {v : ClockView} (hblocks : d.rst.blocks = k :: rest) (hgood : d.clkGood k = true)
    (hholds : clockFalls k v = false) (hbefore : d.clkGoodBefore k = true) :
    blockResetReleaseEffect v d = if d.flag (fRstHold k) then
      { d with rst := { d.rst with blocks := d.rst.blocks.filter (fun x => x != k), held := d.rst.held ++ [k] } } else d.releaseBlock k := by
  rw [blockResetReleaseEffect, hblocks]
  dsimp only
  rw [withClock_good hgood hholds, Device.blockEnds, if_pos hbefore, hblocks]

end release

/-! ## PERST_L (R439, R440, R470) -/

section perst
variable (d : Device)

theorem reg_perstReset {off : Nat} (h : off / 0x100000 ≠ 3) : d.perstReset.reg off = d.reg off := by
  unfold Device.perstReset
  extract_lets offs d1 d2 ulp evt
  have hoffs : ∀ o ∈ offs, o / 0x100000 = 3 := by
    intro o ho
    obtain ⟨q, hq, ho⟩ := List.mem_flatMap.1 ho
    obtain ⟨i, hi, rfl⟩ := List.mem_map.1 ho
    have hq' := List.mem_range.1 hq
    have hi' := List.mem_range.1 hi
    unfold ULP_SQ_BASE
    omega
  clear_value offs
  have h1 : d1.reg off = d.reg off :=
    List.foldlRecOn (motive := fun x : Device => x.reg off = d.reg off) offs _ rfl fun x hx o ho =>
      (reg_setReg_ne x 0 fun heq => h (by rw [heq]; exact hoffs o ho)).trans hx
  clear_value d1
  rw [← h1, Device.reg, Device.reg]

theorem rst_perstReset : d.perstReset.rst = d.rst := by
  unfold Device.perstReset
  extract_lets offs d1 d2 ulp evt
  clear_value offs
  have h1 : d1.rst = d.rst := rst_each d (fun x o => setReg_rst x o 0) offs
  clear_value d1
  exact h1

theorem flag_perstReset {f : Fld} (h : f.off / 0x100000 ≠ 3) : d.perstReset.flag f = d.flag f := flag_of_reg (reg_perstReset d h)

theorem waiting_perstReset : d.perstReset.ulp.waiting = [] := rfl

theorem msixEnable_perstReset : d.perstReset.evt.msixEnable = false := rfl

theorem perstLEffect_eq : ∃ x : Device, perstLEffect d = x.perstReset ∧ x.rst.perstLow = true ∧
    x.flag (bitAt RST_CAUSE 12) = true ∧ x.flag (islandBit RST_RELEASED 21) = false := by
  unfold perstLEffect
  extract_lets rst1 d1
  have hlow : d1.rst.perstLow = true := rfl
  clear_value d1
  refine ⟨_, rfl, ?_, ?_, ?_⟩
  · rw [Device.setReleased, putFlag_rst, putFlag_rst, hlow]
  · exact (flag_of_reg (reg_put_ne _ _ (by decide))).trans (flag_putFlag_bit_same d1 true (by decide))
  · exact flag_putFlag_bit_same _ false (by decide)

end perst

/-! ## The end of start-up, and the control pairs (R454, R500 to R503) -/

section pairs
variable {d : Device}

theorem startUpCompleteEffect_ends {d1 d2 : Device} {us : List TestUnit} {ms : Nat}
    (hboot : (d.inBoot && !d.rst.loading && d.loadOk && d.released 13 && !d.rst.resetLow) = true) (hphase : d.get fBootPhase = 6)
    (hlanes : d.lanesTraining = false) (hd1 : d1 = (d.each us Device.failTest).assignLanes) (hd2 : d2 = d1.setReg RST_READY_TIME (min ms 262143)) :
    startUpCompleteEffect us ms d = (((d2.put fBootPhase 7).setState 2).raise 8).takeDeferred := by
  subst hd2 hd1
  have hguard : (!(d.inBoot && !d.rst.loading && d.loadOk && d.released 13 && !d.rst.resetLow && d.get fBootPhase == 6 && !d.lanesTraining)) = false := by
    rw [hboot, hphase, hlanes]
    rfl
  exact if_neg (ne_true_of_eq_false hguard)

theorem retestCompleteEffect_passed {p : Nat} (hpair : d.get (fPairState p) = 2) (hfirst : d.rst.retested.contains p = false) :
    retestCompleteEffect p true d = { d with rst := { d.rst with retested := d.rst.retested ++ [p] } } := by
  have hguard : (d.get (fPairState p) != pairRETESTING || d.rst.retested.contains p) = false := by
    rw [hpair, hfirst]
    rfl
  rw [retestCompleteEffect, if_neg (ne_true_of_eq_false hguard), if_pos rfl]

theorem standbyLoadDoneEffect_loaded {p : Nat} (hpair : d.get (fPairState p) = 2) (hretested : d.rst.retested.contains p = true) :
    standbyLoadDoneEffect p true d =
      ((({ d with rst := { d.rst with retested := d.rst.retested.filter (fun x => x != p) } } : Device).put (fPairState p) 1).raise 26).recovered 0x0B p := by
  have hguard : (d.get (fPairState p) != pairRETESTING || !d.rst.retested.contains p) = false := by
    rw [hpair, hretested]
    rfl
  rw [standbyLoadDoneEffect, if_neg (ne_true_of_eq_false hguard), if_pos rfl]
  rfl

end pairs

/-- Settles O9: each command takes its branch; PERST_L writes RST_CAUSE, RST_RELEASED and the queues, and settling leaves what it has reset. -/
theorem islandsAreReleasedAndReset : Obligations.IslandsAreReleasedAndReset := by
  refine ⟨?release, ?perst, ?perstRise, ?fall, ?ref, ?held, ?block, ?ends⟩
  case release =>
    intro s d k v h hgood hholds hgroup
    rw [exec_islandRelease, run_finds h, islandReleaseEffect_released hgood hholds hgroup]
  case perst =>
    intro s d h
    have hexec := (exec_perstL s).trans (run_finds h _)
    obtain ⟨x, heffect, hlow, hcause, hreleased⟩ := perstLEffect_eq d
    rw [heffect] at hexec
    refine ⟨_, hexec, ?_, ?_, ?_, ?_, ?_⟩ <;> rw [gives_dev]
    · rw [settle_rst, rst_perstReset, hlow]
    · rw [flag_settle _ ⟨by decide, by decide⟩, flag_perstReset x (by decide), hcause]
    · rw [Device.released, flag_settle _ ⟨by decide, by decide⟩, flag_perstReset x (by decide), hreleased]
    · rw [settle_ulp, waiting_perstReset]
    · rw [msixEnable_settle, msixEnable_perstReset]
  case perstRise =>
    intro s d d1 v h hd1 hgood hholds hbefore hmay
    subst hd1
    rw [exec_perstLRelease, run_finds h, perstLReleaseEffect, islandReleaseEffect_pcie hgood hholds hbefore hmay]
  case fall =>
    intro s d k v ol h hgood hfalls
    rw [exec_clkGoodFall, run_finds h, clkGoodFallEffect_island hgood hfalls]
  case ref =>
    intro s d v ol h hany hfails
    rw [exec_clkGoodFall, run_finds h, clkGoodFallEffect_ref hany hfails]
  case held =>
    intro s d k h hrun hreset hgood hheld
    have hvalue : (BitVec.ofNat 18 (2 ^ k.val)).toNat = 2 ^ k.val := by
      rw [BitVec.toNat_ofNat]
      exact Nat.mod_eq_of_lt (Nat.pow_lt_pow_right (by decide) k.isLt)
    rw [exec_rstRelease, run_finds h, hvalue, writeRstRelease_held k.isLt hrun hreset hgood hheld]
  case block =>
    intro s d v h hrun hgo hfault
    rw [exec_rstBlock, run_finds h, writeRstBlock_accepted hrun hgo hfault]
  case ends =>
    intro s d k rest v h hblocks hgood hholds hbefore
    rw [exec_blockResetRelease, run_finds h, blockResetReleaseEffect_ends hblocks hgood hholds hbefore]

/-- Settles O10: each command takes its branch. -/
theorem startUpAndControlPairsComplete : Obligations.StartUpAndControlPairsComplete := by
  refine ⟨?start, ?errors, ?takeover, ?retest, ?standby⟩
  case start =>
    intro s d d1 d2 us ms h hboot hphase hlanes hd1 hd2
    rw [exec_startUpComplete, run_finds h, startUpCompleteEffect_ends hboot hphase hlanes hd1 hd2]
  case errors =>
    intro s d p ol h hrun
    refine ⟨?_, ?_⟩
    · rw [exec_lockstepMismatch, run_finds h, if_pos hrun]
    · rw [exec_watchdogExpiry, run_finds h, if_pos hrun]
  case takeover =>
    intro s d h
    refine ⟨_, (exec_takeoverComplete s).trans (run_finds h _), ?_, ?_⟩ <;> rw [gives_dev, settle_ulp]
  case retest =>
    intro s d p h hpair hfirst
    have hexec := (exec_retestComplete p true s).trans (run_finds h _)
    rw [retestCompleteEffect_passed hpair hfirst] at hexec
    refine ⟨_, hexec, ?_⟩
    rw [gives_dev, settle_rst]
  case standby =>
    intro s d p h hpair hretested
    rw [exec_standbyLoadDone, run_finds h, standbyLoadDoneEffect_loaded hpair hretested]

end Sys2Proof.Machine
end

section
/-! PROOFS: power-good, loss of power, RESET_L and the software reset, with option load (13_clocks_reset_and_start.md, R439, R440, R443, R444, R552). -/
namespace Sys2Proof.Machine

theorem exec_resetL (lowSamples : Nat) (s : State) : exec (.resetL lowSamples) s = s.run (resetLEffect lowSamples) := rfl

theorem exec_resetLRelease (rise : ResetRise) (s : State) :
    exec (.resetLRelease rise) s = s.run (resetLReleaseEffect rise.samples rise.load) := rfl

theorem exec_rstSoft (value : Word) (ol : OptionLoad) (s : State) :
    exec (.rstSoft value ol) s = s.run (writeRstSoft value.toNat ol) := rfl

theorem exec_inputOutOfRange (v : SupplyView) (s : State) : exec (.inputOutOfRange v) s = s.run (inputOutOfRangeEffect v) := rfl

/-! ## What option load leaves (R444 to R449) -/

/-- What a reset clears, with the two marks of a reset under way. -/
structure BootView where
  powered : Bool
  dram : List (Nat × Word)
  laidOut : List (Nat × Nat × Nat)
  job : Option Job
  ulp : UlpState
  flash : Bool
  loading : Bool
  resetLow : Bool

def Device.bootView (d : Device) : BootView := ⟨d.powered, d.dram, d.laidOut, d.job, d.ulp, d.fls.flash, d.rst.loading, d.rst.resetLow⟩

section bootView
variable (d : Device)

theorem bootView_setReg (off v : Nat) : (d.setReg off v).bootView = d.bootView := rfl
theorem bootView_put (f : Fld) (v : Nat) : (d.put f v).bootView = d.bootView := rfl
theorem bootView_putFlag (f : Fld) (b : Bool) : (d.putFlag f b).bootView = d.bootView := rfl
theorem bootView_put36 (off v : Nat) : (d.put36 off v).bootView = d.bootView := rfl
theorem bootView_setState (n : Nat) : (d.setState n).bootView = d.bootView := rfl
theorem bootView_setReleased (k : Nat) (b : Bool) : (d.setReleased k b).bootView = d.bootView := rfl
theorem bootView_withPool (p : PoolState) : ({ d with pool := p } : Device).bootView = d.bootView := rfl
theorem bootView_withRil (r : RilState) : ({ d with ril := r } : Device).bootView = d.bootView := rfl
theorem bootView_mapPp (f : PassportState → PassportState) : (d.mapPp f).bootView = d.bootView := rfl
theorem bootView_captureDword (off v : Nat) : (d.captureDword off v).bootView = d.bootView := rfl

theorem bootView_raise {n : Nat} (hn : n < 256) : (d.raise n).bootView = d.bootView :=
  (congrArg Device.bootView (raisesOnly_raise d n hn).1).trans rfl

/-- A change of the reset state that keeps the two marks. -/
theorem bootView_withRst {r : RstState} (hloading : r.loading = d.rst.loading) (hlow : r.resetLow = d.rst.resetLow) :
    ({ d with rst := r } : Device).bootView = d.bootView := by
  rw [Device.bootView, Device.bootView, ← hloading, ← hlow]

theorem bootView_each {α : Type} {f : Device → α → Device} {l : List α} (hf : ∀ x a, (f x a).bootView = x.bootView) :
    (d.each l f).bootView = d.bootView :=
  each_keeps (fun x => x.bootView = d.bootView) f (fun x a hx => (hf x a).trans hx) l d rfl

theorem bootView_setRegs (off : Nat) (vs : List Nat) : (d.setRegs off vs).bootView = d.bootView := by
  induction vs generalizing off d with
  | nil => rfl
  | cons v rest ih => exact (ih (d.setReg off v) (off + 4)).trans (bootView_setReg d off v)

theorem bootView_resetDword (off v : Nat) : (d.resetDword off v).bootView = d.bootView := by
  unfold Device.resetDword
  split
  · exact (bootView_captureDword _ off v).trans (bootView_setReg d off v)
  · exact bootView_setReg d off v

theorem bootView_resetDwords (off : Nat) (vs : List Nat) : (d.resetDwords off vs).bootView = d.bootView := by
  induction vs generalizing off d with
  | nil => rfl
  | cons v rest ih => exact (ih (d.resetDword off v) (off + 4)).trans (bootView_resetDword d off v)

theorem bootView_tearSlot (i : Nat) : (d.tearSlot i).bootView = d.bootView := by
  unfold Device.tearSlot
  split
  · rfl
  · exact bootView_withRst d rfl rfl

theorem bootView_enforceSlots : d.enforceSlots.bootView = d.bootView := by
  unfold Device.enforceSlots
  extract_lets col anchor d1 d2
  have h1 : d1.bootView = d.bootView := bootView_put d _ col
  clear_value d1
  have h2 : d2.bootView = d.bootView := (bootView_resetDwords d1 _ _).trans h1
  clear_value d2
  exact (bootView_withRst d2 rfl rfl).trans h2

theorem bootView_fusedMacs : d.fusedMacs.bootView = d.bootView :=
  bootView_each d fun x _ => bootView_resetDwords x _ _

theorem bootView_seeClock (k : Nat) (v : ClockView) : (d.seeClock k v).bootView = d.bootView := by
  unfold Device.seeClock
  split
  · exact (bootView_putFlag _ _ true).trans (bootView_withRst d rfl rfl)
  · rfl

theorem bootView_showChannels : d.showChannels.bootView = d.bootView := by
  unfold Device.showChannels
  refine bootView_each d fun x c => ?_
  exact (bootView_put _ _ _).trans ((bootView_putFlag _ _ _).trans (bootView_putFlag _ _ _))

theorem bootView_restoreItem (it : JItem × List Nat) : (d.restoreItem it).bootView = d.bootView := by
  unfold Device.restoreItem
  split
  case h_1 => exact bootView_resetDword d _ _
  case h_2 =>
    split
    · rfl
    · exact (bootView_putFlag _ _ true).trans (bootView_mapPp d _)
  case h_3 =>
    split
    · rfl
    split
    · extract_lets d1
      have h1 : d1.bootView = d.bootView := (bootView_putFlag _ _ true).trans (bootView_setRegs d _ _)
      clear_value d1
      exact (bootView_put36 _ _ _).trans ((bootView_put d1 _ _).trans h1)
    · rfl
  case h_4 => rfl

theorem bootView_foldl {α : Type} {f : Device → α → Device} (hf : ∀ x a, (f x a).bootView = x.bootView) (l : List α) :
    (l.foldl f d).bootView = d.bootView := bootView_each d hf

theorem bootView_restore (va vb : Option Nat) : (d.restore va vb).bootView = d.bootView := by
  unfold Device.restore
  extract_lets a b ea eb d1 finish fresh useA c rebuilt a' b' d2
  have h1 : d1.bootView = d.bootView := (bootView_putFlag _ _ _).trans (bootView_putFlag d _ _)
  have hfinish : ∀ x a b items seq, (finish x a b items seq).bootView = x.bootView := by
    intro x a b items seq
    unfold finish
    extract_lets r1 x1 x2 x3
    have hx1 : x1.bootView = x.bootView := bootView_withRst x rfl rfl
    have hx2 : x2.bootView = x.bootView := ((bootView_setReg _ _ _).trans (bootView_put36 x1 _ _)).trans hx1
    clear_value x1
    have hx3 : x3.bootView = x.bootView := ((bootView_putFlag _ _ _).trans (bootView_putFlag x2 _ _)).trans hx2
    clear_value x2 x3
    exact ((bootView_showChannels _).trans (bootView_foldl x3 bootView_restoreItem _)).trans hx3
  have h2 : d2.bootView = d.bootView := (hfinish d1 a' b' c.items c.lastSeq).trans h1
  clear_value d2 a' b' rebuilt c useA fresh finish d1 a b ea eb
  split
  · exact ((bootView_raise _ (by decide)).trans (bootView_putFlag _ _ _)).trans ((hfinish d1 _ _ _ _).trans h1)
  · split
    · exact ((bootView_raise _ (by decide)).trans (bootView_putFlag d2 _ _)).trans h2
    · exact h2

theorem bootView_loadFirmware (ol : OptionLoad) : (d.loadFirmware ol).bootView = d.bootView := by
  unfold Device.loadFirmware
  extract_lets r1 d1 d2
  have h0 : ({ d with rst := { r1 with wait := none } } : Device).bootView = d.bootView := rfl
  have h1 : d1.bootView = d.bootView := (bootView_put _ _ _).trans ((bootView_setReleased _ _ _).trans h0)
  clear_value d1
  have h2 : d2.bootView = d.bootView := ((bootView_setReg _ _ _).trans (bootView_setReg d1 _ _)).trans h1
  clear_value d2
  split
  · exact (bootView_putFlag d1 _ _).trans h1
  · exact ((bootView_restore _ _ _).trans (bootView_put d2 _ _)).trans h2

theorem bootView_stepTwo : d.stepTwo.bootView = d.bootView := by
  unfold Device.stepTwo
  split
  · split
    · exact bootView_loadFirmware d _
    · rfl
  · rfl

/-- Option load keeps what a reset has cleared, and marks itself as under way. -/
theorem bootView_optionLoad (ol : OptionLoad) : (d.optionLoad ol).bootView = { d.bootView with loading := true } := by
  unfold Device.optionLoad
  extract_lets r1 d1 d2 d3 r2 d4
  have h1 : d1.bootView = { d.bootView with loading := true } := rfl
  clear_value d1
  have h2 : d2.bootView = { d.bootView with loading := true } := ((bootView_put _ _ _).trans ((bootView_put _ _ _).trans (bootView_setState d1 _))).trans h1
  clear_value d2
  have htorn : (ol.tornSlot.elim d2 (fun i => d2.tearSlot i)).bootView = d2.bootView := by
    cases ol.tornSlot with
    | none => rfl
    | some i => exact bootView_tearSlot d2 i
  have h3 : d3.bootView = { d.bootView with loading := true } :=
    ((bootView_put _ _ _).trans ((bootView_fusedMacs _).trans (bootView_enforceSlots _))).trans (htorn.trans h2)
  clear_value d3
  have h4 : d4.bootView = { d.bootView with loading := true } := (bootView_withRst d3 rfl rfl).trans h3
  clear_value d4
  split
  · exact (bootView_putFlag d2 _ _).trans h2
  · have h5 : (d4.each ol.clocks (fun d x => d.seeClock x.1 x.2)).bootView = d4.bootView :=
      bootView_each d4 fun x a => bootView_seeClock x a.1 a.2
    exact (bootView_stepTwo _).trans (h5.trans h4)

theorem bootView_keep (was : Device) (offs : List Nat) : (was.keep d offs).bootView = d.bootView :=
  bootView_each d fun x off => bootView_setReg x off (was.reg off)

theorem bootView_keepPool (was : Device) : (was.keepPool d).bootView = d.bootView := by
  unfold Device.keepPool
  extract_lets d1 d2 p1
  have h1 : d1.bootView = d.bootView := bootView_keep d was _
  clear_value d1
  have h2 : d2.bootView = d1.bootView := bootView_each d1 fun x _ => bootView_putFlag x _ _
  clear_value d2
  exact (bootView_withPool d2 _).trans (h2.trans h1)

theorem bootView_keepRill (was : Device) : (was.keepRill d).bootView = d.bootView := by
  unfold Device.keepRill
  extract_lets d1 r1
  have h1 : d1.bootView = d.bootView := bootView_keep d was _
  clear_value d1
  exact (bootView_withRil d1 _).trans h1

theorem bootView_when {c : Bool} {f : Device → Device} (hf : (f d).bootView = d.bootView) : (d.when c f).bootView = d.bootView := by
  cases c
  · rfl
  · exact hf

theorem bootView_keepActive (was : Device) : (was.keepActive d).bootView = d.bootView := by
  unfold Device.keepActive
  extract_lets d1 d2
  have h1 : d1.bootView = d.bootView := bootView_when d (bootView_keepPool d was)
  clear_value d1
  have h2 : d2.bootView = d.bootView := (bootView_when d1 (bootView_keepRill d1 was)).trans h1
  clear_value d2
  exact (bootView_when d2 (bootView_keep d2 was _)).trans h2

theorem bootView_afterReset : d.afterReset.bootView = ⟨d.powered, [], [], none, {}, false, false, d.rst.resetLow⟩ := rfl

/-- A module reset loses the DRAM, the job and the commands in flight (R440). -/
theorem bootView_moduleReset (cause : Nat) :
    (d.moduleReset cause).bootView = ⟨d.journalCut.powered, [], [], none, {}, false, false, d.journalCut.rst.resetLow⟩ := by
  unfold Device.moduleReset
  exact ((bootView_putFlag _ _ true).trans (bootView_keepActive _ _)).trans (bootView_afterReset d.journalCut)

end bootView

/-! ## The journal that a reset cuts short (R448, R456) -/

/-- `d'` has the tables and the fuse slots of `d`, and its registers outside the event, counter and reset blocks. -/
def Device.journalOnly (d d' : Device) : Prop :=
  d'.pool = d.pool ∧ d'.ril = d.ril ∧ d'.rst.slots = d.rst.slots ∧ ∀ off, quietReg off → off / 0x100000 ≠ 1 → d'.reg off = d.reg off

section journal
variable (d : Device)

theorem journalOnly_refl : d.journalOnly d := ⟨rfl, rfl, rfl, fun _ _ _ => rfl⟩

theorem journalOnly_trans {a b c : Device} (h1 : a.journalOnly b) (h2 : b.journalOnly c) : a.journalOnly c := by
  obtain ⟨p1, l1, s1, r1⟩ := h1
  obtain ⟨p2, l2, s2, r2⟩ := h2
  exact ⟨p2.trans p1, l2.trans l1, s2.trans s1, fun off hq hb => (r2 off hq hb).trans (r1 off hq hb)⟩

theorem journalOnly_setReg {off : Nat} (v : Nat) (h : off / 0x100000 = 1) : d.journalOnly (d.setReg off v) :=
  ⟨rfl, rfl, rfl, fun _ _ hb => reg_setReg_ne d v fun heq => hb (by rw [heq, h])⟩

theorem journalOnly_put36 {off : Nat} (v : Nat) (h : off / 0x100000 = 1) (h' : (off + 4) / 0x100000 = 1) : d.journalOnly (d.put36 off v) :=
  journalOnly_trans (journalOnly_setReg d _ h) (journalOnly_setReg _ _ h')

theorem journalOnly_raise {n : Nat} (hn : n < 256) : d.journalOnly (d.raise n) := by
  have h := raisesOnly_raise d n hn
  exact ⟨(congrArg Device.pool h.1).trans rfl, (congrArg Device.ril h.1).trans rfl, (congrArg (fun x : Device => x.rst.slots) h.1).trans rfl, fun off hq _ => raisesOnly_reg h hq⟩

theorem journalOnly_showJournal : d.journalOnly d.showJournal := by
  unfold Device.showJournal
  extract_lets before d1
  have h1 : d.journalOnly d1 := journalOnly_trans (journalOnly_setReg d _ (by decide)) (journalOnly_setReg _ _ (by decide))
  clear_value d1 before
  have h2 : d.journalOnly (d1.setReg RST_JOURNAL_ERASES d1.eraseCount) := journalOnly_trans h1 (journalOnly_setReg d1 _ (by decide))
  unfold Device.when
  split
  · exact journalOnly_trans h2 (journalOnly_raise _ (by decide))
  · exact h2

theorem journalOnly_journalStep : d.journalOnly d.journalStep := by
  unfold Device.journalStep
  split
  · exact journalOnly_refl d
  · split
    · refine journalOnly_trans ?_ (journalOnly_showJournal _)
      exact ⟨rfl, rfl, rfl, fun _ _ _ => rfl⟩
    · refine journalOnly_trans (journalOnly_trans ?_ (journalOnly_showJournal _)) (journalOnly_put36 _ _ (by decide) (by decide))
      exact ⟨rfl, rfl, rfl, fun _ _ _ => rfl⟩

theorem journalOnly_repeat (n : Nat) : d.journalOnly (Nat.repeat Device.journalStep n d) := by
  induction n with
  | zero => exact journalOnly_refl d
  | succ n ih => exact journalOnly_trans ih (journalOnly_journalStep _)

theorem journalOnly_journalCut : d.journalOnly d.journalCut := by
  unfold Device.journalCut
  split
  · exact journalOnly_refl d
  · exact journalOnly_trans (journalOnly_repeat d _) ⟨rfl, rfl, rfl, fun _ _ _ => rfl⟩

/-- With no record waiting nothing is cut short. -/
theorem journalCut_of_nil (h : d.rst.jqueue = []) : d.journalCut = d := by
  rw [Device.journalCut, h]
  exact if_pos rfl

end journal

/-! ## The registers after a module reset (R440) -/

section afterReset
variable (d was : Device)

theorem cellFind_filter_ne {α : Type} (l : List (Nat × α)) {k off : Nat} (h : off ≠ k) : cellFind (l.filter (fun p => p.1 == k)) off = none := by
  induction l with
  | nil => rfl
  | cons p rest ih =>
    obtain ⟨k', v⟩ := p
    by_cases hk : k' = k
    · rw [List.filter_cons_of_pos (by rw [hk]; exact beq_self_eq_true k), cellFind, if_neg (by rw [hk]; exact Ne.symm h), ih]
    · rw [List.filter_cons_of_neg (by rw [beq_eq_false_iff_ne.2 hk]; decide), ih]

theorem reg_afterReset {off : Nat} (h : off ≠ RST_CAUSE) : d.afterReset.reg off = regReset off % 262144 := by
  have hregs : d.afterReset.regs = d.regs.filter (fun p => p.1 == RST_CAUSE) := rfl
  rw [Device.reg, hregs, cellFind_filter_ne _ h]
  exact BitVec.toNat_ofNat _ _

theorem reg_keep_apart {offs : List Nat} {off : Nat} (h : off ∉ offs) : (was.keep d offs).reg off = d.reg off :=
  List.foldlRecOn (motive := fun x : Device => x.reg off = d.reg off) offs _ rfl fun x hx o ho =>
    (reg_setReg_ne x _ fun heq => h (by rw [heq]; exact ho)).trans hx

theorem reg_mod (x : Device) (off : Nat) : x.reg off % 2 ^ 18 = x.reg off := Nat.mod_eq_of_lt (BitVec.isLt _)

theorem reg_keep_mem {offs : List Nat} {off : Nat} (h : off ∈ offs) : (was.keep d offs).reg off = was.reg off := by
  induction offs generalizing d with
  | nil => exact absurd h List.not_mem_nil
  | cons o rest ih =>
    by_cases hrest : off ∈ rest
    · exact ih (d.setReg o (was.reg o)) hrest
    · obtain rfl := (List.mem_cons.1 h).resolve_right hrest
      exact (reg_keep_apart (d.setReg off (was.reg off)) was hrest).trans ((reg_setReg_same d off _).trans (reg_mod was off))

theorem POOL_DFT_ACT_range {i : Nat} (h : i < 1024) : 0x80A000 ≤ POOL_DFT_ACT i ∧ POOL_DFT_ACT i < 0x80B000 := by
  unfold POOL_DFT_ACT
  omega

theorem POOL_CLASS_ACT_range {i : Nat} (h : i < 64) : 0x809000 ≤ POOL_CLASS_ACT i ∧ POOL_CLASS_ACT i + 4 < 0x80A000 := by
  unfold POOL_CLASS_ACT
  omega

theorem POOL_LAYER_ACT_range {i : Nat} (h : i < 256) : 0x80B000 ≤ POOL_LAYER_ACT i := by
  unfold POOL_LAYER_ACT
  omega

/-- The registers of the active pool tables that a reset keeps. -/
def poolActive : List Nat := (List.range 64).map POOL_CLASS_ACT ++ (List.range 1024).map POOL_DFT_ACT ++ (List.range 256).map POOL_LAYER_ACT

theorem poolActive_range {off : Nat} (h : off ∈ poolActive) : 0x809000 ≤ off := by
  unfold poolActive at h
  rcases List.mem_append.1 h with h | h
  · rcases List.mem_append.1 h with h | h
    · obtain ⟨i, hi, rfl⟩ := List.mem_map.1 h
      exact (POOL_CLASS_ACT_range (List.mem_range.1 hi)).1
    · obtain ⟨i, hi, rfl⟩ := List.mem_map.1 h
      exact le_trans (by omega) (POOL_DFT_ACT_range (List.mem_range.1 hi)).1
  · obtain ⟨i, hi, rfl⟩ := List.mem_map.1 h
    exact le_trans (by omega) (POOL_LAYER_ACT_range (List.mem_range.1 hi))

theorem POOL_DFT_ACT_mem {i : Nat} (h : i < 1024) : POOL_DFT_ACT i ∈ poolActive :=
  List.mem_append_left _ (List.mem_append_right _ (List.mem_map_of_mem (List.mem_range.2 h)))

/-- The reading flags of the classes lie above the registers that a reset keeps whole. -/
theorem reg_keepPool {off : Nat} (h : off < 0x809000 ∨ 0x80A000 ≤ off) : (was.keepPool d).reg off = (was.keep d poolActive).reg off := by
  unfold Device.keepPool
  extract_lets d1 d2 p1
  have hd1 : d1 = was.keep d poolActive := rfl
  clear_value d1
  have h2 : d2.reg off = d1.reg off := List.foldlRecOn (motive := fun x : Device => x.reg off = d1.reg off) _ _ rfl fun x hx c hc => by
    have hc' := POOL_CLASS_ACT_range (List.mem_range.1 hc)
    exact (reg_put_ne (f := bitAt (POOL_CLASS_ACT c + 4) 8) x _ (by show off ≠ POOL_CLASS_ACT c + 4; omega)).trans hx
  clear_value d2
  rw [← hd1, ← h2, Device.reg, Device.reg]

theorem doseMax_withPool (p : PoolState) : ({ d with pool := p } : Device).pool.doseMax = p.doseMax := rfl

theorem pool_withRil (r : RilState) : ({ d with ril := r } : Device).pool = d.pool := rfl

theorem pool_keepPool : (was.keepPool d).pool.doseMax = was.pool.doseMax := by
  unfold Device.keepPool
  extract_lets d1 d2 p1
  clear_value p1 d2 d1
  exact doseMax_withPool d2 _

theorem pool_keep (offs : List Nat) : (was.keep d offs).pool = d.pool :=
  each_keeps (fun x => x.pool = d.pool) (fun x off => x.setReg off (was.reg off)) (fun _ _ hx => hx) offs d rfl

/-- The registers of the active rill tables that a reset keeps. -/
def rillActive : List Nat := RIL_CODE_SCALE_ACT :: (List.range 2).map RIL_OFFS_ACT ++ (List.range 2048).map RIL_MASK_ACT

theorem rillActive_block {off : Nat} (h : off ∈ rillActive) : off / 0x100000 = 9 := by
  unfold rillActive at h
  rcases List.mem_append.1 h with h | h
  · rcases List.mem_cons.1 h with rfl | h
    · rfl
    · obtain ⟨i, hi, rfl⟩ := List.mem_map.1 h
      have hi' := List.mem_range.1 hi
      unfold RIL_OFFS_ACT
      omega
  · obtain ⟨i, hi, rfl⟩ := List.mem_map.1 h
    have hi' := List.mem_range.1 hi
    unfold RIL_MASK_ACT
    omega

theorem keepRill_eq : was.keepRill d = { was.keep d rillActive with ril := { (was.keep d rillActive).ril with active := was.ril.active } } := by
  unfold Device.keepRill rillActive
  rfl

theorem pool_keepRill : (was.keepRill d).pool = d.pool := by
  rw [keepRill_eq]
  exact (pool_withRil _ _).trans (pool_keep d was rillActive)

theorem reg_withRil (r : RilState) (off : Nat) : ({ d with ril := r } : Device).reg off = d.reg off := rfl

theorem reg_keepRill {off : Nat} (h : off / 0x100000 ≠ 9) : (was.keepRill d).reg off = d.reg off := by
  rw [keepRill_eq]
  exact (reg_withRil _ _ off).trans (reg_keep_apart d was fun hmem => h (rillActive_block hmem))

theorem reg_keepDelays {off : Nat} (h : off / 0x100000 ≠ 12) : (was.keep d ((List.range 2).map FLS_DELAY_ACT)).reg off = d.reg off := by
  refine reg_keep_apart d was fun hmem => h ?_
  obtain ⟨i, hi, rfl⟩ := List.mem_map.1 hmem
  have hi' := List.mem_range.1 hi
  unfold FLS_DELAY_ACT
  omega

/-- With no commit pending and no rill check under way, no active copy is kept. -/
theorem keepActive_none (hpool : ∀ t, t < 4 → was.flag (fPoolPending t) = false) (hrill : ∀ t, t < 4 → was.flag (fRilPending t) = false)
    (hcheck : was.ril.check = none) (hfls : was.flag fFlsPending = false) : was.keepActive d = d := by
  have hany : ∀ f : Nat → Fld, (∀ t, t < 4 → was.flag (f t) = false) → (List.range 4).any (fun t => was.flag (f t)) = false := fun f hf =>
    List.any_eq_false.2 fun t ht => by rw [hf t (List.mem_range.1 ht)]; decide
  unfold Device.keepActive
  rw [hany fPoolPending hpool, hany fRilPending hrill, hcheck, hfls]
  rfl

/-- With a pool commit pending, the pool tables are kept, and nothing else of the pool. -/
theorem keepActive_pool {k : Nat} (hk : k < 4) (hpending : was.flag (fPoolPending k) = true) :
    (was.keepActive d).pool.doseMax = was.pool.doseMax ∧
      ∀ off, off / 0x100000 = 8 → (was.keepActive d).reg off = (was.keepPool d).reg off := by
  unfold Device.keepActive
  rw [List.any_eq_true.2 ⟨k, List.mem_range.2 hk, hpending⟩]
  extract_lets d1 d2
  have h1 : d1 = was.keepPool d := rfl
  have hdose : d1.pool.doseMax = was.pool.doseMax := pool_keepPool d was
  clear_value d1
  have h2 : d2.pool = d1.pool ∧ ∀ off, off / 0x100000 = 8 → d2.reg off = d1.reg off := by
    unfold d2 Device.when
    split
    · exact ⟨pool_keepRill d1 was, fun off hoff => reg_keepRill d1 was (by omega)⟩
    · exact ⟨rfl, fun _ _ => rfl⟩
  obtain ⟨hpool2, hreg2⟩ := h2
  clear_value d2
  rw [← h1]
  unfold Device.when
  split
  · exact ⟨by rw [pool_keep, hpool2, hdose], fun off hoff => (reg_keepDelays d2 was (by omega)).trans (hreg2 off hoff)⟩
  · exact ⟨by rw [hpool2, hdose], hreg2⟩

end afterReset

/-! ## The module reset (R439, R440) -/

section moduleReset
variable (d : Device)

theorem flash_gated {d : Device} (h : d.fls.flash = false) : ({ d.fls with flash := d.fls.flash && !d.strobeGated } : FlsState).flash = false := by
  rw [h, Bool.false_and]

theorem flag_of_low_zero {off t : Nat} (h : d.get { off := off, lo := 0, w := 4 } = 0) (ht : t < 4) : d.flag (bitAt off t) = false := by
  have hbits : bits (d.reg off) t 1 = 0 := by
    have h0 : bits (d.reg off) 0 4 = 0 := h
    unfold bits at h0 ⊢
    interval_cases t <;> omega
  rw [Device.flag, Device.get]
  show (bits (d.reg off) t 1 == 1) = false
  rw [hbits]
  rfl

theorem flag_journalCut {f : Fld} (hq : quietReg f.off) (hb : f.off / 0x100000 ≠ 1) : d.journalCut.flag f = d.flag f :=
  flag_of_reg ((journalOnly_journalCut d).2.2.2 f.off hq hb)

theorem flag_journalCut_bit {off i : Nat} (hq : quietReg off) (hb : off / 0x100000 ≠ 1) : d.journalCut.flag (bitAt off i) = d.flag (bitAt off i) :=
  flag_journalCut d (f := bitAt off i) hq hb

theorem flag_journalCut_pool (t : Nat) : d.journalCut.flag (fPoolPending t) = d.flag (fPoolPending t) :=
  flag_journalCut_bit d ⟨by decide, by decide⟩ (by decide)

theorem flag_journalCut_rill (t : Nat) : d.journalCut.flag (fRilPending t) = d.flag (fRilPending t) :=
  flag_journalCut_bit d ⟨by decide, by decide⟩ (by decide)

theorem regReset_poolCommitStatus : regReset POOL_COMMIT_STATUS = 0 := by decide +kernel

theorem pool_moduleReset (cause : Nat) : (d.moduleReset cause).pool = (d.journalCut.keepActive d.journalCut.afterReset).pool := put_pool _ _ _

theorem reg_withRst (r : RstState) (off : Nat) : ({ d with rst := r } : Device).reg off = d.reg off := rfl

theorem flag_withRst (r : RstState) (f : Fld) : ({ d with rst := r } : Device).flag f = d.flag f := rfl

theorem reg_moduleReset {off cause : Nat} (h : off ≠ RST_CAUSE) : (d.moduleReset cause).reg off = (d.journalCut.keepActive d.journalCut.afterReset).reg off :=
  reg_put_ne _ _ h

theorem resetLEffect_taken {n : Nat} (h : 150 ≤ n) :
    resetLEffect n d = { d.moduleReset rcPIN with rst := { (d.moduleReset rcPIN).rst with resetLow := true, softMet := d.softTaken } } :=
  if_neg (Nat.not_lt.2 h)

theorem resetLReleaseEffect_taken {n : Nat} (ol : OptionLoad) (hlow : d.rst.resetLow = true) (h : 150 ≤ n) :
    resetLReleaseEffect n ol d = ({ d with rst := { d.rst with resetLow := false, softMet := false } } : Device).optionLoad ol :=
  if_pos (by rw [hlow, decide_eq_true h]; rfl)

theorem writeRstSoft_taken (ol : OptionLoad) (hlow : d.rst.resetLow = false) (htaken : d.softTaken = true) :
    writeRstSoft 0x15A5A ol d = d.softReset ol := by
  rw [writeRstSoft, if_neg (by decide), if_neg (by rw [hlow, Bool.false_and]; decide), if_pos htaken]

theorem inputOutOfRangeEffect_out {v : SupplyView} (hus : 20 ≤ v.us) (hout : v.highMv < 38500 ∨ 61500 < v.lowMv) :
    inputOutOfRangeEffect v d = powerOff d := by
  refine if_pos ?_
  unfold inputIsOut
  rcases hout with h | h
  · rw [decide_eq_true hus, decide_eq_true h]; rfl
  · rw [decide_eq_true hus, decide_eq_true h, Bool.or_true]; rfl

theorem inputOutOfRangeEffect_in {v : SupplyView} (hin : v.us < 20 ∨ (39500 ≤ v.highMv ∧ v.lowMv ≤ 60500)) :
    inputOutOfRangeEffect v d = d := by
  have hout : inputIsOut v = false := by
    unfold inputIsOut
    rcases hin with h | ⟨hhigh, hlow⟩
    · rw [decide_eq_false (Nat.not_le.2 h)]; rfl
    · rw [decide_eq_false (by omega : ¬v.highMv < 38500), decide_eq_false (by omega : ¬61500 < v.lowMv)]
      exact Bool.and_false _
  have hmay : inputMayBeOut v = false := by
    unfold inputMayBeOut
    rcases hin with h | ⟨hhigh, hlow⟩
    · rw [decide_eq_false (Nat.not_le.2 h)]; rfl
    · rw [decide_eq_false (by omega : ¬v.highMv < 39500), decide_eq_false (by omega : ¬60500 < v.lowMv)]
      exact Bool.and_false _
  rw [inputOutOfRangeEffect, if_neg (ne_true_of_eq_false hout), if_neg (ne_true_of_eq_false hmay)]

theorem slots_powerOff : (powerOff d).rst.slots = d.rst.slots := (journalOnly_journalCut d).2.2.1

theorem journals_powerOff (h : d.rst.jqueue = []) : (powerOff d).rst.journalA = d.rst.journalA ∧ (powerOff d).rst.journalB = d.rst.journalB := by
  unfold powerOff
  rw [journalCut_of_nil d h]
  exact ⟨rfl, rfl⟩

theorem bootView_powerOff : (powerOff d).bootView = ⟨false, [], [], none, {}, false, false, d.journalCut.rst.resetLow⟩ := rfl

theorem bootView_powerOn (ol : OptionLoad) : (powerOn ol d).bootView = ⟨true, [], [], none, {}, false, true, false⟩ := by
  unfold powerOn
  extract_lets a d1 r1 d2
  have ha : a.bootView = ⟨d.powered, [], [], none, {}, false, false, d.rst.resetLow⟩ := bootView_afterReset d
  clear_value a
  have h1 : d1.bootView = { a.bootView with powered := true } := rfl
  clear_value d1
  have h2 : d2.bootView = ⟨true, [], [], none, {}, false, false, false⟩ := by
    refine (show d2.bootView = { d1.bootView with resetLow := false } from rfl).trans ?_
    rw [h1, ha]
  clear_value d2
  have h3 : (d2.optionLoad ol).bootView = ⟨true, [], [], none, {}, false, true, false⟩ := (bootView_optionLoad d2 ol).trans (by rw [h2])
  exact (show ({ d2.optionLoad ol with out := [] } : Device).bootView = (d2.optionLoad ol).bootView from rfl).trans h3

end moduleReset

/-- Settles O8: the view of what a reset clears goes through option load; a module reset keeps RST_CAUSE and the copies of a pending commit alone. -/
theorem resetsClearTheModule : Obligations.ResetsClearTheModule := by
  refine ⟨?powerGood, ?powerLost, ?inRange, ?taken, ?registers, ?tables, ?release, ?soft⟩
  case powerGood =>
    intro s ol v hoff hlow hhigh hus hrails
    have hgood : powerIsGood v = true := by
      rw [powerIsGood, decide_eq_true hlow, decide_eq_true hhigh, decide_eq_true hus, hrails]
      rfl
    have hif : (s.dev.powered || !powerIsGood v) = false := by rw [hoff, hgood]; rfl
    have hexec := exec_powerGood { load := ol, supply := v } s
    rw [if_neg (ne_true_of_eq_false hif)] at hexec
    obtain ⟨x, hx⟩ : ∃ x, powerOn ol s.dev = x := ⟨_, rfl⟩
    have hview := bootView_powerOn s.dev ol
    rw [hx] at hexec hview
    obtain ⟨hpowered, hdram, hlaid, hjob, hulp, -, -, -⟩ := (BootView.mk.injEq ..).mp hview
    refine ⟨_, hexec, ?_, ?_, ?_, ?_, ?_⟩
    · exact (settle_powered x).trans hpowered
    · exact (settle_dram x).trans hdram
    · exact (settle_laidOut x).trans hlaid
    · exact (settle_job x).trans hjob
    · exact (settle_ulp x).trans hulp
  case powerLost =>
    intro s d v h hus hout
    have hexec := (exec_inputOutOfRange v s).trans (run_finds h _)
    rw [inputOutOfRangeEffect_out d hus hout] at hexec
    have hview := bootView_powerOff d
    have hslots := slots_powerOff d
    have hjournals := journals_powerOff d
    obtain ⟨x, hx⟩ : ∃ x, powerOff d = x := ⟨_, rfl⟩
    rw [hx] at hexec hview hslots hjournals
    obtain ⟨hpowered, hdram, hlaid, hjob, -, hflash, -, -⟩ := (BootView.mk.injEq ..).mp hview
    refine ⟨_, hexec, ?_, ?_, ?_, ?_, ?_, ?_, ?_⟩ <;> rw [gives_dev]
    · rw [settle_powered, hpowered]
    · rw [settle_dram, hdram]
    · rw [settle_laidOut, hlaid]
    · rw [settle_job, hjob]
    · rw [settle_fls, flash_gated hflash]
    · rw [settle_rst, hslots]
    · rw [settle_rst]
      exact hjournals
  case inRange =>
    intro s d v h hin
    rw [exec_inputOutOfRange, run_finds h, inputOutOfRangeEffect_in d hin]
  case taken =>
    intro s d n h hn
    have hexec := (exec_resetL n s).trans (run_finds h _)
    rw [resetLEffect_taken d hn] at hexec
    have hview := bootView_moduleReset d rcPIN
    have hcause : (d.moduleReset rcPIN).flag (bitAt RST_CAUSE 16) = true := flag_putFlag_bit_same _ true (by decide)
    obtain ⟨x, hx⟩ : ∃ x, d.moduleReset rcPIN = x := ⟨_, rfl⟩
    rw [hx] at hexec hview hcause
    obtain ⟨-, hdram, hlaid, hjob, hulp, hflash, -, -⟩ := (BootView.mk.injEq ..).mp hview
    refine ⟨_, hexec, ?_, ?_, ?_, ?_, ?_, ?_, ?_⟩ <;> rw [gives_dev]
    · rw [settle_rst]
    · rw [flag_settle _ ⟨by decide, by decide⟩, flag_withRst, hcause]
    · exact (settle_dram _).trans hdram
    · exact (settle_laidOut _).trans hlaid
    · exact (settle_job _).trans hjob
    · exact (settle_ulp _).trans hulp
    · rw [settle_fls, flash_gated (d := { x with rst := { x.rst with resetLow := true, softMet := d.softTaken } }) hflash]
  case registers =>
    intro s d n h hn hpool hrill hcheck hfls
    have hexec := (exec_resetL n s).trans (run_finds h _)
    rw [resetLEffect_taken d hn] at hexec
    have hreset : d.journalCut.keepActive d.journalCut.afterReset = d.journalCut.afterReset := by
      refine keepActive_none _ d.journalCut (fun t ht => ?_) (fun t ht => ?_) ?_ ?_
      · exact (flag_journalCut_pool d t).trans (flag_of_low_zero d hpool ht)
      · exact (flag_journalCut_rill d t).trans (flag_of_low_zero d hrill ht)
      · rw [(journalOnly_journalCut d).2.1, hcheck]
      · exact (flag_journalCut_bit d ⟨by decide, by decide⟩ (by decide)).trans hfls
    refine ⟨_, hexec, fun off hevt hpmc hcause => ?_⟩
    rw [gives_dev, settle_reg _ ⟨hevt, hpmc⟩, reg_withRst, reg_moduleReset d hcause, hreset, reg_afterReset _ hcause]
  case tables =>
    intro s d n k h hn hk hpending
    have hexec := (exec_resetL n s).trans (run_finds h _)
    rw [resetLEffect_taken d hn] at hexec
    obtain ⟨hpoolCut, -, -, hregCut⟩ := journalOnly_journalCut d
    have hpending' : d.journalCut.flag (fPoolPending k) = true := (flag_journalCut_pool d k).trans hpending
    obtain ⟨hdose, hreg⟩ := keepActive_pool d.journalCut.afterReset d.journalCut hk hpending'
    have hmodule : ∀ off, off / 0x100000 = 8 → (d.moduleReset rcPIN).reg off = (d.journalCut.keepPool d.journalCut.afterReset).reg off := fun off hoff =>
      (reg_moduleReset d (fun heq => by rw [heq] at hoff; exact absurd hoff (by decide))).trans (hreg off hoff)
    have hmoduleDose : (d.moduleReset rcPIN).pool.doseMax = d.pool.doseMax := by
      rw [pool_moduleReset, hdose, hpoolCut]
    obtain ⟨x, hx⟩ : ∃ x, d.moduleReset rcPIN = x := ⟨_, rfl⟩
    rw [hx] at hexec hmodule hmoduleDose
    have hx' : ∀ off, off / 0x100000 = 8 → (s.gives { x with rst := { x.rst with resetLow := true, softMet := d.softTaken } }).dev.reg off = x.reg off :=
      fun off hoff => by rw [gives_dev, settle_reg _ ⟨by omega, by omega⟩, reg_withRst]
    refine ⟨_, hexec, ?_, ?_, fun i hi => ?_⟩
    · have hzero : (s.gives { x with rst := { x.rst with resetLow := true, softMet := d.softTaken } }).dev.reg POOL_COMMIT_STATUS = 0 := by
        rw [hx' _ (by decide), hmodule _ (by decide), reg_keepPool _ _ (by decide), reg_keep_apart _ _ (fun hmem => absurd (poolActive_range hmem) (by decide)),
          reg_afterReset _ (by decide), regReset_poolCommitStatus]
      exact (congrArg (fun v => bits v 0 4) hzero).trans (by decide)
    · rw [gives_dev, settle_pool]
      exact hmoduleDose
    · have hrange := POOL_DFT_ACT_range hi
      rw [hx' _ (by omega), hmodule _ (by omega), reg_keepPool _ _ (Or.inr hrange.1), reg_keep_mem _ _ (POOL_DFT_ACT_mem hi)]
      exact hregCut _ ⟨by omega, by omega⟩ (by omega)
  case release =>
    intro s d n ol h hlow hn
    have hexec := (exec_resetLRelease { samples := n, load := ol } s).trans (run_finds h _)
    rw [resetLReleaseEffect_taken d ol hlow hn] at hexec
    obtain ⟨y, hy, hyview⟩ : ∃ y : Device, ({ d with rst := { d.rst with resetLow := false, softMet := false } } : Device) = y ∧
        y.bootView = { d.bootView with resetLow := false } := ⟨_, rfl, rfl⟩
    have hview := (bootView_optionLoad y ol).trans (by rw [hyview])
    obtain ⟨x, hx⟩ : ∃ x, y.optionLoad ol = x := ⟨_, rfl⟩
    rw [hy, hx] at hexec
    rw [hx] at hview
    obtain ⟨-, hdram, hlaid, -, -, -, hloading, hresetLow⟩ := (BootView.mk.injEq ..).mp hview
    refine ⟨_, hexec, ?_, ?_, ?_, ?_⟩ <;> rw [gives_dev]
    · rw [settle_rst, hresetLow]
    · rw [settle_rst, hloading]
    · exact (settle_dram x).trans hdram
    · exact (settle_laidOut x).trans hlaid
  case soft =>
    intro s d ol h hlow htaken
    have hexec := (exec_rstSoft 0x15A5A ol s).trans (run_finds h _)
    have hvalue : (0x15A5A : Word).toNat = 0x15A5A := rfl
    rw [hvalue, writeRstSoft_taken d ol hlow htaken, Device.softReset] at hexec
    have hview := (bootView_optionLoad (d.moduleReset rcSOFT) ol).trans (by rw [bootView_moduleReset])
    obtain ⟨x, hx⟩ : ∃ x, (d.moduleReset rcSOFT).optionLoad ol = x := ⟨_, rfl⟩
    rw [hx] at hexec hview
    obtain ⟨-, hdram, hlaid, hjob, hulp, -, hloading, -⟩ := (BootView.mk.injEq ..).mp hview
    refine ⟨_, hexec, ?_, ?_, ?_, ?_, ?_⟩ <;> rw [gives_dev]
    · rw [settle_dram, hdram]
    · rw [settle_laidOut, hlaid]
    · rw [settle_job, hjob]
    · rw [settle_ulp, hulp]
    · rw [settle_rst, hloading]

end Sys2Proof.Machine
end

section
/-! PROOFS: Ethernet links and frames, and NDF fetches (11_network_and_time.md, R372 to R386, R401). -/
namespace Sys2Proof.Machine

theorem exec_linkChange (p : Fin 2) (up : Bool) (los : Bool) (s : State) :
    exec (.linkChange p up los) s = s.run (linkChangeEffect p up los) := rfl

theorem exec_portCtrl (p : Fin 2) (value : Word) (s : State) : exec (.portCtrl p value) s = s.run (writePortCtrl p value.toNat) := rfl

theorem exec_ethFrame (p : Fin 2) (frame : List Byte) (s : State) : exec (.ethFrame p frame) s = s.run (ethFrameEffect p frame) := rfl

theorem exec_arpRefresh (p : Fin 2) (s : State) : exec (.arpRefresh p) s = s.run (arpRefreshEffect p) := rfl

theorem exec_ndfReq (slot : Fin 16) (s : State) : exec (.ndfReq slot) s = s.run (ndfReqEffect slot) := rfl

theorem exec_data (p : Fin 2) (payload : List Byte) (s : State) : exec (.data p payload) s = s.run (ndfArrives p payload) := rfl

theorem exec_err (p : Fin 2) (payload : List Byte) (s : State) : exec (.err p payload) s = s.run (fun d => ndfArrives p payload d) := rfl

theorem exec_reqTmo (slot : Fin 16) (seq : Word) (s : State) : exec (.reqTmo slot seq) s = s.run (reqTmoEffect slot seq.toNat) := rfl

theorem exec_gapTmo (slot : Fin 16) (seq : Word) (s : State) : exec (.gapTmo slot seq) s = s.run (gapTmoEffect slot seq.toNat) := rfl

theorem exec_busyRetry (slot : Fin 16) (seq : Word) (s : State) :
    exec (.busyRetry slot seq) s = s.run (busyRetryEffect slot seq.toNat) := rfl

section ethernet
variable {d : Device}

theorem linkChangeEffect_up {p : Nat} {up los : Bool} (hunit : d.unitUp 20 = true) :
    linkChangeEffect p up los d = ((d.fecCounts p).putFlag (fEthLos p) los).setLink p (up && d.flag (fPortEn p)) := by
  rw [linkChangeEffect, hunit]
  exact if_neg (by decide)

theorem writePortCtrl_ready {d1 : Device} {p v : Nat} (hunit : d.unitUp 20 = true) (hready : d.inReady = true)
    (hd1 : d1 = (((d.putFlag (fPortEn p) (bitOf v 17)).putFlag (fPortMode p) (bitOf v 16)).setReg (ETH_P_TX_LAT p)
      (if bitOf v 16 then 864 else 608)).setReg (ETH_P_RX_LAT p) (if bitOf v 16 then 2336 else 1472)) :
    writePortCtrl p v d =
      if d.flag (fPortEn p) != bitOf v 17 || d.flag (fPortMode p) != bitOf v 16 then d1.setLink p false else d1 := by
  subst hd1
  rw [writePortCtrl, hunit, hready]
  exact if_neg (by decide)

/-- A port takes a frame where its unit runs and its link is up. -/
theorem portTakes {p : Nat} (hunit : d.unitUp 20 = true) (hlink : d.flag (fLink p) = true) : ¬(!d.unitUp 20 || !d.flag (fLink p)) = true := by
  rw [hunit, hlink]
  decide

theorem ethFrameEffect_linked {d1 : Device} {p : Nat} {frame : List Byte} (hunit : d.unitUp 20 = true) (hlink : d.flag (fLink p) = true) (hd1 : d1 = d.fecCounts p) :
    ethFrameEffect p frame d = match d1.judgeFrame p (frame.map (fun b => b.toNat)) with
      | .badFcs => d1.bump (whole (ETH_P_FCS_ERR p))
      | .discard => d1.bump (whole (ETH_P_DISCARD p))
      | .arpRequest t a m => if d1.speaks p false && t == d1.ipv4 p then (d1.itemIn 17).sendArp p 2 m m a else d1.itemIn 17
      | .arpReply a m => if d1.speaks p false then (d1.itemIn 17).learn p false a m else d1.itemIn 17
      | .neighborSolicit t a m => if t == d1.ipv6 p then (d1.itemIn 17).sendAdvert p m a else d1.itemIn 17
      | .neighborAdvert a m => (d1.itemIn 17).learn p true a m
      | .echoRequest v6 a ws => (d1.itemIn 17).sendEcho p (octets (frame.map (fun b => b.toNat)) 6 6) v6 a ws
      | .ndf ws => (d1.itemIn 17).receiveNdf ws
      | .other => d1.itemIn 17 := by
  subst hd1
  refine (if_neg (portTakes hunit hlink)).trans ?_
  generalize d.fecCounts p = d1
  generalize frame.map (fun b => b.toNat) = bs
  cases hframe : d1.judgeFrame p bs <;> simp only [hframe]

theorem isAt_self (x : Neighbour) : x.isAt x.port x.v6 x.addr = true := by
  rw [Neighbour.isAt, beq_self_eq_true, beq_self_eq_true, beq_self_eq_true]
  rfl

/-- The one neighbour of a port, due after 60 s, is taken off the list before it is asked for again. -/
theorem arpRefreshEffect_due {d1 : Device} {p : Nat} {x : Neighbour} (hunit : d.unitUp 20 = true) (hlink : d.flag (fLink p) = true)
    (hone : d.eth.neighbours = [x]) (hport : x.port = p) (hdue : x.asked + 48000000000 ≤ d.clock)
    (hd1 : d1 = { d with eth := { d.eth with neighbours := [] } }) :
    arpRefreshEffect p d = if d1.serverUsed p x.v6 x.addr && d1.speaks p x.v6 then
      (d1.sendAsk p x.v6 x.addr).mapNeighbours (fun l => l ++ [{ x with asked := d1.clock }]) else d1 := by
  have hfilter : d.eth.neighbours.filter (fun y => y.port == p && decide (y.asked + 48000000000 ≤ d.clock)) = [x] := by
    rw [hone, List.filter_cons_of_pos (by rw [hport, beq_self_eq_true, decide_eq_true hdue]; rfl), List.filter_nil]
  have hgone : d.mapNeighbours (fun l => l.filter (fun y => !y.isAt p x.v6 x.addr)) = d1 := by
    have hself : x.isAt p x.v6 x.addr = true := by rw [← hport]; exact isAt_self x
    rw [hd1, Device.mapNeighbours, hone, List.filter_cons_of_neg (by rw [hself]; decide), List.filter_nil]
  rw [arpRefreshEffect, if_neg (portTakes hunit hlink)]
  dsimp only
  rw [hfilter, each_cons, each_nil, hgone]

theorem ndfReqEffect_turn {n q : Nat} {f : NdfFetch} (hunit : d.unitUp 20 = true) (hturn : d.slotTurn = some n) (hwanted : d.nextWanted n = some q)
    (hf : f = { slot := n, seq := q, attempt := if q == (d.slot n).next then (d.slot n).attempt else 0, port := d.serverPort (d.slot n).server,
                size := d.segSize, count := none, reqAt := d.clock }) :
    ndfReqEffect n d = (({ d with eth := { d.eth with turn := n } } : Device).setFetches (d.eth.fetches ++ [f])).request f := by
  have hguard : ¬(!d.unitUp 20 || d.slotTurn != some n) = true := by
    rw [hunit, hturn, bne_self_eq_false]
    decide
  rw [ndfReqEffect, if_neg hguard, hwanted, hf]

theorem ndfArrives_taken {p : Nat} {b : List Byte} (hunit : d.unitUp 20 = true) (hlink : d.flag (fLink p) = true)
    (hspeaks : (d.speaks p false || d.speaks p true) = true) :
    ndfArrives p b d = (d.itemIn 17).receiveNdf (b.map (fun x => x.toNat)) := by
  rw [ndfArrives, hunit, hlink, hspeaks]
  exact if_pos rfl

theorem reqTmoEffect_over {n q : Nat} {f : NdfFetch} (hfetch : d.fetch n q = some f) (hunit : d.unitUp 20 = true) (hseg : f.segAt = none)
    (hbusy : f.busyAt = none) (hover : f.reqAt + 8000 * d.get fReqTmo < d.clock) : reqTmoEffect n q d = d.spendRetry f Device.request := by
  rw [reqTmoEffect, hfetch]
  dsimp only
  rw [hunit, hseg, hbusy, decide_eq_false (Nat.not_le.2 hover)]
  exact if_neg (by decide)

theorem gapTmoEffect_over {n q t : Nat} {f : NdfFetch} (hfetch : d.fetch n q = some f) (hunit : d.unitUp 20 = true) (hseg : f.segAt = some t)
    (hbusy : f.busyAt = none) (hover : t + 8000 * d.get fGapTmo < d.clock) : gapTmoEffect n q d = d.spendRetry f Device.sendNak := by
  rw [gapTmoEffect, hfetch]
  dsimp only
  rw [hseg]
  dsimp only
  rw [hunit, hbusy, decide_eq_false (Nat.not_le.2 hover)]
  exact if_neg (by decide)

theorem busyRetryEffect_over {n q t : Nat} {f : NdfFetch} (hfetch : d.fetch n q = some f) (hunit : d.unitUp 20 = true) (hbusy : f.busyAt = some t)
    (hover : t + 800000 ≤ d.clock) : busyRetryEffect n q d = d.request { f with busyAt := none } := by
  rw [busyRetryEffect, hfetch]
  dsimp only
  rw [hbusy]
  dsimp only
  rw [hunit, decide_eq_false (Nat.not_lt.2 hover)]
  exact if_neg (by decide)

end ethernet

/-- Settles O40: each command takes its branch. -/
theorem ethernetAndNdfTakeEffect : Obligations.EthernetAndNdfTakeEffect := by
  refine ⟨?link, ?ctrl, ?frame, ?refresh, ?req, ?datagrams, ?reqTmo, ?gapTmo, ?busy⟩
  case link =>
    intro s d p up los h hunit
    rw [exec_linkChange, run_finds h, linkChangeEffect_up hunit]
  case ctrl =>
    intro s d d1 p v h hunit hready hd1
    rw [exec_portCtrl, run_finds h, writePortCtrl_ready hunit hready hd1]
  case frame =>
    intro s d d1 p frame x h hunit hlink hd1 hx
    have heffect := ethFrameEffect_linked (frame := frame) hunit hlink hd1
    rw [← hx] at heffect
    refine ((exec_ethFrame p frame s).trans (run_finds h _)).trans (congrArg (fun y => Host.Outcome.next (s.gives y)) (heffect.trans ?_))
    cases x <;> rfl
  case refresh =>
    intro s d d1 p x h hunit hlink hone hport hdue hd1
    have heffect := arpRefreshEffect_due hunit hlink hone hport hdue hd1
    refine ⟨fun hforgotten => ?_, fun hused hspeaks => ?_⟩
    · have hunused : (d1.serverUsed p x.v6 x.addr && d1.speaks p x.v6) = false := by
        rcases hforgotten with hforgotten | hforgotten <;> simp [hforgotten]
      rw [exec_arpRefresh, run_finds h, heffect, hunused, if_neg Bool.false_ne_true]
    · rw [exec_arpRefresh, run_finds h, heffect, hused, hspeaks, Bool.and_self, if_pos rfl]
  case req =>
    intro s d n q f h hunit hturn hwanted hf
    rw [exec_ndfReq, run_finds h, ndfReqEffect_turn hunit hturn hwanted hf]
  case datagrams =>
    intro s d p b h hunit hlink hspeaks
    refine ⟨?_, ?_⟩
    · rw [exec_data, run_finds h, ndfArrives_taken hunit hlink hspeaks]
    · rw [exec_err, run_finds h, ndfArrives_taken hunit hlink hspeaks]
  case reqTmo =>
    intro s d n q f h hfetch hunit hseg hbusy hover
    rw [exec_reqTmo, run_finds h, reqTmoEffect_over hfetch hunit hseg hbusy hover]
  case gapTmo =>
    intro s d n q f t h hfetch hunit hseg hbusy hover
    rw [exec_gapTmo, run_finds h, gapTmoEffect_over hfetch hunit hseg hbusy hover]
  case busy =>
    intro s d n q f t h hfetch hunit hbusy hover
    rw [exec_busyRetry, run_finds h, busyRetryEffect_over hfetch hunit hbusy hover]

end Sys2Proof.Machine
end

section
/-! PROOFS: PTP messages and configuration (11_network_and_time.md, R387 to R395, R423). -/
namespace Sys2Proof.Machine

theorem exec_announce (hdr : PtpHeader) (info : AnnounceInfo) (s : State) :
    exec (.announce hdr info) s = s.run (announceEffect hdr info) := rfl

theorem exec_announceReceiptTimeout (s : State) : exec .announceReceiptTimeout s = s.run announceTimeoutEffect := rfl

theorem exec_ptpSync (hdr : PtpHeader) (twoStep : Bool) (t1 : Int) (macRx : Int) (correction : Int) (seqId : Nat) (s : State) :
    exec (.ptpSync hdr twoStep t1 macRx correction seqId) s = s.run (ptpSyncEffect hdr twoStep t1 macRx correction seqId) := rfl

theorem exec_followUp (hdr : PtpHeader) (t1 : Int) (correction : Int) (seqId : Nat) (s : State) :
    exec (.followUp hdr t1 correction seqId) s = s.run (followUpEffect hdr t1 correction seqId) := rfl

theorem exec_delayReq (macTx : Int) (s : State) : exec (.delayReq macTx) s = s.run (delayReqEffect macTx) := rfl

theorem exec_delayResp (hdr : PtpHeader) (t4 : Int) (correction : Int) (seqId : Nat) (logInterval : Int) (s : State) :
    exec (.delayResp hdr t4 correction seqId logInterval) s = s.run (delayRespEffect hdr t4 correction seqId logInterval) := rfl

theorem exec_holdover (s : State) : exec .holdover s = s.run holdoverEffect := rfl

theorem exec_stepNow (s : State) : exec .stepNow s = s.run (writePtpCtrl 0x20000) := rfl

theorem exec_set (s : State) : exec .set s = s.run (writePtpCtrl 0x10000) := rfl

theorem exec_ptpCfg (value : Word) (s : State) : exec (.ptpCfg value) s = s.run (writePtpCfg value.toNat) := rfl

section ptp
variable {d : Device}

theorem announceEffect_ok {h : PtpHeader} {i : AnnounceInfo} (hok : d.ptpOk h = true) (hsteps : i.stepsRemoved < 255) :
    announceEffect h i d = ((d.itemIn 17).mapPtp (fun p => { p with masters := p.masters.filter (fun x => !(x.info.sender == i.sender && x.port == h.port.val)) ++
      [{ info := i, port := h.port.val, heard := d.clock,
         before := (d.ptp.masters.find? (fun x => x.info.sender == i.sender && x.port == h.port.val)).map (fun x => x.heard) }] })).chooseMaster := by
  rw [announceEffect, hok, decide_eq_false (Nat.not_le.2 hsteps)]
  exact if_neg (by decide)

theorem announceTimeoutEffect_silent {m : Master} (hmesh : d.meshTimed = false) (hbest : d.ptp.best = some m) (hdue : m.deadline ≤ d.clock) :
    announceTimeoutEffect d = (d.mapPtp (fun p => { p with masters := p.masters.filter (fun x => decide (d.clock < x.deadline)) })).chooseMaster := by
  rw [announceTimeoutEffect, if_neg (ne_true_of_eq_false hmesh), hbest]
  exact if_neg (Nat.not_lt.2 hdue)

theorem announceTimeoutEffect_mesh (hmesh : d.meshTimed = true) (hring : d.msh.timeRing.isSome = true) (hdue : d.ptp.syncAt + 2400000 ≤ d.clock) :
    announceTimeoutEffect d = { d with msh := { d.msh with timeRing := none } } := by
  rw [announceTimeoutEffect, if_pos hmesh, hring, decide_eq_true hdue]
  exact if_pos rfl

theorem ptpSyncEffect_follows {h : PtpHeader} {two : Bool} {t1 mac c : Int} {q : Nat} (hfollows : d.follows h = true) :
    ptpSyncEffect h two t1 mac c q d =
      if two then (d.itemIn 17).mapPtp (fun p => { p with sync := some (q, d.rxTime h.port mac, c), syncAt := (d.itemIn 17).clock })
      else (d.itemIn 17).syncComplete (d.rxTime h.port mac - t1 - c) := by
  rw [ptpSyncEffect, hfollows]
  exact if_neg (by decide)

theorem followUpEffect_follows {h : PtpHeader} {t1 c t2 c2 : Int} {q : Nat} (hfollows : d.follows h = true) (hsync : d.ptp.sync = some (q, t2, c2)) :
    followUpEffect h t1 c q d = (d.itemIn 17).syncComplete (t2 - t1 - c2 - c) := by
  rw [followUpEffect, hfollows, if_neg (by decide), hsync]
  exact if_pos (beq_self_eq_true q)

theorem delayReqEffect_due {m : Master} {mac : Int} (hbest : d.ptp.best = some m) (hunit : d.unitUp 20 = true) (hmesh : d.meshTimed = false)
    (hen : d.flag fPtpEn = true) (hlink : d.flag (fLink m.port) = true) (htransport : d.transportOn m.port = true) (hstate : ptpUNCALIBRATED ≤ d.ptpState)
    (hdue : ∀ t, d.ptp.requestAt = some t → t + logTicks d.ptp.logInterval ≤ d.clock) :
    delayReqEffect mac d = (d.mapPtp (fun p => { p with
      request := some (d.ptp.requestSeq, d.txTime m.port mac), requestAt := some d.clock,
      requestSeq := (d.ptp.requestSeq + 1) % 65536 })).sendDelayReq m.port d.ptp.requestSeq (d.txTime m.port mac) := by
  have hdue' : d.ptp.requestAt.elim true (fun t => decide (t + logTicks d.ptp.logInterval ≤ d.clock)) = true := by
    cases hat : d.ptp.requestAt with
    | none => rfl
    | some t => exact decide_eq_true (hdue t hat)
  rw [delayReqEffect, hbest]
  dsimp only
  rw [hdue', hunit, hmesh, hen, hlink, htransport, decide_eq_false (Nat.not_lt.2 hstate)]
  exact if_neg (by decide)

theorem delayRespEffect_follows {h : PtpHeader} {t4 c t3 l : Int} {q : Nat} (hfollows : d.follows h = true) (hrequest : d.ptp.request = some (q, t3)) :
    delayRespEffect h t4 c q l d =
      ((d.itemIn 17).mapPtp (fun p => { p with up := some (t4 - t3 - c), request := none, logInterval := l })).ptp.down.elim
        ((d.itemIn 17).mapPtp (fun p => { p with up := some (t4 - t3 - c), request := none, logInterval := l }))
        (fun ms => ((d.itemIn 17).mapPtp (fun p => { p with up := some (t4 - t3 - c), request := none, logInterval := l })).showPath ms (t4 - t3 - c)) := by
  rw [delayRespEffect, hfollows, if_neg (by decide), hrequest]
  exact if_neg (by rw [bne_self_eq_false]; decide)

theorem clock_setPtpState (n : Nat) : (d.setPtpState n).clock = d.clock := by
  unfold Device.setPtpState Device.when
  extract_lets d1
  have h1 : d1.clock = d.clock := by
    unfold d1
    split
    · exact setReg_clock d PTP_HOLD_TIME 0
    · rfl
  clear_value d1
  exact (put_clock d1 fPtpState n).trans h1

theorem holdoverEffect_due (hstate : d.ptpState = ptpSLAVE ∨ d.ptpState = ptpUNCALIBRATED)
    (hdue : d.ptp.syncAt + 800000 * (d.reg PTP_HOLD_TMO % 65536) ≤ d.clock) {d1 : Device}
    (hd1 : d1 = (if d.ptp.rates = [] then d else d.setReg PTP_RATE (wrap 18 (ratRound (mkRat d.ptp.rates.sum d.ptp.rates.length)))).setPtpState ptpHOLDOVER) :
    holdoverEffect d = (d1.mapPtp (fun p => { p with holdSince := d1.clock })).raise 250 := by
  have hguard : ((d.ptpState == ptpSLAVE || d.ptpState == ptpUNCALIBRATED) && decide (d.ptp.syncAt + 800000 * (d.reg PTP_HOLD_TMO % 65536) ≤ d.clock)) = true := by
    rw [decide_eq_true hdue, Bool.and_true]
    rcases hstate with h | h
    · rw [h]; decide
    · rw [h]; decide
  rw [holdoverEffect, if_pos hguard]
  extract_lets l d0
  have hd0 : d0 = if d.ptp.rates = [] then d else d.setReg PTP_RATE (wrap 18 (ratRound (mkRat d.ptp.rates.sum d.ptp.rates.length))) := by
    by_cases hnone : d.ptp.rates = []
    · rw [if_pos hnone]
      exact if_pos (List.isEmpty_iff.2 hnone)
    · rw [if_neg hnone]
      exact if_neg fun hempty => hnone (List.isEmpty_iff.1 hempty)
  clear_value d0
  rw [hd1, ← hd0, clock_setPtpState]

theorem writePtpCtrl_step (hunit : d.unitUp 20 = true) : writePtpCtrl 0x20000 d = d.askStep := by
  rw [writePtpCtrl, hunit, if_neg (by decide), (by decide : bitOf 0x20000 17 = true), (by decide : bitOf 0x20000 16 = false), Device.when, Device.when,
    if_neg Bool.false_ne_true, if_pos rfl]

theorem writePtpCtrl_set (hunit : d.unitUp 20 = true) : writePtpCtrl 0x10000 d = d.askSet := by
  rw [writePtpCtrl, hunit, if_neg (by decide), (by decide : bitOf 0x10000 17 = false), (by decide : bitOf 0x10000 16 = true), Device.when, Device.when,
    if_neg Bool.false_ne_true, if_pos rfl]

theorem writePtpCfg_allowed {v : Nat} (hunit : d.unitUp 20 = true) (htransport : bits v 7 2 ≠ 3) (hports : bits v 4 2 ≠ 3) :
    writePtpCfg v d = ((d.setReg PTP_CFG (v &&& 0x3FFF0)).mapPtp
      (fun p => { stepNow := p.stepNow, rates := p.rates, requestSeq := p.requestSeq, load := p.load, step := p.step })).setPtpState
        (if bitOf v 17 then ptpLISTENING else ptpDISABLED) := by
  rw [writePtpCfg, hunit, beq_eq_false_iff_ne.2 htransport, beq_eq_false_iff_ne.2 hports]
  exact if_neg (by decide)

end ptp

/-- Settles O41: each message takes the branch of its conditions. -/
theorem ptpTakesEffect : Obligations.PtpTakesEffect := by
  refine ⟨?announce, ?silent, ?mesh, ?sync, ?followUp, ?request, ?response, ?hold, ?ctrl, ?cfg⟩
  case announce =>
    intro s d h i hf hok hsteps
    rw [exec_announce, run_finds hf, announceEffect_ok hok hsteps]
  case silent =>
    intro s d m hf hmesh hbest hdue
    rw [exec_announceReceiptTimeout, run_finds hf, announceTimeoutEffect_silent hmesh hbest hdue]
  case mesh =>
    intro s d hf hmesh hring hdue
    rw [exec_announceReceiptTimeout, run_finds hf, announceTimeoutEffect_mesh hmesh hring hdue]
  case sync =>
    intro s d h t1 mac c q hf hfollows
    refine ⟨?_, ?_⟩
    · rw [exec_ptpSync, run_finds hf, ptpSyncEffect_follows hfollows, if_neg Bool.false_ne_true]
    · rw [exec_ptpSync, run_finds hf, ptpSyncEffect_follows hfollows, if_pos rfl]
  case followUp =>
    intro s d h t1 c t2 c2 q hf hfollows hsync
    rw [exec_followUp, run_finds hf, followUpEffect_follows hfollows hsync]
  case request =>
    intro s d m mac hf hbest hunit hmesh hen hlink htransport hstate hdue
    rw [exec_delayReq, run_finds hf, delayReqEffect_due hbest hunit hmesh hen hlink htransport hstate hdue]
  case response =>
    intro s d d1 h t4 c t3 l q hf hfollows hrequest hd1
    rw [exec_delayResp, run_finds hf, delayRespEffect_follows hfollows hrequest, ← hd1]
    cases d1.ptp.down <;> rfl
  case hold =>
    intro s d d1 hf hstate hdue hd1
    rw [exec_holdover, run_finds hf, holdoverEffect_due hstate hdue hd1]
  case ctrl =>
    intro s d hf hunit
    refine ⟨?_, ?_⟩
    · rw [exec_stepNow, run_finds hf, writePtpCtrl_step hunit]
    · rw [exec_set, run_finds hf, writePtpCtrl_set hunit]
  case cfg =>
    intro s d v hf hunit htransport hports
    rw [exec_ptpCfg, run_finds hf, writePtpCfg_allowed hunit htransport hports]

end Sys2Proof.Machine
end

section
/-! PROOFS: the messages of the mesh (12_mesh_and_columns.md, R411, R414 to R424). -/
namespace Sys2Proof.Machine

/-! ## The commands of the messages -/

section commands
variable (m : MeshMsg) (s : State)

theorem exec_join : exec (.join m.origin m.words) s = s.run (takeJoin m) := rfl
theorem exec_start : exec (.start m) s = s.run (takeStart m) := rfl
theorem exec_report : exec (.report m.origin m.words) s = s.run (takeReport m) := rfl
theorem exec_run : exec (.run m.port m.route m.mseq m.body) s = s.run (takeRun m) := rfl
theorem exec_stopReq : exec (.stopReq m.port m.route m.words) s = s.run (takeStopReq m) := rfl
theorem exec_stop : exec (.stop m.port m.route m.words) s = s.run (takeStop m) := rfl
theorem exec_rest : exec (.rest m) s = s.run (takeRest m) := rfl
theorem exec_meshResume : exec (.meshResume m) s = s.run (takeMeshResume m) := rfl
theorem exec_resumeAck : exec (.resumeAck m.origin m.words) s = s.run (takeResumeAck m) := rfl
theorem exec_meshAbort : exec (.meshAbort m) s = s.run (takeMeshAbort m) := rfl
theorem exec_meshEnd : exec (.meshEnd m) s = s.run (takeMeshEnd m) := rfl
theorem exec_meshPause : exec (.meshPause m) s = s.run (takeMeshPause m) := rfl
theorem exec_time : exec (.time m.port m.route m.mseq m.body) s = s.run (takeTime m) := rfl
theorem exec_timeReq : exec (.timeReq m) s = s.run (takeTimeReq m) := rfl
theorem exec_timeResp : exec (.timeResp m.port m.route m.words) s = s.run (takeTimeResp m) := rfl
theorem exec_evt : exec (.evt m.origin m.words) s = s.run (takeEvt m) := rfl
theorem exec_beat : exec (.beat m) s = s.run (takeBeat m) := rfl

end commands

/-! ## Receipt (R411) -/

section receipt
variable {d : Device} {m : MeshMsg} {ty : Nat}

theorem seen_sendOn (d : Device) (ring : Bool) (words : List Nat) : (d.sendOn ring words).msh.seen = d.msh.seen := by
  unfold Device.sendOn
  split
  · rfl
  split <;> rfl

theorem seen_relay (d : Device) : (d.relay m ty).msh.seen = d.msh.seen := by
  unfold Device.relay
  extract_lets d1
  have h1 : d1.msh.seen = d.msh.seen := rfl
  clear_value d1
  split
  · exact h1
  · exact (seen_sendOn d1 _ _).trans h1

theorem seen_hearsManager (d : Device) : (d.hearsManager m).msh.seen = d.msh.seen := by
  unfold Device.hearsManager
  split <;> rfl

/-- A message of another column that comes in here is sorted by whether its copy has come before. -/
theorem receive_from (hfrom : d.hearsFrom m = true) (act : Device → Device) {d0 : Device} (hd0 : d0 = (d.relay m ty).hearsManager m) :
    d.receive m ty act =
      if d.msh.seen.contains (m.src.val, m.mseq.toNat) then
        { d0 with msh := { d0.msh with seen := d.msh.seen.filter (fun x => x != (m.src.val, m.mseq.toNat)) } }
      else if (d0.firstCopy m).forMe m then act (d0.firstCopy m) else d0.firstCopy m := by
  have hseen : d0.msh.seen = d.msh.seen := by rw [hd0, seen_hearsManager, seen_relay]
  have htransit : (d.hears m && d.transit m) = false := by
    unfold Device.hearsFrom at hfrom
    rw [Bool.and_eq_true, Bool.and_eq_true] at hfrom
    obtain ⟨⟨-, hnot⟩, -⟩ := hfrom
    rw [(Bool.not_eq_true' _).mp hnot, Bool.and_false]
  rw [Device.receive, if_neg (ne_true_of_eq_false htransit), hfrom, if_neg (by decide), ← hd0]
  dsimp only
  rw [hseen]

/-- The first copy of a message for this column has its effect. -/
theorem receive_first (hfrom : d.hearsFrom m = true) (hnew : d.msh.seen.contains (m.src.val, m.mseq.toNat) = false) {d1 : Device}
    (hd1 : d1 = ((d.relay m ty).hearsManager m).firstCopy m) (hme : d1.forMe m = true) (act : Device → Device) : d.receive m ty act = act d1 := by
  rw [receive_from hfrom act rfl, if_neg (ne_true_of_eq_false hnew), ← hd1, if_pos hme]

/-- The second copy goes on round its ring, and its number is forgotten. -/
theorem receive_second (hfrom : d.hearsFrom m = true) (hseen : d.msh.seen.contains (m.src.val, m.mseq.toNat) = true) {d1 : Device}
    (hd1 : d1 = (d.relay m ty).hearsManager m) (act : Device → Device) :
    d.receive m ty act = { d1 with msh := { d1.msh with seen := d.msh.seen.filter (fun x => x != (m.src.val, m.mseq.toNat)) } } := by
  rw [receive_from hfrom act hd1, if_pos hseen]

theorem asManager_of (h : d.isManager = true) (f : Device → Device) : d.asManager f = f d := if_pos h

theorem asWorker_of (h : d.isWorker = true) (f : Device → Device) : d.asWorker f = f d := if_pos h

end receipt

/-! ## First copies at a manager (R416, R418, R420, R422 to R424) -/

section manager
variable {d d1 : Device} {m : MeshMsg} (hfrom : d.hearsFrom m = true) (hnew : d.msh.seen.contains (m.src.val, m.mseq.toNat) = false)
  (hme : d1.forMe m = true)

include hfrom hnew hme

theorem takeJoin_first (hd1 : d1 = ((d.relay m mJOIN).hearsManager m).firstCopy m) (hman : d1.isManager = true) (hjob : d1.inJob = false) :
    takeJoin m d = ({ d1 with msh := { d1.msh with
      joins := d1.msh.joins.filter (fun (x : Nat × Nat) => x.1 != m.src.val) ++ [(m.src.val, bodyAt36 (bodyWords m) 0 % 4294967296)] } } : Device).joinCheck := by
  rw [takeJoin, receive_first hfrom hnew hd1 hme, asManager_of hman, if_neg (ne_true_of_eq_false hjob)]

theorem takeReport_first {d2 : Device} (hd1 : d1 = ((d.relay m mREPORT).hearsManager m).firstCopy m) (hman : d1.isManager = true)
    (hd2 : d2 = (d1.putFlag (fColReady m.src) (bitOf ((bodyWords m).getD 1 0) 17)).putFlag (fColHeld m.src) (bitOf ((bodyWords m).getD 1 0) 16)) :
    takeReport m d = ((d2.setReg (MSH_COL_FACTOR m.src) ((bodyWords m).getD 0 0 % 131072)).put36 (MSH_COL_STITCH m.src)
      (bodyAt36 (bodyWords m) 2)).keepReport m.src ((bodyWords m).getD 0 0 % 131072) := by
  unfold takeReport
  dsimp only
  rw [receive_first hfrom hnew hd1 hme, asManager_of hman, ← hd2]

theorem takeStopReq_first (hd1 : d1 = ((d.relay m mSTOP_REQ).hearsManager m).firstCopy m) (hman : d1.isManager = true) :
    takeStopReq m d = (d1.put36 (MSH_COL_STITCH m.src) (bodyAt36 (bodyWords m) 1)).globalStop m.src := by
  rw [takeStopReq, receive_first hfrom hnew hd1 hme, asManager_of hman]

theorem takeResumeAck_first (hd1 : d1 = ((d.relay m mRESUME_ACK).hearsManager m).firstCopy m) (hman : d1.isManager = true) :
    takeResumeAck m d = ({ d1 with msh := { d1.msh with
      acks := d1.msh.acks.filter (fun (x : Nat × Nat) => x.1 != m.src.val) ++ [(m.src.val, (bodyWords m).getD 0 0)] } } : Device).meshDecide := by
  rw [takeResumeAck, receive_first hfrom hnew hd1 hme, asManager_of hman]

theorem takeTimeReq_first (hd1 : d1 = ((d.relay m mTIME_REQ).hearsManager m).firstCopy m) (hman : d1.isManager = true) :
    takeTimeReq m d = d1.sendMesh m.src mTIME_RESP (timeWords d1.tod ++ [(bodyWords m).getD corrWord 0]) := by
  rw [takeTimeReq, receive_first hfrom hnew hd1 hme, asManager_of hman]

theorem takeEvt_first (hd1 : d1 = ((d.relay m mEVT).hearsManager m).firstCopy m) (hman : d1.isManager = true) :
    takeEvt m d = if d1.msh.fwd.length < 64 then
      ({ d1 with msh := { d1.msh with fwd := d1.msh.fwd ++ [(m.src.val, (bodyWords m).getD 0 0 % 256)] } } : Device).raise 254
      else d1.bump (whole MSH_FWD_LOST) := by
  rw [takeEvt, receive_first hfrom hnew hd1 hme, asManager_of hman]
  by_cases hroom : d1.msh.fwd.length < 64
  · rw [if_pos hroom, if_neg (Nat.not_le.2 hroom)]
  · rw [if_neg hroom, if_pos (Nat.not_lt.1 hroom)]

end manager

/-- Settles O42: a first copy for this column has its effect, which a manager takes. -/
theorem managerMessagesTakeEffect : Obligations.ManagerMessagesTakeEffect := by
  intro s d d1 m ty h hfrom hnew hd1 hme hman
  refine ⟨?join, ?report, ?stopReq, ?resumeAck, ?timeReq, ?evt⟩
  case join =>
    rintro rfl hjob
    rw [exec_join, run_finds h, takeJoin_first hfrom hnew hme hd1 hman hjob]
  case report =>
    rintro rfl d2 hd2
    rw [exec_report, run_finds h, takeReport_first hfrom hnew hme hd1 hman hd2]
  case stopReq =>
    rintro rfl
    rw [exec_stopReq, run_finds h, takeStopReq_first hfrom hnew hme hd1 hman]
  case resumeAck =>
    rintro rfl
    rw [exec_resumeAck, run_finds h, takeResumeAck_first hfrom hnew hme hd1 hman]
  case timeReq =>
    rintro rfl
    rw [exec_timeReq, run_finds h, takeTimeReq_first hfrom hnew hme hd1 hman]
  case evt =>
    rintro rfl
    rw [exec_evt, run_finds h, takeEvt_first hfrom hnew hme hd1 hman]

/-! ## First copies at a worker, and ABORT (R416, R417, R419 to R423) -/

section worker
variable {d d1 : Device} {m : MeshMsg} (hfrom : d.hearsFrom m = true) (hnew : d.msh.seen.contains (m.src.val, m.mseq.toNat) = false)
  (hme : d1.forMe m = true)

include hfrom hnew hme

theorem takeMeshAbort_first (hd1 : d1 = ((d.relay m mABORT).hearsManager m).firstCopy m) : takeMeshAbort m d = d1.meshAborted := by
  rw [takeMeshAbort, receive_first hfrom hnew hd1 hme]

theorem takeBeat_first (hd1 : d1 = ((d.relay m mBEAT).hearsManager m).firstCopy m) : takeBeat m d = d1 := by
  rw [takeBeat, receive_first hfrom hnew hd1 hme]

theorem takeStart_first (hd1 : d1 = ((d.relay m mSTART).hearsManager m).firstCopy m) (hworker : d1.isWorker = true) :
    takeStart m d = if d1.inJob then d1.putFlag fJoined true else d1 := by
  rw [takeStart, receive_first hfrom hnew hd1 hme, asWorker_of hworker]

theorem takeRun_first (hd1 : d1 = ((d.relay m mRUN).hearsManager m).firstCopy m) (hworker : d1.isWorker = true)
    (hpass : d1.job.any (fun j => j.pass == (bodyWords m).getD 0 0 / 2 && j.reverse == bitOf ((bodyWords m).getD 0 0) 0) = true) :
    takeRun m d = d1.followRun := by
  unfold takeRun
  dsimp only
  rw [receive_first hfrom hnew hd1 hme, asWorker_of hworker, if_pos hpass]

theorem takeStop_first (hd1 : d1 = ((d.relay m mSTOP).hearsManager m).firstCopy m) (hworker : d1.isWorker = true) :
    takeStop m d = (d1.recordStop false ((bodyWords m).getD 2 0 % 16) (bodyAt36 (bodyWords m) 0)).stopAt (bodyAt36 (bodyWords m) 0) := by
  unfold takeStop
  dsimp only
  rw [receive_first hfrom hnew hd1 hme, asWorker_of hworker]

theorem takeRest_first {d2 : Device} (hd1 : d1 = ((d.relay m mREST).hearsManager m).firstCopy m) (hworker : d1.isWorker = true)
    (hwriting : d1.inWriting = true) (hd2 : d2 = if d1.flag fStopPending then d1 else d1.stopRequest cMESH) :
    takeRest m d = { d2 with msh := { d2.msh with rest := true } } := by
  have hwhen : d1.when (!d1.flag fStopPending) (fun d => d.stopRequest cMESH) = d2 := by
    rw [hd2, Device.when]
    cases d1.flag fStopPending <;> rfl
  rw [takeRest, receive_first hfrom hnew hd1 hme, asWorker_of hworker, hwriting, if_neg (by decide), hwhen]

theorem takeMeshResume_first (hd1 : d1 = ((d.relay m mRESUME).hearsManager m).firstCopy m) (hworker : d1.isWorker = true) :
    takeMeshResume m d = d1.answerResume := by
  rw [takeMeshResume, receive_first hfrom hnew hd1 hme, asWorker_of hworker]

theorem takeMeshEnd_first (hd1 : d1 = ((d.relay m mEND).hearsManager m).firstCopy m) (hworker : d1.isWorker = true) :
    takeMeshEnd m d = if d1.inJob then d1.jobDone else d1 := by
  rw [takeMeshEnd, receive_first hfrom hnew hd1 hme, asWorker_of hworker]

theorem takeMeshPause_first (hd1 : d1 = ((d.relay m mPAUSE).hearsManager m).firstCopy m) (hworker : d1.isWorker = true) :
    takeMeshPause m d = if d1.inWriting then d1.mapJob (fun j => { j with pausing := true }) else d1 := by
  rw [takeMeshPause, receive_first hfrom hnew hd1 hme, asWorker_of hworker]

theorem takeTime_first {d2 d3 : Device} (hd1 : d1 = ((d.relay m mTIME).hearsManager m).firstCopy m) (htimed : d1.meshTimed = true)
    (hd2 : d2 = { d1 with msh := { d1.msh with traced := bitOf ((bodyWords m).getD 7 0) 0 } })
    (hd3 : d3 = (d2.takeRing m.ring).syncComplete (((d2.takeRing m.ring).tod : Int) - timeAt (bodyWords m) - corrAt (bodyWords m))) :
    takeTime m d = (d3.mapPtp (fun p => { p with request := some (0, (d3.tod : Int)) })).sendMesh 0 mTIME_REQ (timeWords d3.tod ++ [0]) := by
  rw [takeTime, receive_first hfrom hnew hd1 hme, htimed, if_neg (by decide), ← hd2, hd3]

theorem takeTimeResp_first {d2 : Device} {q : Nat} {t3 sm : Int} (hd1 : d1 = ((d.relay m mTIME_RESP).hearsManager m).firstCopy m)
    (htimed : d1.meshTimed = true) (hrequest : d1.ptp.request = some (q, t3)) (hsm : sm = timeAt (bodyWords m) - t3 - corrAt (bodyWords m))
    (hd2 : d2 = d1.mapPtp (fun p => { p with up := some sm, request := none })) :
    takeTimeResp m d = d2.ptp.down.elim d2 (fun ms => d2.showPath ms sm) := by
  rw [takeTimeResp, receive_first hfrom hnew hd1 hme, htimed, if_neg (by decide), hrequest]
  dsimp only
  rw [← hsm, ← hd2]

end worker

/-- Settles O43: a first copy for this column has its effect, which a worker takes, and with the mesh as its clock the messages of time too. -/
theorem workerMessagesTakeEffect : Obligations.WorkerMessagesTakeEffect := by
  intro s d d1 m ty h hfrom hnew hd1 hme
  refine ⟨?abort, ?beat, fun hworker => ⟨?start, ?run, ?stop, ?rest, ?resume, ?ends, ?pause⟩, fun htimed => ⟨?time, ?timeResp⟩⟩
  case abort =>
    rintro rfl
    rw [exec_meshAbort, run_finds h, takeMeshAbort_first hfrom hnew hme hd1]
  case beat =>
    rintro rfl
    rw [exec_beat, run_finds h, takeBeat_first hfrom hnew hme hd1]
  case start =>
    rintro rfl
    rw [exec_start, run_finds h, takeStart_first hfrom hnew hme hd1 hworker]
  case run =>
    rintro rfl hpass
    rw [exec_run, run_finds h, takeRun_first hfrom hnew hme hd1 hworker hpass]
  case stop =>
    rintro rfl
    rw [exec_stop, run_finds h, takeStop_first hfrom hnew hme hd1 hworker]
  case rest =>
    rintro rfl hwriting d2 hd2
    rw [exec_rest, run_finds h, takeRest_first hfrom hnew hme hd1 hworker hwriting hd2]
  case resume =>
    rintro rfl
    rw [exec_meshResume, run_finds h, takeMeshResume_first hfrom hnew hme hd1 hworker]
  case ends =>
    rintro rfl
    rw [exec_meshEnd, run_finds h, takeMeshEnd_first hfrom hnew hme hd1 hworker]
  case pause =>
    rintro rfl
    rw [exec_meshPause, run_finds h, takeMeshPause_first hfrom hnew hme hd1 hworker]
  case time =>
    rintro rfl d2 d3 hd2 hd3
    rw [exec_time, run_finds h, takeTime_first hfrom hnew hme hd1 htimed hd2 hd3]
  case timeResp =>
    rintro rfl q t3 sm d2 hrequest hsm hd2
    rw [exec_timeResp, run_finds h, takeTimeResp_first hfrom hnew hme hd1 htimed hrequest hsm hd2]
    cases d2.ptp.down <;> rfl

end Sys2Proof.Machine
end

section
/-! PROOFS: the watches and the ports of the mesh, and second copies of its messages (12_mesh_and_columns.md, R411, R413, R414, R431). -/
namespace Sys2Proof.Machine

theorem exec_timeSend (s : State) : exec .timeSend s = s.run timeSendEffect := rfl

theorem exec_cutOff (s : State) : exec .cutOff s = s.run cutOffEffect := rfl

theorem exec_workerLost (c : Fin 16) (s : State) : exec (.workerLost c) s = s.run (workerLostEffect c) := rfl

theorem exec_meshPortDown (p : Fin 4) (cause : Fin 3) (s : State) :
    exec (.meshPortDown p cause) s = s.run (meshPortDownEffect p cause) := rfl

theorem exec_meshPortRetrainTimer (p : Fin 4) (s : State) : exec (.meshPortRetrainTimer p) s = s.run (portTimerEffect p) := rfl

theorem exec_meshPortUp (p : Fin 4) (peer : Fin 16) (s : State) : exec (.meshPortUp p peer) s = s.run (portUpEffect p peer) := rfl

theorem exec_mshPortRetrain (p : Fin 4) (value : Word) (s : State) :
    exec (.mshPortRetrain p value) s = s.run (writePortRetrain p value.toNat) := rfl

theorem exec_meshBlockErr (p : Fin 4) (codeword : Codeword) (s : State) :
    exec (.meshBlockErr p codeword) s = s.run (meshBlockErrEffect p codeword) := rfl

/-! ## What a global stop leaves of a resume that waits (R414, R420, R422) -/

section sending
variable (d : Device)

theorem msh_each {α : Type} {f : Device → α → Device} {l : List α} (hf : ∀ x a, (f x a).msh = x.msh) : (d.each l f).msh = d.msh :=
  each_keeps (fun x => x.msh = d.msh) f (fun x a hx => (hf x a).trans hx) l d rfl

theorem asking_withFls (f : FlsState) : ({ d with fls := f } : Device).msh.asking = d.msh.asking := rfl

theorem asking_withMot (x : MotState) : ({ d with mot := x } : Device).msh.asking = d.msh.asking := rfl

theorem msh_count (b code n : Nat) : (d.count b code n).msh = d.msh := by
  obtain ⟨r, p, h⟩ := counterOnly_count (d := d) b code n
  rw [h]

theorem msh_putOnLine (n btype : Nat) (bodies : List (List Nat)) (frame : Option (Nat × Nat)) : (d.putOnLine n btype bodies frame).1.msh = d.msh := rfl

theorem msh_cutFrames (cut : Nat × Nat → Bool) : (d.cutFrames cut).msh = d.msh := by
  unfold Device.cutFrames
  extract_lets gone lanes begun l1 d1
  have h1 : d1.msh = d.msh := rfl
  clear_value d1
  refine (msh_each d1 fun x n => ?_).trans h1
  split
  · exact msh_putOnLine x n btIDLE [[]] none
  · rfl

theorem msh_flushGroup (g next : Nat) (all : Bool) : (d.flushGroup g next all).msh = d.msh := by
  unfold Device.flushGroup
  extract_lets keep
  have hkeep : ∀ x t, (keep x t).msh = x.msh := fun _ _ => rfl
  clear_value keep
  split
  · exact hkeep d none
  · split
    · exact hkeep d none
    · exact (hkeep _ _).trans (msh_putOnLine d _ btFLUSH [flushBody next all] none)

theorem msh_laneSettle (n : Nat) : (d.laneSettle n).msh = d.msh := by
  unfold Device.laneSettle Device.recovered
  extract_lets busy x
  clear_value busy x
  split
  · split
    · rfl
    split <;> rfl
  split <;> rfl

theorem msh_showSpares : d.showSpares.msh = d.msh := by
  unfold Device.showSpares
  extract_lets d1
  have h1 : d1.msh = d.msh := msh_each d fun _ _ => rfl
  clear_value d1
  exact (putFlag_msh d1 _ _).trans h1

theorem msh_handoverDone : d.handoverDone.msh = d.msh := by
  unfold Device.handoverDone
  refine msh_each d fun x h => ?_
  split
  · rfl
  extract_lets l1 x1
  have h1 : x1.msh = x.msh := rfl
  clear_value x1
  split
  · exact (msh_showSpares _).trans ((put_msh x1 _ _).trans h1)
  · exact h1

theorem msh_showWeir : d.showWeir.msh = d.msh := by
  unfold Device.showWeir
  extract_lets base
  clear_value base
  split
  exact (put_msh _ _ _).trans (put_msh d _ _)

theorem msh_sendFlush (next : Nat) (all : Bool) : (d.sendFlush next all).msh = d.msh := by
  unfold Device.sendFlush
  extract_lets gone d1 l1 f1 d2 d3
  have h1 : d1.msh = d.msh := (msh_cutFrames _ _).trans rfl
  clear_value d1
  have h2 : d2.msh = d.msh := h1
  clear_value d2
  have h3 : d3.msh = d.msh := (msh_each d2 fun x g => msh_flushGroup x g next all).trans h2
  clear_value d3
  exact (msh_showWeir _).trans ((msh_handoverDone _).trans ((msh_each d3 fun x n => msh_laneSettle x n).trans h3))

theorem msh_stopFlush (next : Nat) : (d.stopFlush next).msh = d.msh := by
  unfold Device.stopFlush
  exact msh_sendFlush d next _

end sending

section asking
variable (d : Device)

theorem asking_sendOn (ring : Bool) (words : List Nat) : (d.sendOn ring words).msh.asking = d.msh.asking := by
  unfold Device.sendOn
  split
  · rfl
  split <;> rfl

theorem asking_sendMesh (dst ty : Nat) (body : List Nat) : (d.sendMesh dst ty body).msh.asking = d.msh.asking := by
  unfold Device.sendMesh
  split
  · rfl
  extract_lets d1
  have h1 : d1.msh.asking = d.msh.asking :=
    each_keeps (fun x => x.msh.asking = d.msh.asking) _ (fun x ring hx => (asking_sendOn x ring _).trans hx) _ _
      (congrArg MshState.asking (msh_count d 18 4 1))
  clear_value d1
  exact h1

theorem asking_raised (s : Nat) : (d.raised s).msh.asking = d.msh.asking := by
  unfold Device.raised Device.forward
  have hnote : ((d.itemIn 19).noteRaise s).msh.asking = d.msh.asking := congrArg MshState.asking (msh_count d 19 3 1)
  split
  · exact (asking_sendMesh _ _ _ _).trans hnote
  · exact hnote

theorem msh_issue (v : Nat) : (d.issue v).msh = d.msh := by
  unfold Device.issue
  split
  · rfl
  · exact (msh_count _ 19 4 1).trans rfl

theorem msh_setPending (s : Nat) : (d.setPending s).msh = d.msh := by
  unfold Device.setPending Device.vectorRise
  extract_lets d1 e1 d2 m
  have h2 : d2.msh = d.msh := rfl
  clear_value d2
  split
  · split
    · exact h2
    split
    · exact (msh_issue d2 _).trans h2
    · exact h2
  · exact h2

theorem asking_raise (s : Nat) : (d.raise s).msh.asking = d.msh.asking := by
  unfold Device.raise
  split
  · rfl
  extract_lets overrun d1
  have h1 : d1.msh.asking = d.msh.asking := asking_raised d s
  clear_value d1
  split
  · exact (congrArg MshState.asking (putFlag_msh d1 _ true)).trans h1
  · exact (congrArg MshState.asking (msh_setPending d1 s)).trans h1

theorem asking_recordStop (issued : Bool) (init s : Nat) : (d.recordStop issued init s).msh.asking = d.msh.asking := by
  unfold Device.recordStop
  extract_lets d1 d2
  have h2 : d2.msh = d.msh := by
    unfold d2
    split
    · exact put36_msh d _ _
    · exact (setReg_msh d1 _ _).trans (put36_msh d _ _)
  clear_value d2
  exact (asking_raise _ 253).trans (congrArg MshState.asking ((put36_msh d2 _ _).trans h2))

theorem asking_sendStop (init : Nat) : (d.sendStop init).1.msh.asking = d.msh.asking := by
  unfold Device.sendStop
  extract_lets s m1 d1
  have h1 : d1.msh.asking = d.msh.asking := rfl
  clear_value d1
  exact (asking_sendMesh _ _ _ _).trans ((asking_recordStop d1 true init s).trans h1)

theorem asking_meetsResume : d.meetsResume.msh.asking = d.msh.asking := by
  unfold Device.meetsResume
  split
  · rfl
  extract_lets m1 d1
  have h1 : d1.msh.asking = d.msh.asking := rfl
  clear_value d1
  unfold Device.when
  split
  · exact (asking_sendMesh d1 _ _ _).trans h1
  · exact h1

theorem asking_meshRequest (bit : Nat) : (d.meshRequest bit).msh.asking = d.msh.asking := by
  unfold Device.meshRequest
  split
  · rfl
  split
  · exact asking_sendMesh d _ _ _
  split
  · exact asking_sendStop d 0
  · rfl

theorem asking_meetsStop (bit : Nat) : (d.meetsStop bit).msh.asking = d.msh.asking := by
  unfold Device.meetsStop
  split
  · exact (asking_meshRequest _ bit).trans (congrArg MshState.asking (put_msh d _ _))
  · rfl

theorem asking_beginStop : d.beginStop.msh.asking = d.msh.asking := by
  unfold Device.beginStop
  split
  · rfl
  extract_lets s d1 d2 d3 f1
  have h1 : d1.msh = d.msh := (put36_msh _ _ _).trans ((put36_msh _ _ _).trans (putFlag_msh d _ _))
  clear_value d1
  have h2 : d2.msh.asking = d.msh.asking := (congrArg MshState.asking (put_msh _ _ _)).trans ((asking_raise d1 160).trans (congrArg MshState.asking h1))
  clear_value d2
  have h3 : d3.msh.asking = d.msh.asking := by
    unfold d3 Device.when
    split
    · exact (asking_withMot d2 _).trans h2
    · exact h2
  clear_value f1 d3
  split
  · exact (asking_withFls d3 _).trans h3
  · exact (congrArg MshState.asking (msh_stopFlush d3 _)).trans h3

theorem asking_stopRequest (bit : Nat) : (d.stopRequest bit).msh.asking = d.msh.asking := by
  unfold Device.stopRequest
  split
  · exact asking_meetsResume d
  extract_lets d1
  have h1 : d1.msh.asking = d.msh.asking := congrArg MshState.asking (putFlag_msh d _ true)
  clear_value d1
  split
  · exact (asking_meetsStop d1 bit).trans h1
  · exact (asking_meshRequest _ bit).trans ((asking_beginStop _).trans ((congrArg MshState.asking (put_msh d1 _ _)).trans h1))

theorem asking_stopAt (s : Nat) : (d.stopAt s).msh.asking = d.msh.asking := by
  unfold Device.stopAt
  split
  · rfl
  split
  · rfl
  extract_lets f1 d1
  have h1 : d1.msh.asking = d.msh.asking := rfl
  clear_value d1
  split
  · unfold Device.when
    split
    · exact (asking_raise _ 172).trans ((congrArg MshState.asking (putFlag_msh d1 _ true)).trans h1)
    · exact h1
  · exact h1

theorem asking_lowerInit (init : Nat) : (d.lowerInit init).msh.asking = d.msh.asking := by
  unfold Device.lowerInit
  extract_lets isStop low info m1 d1
  have h1 : d1.msh.asking = d.msh.asking := rfl
  clear_value d1
  unfold Device.when
  split
  · exact (congrArg MshState.asking (put_msh d1 _ init)).trans h1
  · exact h1

/-- A global stop leaves the manager's question about its resume standing. -/
theorem asking_globalStop (init : Nat) : (d.globalStop init).msh.asking = d.msh.asking := by
  unfold Device.globalStop
  split
  · rfl
  split
  · unfold Device.when
    split
    · exact asking_lowerInit d init
    · rfl
  · exact (asking_stopAt _ _).trans (asking_sendStop d init)

end asking

/-! ## The watches (R413, R414) -/

section watches
variable {d : Device}

theorem timeSendEffect_due (hon : d.meshOn = true) (hman : d.isManager = true)
    (hdue : d.msh.timeSent.any (fun t => decide (d.clock < t + 800000)) = false) :
    timeSendEffect d =
      ({ d with msh := { d.msh with timeSent := some d.clock } } : Device).sendMesh toAll mTIME (timeWords d.tod ++ [0, b2n (d.get fTodSrc == 2)]) := by
  rw [timeSendEffect, hon, hman, hdue]
  exact if_neg (by decide)

theorem cutOffEffect_due (hworker : d.isWorker = true) (hcut : d.msh.cut = false) (hdue : d.msh.heard + 800000 ≤ d.clock) :
    cutOffEffect d = (({ d with msh := { d.msh with cut := true } } : Device).raise 252).stopRequest cMESH := by
  rw [cutOffEffect, hworker, hcut, decide_eq_false (Nat.not_lt.2 hdue)]
  exact if_neg (by decide)

theorem workerLostEffect_lost {c : Nat} (hman : d.isManager = true) (hworker : d.workers.contains c = true) (hknown : d.msh.lost.contains c = false)
    (hlive : d.colLive c = false) (hclock : 800000 ≤ d.clock) :
    workerLostEffect c d =
      ((({ d with msh := { d.msh with lost := d.msh.lost ++ [c] } } : Device).raise 252).globalStop c).when
        ((({ d with msh := { d.msh with lost := d.msh.lost ++ [c] } } : Device).raise 252).globalStop c).msh.asking
        (fun d => d.meshRefused c sNO_RESOURCE) := by
  rw [asking_globalStop, asking_raise, workerLostEffect, hman, hworker, hknown, hlive, decide_eq_false (Nat.not_lt.2 hclock)]
  exact if_neg Bool.false_ne_true

end watches

section ports
variable {d : Device} {p : Nat}

theorem portTimerEffect_due {d1 : Device} (hunit : d.unitUp 19 = true)
    (hdue : (d.msh.tried.toList.getD p none).all (fun t => decide (t + 80000000 ≤ d.clock)) = true)
    (hd1 : d1 = if d.portSt p = portTRAINING then d.portFails p pcNO_LOCK else d) :
    portTimerEffect p d = if d1.portSt p = portDOWN then d1.portTrain p else d1 := by
  unfold portTimerEffect
  dsimp only
  rw [hdue, hunit]
  refine (if_neg (by decide)).trans ?_
  simp only [beq_iff_eq, ← hd1]

theorem portUpEffect_trained {d1 : Device} {c : Nat} (hunit : d.unitUp 19 = true) (htraining : d.portSt p = portTRAINING)
    (hd1 : d1 = if d.isPermanent 10 p then d.dropDomain 10 p else d.recovered 10 p) :
    portUpEffect p c d = if d.meshOn = true ∧ c ≠ d.peerOf p then d.portFails p pcMAP
      else ((d1.setPort p portUP).put (fPeer p) c).retrainEnds p sOK 0 := by
  have hguard : ¬(!d.unitUp 19 || d.portSt p != portTRAINING) = true := by
    rw [hunit, htraining, bne_self_eq_false]
    decide
  rw [portUpEffect, if_neg hguard]
  simp only [Bool.and_eq_true, bne_iff_ne, ← hd1]

theorem writePortRetrain_taken {v : Nat} (hgo : bitOf v 17 = true) (htaken : d.portRetrainTaken p = true) : writePortRetrain p v d = d.portTrain p :=
  if_pos (by rw [hgo, htaken]; rfl)

/-- A port takes blocks where its unit runs and it is UP. -/
theorem portHears (hunit : d.unitUp 19 = true) (hup : d.portSt p = portUP) : ¬(!d.unitUp 19 || d.portSt p != portUP) = true := by
  rw [hunit, hup, bne_self_eq_false]
  decide

theorem meshBlockErrEffect_uncorrectable (hunit : d.unitUp 19 = true) (hup : d.portSt p = portUP) :
    meshBlockErrEffect p .uncorrectable d =
      ((({ d with msh := { d.msh with fecRun := d.msh.fecRun.set! p (d.msh.fecRun.toList.getD p 0 + 1) } } : Device).bump
        (whole (MSH_PORT_BLOCK_ERR p))).faultyRun p pcLOL (d.msh.fecRun.toList.getD p 0 + 1)) := by
  rw [meshBlockErrEffect, if_neg (portHears hunit hup)]

theorem meshBlockErrEffect_message {b : BitVec 5140} (hunit : d.unitUp 19 = true) (hup : d.portSt p = portUP) :
    meshBlockErrEffect p (.message b) d =
      if d.meshBlockClean p b.toNat then (d.goodBlock p).bumpBy (whole (MSH_PORT_BLOCK_ERR p)) (unknownSlots b.toNat)
      else (({ d with msh := { d.msh with
        crcRun := d.msh.crcRun.set! p (d.msh.crcRun.toList.getD p 0 + 1), fecRun := d.msh.fecRun.set! p 0 } } : Device).bump
          (whole (MSH_PORT_BLOCK_ERR p))).faultyRun p pcBLOCK_CRC (d.msh.crcRun.toList.getD p 0 + 1) := by
  rw [meshBlockErrEffect, if_neg (portHears hunit hup)]

end ports

/-- Each command of a message receives it as its type. -/
theorem exec_message {m : MeshMsg} {c : Instr} {ty : Nat}
    (h : (c, ty) ∈ [(Instr.join m.origin m.words, mJOIN), (.start m, mSTART), (.report m.origin m.words, mREPORT),
      (.run m.port m.route m.mseq m.body, mRUN), (.stopReq m.port m.route m.words, mSTOP_REQ), (.stop m.port m.route m.words, mSTOP),
      (.rest m, mREST), (.meshResume m, mRESUME), (.resumeAck m.origin m.words, mRESUME_ACK), (.meshAbort m, mABORT), (.meshEnd m, mEND),
      (.meshPause m, mPAUSE), (.time m.port m.route m.mseq m.body, mTIME), (.timeReq m, mTIME_REQ), (.timeResp m.port m.route m.words, mTIME_RESP),
      (.evt m.origin m.words, mEVT), (.beat m, mBEAT)]) :
    ∃ act, ∀ s, exec c s = s.run (fun d => d.receive m ty act) := by
  simp only [List.mem_cons, List.not_mem_nil, or_false, Prod.mk.injEq] at h
  rcases h with ⟨rfl, rfl⟩ | ⟨rfl, rfl⟩ | ⟨rfl, rfl⟩ | ⟨rfl, rfl⟩ | ⟨rfl, rfl⟩ | ⟨rfl, rfl⟩ | ⟨rfl, rfl⟩ | ⟨rfl, rfl⟩ | ⟨rfl, rfl⟩ |
    ⟨rfl, rfl⟩ | ⟨rfl, rfl⟩ | ⟨rfl, rfl⟩ | ⟨rfl, rfl⟩ | ⟨rfl, rfl⟩ | ⟨rfl, rfl⟩ | ⟨rfl, rfl⟩ | ⟨rfl, rfl⟩
  · exact ⟨_, exec_join m⟩
  · exact ⟨_, exec_start m⟩
  · exact ⟨_, exec_report m⟩
  · exact ⟨_, exec_run m⟩
  · exact ⟨_, exec_stopReq m⟩
  · exact ⟨_, exec_stop m⟩
  · exact ⟨_, exec_rest m⟩
  · exact ⟨_, exec_meshResume m⟩
  · exact ⟨_, exec_resumeAck m⟩
  · exact ⟨_, exec_meshAbort m⟩
  · exact ⟨_, exec_meshEnd m⟩
  · exact ⟨_, exec_meshPause m⟩
  · exact ⟨_, exec_time m⟩
  · exact ⟨_, exec_timeReq m⟩
  · exact ⟨_, exec_timeResp m⟩
  · exact ⟨_, exec_evt m⟩
  · exact ⟨_, exec_beat m⟩

/-- Settles O44: each watch and each port event takes its branch; a second copy is received without effect, whatever its type. -/
theorem meshWatchesAndPortsTakeEffect : Obligations.MeshWatchesAndPortsTakeEffect := by
  refine ⟨?timeSend, ?cutOff, ?lost, ?down, ?timer, ?up, ?retrain, ?block, ?second⟩
  case timeSend =>
    intro s d h hon hman hdue
    rw [exec_timeSend, run_finds h, timeSendEffect_due hon hman hdue]
  case cutOff =>
    intro s d h hworker hcut hdue
    rw [exec_cutOff, run_finds h, cutOffEffect_due hworker hcut hdue]
  case lost =>
    intro s d c h hman hworker hknown hlive hclock
    rw [exec_workerLost, run_finds h, workerLostEffect_lost hman hworker hknown hlive hclock]
  case down =>
    intro s d p c h hunit
    rw [exec_meshPortDown, run_finds h, meshPortDownEffect, if_pos hunit]
  case timer =>
    intro s d d1 p h hunit hdue hd1
    rw [exec_meshPortRetrainTimer, run_finds h, portTimerEffect_due hunit hdue hd1]
  case up =>
    intro s d d1 p c h hunit htraining hd1
    rw [exec_meshPortUp, run_finds h, portUpEffect_trained hunit htraining hd1]
  case retrain =>
    intro s d p v h hgo htaken
    rw [exec_mshPortRetrain, run_finds h, writePortRetrain_taken hgo htaken]
  case block =>
    intro s d p h hunit hup
    refine ⟨?_, fun b hfaulty => ?_, fun b hclean => ?_⟩
    · rw [exec_meshBlockErr, run_finds h, meshBlockErrEffect_uncorrectable hunit hup]
    · rw [exec_meshBlockErr, run_finds h, meshBlockErrEffect_message hunit hup, if_neg (ne_true_of_eq_false hfaulty)]
    · rw [exec_meshBlockErr, run_finds h, meshBlockErrEffect_message hunit hup, if_pos hclean]
  case second =>
    intro s d d1 m c ty h hfrom hmem hseen hd1
    obtain ⟨act, hexec⟩ := exec_message hmem
    rw [hexec, run_finds h, receive_second hfrom hseen hd1]

end Sys2Proof.Machine
end

section
/-! PROOFS: the end of a pass, of a stop and of the wait for JOINs, and FLS_COMMIT (R273, R275, R300, R416). -/
namespace Sys2Proof.Machine

theorem exec_passEnd (s : State) : exec .passEnd s = s.run passEndEffect := rfl

theorem exec_stitchStopHeld (s : State) : exec .stitchStopHeld s = s.run stitchStopHeldEffect := rfl

theorem exec_joinTimeout (s : State) : exec .joinTimeout s = s.run joinTimeoutEffect := rfl

theorem exec_flsCommit (value : Word) (s : State) :
    exec (.flsCommit value) s = s.run (fun d => if d.released 13 then writeFlsCommit value.toNat d else d) := rfl

section jobEvents
variable {d : Device} {j : Job}

theorem passEndEffect_done (hjob : d.job = some j) (hreleased : d.released 13 = true) (hwriting : d.inWriting = true)
    (hstop : d.flag fStopPending = false) (hfired : (j.nFlashes : Int) ≤ j.firedN + 1) (hhigh : d.fls.high = none) (hphase : d.phase = phRunOut)
    (hrest : d.isWorker = true ∨ (d.mot.runOut = true ∧ d.atRest = true)) : passEndEffect d = (d.raise 180).passDone := by
  have hhere : (d.isWorker || (d.mot.runOut && d.atRest)) = true := by
    rw [Bool.or_eq_true, Bool.and_eq_true]
    exact hrest
  rw [passEndEffect, hjob]
  dsimp only
  rw [hhere, hreleased, hwriting, hstop, decide_eq_true hfired, hhigh, hphase, beq_self_eq_true]
  exact if_neg Bool.false_ne_true

theorem mot_raise (n : Nat) (hn : n < 256) : (d.raise n).mot = d.mot := (congrArg Device.mot (raisesOnly_raise d n hn).1).trans rfl

theorem stitchStopHeldEffect_rests {d1 d2 d3 : Device} (hjob : d.job = some j) (hreleased : d.released 13 = true) (hwriting : d.inWriting = true)
    (hstop : d.flag fStopPending = true) (habort : j.aborting = false) (hrests : d.stopRests = true)
    (hd1 : d1 = ((d.setState stHeld).setPhase phIdle).putFlag fStopPending false)
    (hd2 : d2 = (((d1.putFlag fArmed false).raise 161).putS36 MOT_REST_X ((d1.putFlag fArmed false).raise 161).mot.x).discardAfter (j.fseq j.decidedN))
    (hd3 : d3 = (({ d2 with fls := { d2.fls with flushDue := false, stopArmed := false } } : Device).completeWhere (fun w => w == .pause) sOK 0 []).mapJob
      (fun j => { j with pausing := false })) :
    stitchStopHeldEffect d = ((d3.when d3.isManager (fun d => d.sendMesh toAll mREST [])).writeback).showWeir := by
  rw [stitchStopHeldEffect, hjob]
  dsimp only
  rw [hreleased, hwriting, hstop, habort, hrests]
  refine (if_neg Bool.false_ne_true).trans ?_
  rw [← hd1]
  have hmot : ((d1.putFlag fArmed false).raise 161).mot.x = (d1.putFlag fArmed false).mot.x := congrArg MotState.x (mot_raise 161 (by decide))
  rw [← hmot, ← hd2, ← hd3]

theorem joinTimeoutEffect_over {c : Nat} (hstart : d.start = some (.join, j)) (hdue : d.msh.joinSince + 8000000000 ≤ d.clock)
    (hmissing : d.workers.find? (fun c => !(d.msh.joins.any (fun x => x.1 == c))) = some c) : joinTimeoutEffect d = d.joinFails c sTIMEOUT 0 := by
  rw [joinTimeoutEffect, hstart]
  dsimp only
  rw [if_neg (Nat.not_lt.2 hdue), hmissing]

theorem writeFlsCommit_outside {v : Nat} (hgo : bitOf v 0 = true) (hpending : d.flag fFlsPending = false)
    (hjob : ((d.putFlag fFlsPending true).pendTable 8).inJob = false) :
    writeFlsCommit v d = ((d.putFlag fFlsPending true).pendTable 8).switchFls clsImmediate 0 := by
  have hwhen : d.when (!d.flag fFlsPending) (fun d => (d.putFlag fFlsPending true).pendTable 8) = (d.putFlag fFlsPending true).pendTable 8 := by
    rw [hpending]
    rfl
  rw [writeFlsCommit, hgo, Bool.not_true, if_neg Bool.false_ne_true]
  dsimp only
  rw [hwhen, hjob]
  exact if_pos rfl

end jobEvents

/-- Settles O26: each command takes its branch. -/
theorem jobEventsTakeEffect : Obligations.JobEventsTakeEffect := by
  refine ⟨?pass, ?stop, ?join, ?commit⟩
  case pass =>
    intro s d j h hjob hreleased hwriting hstop hfired hhigh hphase hrest
    rw [exec_passEnd, run_finds h, passEndEffect_done hjob hreleased hwriting hstop hfired hhigh hphase hrest]
  case stop =>
    intro s d d1 d2 d3 j h hjob hreleased hwriting hstop habort hrests hd1 hd2 hd3
    rw [exec_stitchStopHeld, run_finds h, stitchStopHeldEffect_rests hjob hreleased hwriting hstop habort hrests hd1 hd2 hd3]
  case join =>
    intro s d j c h hstart hdue hmissing
    rw [exec_joinTimeout, run_finds h, joinTimeoutEffect_over hstart hdue hmissing]
  case commit =>
    intro s d v h hreleased hgo hpending hjob
    rw [exec_flsCommit, run_finds h, if_pos hreleased, writeFlsCommit_outside hgo hpending hjob]

end Sys2Proof.Machine
end

section
/-! PROOFS: the controls of the DMA channels and of the check units (R360 to R363, R367 to R369). -/
namespace Sys2Proof.Machine

theorem exec_dmaGo (n : Fin 32) (value : Word) (s : State) : exec (.dmaGo n value) s = s.run (writeDmaCtrl n (value.toNat ||| 0x20000)) := rfl

theorem exec_dmaPoke (n : Fin 32) (value : Word) (s : State) : exec (.dmaPoke n value) s = s.run (writeDmaCtrl n (value.toNat ||| 0x10000)) := rfl

theorem exec_dmaContinue (n : Fin 32) (value : Word) (s : State) :
    exec (.dmaContinue n value) s = s.run (writeDmaCtrl n (value.toNat ||| 0x8000)) := rfl

theorem exec_dmaStop (n : Fin 32) (value : Word) (s : State) : exec (.dmaStop n value) s = s.run (writeDmaCtrl n (value.toNat ||| 0x4000)) := rfl

theorem exec_dmaAbort (n : Fin 32) (value : Word) (s : State) : exec (.dmaAbort n value) s = s.run (writeDmaCtrl n (value.toNat ||| 0x2000)) := rfl

theorem exec_dmaFlagSet (value : Word) (s : State) : exec (.dmaFlagSet value) s = s.run (writeDmaFlagSet value.toNat) := rfl

theorem exec_checkStart (u : Fin 4) (value : Word) (s : State) :
    exec (.checkStart u value) s = s.run (writeChkCtrl u (value.toNat ||| 0x20000)) := rfl

theorem exec_checkAbort (u : Fin 4) (value : Word) (s : State) :
    exec (.checkAbort u value) s = s.run (writeChkCtrl u (value.toNat ||| 0x10000)) := rfl

theorem exec_checkDone (u : Fin 4) (s : State) : exec (.checkDone u) s = s.run (checkDoneEffect u) := rfl

/-! ## The fields and the actions of a written value -/

theorem bits_or (a b lo w : Nat) : bits (a ||| b) lo w = bits a lo w ||| bits b lo w := by
  simp only [bits, Nat.or_div_two_pow, Nat.or_mod_two_pow]

/-- A bit inside a field that is 0 is 0. -/
theorem bitOf_of_bits_zero {v lo w i : Nat} (h : bits v lo w = 0) (hlo : lo ≤ i) (hhi : i < lo + w) : bitOf v i = false := by
  have hbit : (bits v lo w).testBit (i - lo) = v.testBit i := by
    have hin : i - lo < w := by omega
    rw [bits, Nat.testBit_mod_two_pow, Nat.testBit_div_two_pow, Nat.sub_add_cancel hlo, decide_eq_true hin, Bool.true_and]
  have hv : bitOf v i = v.testBit i := by rw [bitOf, Nat.testBit_eq_decide_div_mod_eq]; rfl
  rw [hv, ← hbit, h, Nat.zero_testBit]

section control
variable {d : Device} {n v : Nat} (hup : d.unitUp 0 = true)
include hup

/-- The fields of the control register and then its actions, in the order of their bits (R360, R361, R363). -/
theorem writeDmaCtrl_up :
    writeDmaCtrl n v d =
      (((((d.put { off := DMA_CH_CTRL n, lo := 10, w := 3 } (bits v 10 3)).when (bitOf v 17) (fun d => d.dmaGo n)).when (bitOf v 16)
        (fun d => d.dmaPoke n)).when (bitOf v 15) (fun d => d.dmaContinue n)).when (bitOf v 14) (fun d => d.dmaStop n)).when (bitOf v 13)
        (fun d => d.dmaAbort n) := by
  rw [writeDmaCtrl, hup]
  exact if_neg Bool.false_ne_true

/-- With no action bit of its own, a value written with the bits `a` takes the actions of `a`. -/
theorem writeDmaCtrl_actions {a : Nat} (go poke retry stop abort : Bool) (hnone : bits v 13 5 = 0) (hfields : bits a 10 3 = 0)
    (hgo : bitOf a 17 = go) (hpoke : bitOf a 16 = poke) (hretry : bitOf a 15 = retry) (hstop : bitOf a 14 = stop) (habort : bitOf a 13 = abort) :
    writeDmaCtrl n (v ||| a) d =
      (((((d.put { off := DMA_CH_CTRL n, lo := 10, w := 3 } (bits v 10 3)).when go (fun d => d.dmaGo n)).when poke (fun d => d.dmaPoke n)).when
        retry (fun d => d.dmaContinue n)).when stop (fun d => d.dmaStop n)).when abort (fun d => d.dmaAbort n) := by
  have hbit : ∀ i, 13 ≤ i → i < 18 → bitOf (v ||| a) i = bitOf a i := fun i hlo hhi => by
    rw [bitOf_or, bitOf_of_bits_zero hnone hlo hhi, Bool.false_or]
  rw [writeDmaCtrl_up hup, bits_or, hfields, Nat.or_zero, hbit 17 (by decide) (by decide), hbit 16 (by decide) (by decide),
    hbit 15 (by decide) (by decide), hbit 14 (by decide) (by decide), hbit 13 (by decide) (by decide), hgo, hpoke, hretry, hstop, habort]

variable {d1 : Device} (hnone : bits v 13 5 = 0) (hd1 : d1 = d.put { off := DMA_CH_CTRL n, lo := 10, w := 3 } (bits v 10 3))
include hnone hd1

theorem writeDmaCtrl_go : writeDmaCtrl n (v ||| 0x20000) d = d1.dmaGo n := by
  rw [writeDmaCtrl_actions hup true false false false false hnone rfl rfl rfl rfl rfl rfl, ← hd1,
    when_true, when_false, when_false, when_false, when_false]

theorem writeDmaCtrl_poke : writeDmaCtrl n (v ||| 0x10000) d = d1.dmaPoke n := by
  rw [writeDmaCtrl_actions hup false true false false false hnone rfl rfl rfl rfl rfl rfl, ← hd1,
    when_false, when_true, when_false, when_false, when_false]

theorem writeDmaCtrl_continue : writeDmaCtrl n (v ||| 0x8000) d = d1.dmaContinue n := by
  rw [writeDmaCtrl_actions hup false false true false false hnone rfl rfl rfl rfl rfl rfl, ← hd1,
    when_false, when_false, when_true, when_false, when_false]

theorem writeDmaCtrl_stop : writeDmaCtrl n (v ||| 0x4000) d = d1.dmaStop n := by
  rw [writeDmaCtrl_actions hup false false false true false hnone rfl rfl rfl rfl rfl rfl, ← hd1,
    when_false, when_false, when_false, when_true, when_false]

theorem writeDmaCtrl_abort : writeDmaCtrl n (v ||| 0x2000) d = d1.dmaAbort n := by
  rw [writeDmaCtrl_actions hup false false false false true hnone rfl rfl rfl rfl rfl rfl, ← hd1,
    when_false, when_false, when_false, when_false, when_true]

end control

/-! ## Each action in the state that it is for -/

section actions
variable {d : Device} {n : Nat}

/-- GO on an idle channel (R360, R364). -/
theorem dmaGo_idle {d2 d3 : Device} (hidle : d.dmaState n = dmaIDLE) (hrun : d.inRun = true)
    (hd2 : d2 = (d.chan n).pcWas.elim d (fun p => if p.1 == d.clock then d.put54 (DMA_CH_PC n) p.2 else d))
    (hd3 : d3 = ((d2.putFlag (fWaitLate n) false).put (fDmaCause n) 0).put36 (DMA_CH_MOVED n) 0) :
    d.dmaGo n = (d3.mapChan n (fun c => { host := d3.flag (fPspace n), pokeAt := c.pokeAt })).dmaFetch n := by
  rw [Device.dmaGo, hidle, hrun, hd3, hd2]
  refine (if_neg Bool.false_ne_true).trans ?_
  cases (d.chan n).pcWas <;> rfl

theorem dmaPoke_parked (hparked : d.dmaState n = dmaPARKED) (hrun : d.inRun = true) : d.dmaPoke n = d.dmaFetch n := by
  rw [Device.dmaPoke, hparked, hrun, beq_self_eq_true, if_pos rfl, if_pos rfl]

theorem chan_put (f : Fld) (v : Nat) : (d.put f v).chan n = d.chan n := rfl

theorem dmaContinue_atFetch (hhalted : d.dmaState n = dmaHALTED) (hrun : d.inRun = true) (hinstr : (d.chan n).instr.isSome = false) :
    d.dmaContinue n = (d.put (fDmaCause n) 0).dmaFetch n := by
  rw [Device.dmaContinue, hhalted, hrun]
  refine (if_neg Bool.false_ne_true).trans ?_
  dsimp only
  rw [chan_put, hinstr]
  exact if_neg Bool.false_ne_true

/-- A channel that does not run has no instruction to decide about. -/
theorem dmaInstr_of_not_running (op : Nat) (h : d.dmaState n ≠ dmaRUNNING) : d.dmaInstr n op = none := by
  rw [Device.dmaInstr, beq_eq_false_iff_ne.2 h, Bool.and_false]
  exact if_neg Bool.false_ne_true

theorem dmaStop_waiting (hwaiting : d.dmaState n = dmaWAITING) (hend : (d.chan n).endAt = none) (hstaged : (d.chan n).staged = []) :
    d.dmaStop n = d.dmaStopped n := by
  have hinstr : d.dmaInstr n 0 = none := dmaInstr_of_not_running 0 (by rw [hwaiting]; decide)
  rw [Device.dmaStop, hwaiting, hend, hstaged, hinstr]
  exact (if_neg Bool.false_ne_true).trans (if_pos rfl)

theorem dmaAbort_halted (hhalted : d.dmaState n = dmaHALTED) :
    d.dmaAbort n = ((d.setDmaState n dmaIDLE).put (fDmaCause n) 0).mapChan n (fun _ => {}) := by
  rw [Device.dmaAbort, hhalted, beq_self_eq_true, if_pos rfl]

end actions

/-! ## The flags and the check units -/

theorem writeDmaFlagSet_up {d : Device} (hup : d.unitUp 0 = true) (v : Nat) :
    writeDmaFlagSet v d = d.setReg DMA_FLAGS (d.reg DMA_FLAGS ||| v % 65536) := by
  rw [writeDmaFlagSet, hup, if_pos rfl]

section check
variable {d : Device} {u : Nat} (hup : d.unitUp 0 = true)
include hup

/-- The fields of the control register where the unit does not run, then START, then ABORT (R367, R368). -/
theorem writeChkCtrl_up (v : Nat) :
    writeChkCtrl u v d =
      ((if d.chkBusy u then d else d.put { off := CHK_U_CTRL u, lo := 8, w := 8 } (bits v 8 8)).when (bitOf v 17) (fun d => d.chkStart u)).when
        (bitOf v 16) (fun d => d.chkAbort u) := by
  rw [writeChkCtrl, hup]
  refine (if_neg Bool.false_ne_true).trans ?_
  dsimp only
  rw [when_not]

/-- A scan that module memory serves comes to its end over its groups (R368). -/
theorem checkDoneEffect_served (hrun : d.inRun = true) (hscanning : d.chkState u = chkSCANNING)
    (hserves : d.memServes (4 * d.get36 (CHK_U_START u)) (4 * min (d.get36 (CHK_U_LENGTH u)) (dramGroups - d.get36 (CHK_U_START u))) = true) :
    checkDoneEffect u d = d.chkScan u (d.get36 (CHK_U_START u)) (d.get36 (CHK_U_LENGTH u)) := by
  rw [checkDoneEffect, hup, hrun, hscanning, hserves]
  exact if_neg Bool.false_ne_true

end check

/-- Settles O38: the write is its fields and its actions in order, and an action alone takes the branch of the channel's state. -/
theorem dmaAndCheckUnitControlsTakeEffect : Obligations.DmaAndCheckUnitControlsTakeEffect := by
  refine ⟨?order, ?alone, ?flags, ?check, ?scan⟩
  case order =>
    intro s d d1 d2 d3 d4 d5 d6 n v a w h hup hw hd1 hd2 hd3 hd4 hd5 hd6
    have hwrite : writeDmaCtrl n (v.toNat ||| a) d = d6 := by
      rw [writeDmaCtrl_up hup, ← hw, hd6, hd5, hd4, hd3, hd2, hd1]
      rfl
    refine ⟨?_, ?_, ?_, ?_, ?_⟩ <;> intro ha <;> rw [← hwrite, ha, ← run_finds h]
    · exact exec_dmaGo n v s
    · exact exec_dmaPoke n v s
    · exact exec_dmaContinue n v s
    · exact exec_dmaStop n v s
    · exact exec_dmaAbort n v s
  case alone =>
    intro s d d1 n v h hup hnone hd1 hrun
    refine ⟨fun d2 d3 hidle hd2 hd3 => ?go, fun hparked => ?poke, fun hhalted hinstr => ?retry, fun hwaiting hend hstaged => ?stop,
      fun hhalted => ?abort⟩
    case go => rw [exec_dmaGo, run_finds h, writeDmaCtrl_go hup hnone hd1, dmaGo_idle hidle hrun hd2 hd3]
    case poke => rw [exec_dmaPoke, run_finds h, writeDmaCtrl_poke hup hnone hd1, dmaPoke_parked hparked hrun]
    case retry => rw [exec_dmaContinue, run_finds h, writeDmaCtrl_continue hup hnone hd1, dmaContinue_atFetch hhalted hrun hinstr]
    case stop => rw [exec_dmaStop, run_finds h, writeDmaCtrl_stop hup hnone hd1, dmaStop_waiting hwaiting hend hstaged]
    case abort => rw [exec_dmaAbort, run_finds h, writeDmaCtrl_abort hup hnone hd1, dmaAbort_halted hhalted]
  case flags =>
    intro s d v h hup
    refine ⟨_, by rw [exec_dmaFlagSet, run_finds h, writeDmaFlagSet_up hup], ?_, ?_, ?_⟩
    · rw [gives_dev, settle_reg _ ⟨by decide, by decide⟩, reg_setReg_same]
    · rw [gives_dev, settle_dram, setReg_dram]
    · rw [gives_dev, settle_laidOut, setReg_laidOut]
  case check =>
    intro s d d1 d2 d3 u v a w h hup hw hd1 hd2 hd3
    have hwrite : writeChkCtrl u (v.toNat ||| a) d = d3 := by
      rw [writeChkCtrl_up hup, ← hw, hd3, hd2, hd1]
      rfl
    refine ⟨?_, ?_⟩ <;> intro ha <;> rw [← hwrite, ha, ← run_finds h]
    · exact exec_checkStart u v s
    · exact exec_checkAbort u v s
  case scan =>
    intro s d u h hup hrun hscanning hserves
    rw [exec_checkDone, run_finds h, checkDoneEffect_served hup hrun hscanning hserves]

end Sys2Proof.Machine
end

section
/-! PROOFS: what the instruction of a running channel does, and the host time-out (R353 to R359, R361 to R363, R368). -/
namespace Sys2Proof.Machine

theorem exec_dmaEnd (n : Fin 32) (hostErr : Bool) (s : State) : exec (.dmaEnd n hostErr) s = s.run (dmaEndEffect n hostErr) := rfl

theorem exec_dmaMove (n : Fin 32) (b : MoveBeats) (s : State) : exec (.dmaMove n b) s = s.run (dmaMoveEffect n b.count b.hostErr) := rfl

theorem exec_dmaHostTimeout (n : Fin 32) (s : State) : exec (.dmaHostTimeout n) s = s.run (dmaHostTimeoutEffect n) := rfl

theorem exec_dmaLoop (n : Fin 32) (s : State) : exec (.dmaLoop n) s = s.run (dmaLoopEffect n) := rfl

theorem exec_dmaWait (n : Fin 32) (s : State) : exec (.dmaWait n) s = s.run (dmaWaitEffect n) := rfl

theorem exec_dmaWaitEnd (n : Fin 32) (s : State) : exec (.dmaWaitEnd n) s = s.run (dmaWaitEndEffect n) := rfl

theorem exec_dmaSignal (n : Fin 32) (s : State) : exec (.dmaSignal n) s = s.run (dmaSignalEffect n) := rfl

theorem exec_dmaLink (n : Fin 32) (s : State) : exec (.dmaLink n) s = s.run (dmaLinkEffect n) := rfl

/-! ## A channel's own record -/

theorem chan_mapChan_same (d : Device) {n : Nat} (hn : n < 32) (f : DmaChan → DmaChan) : (d.mapChan n f).chan n = f (d.chan n) := by
  rw [Device.chan, Device.mapChan]
  simp [hn]

section instructions
variable {d : Device} {n : Nat} {ws : List Nat}

/-! ## END and a fetch that fails (R356, R360, R361, R363) -/

theorem dmaEndEffect_ends {hostErr : Bool} {d1 d2 d3 : Device} (hinstr : d.dmaInstr n 0 = some ws)
    (hfetched : (hostErr && (d.chan n).host && d.justFetched n) = false)
    (hd1 : d1 = (if bitOf (ws.headD 0) 13 then (d.setDmaState n dmaIDLE).mapChan n (fun _ => {})
      else (d.setDmaState n dmaPARKED).mapChan n (fun c => { c with instr := none, poke := false, stopping := false, endAt := some d.clock })))
    (hd2 : d2 = (if bitOf (ws.headD 0) 12 then d1.raise (208 + n) else d1)) (hd3 : d3 = d2.dmaCommandEnds n sOK 0 (d2.dmaMoved n)) :
    dmaEndEffect n hostErr d = (if !bitOf (ws.headD 0) 13 && (d.chan n).poke then d3.dmaFetch n else d3) := by
  rw [dmaEndEffect, hfetched, if_neg Bool.false_ne_true, hinstr]
  dsimp only [Device.when]
  rw [← hd1, ← hd2, ← hd3]

theorem dmaEndEffect_fetchFails (hhost : (d.chan n).host = true) (hfetched : d.justFetched n = true) : dmaEndEffect n true d = d.fetchFails n := by
  rw [dmaEndEffect, hhost, hfetched]
  exact if_pos rfl

/-! ## MOVE (R353, R356, R362, R363, R368) -/

/-- The module as the check unit of a MOVE is taken with its first group; none where the unit is another's (R368). -/
def Device.moveFeeds (d : Device) (n : Nat) (m : Move) : Option Device :=
  m.unit.elim (some d) (fun u => if (d.chan n).done = 0 then d.chkTake n u else some d)

/-- A MOVE with its last group written keeps its running addresses and goes to the next instruction (R356, R357). -/
def Device.moveEnds (d : Device) (n : Nat) (m : Move) : Device :=
  if d.dmaState n = dmaRUNNING ∧ (d.chan n).done = m.count then
    (d.mapChan n (fun c => { c with src := some (m.ssp, m.srcAt m.count), dst := some (m.dsp, m.dstAt m.count) })).dmaNext n
  else d

theorem moveFeeds_busy {m : Move} {u : Nat} (hunit : m.unit = some u) (hfirst : (d.chan n).done = 0) (htaken : d.chkTake n u = none) :
    d.moveFeeds n m = none := by
  rw [Device.moveFeeds, hunit, Option.elim_some, if_pos hfirst, htaken]

/-- Where the arbiter grants a beat, or no group is left, a MOVE does not stay where it is. -/
theorem move_goes_on {m : Move} {beats : Nat}
    (hgrant : (d.chan n).done < m.count → beats ≠ 0 ∧ d.granted n = true ∧ d.moveServes n m = true) :
    (decide ((d.chan n).done < m.count) && (min beats (m.count - (d.chan n).done) == 0 || !d.granted n || !d.moveServes n m)) = false := by
  by_cases hleft : (d.chan n).done < m.count
  · obtain ⟨hbeats, hgranted, hserves⟩ := hgrant hleft
    have hsome : (min beats (m.count - (d.chan n).done) == 0) = false := by rw [beq_eq_false_iff_ne]; omega
    rw [hsome, hgranted, hserves]
    exact Bool.and_false _
  · rw [decide_eq_false hleft, Bool.false_and]

section move
variable (hinstr : d.dmaInstr n 1 = some ws)
include hinstr

theorem dmaMoveEffect_badInstr (beats : Nat) (hostErr : Option Nat) (hread : readMove (d.chan n) ws = none) :
    dmaMoveEffect n beats hostErr d = (d.mapChan n (fun c => { c with instr := none })).dmaHalt n haltBAD_INSTR (d.dmaPc n) := by
  rw [dmaMoveEffect, hinstr]
  dsimp only
  rw [hread]

variable {m : Move} (hread : readMove (d.chan n) ws = some m)
include hread

/-- A MOVE with groups left and no beat that can be made leaves everything as it is. -/
theorem dmaMoveEffect_noBeat {beats : Nat} (hostErr : Option Nat) (hleft : (d.chan n).done < m.count)
    (hno : d.granted n = false ∨ beats = 0 ∨ d.moveServes n m = false) : dmaMoveEffect n beats hostErr d = d := by
  have hstays : (min beats (m.count - (d.chan n).done) == 0 || !d.granted n || !d.moveServes n m) = true := by
    rcases hno with h | h | h <;> simp [h]
  rw [dmaMoveEffect, hinstr]
  dsimp only
  rw [hread]
  dsimp only
  rw [decide_eq_true hleft, hstays]
  exact if_pos rfl

/-- A MOVE that goes on takes its unit and moves its groups, and with its last group written goes to the next instruction. -/
theorem dmaMoveEffect_goes {beats : Nat} (hostErr : Option Nat)
    (hgrant : (d.chan n).done < m.count → beats ≠ 0 ∧ d.granted n = true ∧ d.moveServes n m = true) :
    dmaMoveEffect n beats hostErr d =
      (d.moveFeeds n m).elim (d.dmaHalt n haltCHK_BUSY m.src) (fun d1 =>
        (d1.moveGroups n m hostErr (d.chan n).staged.length (min beats (m.count - (d.chan n).done))).moveEnds n m) := by
  rw [dmaMoveEffect, hinstr]
  dsimp only
  rw [hread]
  dsimp only
  rw [move_goes_on hgrant]
  refine (if_neg Bool.false_ne_true).trans ?_
  simp only [beq_iff_eq, Bool.and_eq_true]
  rw [Device.moveFeeds]
  cases m.unit with
  | none => rfl
  | some u =>
    dsimp only [Option.elim_some]
    cases (if (d.chan n).done = 0 then d.chkTake n u else some d) <;> rfl

end move

/-! ## The host time-out (R363) -/

section timeout
variable (hup : d.unitUp 0 = true) (hrun : d.inRun = true) (hrunning : d.dmaState n = dmaRUNNING) (hlate : (d.chan n).readAt + 40000000 ≤ d.clock)
include hup hrun hrunning hlate

/-- A running channel whose read has stayed out for 50 ms. -/
theorem dmaHostTimeoutEffect_late :
    dmaHostTimeoutEffect n d =
      ((d.dmaInstr n 1).bind (readMove (d.chan n))).elim (if (d.chan n).host then d.fetchFails n else d) (fun m =>
        if m.ssp == spHOST then (d.mapChan n (fun c => { c with fail := some haltHOST_ERR })).stagedDone n m
        else if (d.chan n).host && d.justFetched n then d.fetchFails n else d) := by
  rw [dmaHostTimeoutEffect, hup, hrun, hrunning, decide_eq_false (Nat.not_lt.2 hlate)]
  refine (if_neg Bool.false_ne_true).trans ?_
  cases (d.dmaInstr n 1).bind (readMove (d.chan n)) <;> rfl

theorem dmaHostTimeoutEffect_read {m : Move} (hmove : (d.dmaInstr n 1).bind (readMove (d.chan n)) = some m) (hhost : m.ssp = spHOST) :
    dmaHostTimeoutEffect n d = (d.mapChan n (fun c => { c with fail := some haltHOST_ERR })).stagedDone n m := by
  rw [dmaHostTimeoutEffect_late hup hrun hrunning hlate, hmove, Option.elim_some, hhost]
  exact if_pos rfl

theorem dmaHostTimeoutEffect_fetch (hmove : (d.dmaInstr n 1).bind (readMove (d.chan n)) = none) (hhost : (d.chan n).host = true) :
    dmaHostTimeoutEffect n d = d.fetchFails n := by
  rw [dmaHostTimeoutEffect_late hup hrun hrunning hlate, hmove, Option.elim_none, hhost, if_pos rfl]

end timeout

/-- With every group that was read written, a read that failed halts its channel at its group. -/
theorem stagedDone_failed {m : Move} {cause : Nat} (hstaged : (d.chan n).staged = []) (hstopping : (d.chan n).stopping = false)
    (hfail : (d.chan n).fail = some cause) :
    d.stagedDone n m = (d.mapChan n (fun c => { c with fail := none })).dmaHalt n cause (m.srcAt (d.chan n).done) := by
  rw [Device.stagedDone, hstaged, hstopping, hfail]
  rfl

theorem stagedDone_staged (m : Move) (hstaged : (d.chan n).staged ≠ []) : d.stagedDone n m = d := by
  have hsome : (d.chan n).staged.isEmpty = false := List.isEmpty_eq_false_iff.2 hstaged
  rw [Device.stagedDone, hsome]
  exact if_pos rfl

/-! ## LOOP, WAIT, SIGNAL and LINK (R356, R358, R359) -/

theorem dmaLoopEffect_eq {k v : Nat} {others : List (Nat × Nat)} (hinstr : d.dmaInstr n 2 = some ws) (hk : k = bits (ws.headD 0) 12 2)
    (hothers : others = (d.chan n).ctrs.filter (fun (p : Nat × Nat) => p.1 != k))
    (hv : v = ((d.chan n).ctrs.find? (fun (p : Nat × Nat) => p.1 == k)).elim (ws.getD 1 0) (fun (p : Nat × Nat) => p.2)) :
    dmaLoopEffect n d =
      (if v = 0 then (d.mapChan n (fun c => { c with ctrs := others })).dmaNext n
      else (d.mapChan n (fun c => { c with ctrs := (k, v - 1) :: others })).dmaGoto n
        (d.dmaPc n + hostSpan - ws.getD 2 0 * instrLen (d.chan n).host)) := by
  rw [dmaLoopEffect, hinstr]
  dsimp only
  rw [← hk, ← hothers, ← hv]
  simp only [beq_iff_eq]

theorem dmaWaitEffect_eq (hinstr : d.dmaInstr n 3 = some ws) :
    dmaWaitEffect n d =
      (if d.waitOver n ws then (if d.waitLate n ws then d.putFlag (fWaitLate n) true else d).waitEnds n ws else d.setDmaState n dmaWAITING) := by
  rw [dmaWaitEffect, hinstr]
  dsimp only [Device.when]

theorem dmaWaitEndEffect_over (hup : d.unitUp 0 = true) (hrun : d.inRun = true) (hwaiting : d.dmaState n = dmaWAITING)
    (hinstr : (d.chan n).instr = some ws) (hover : d.waitOver n ws = true) : dmaWaitEndEffect n d = d.waitEnds n ws := by
  rw [dmaWaitEndEffect, hup, hrun, hwaiting, hinstr]
  refine (if_neg Bool.false_ne_true).trans ?_
  dsimp only
  rw [hover, if_pos rfl]

theorem dmaSignalEffect_eq {d1 d2 : Device} (hinstr : d.dmaInstr n 4 = some ws)
    (hd1 : d1 = (if bitOf (ws.headD 0) 13 then writeDoorbell (ws.getD 1 0) d else d))
    (hd2 : d2 = (if bitOf (ws.headD 0) 12 then d1.putFlag (fDmaFlag (ws.getD 2 0)) true else d1)) : dmaSignalEffect n d = d2.dmaNext n := by
  rw [dmaSignalEffect, hinstr]
  dsimp only [Device.when]
  rw [← hd1, ← hd2]

theorem dmaLinkEffect_eq (hinstr : d.dmaInstr n 5 = some ws) :
    dmaLinkEffect n d = (d.mapChan n (fun c => { c with host := bits (ws.headD 0) 12 2 == 1 })).dmaGoto n (addr54 ws 1) := by
  rw [dmaLinkEffect, hinstr]

end instructions

/-- Settles O39: each instruction takes the branch of its hypotheses. -/
theorem dmaInstructionsTakeEffect : Obligations.DmaInstructionsTakeEffect := by
  refine ⟨?ends, ?fails, ?moves, ?busy, ?stays, ?timeout, ?loop, ?wait, ?waitEnd, ?signal, ?link⟩
  case ends =>
    intro s d d1 d2 d3 n e ws h hinstr hfetched hd1 hd2 hd3
    rw [exec_dmaEnd, run_finds h, dmaEndEffect_ends hinstr hfetched hd1 hd2 hd3]
  case fails =>
    intro s d n h hhost hfetched
    rw [exec_dmaEnd, run_finds h, dmaEndEffect_fetchFails hhost hfetched, Device.fetchFails]
  case moves =>
    intro s d d1 d2 n b ws m h hinstr hread hgrant hfed hd2
    have htaken : d.moveFeeds n m = some d1 := by
      rw [← hfed, Device.moveFeeds]
      cases m.unit <;> rfl
    rw [exec_dmaMove, run_finds h, dmaMoveEffect_goes hinstr hread _ hgrant, htaken, Option.elim_some, ← hd2, Device.moveEnds]
  case busy =>
    intro s d n b ws m u h hinstr hread hbeats hgranted hserves hunit hfirst htaken
    rw [exec_dmaMove, run_finds h, dmaMoveEffect_goes hinstr hread _ (fun _ => ⟨hbeats, hgranted, hserves⟩),
      moveFeeds_busy hunit hfirst htaken, Option.elim_none]
  case stays =>
    intro s d n b ws h hinstr
    refine ⟨fun hread => ?_, fun m hread hleft hno => ?_⟩
    · rw [exec_dmaMove, run_finds h, dmaMoveEffect_badInstr hinstr _ _ hread]
    · rw [exec_dmaMove, run_finds h, dmaMoveEffect_noBeat hinstr hread _ hleft hno]
  case timeout =>
    intro s d n h hup hrun hrunning hlate
    have hchan := chan_mapChan_same d n.isLt (fun c => { c with fail := some haltHOST_ERR })
    refine ⟨fun m hmove hhost hstaged hstopping => ?_, fun m hmove hhost hstaged => ?_, fun hmove hhost => ?_⟩
    · rw [exec_dmaHostTimeout, run_finds h, dmaHostTimeoutEffect_read hup hrun hrunning hlate hmove hhost,
        stagedDone_failed (cause := haltHOST_ERR) (by rw [hchan]; exact hstaged) (by rw [hchan]; exact hstopping) (by rw [hchan]), hchan]
    · rw [exec_dmaHostTimeout, run_finds h, dmaHostTimeoutEffect_read hup hrun hrunning hlate hmove hhost,
        stagedDone_staged m (by rw [hchan]; exact hstaged)]
    · rw [exec_dmaHostTimeout, run_finds h, dmaHostTimeoutEffect_fetch hup hrun hrunning hlate hmove hhost, Device.fetchFails]
  case loop =>
    intro s d n ws k v others h hinstr hk hothers hv
    rw [exec_dmaLoop, run_finds h, dmaLoopEffect_eq hinstr hk hothers hv]
  case wait =>
    intro s d n ws h hinstr
    rw [exec_dmaWait, run_finds h, dmaWaitEffect_eq hinstr]
  case waitEnd =>
    intro s d n ws h hup hrun hwaiting hinstr hover
    rw [exec_dmaWaitEnd, run_finds h, dmaWaitEndEffect_over hup hrun hwaiting hinstr hover]
  case signal =>
    intro s d d1 d2 n ws h hinstr hd1 hd2
    rw [exec_dmaSignal, run_finds h, dmaSignalEffect_eq hinstr hd1 hd2]
  case link =>
    intro s d n ws h hinstr
    rw [exec_dmaLink, run_finds h, dmaLinkEffect_eq hinstr]

end Sys2Proof.Machine
end

section
/-! PROOFS: POOL_COMMIT outside a job (R140, R142).

No statement of this file cites the lemma below. It stands here for the audit, which replays the declarations in the order of the hashes of
their names, each after what its proof cites: by citing `writePoolCommit_eq`, this lemma has it replayed before the largest of the tests. In
that order the audit keeps within its memory, and in the other it sometimes does not. -/
namespace Sys2Proof.Machine

theorem writePoolCommit_eq_switchPool_of_not_inJob {d d1 : Device} {v : Nat}
    (hd1 : d1 = d.each (List.range 4) (fun d t => if bitOf v t && !d.flag (fPoolPending t) then (d.putFlag (fPoolPending t) true).pendTable t else d))
    (hjob : d1.inJob = false) : writePoolCommit v d = d1.switchPool wordMax wordMax clsImmediate := by
  rw [writePoolCommit_eq hd1, hjob]
  exact if_neg Bool.false_ne_true

end Sys2Proof.Machine
end
